-- ==== Sys2Proof/Word.lean ====
section
/-! DEFINITION. The word types of the WY4840 model (R6): bytes, 32-bit register words, and the unit of local time.
Quantities that the spec only counts or orders are plain natural numbers. -/

namespace Sys2Proof

/-- A byte. -/
abbrev Byte := BitVec 8

/-- A register word. -/
abbrev Word := BitVec 32

/-- A word of DSP data memory and of a DSP register (R6). -/
abbrev Word20 := BitVec 20

/-- A word of DSP program memory, and the data bits of a granary word (R6). -/
abbrev Word40 := BitVec 40

/-- A DSP accumulator (R240). -/
abbrev Word48 := BitVec 48

/-- A local-clock value in units of 2^-32 ns: seconds, nanoseconds and fraction of R349 as one number. -/
abbrev Time := Nat

/-- The service class of a request (R22). -/
inductive Cls where
  | H | A | B | C
  deriving DecidableEq, Repr

end Sys2Proof
end

