-- ==== Sys2Proof/Syntax.lean ====
section
/-! DEFINITION. The commands of the WY4840: one constructor for each row of spec/opcode_table.json, in its order. The
table gives no operands, so a command carries what its rule lets vary: the instance it acts on, the value written, and
what the world outside the digital block supplies with an event (a measured error, a count, a sample, a result). A
message command carries the request's seq and tag and its payload. -/

namespace Sys2Proof

/-- A request taken from a request ring: its seq and tag (R546). -/
structure Req where
  seq : Nat
  tag : Nat
  deriving DecidableEq, Repr

/-- A target of the crossbar (R22): a granary address in the form of R88, a 32-bit word of the bale, a register by its
address in this model, or the silo's request port. -/
inductive FabTarget where
  | granary (address : Nat)
  | bale (word : Nat)
  | register (address : Nat)
  | silo
  deriving DecidableEq, Repr

/-- A request presented at the crossbar: initiator ID, class, target, and the words to write, or the number of words to
read when there are none to write. `address` is the address in the initiator's own address space (FAB_VIOL_ADDR). -/
structure FabReq where
  initiator : Nat
  cls       : Cls
  target    : FabTarget
  writes    : List Nat
  reads     : Nat
  address   : Nat
  deriving DecidableEq, Repr

/-- The IDs under which units issue requests (R21, R90): a steward pair issues under that of its leading core. -/
def isInitiator (id : Nat) : Bool :=
  id == 0x01 || id == 0x03 || (decide (0x08 ≤ id) && decide (id ≤ 0x0D)) || (decide (0x10 ≤ id) && decide (id ≤ 0x20))

/-- What a write to a loadable FIR bank names (R148): a coefficient, or the bank's configuration word. -/
inductive BankTarget where
  | coef (t : Fin 128)
  | config
  deriving DecidableEq, Repr

/-- The X and the Y move of a DSP instruction (R251). -/
structure Moves where
  x : Byte
  y : Byte
  deriving DecidableEq, Repr

/-- Broadcast data that the device decoded (R304): system as the bits of R313, satellite, kind as NAV_DATA_GET names it,
number of bits, and the bits as bytes, most significant first. -/
structure Decoded where
  system : Nat
  sat    : Nat
  kind   : Nat
  nbits  : Nat
  bits   : List Byte
  deriving DecidableEq, Repr

/-- What the spoofing detectors measure at an epoch (R324), beside what the model holds itself. A departure stands with its
uncertainty in the same unit. -/
structure Detections where
  /-- Satellites whose distortion metric exceeds its threshold with a common excess delay. -/
  shape  : Nat
  /-- Departures of position and clock bias from their prediction, with their 95 % uncertainties. -/
  motion : List (Nat × Nat)
  /-- For each satellite with two bands, the difference of their code ranges after the ionospheric model, in mm. -/
  bands  : List Nat
  /-- A result of a tracked satellite shows a second peak that the tracked one does not explain. -/
  peak   : Bool
  /-- The departure of GNSS time from the network's time, with their combined uncertainty. -/
  time   : Option (Nat × Nat)
  /-- For each newly decoded ephemeris, its disagreement in predicted range with the data held, in mm. -/
  orbit  : List Nat
  deriving DecidableEq, Repr, Inhabited

/-- What the navigation engine computed at a report's epoch (R306 to R327); the spec gives its outputs and no algorithm.
Absent uncertainties and protection levels are unknown. -/
structure NavSolution where
  lat       : Int
  lon       : Int
  height    : Int
  velN      : Int
  velE      : Int
  velD      : Int
  hUnc      : Option Nat
  vUnc      : Option Nat
  hpl       : Option Nat
  vpl       : Option Nat
  /-- 0: fewer usable satellites than the solution needs; 1: one band per satellite; 2: the ionosphere removed by combining bands
  (R311). -/
  bands     : Fin 3
  /-- The engine can apply the RTK, SSR and SBAS corrections that it holds; the RTK ambiguities are fixed and validated. -/
  rtk       : Bool
  ssr       : Bool
  sbas      : Bool
  fixed     : Bool
  svUsed    : Byte
  sigUsed   : Byte
  sysMask   : BitVec 7
  bandMask  : BitVec 10
  /-- Overload-tagged samples entered the solution. -/
  overload  : Bool
  detected  : Detections
  /-- Galileo satellites are used; all of those used have authenticated data; a tag or key failed (R322). -/
  galileo   : Bool
  galAuth   : Bool
  galFailed : Bool
  /-- Satellites excluded at the epoch: system, satellite and separation in mm (R318). -/
  excluded  : List (Nat × Nat × Nat)
  /-- The horizontal distance in mm between this position and the declared one (R326). -/
  apart     : Nat
  /-- Broadcast data decoded since the last epoch (R304); whether an orbit and clock set of E6-B is among what was decoded (R316). -/
  decoded   : List Decoded
  e6b       : Bool
  deriving DecidableEq, Repr, Inhabited

/-- A GNSS time solution (R362): its uncertainty in ns, its fix type, and the local clock minus GNSS time at its epoch in
units of local time; with the UTC offset, pending leap and leap month of the broadcast data when they are known (R369). -/
structure TimeSolution where
  unc     : Nat
  fixType : Fin 16
  error   : Int
  utc     : Option (Int × Fin 3 × Nat)
  deriving DecidableEq, Repr

/-- The value that a write of a low word forms (R608). -/
inductive Wide where
  | trigPeriod (j : Fin 32)
  | tpPeriod (k : Fin 4)
  | tpWidth (k : Fin 4)
  | tpPhase (k : Fin 4)
  deriving DecidableEq, Repr

/-- A received Announce: sender, dataset, UTC values and domain (R402, R404, R369). -/
structure Announce where
  identity   : BitVec 64
  port       : BitVec 16
  domain     : Byte
  clockClass : Byte
  accuracy   : Byte
  variance   : BitVec 16
  prio1      : Byte
  prio2      : Byte
  gm         : BitVec 64
  steps      : BitVec 16
  utcOffset  : BitVec 16
  utcValid   : Bool
  leap61     : Bool
  leap59     : Bool
  deriving DecidableEq, Repr

/-- A received event message: sender, domain, sequenceId, the ingress time at the ball (R398), the
correctionField in 2^-16 ns, whether a follow-up will come, and the timestamp it carries, which counts when none will. -/
structure EventMsg where
  identity : BitVec 64
  domain   : Byte
  seq      : BitVec 16
  ball     : Time
  corr     : Int
  twoStep  : Bool
  origin   : Time
  deriving DecidableEq, Repr

/-- A received general message: sender, domain, sequenceId, timestamp and correctionField in 2^-16 ns. -/
structure GeneralMsg where
  identity : BitVec 64
  domain   : Byte
  seq      : BitVec 16
  time     : Time
  corr     : Int
  deriving DecidableEq, Repr

/-- An instant in the radio's marks (R422): a REFCLK edge, by its number since reset, the chip index from the chip-clock edge
that coincides with it, and 1/128 chips. -/
structure RadioMark where
  edge : Nat
  chip : Fin 13
  frac : BitVec 7
  deriving DecidableEq, Repr

/-- A frame received (R429, R431): its RMARKER at UWB_RXIN, whether its FCS checks, clipping after the gain was set, its
total power in 0.01 dBm, and its PSDU without FCS. -/
structure RadioFrame where
  rmarker  : RadioMark
  fcsOk    : Bool
  overload : Bool
  rxPower  : BitVec 16
  psdu     : List Byte
  deriving DecidableEq, Repr

/-- What the first-path search finds (R430, R431): the frame's time at UWB_RXIN, the STS quality in 1/256, the STS first
path minus the preamble first path in marks, the first-path power and the carrier offset. -/
structure FirstPath where
  time    : RadioMark
  quality : BitVec 16
  diff    : BitVec 16
  power   : BitVec 16
  cfo     : BitVec 32
  deriving DecidableEq, Repr

/-- A request from the host (R536 to R538): a read or a write of memory, by BAR and byte address in it, a byte of a write
absent where it is not enabled; a read of configuration space; or a write of the command register's memory-space and
bus-master enables, of MSI-X enable and function mask, or of the power state. -/
inductive Tlp where
  | memRead (bar : Fin 6) (address length : Nat)
  | memWrite (bar : Fin 6) (address : Nat) (bytes : List (Option Byte))
  | cfgRead (offset : Nat)
  | cfgCommand (memory busMaster : Bool)
  | cfgMsix (enable mask : Bool)
  | cfgPower (d3hot : Bool)
  deriving DecidableEq, Repr

/-- The commands, one for each row of the table. -/
inductive Instr where
  /-- INTERCONNECT_REQUEST (R22): A request presented at the crossbar is arbitrated by class and initiator ID, granted word by word and carried to its target and back. -/
  | interconnectRequest (elapsed : Nat) (reqs : List FabReq)
  /-- CLEAR_COUNT (R26): Writing FAB_STATUS.clear_count clears FAB_H_DEMOTE and FAB_VIOL_COUNT. -/
  | clearCount
  /-- CE_REWRITE (R102): A corrected word is rewritten in the first cycle the bay grants no request, or after 16 cycles in the next non-class-H cycle. -/
  | ceRewrite (bay : Fin 64) (word : Fin 131072)
  /-- MIRROR_REPAIR (R101): A repair write to the mirrored pair takes the next cycle not granted to class H, unless a write to the word cancels it. -/
  | mirrorRepair (word : Fin 131072)
  /-- LOCKSTEP_MISMATCH (R38): A steward pair's comparator detects a lockstep mismatch or its local memory an uncorrectable error, and the pair is declared hung. -/
  | lockstepMismatch (pair : Fin 2) (memory : Bool)
  /-- HEARTBEAT_LOST (R38): Five microseconds pass without a heartbeat from a steward pair, and the pair is declared hung. -/
  | heartbeatLost (pair : Fin 2)
  /-- DEFERRED_RETURN (R612): A return of a bay that fell due during a hand-over starts once that hand-over ends. -/
  | deferredReturn (bay : Fin 64)
  /-- DCO_CAL_DONE (R64): The DCO calibration of ADPLL-A completes during a cold start and cal_done is set. -/
  | dcoCalDone
  /-- FREQ_ACQUIRED (R64): ADPLL-A acquires frequency and lock-window counting starts. -/
  | freqAcquired (demand : BitVec 16)
  /-- LOCK_WINDOW_END (R61): A lock window of 1,024 REFCLK periods ends and its count is judged in or out of tolerance. -/
  | lockWindowEnd (count : BitVec 15) (safe : BitVec 12) (ticks : Fin 12) (demand : BitVec 16)
  /-- PHASE_ALIGNED (R62): After lock, phase alignment completes and the marker is placed. -/
  | phaseAligned
  /-- GATES_OPEN (R62): At the first marker of index 0 after alignment the output gates open and the control plane returns to the derived clocks. -/
  | gatesOpen
  /-- RELOCK (R63): Writing CLK_CTRL.relock forces a loss of lock and a warm relock, and is ignored while lock is already lost. -/
  | relock (ticks : Fin 12)
  /-- REF_MISSING (R67): No REFCLK edge arrives within two periods, and ADPLL-A starts to coast. -/
  | refMissing
  /-- COAST_EXPIRY (R67): The coast window expires without a returning edge and lock is lost with cause reference missing. -/
  | coastExpiry (ticks : Fin 12)
  /-- REF_RETURN (R68): The first edge returning within the coast window is measured and tracking resumes. -/
  | refReturn (error : BitVec 16) (ticks : Fin 12) (demand : BitVec 16)
  /-- PHASE_WALK (R66): An edge error within ±520 TDC units starts a walk at up to ±100 ppm, reported when above 50 ps. -/
  | phaseWalk (error : BitVec 16) (remaining : BitVec 16) (demand : BitVec 16) (ticks : Fin 12)
  /-- WALK_DONE (R66): A walk completes and walking clears. -/
  | walkDone
  /-- REF_JUMP (R69): An edge error beyond ±520 TDC units loses lock, is stored and reported, and a warm relock follows. -/
  | refJump (error : BitVec 16) (remaining : BitVec 16) (ticks : Fin 12)
  /-- SYNC_IN_EDGE (R77): A SYNC_IN rising edge is recognised and may place the marker or request a lane sync. -/
  | syncInEdge (edge : Fin 32)
  /-- SYNC_WAIT_EXPIRY (R59): The SYNC_IN wait expires without an edge, the marker is placed free and marker_free is set. -/
  | syncWaitExpiry
  /-- LANE_SYNC_CMD (R78): Writing CLK_SYNC_CMD.lane_sync requests a lane sync. -/
  | laneSyncCmd (edge : Fin 32)
  /-- SYNC_LANDED (R78): A pending lane sync lands on its marker and applies to every running and pending lane. -/
  | syncLanded
  /-- CLKB_ENABLE (R83): Enabling ADPLL-B starts its lock sequence. -/
  | clkbEnable
  /-- CLKB_CHANNEL_WRITE (R83): A write to CLKB_CTRL.channel while enabled loses lock and relocks on the new channel. -/
  | clkbChannelWrite (channel : Bool)
  /-- B_FREQ_ACQUIRED (R83): ADPLL-B acquires frequency and starts its lock windows. -/
  | bFreqAcquired (demand : BitVec 16)
  /-- B_LOCK_WINDOW_END (R83): A lock window of ADPLL-B ends and lock is declared or lost. -/
  | bLockWindowEnd (count : BitVec 12) (demand : BitVec 16)
  /-- GRANARY_INIT_DONE (R89): The zeroing of every bay after a main-domain reset ends and init_done is set. -/
  | granaryInitDone
  /-- BAY_GO (R92): A write of BAY_OWNER.go starts a hand-over of the bay, or is ignored under R94. -/
  | bayGo (bay : Fin 64)
  /-- HANDOVER_START (R94): A hand-over that waited for an audit segment begins when that segment is released. -/
  | handoverStart (bay : Fin 64)
  /-- HANDOVER_DONE (R92): A hand-over ends, owner_id takes next_id and handover_done is set. -/
  | handoverDone (bay : Fin 64)
  /-- LENDABLE_CLEAR (R95): Writing lendable = 0 while a segment is borrowed ends the borrow early. -/
  | lendableClear (bay : Fin 64)
  /-- GROUP_ENABLE (R97): Writing GRP_CFG.enable = 1 forms the group, or is refused with group_error. -/
  | groupEnable (group : Fin 16)
  /-- GROUP_MEMBERS_WRITE (R99): A write to GRP_MEMBERS of an enabled group takes effect at once or is ignored whole. -/
  | groupMembersWrite (group : Fin 16) (value : Word)
  /-- GROUP_DISABLE (R99): Writing enable = 0 stops new grants to the group. -/
  | groupDisable (group : Fin 16)
  /-- GROUP_LEAVE (R99): Once granted requests complete and any audit segment is released, the member bays leave the group. -/
  | groupLeave (group : Fin 16)
  /-- AUDIT_SEGMENT_START (R105): After its pause the audit visits the next segment and borrows, scrubs or skips it. -/
  | auditSegmentStart
  /-- AUDIT_COPY_DONE (R106): The copy of a borrowed segment to the shadow ends and the test phase begins. -/
  | auditCopyDone
  /-- AUDIT_TEST_DONE (R106): The march test of a segment ends or stops and write-back begins. -/
  | auditTestDone (faulty : List (Fin 4096))
  /-- AUDIT_WRITEBACK_DONE (R106): Write-back of a segment ends, the segment is released and redirection ends. -/
  | auditWritebackDone
  /-- AUDIT_DISABLE (R105): Writing AUD_CFG.enable = 0 lets a borrowed segment finish write-back and then stops the audit. -/
  | auditDisable
  /-- CLEAR_COUNTS (R102): Writing GRAN_EVENT.clear_counts clears every ce_count, ue_count and AUD_COUNT. -/
  | clearCounts
  /-- BALE_COLL_CLEAR (R111): Writing 1 to BALE_COLL.collision clears it and BALE_COLL_COUNT. -/
  | baleCollClear
  /-- GNSS_ENABLE (R135): Writing gnss_en = 1 powers the chain, switches on bias and loads or starts calibration. -/
  | gnssEnable
  /-- FG_CAL_START (R131): Writing FE_CAL_CTRL.start starts foreground calibration, ignored while one runs. -/
  | fgCalStart
  /-- FG_CAL_DONE (R131): Foreground calibration ends, coef_valid is set and cal_done latched. -/
  | fgCalDone
  /-- SAMPLE_RELEASE (R135): When calibration and bias_settle have passed, the LNA unmutes, samples go to the lanes and AGC acquisition starts. -/
  | sampleRelease
  /-- GNSS_DISABLE (R135): Writing gnss_en = 0 stops the samples and switches ANT_BIAS off. -/
  | gnssDisable
  /-- AGC_WINDOW_END (R121): An AGC window of 65,536 samples ends and the gain code moves by the first applicable rule. -/
  | agcWindowEnd
  /-- BLANK_ASSERT (R127): GNSS_BLANK shows its active level and a blank interval begins, extended back by pre. -/
  | blankAssert (cycle : Fin 375)
  /-- BLANK_DEASSERT (R127): GNSS_BLANK returns inactive and the post-extension begins. -/
  | blankDeassert (cycle : Fin 375)
  /-- BLANK_POST_END (R127): The post-extension expires and the blank interval ends. -/
  | blankPostEnd
  /-- BLANK_STUCK (R129): A blank interval reaching max_len is ended, counted and reported, and the pin is ignored until inactive. -/
  | blankStuck
  /-- ANT_MEASURE (R130): Every 100 µs the supervisor measures bias current and updates the antenna state. -/
  | antMeasure (current : Fin 401)
  /-- ANT_RETRY (R130): The retry interval after a short expires and the bias switch closes again. -/
  | antRetry
  /-- BG_CAL_UPDATE (R133): Background calibration applies a limited coefficient update at a marker. -/
  | bgCalUpdate
  /-- LANE_ENABLE (R160): A change of LANE_CTRL.enable from 0 to 1 requests a lane start. -/
  | laneEnable (lane : Fin 12)
  /-- LANE_RESTART (R160): Writing LANE_CTRL.restart while running requests a lane start. -/
  | laneRestart (lane : Fin 12)
  /-- LANE_START (R160): At its marker a lane clears its state, applies buffered fields and starts a new sample origin. -/
  | laneStart (lane : Fin 12)
  /-- LANE_DISABLE (R164): Writing enable = 0 stops the lane at the end of its word and cancels a pending start. -/
  | laneDisable (lane : Fin 12)
  /-- NCO_FREQ_WRITE (R139): A write to LANE_NCO_FREQ takes effect from the next lane word with continuous phase. -/
  | ncoFreqWrite (lane : Fin 12) (inc : Word)
  /-- FILTER_REQUEST (R150): A write to LANE_FIR_SEL requests a filter change, handled by the outcome table. -/
  | filterRequest (lane : Fin 12) (sel : Fin 64) (fadeLen : Fin 8192)
  /-- FADE_START (R150): A requested fade starts with the first stage-C word at least 4 CK_FAB cycles after the request. -/
  | fadeStart (lane : Fin 12)
  /-- FADE_END (R149): A fade reaches j = F, the incoming filter becomes current and any pending fade starts. -/
  | fadeEnd (lane : Fin 12)
  /-- BANK_WRITE (R148): A write to a loadable bank's coefficients or configuration is stored, or discarded while the bank is locked. -/
  | bankWrite (lane : Fin 12) (bank : Fin 2) (target : BankTarget) (value : Word)
  /-- NOTCH_DETECT (R153): At the end of each 4,096-word block the detector assigns strong lines to automatic notches. -/
  | notchDetect (lane : Fin 12)
  /-- NOTCH_ENGAGE (R153): A notch that took a line engages 256 words later. -/
  | notchEngage (lane : Fin 12) (notch : Fin 4)
  /-- NOTCH_RELEASE (R153): An automatic notch below threshold for the release time disengages. -/
  | notchRelease (lane : Fin 12) (notch : Fin 4)
  /-- NOTCH_FREQ_WRITE (R152): A write to LANE_NOTCH.freq restarts the tracker from the value written. -/
  | notchFreqWrite (lane : Fin 12) (notch : Fin 4) (freq : BitVec 24)
  /-- PASS_LATCH (R179): Writing THR_CTRL.start latches a pass, checking its jobs, or is ignored. -/
  | passLatch
  /-- PASS_ABORT (R199): Writing abort ends the round in progress with its jobs aborted and dequeues the queued pass. -/
  | passAbort
  /-- THR_DISABLE (R199): Writing THR_CTRL.enable = 0 acts as abort and discards the queued pass. -/
  | thrDisable
  /-- FREE_A (R186): Writing free_a releases the held mark of the group named by grp_a. -/
  | freeA
  /-- FREE_B (R186): Writing free_b releases the held mark of the group named by grp_b. -/
  | freeB
  /-- ROUND_START (R182): A round starts at its marker or trigger once its sum group is free, recording T_r. -/
  | roundStart
  /-- BLOCK_END (R169): A 1 ms block of a round ends and its sums are added or the block discarded. -/
  | blockEnd
  /-- ROUND_DONE (R183): A round's sums are complete, round_done is set and interrupts go to the steward and DSP cores. -/
  | roundDone
  /-- PEAK_SEARCH_DONE (R194): The peak search on DSP_0 to DSP_11 ends and one result record per job is written. -/
  | peakSearchDone
  /-- CHANNEL_START (R230): Writing SHF_CH_CTRL.start checks the channel and makes it PENDING or refuses it. -/
  | channelStart (channel : Fin 512)
  /-- CHANNEL_RUN (R231): A pending channel starts at its start word, or late at the next block swept. -/
  | channelRun (channel : Fin 512)
  /-- CHANNEL_STOP (R233): Writing stop ends the channel at the end of the block being swept with a final dump. -/
  | channelStop (channel : Fin 512)
  /-- SWEEP_END (R203): A sweep of one channel over one block ends and any integration it ended leaves as a dump. -/
  | sweepEnd (channel : Fin 512)
  /-- LOOP_UPDATE (R226): A loop update record arrives at the sheaf, is discarded, merged or queued. -/
  | loopUpdate
  /-- LOOP_UPDATE_APPLY (R227): A waiting update applies at its boundary or block, steps first then frequencies. -/
  | loopUpdateApply (channel : Fin 512)
  /-- CODE_RAM_WRITE (R212): A write to a sheaf's code RAM is stored, or discarded while a running channel uses the region. -/
  | codeRamWrite (sheaf : Fin 64) (word : Fin 2048) (value : Word)
  /-- SHEAF_DISABLE (R239): Writing SHF_CTRL.enable = 0 ends every channel. -/
  | sheafDisable
  /-- LOST_TIMEOUT (R237): A channel in LOST for 1 s without rising is ended by the firmware. -/
  | lostTimeout (channel : Fin 512)
  /-- NOP (R267): The instruction nop does nothing. -/
  | nop (core : Fin 16)
  /-- BR (R264): br branches on its condition after two delay slots. -/
  | br (core cc : Fin 16) (target : Fin 16384)
  /-- CALL (R290): call pushes its address plus 3 and branches, or raises a stack fault when the stack is full. -/
  | call (core cc : Fin 16) (target : Fin 16384)
  /-- RET (R290): ret pops and branches, or raises a stack fault when empty. -/
  | ret (core cc : Fin 16)
  /-- RETI (R287): reti returns from a handler, restoring sr and the program's loop bank. -/
  | reti (core : Fin 16)
  /-- BRR (R264): brr branches on its condition to a pointer register. -/
  | brr (core cc : Fin 16) (k : Fin 8)
  /-- LOOP (R269): loop starts a hardware loop level with an immediate count. -/
  | loop (core : Fin 16) (n : Fin 65536) (last : Fin 16384)
  /-- LOOPR (R272): loopr starts a loop level with a count from a register, or none for a count of 0. -/
  | loopr (core : Fin 16) (src : Fin 128) (last : Fin 16384)
  /-- RPT (R279): rpt repeats the next instruction n times. -/
  | rpt (core : Fin 16) (n1 : Fin 256)
  /-- RPTR (R279): rptr repeats the next instruction a register-given number of times. -/
  | rptr (core : Fin 16) (src : Fin 128)
  /-- ROT (R281): rot decrements rrb while sr.rot is 1, else acts as nop. -/
  | rot (core : Fin 16)
  /-- HALT (R292): halt stops fetching until an interrupt can be accepted or a masked source is pending. -/
  | halt (core : Fin 16)
  /-- MV (R267): mv performs its moves only. -/
  | mv (core : Fin 16) (mv : Moves)
  /-- MOV (R267): mov copies one register to another. -/
  | mov (core : Fin 16) (dst src : Fin 128) (mv : Moves)
  /-- LDI (R267): ldi loads an immediate into a register. -/
  | ldi (core : Fin 16) (dst : Fin 128) (imm : Word20)
  /-- ADD (R267): add forms a wrapping sum. -/
  | add (core dd ds dt : Fin 16) (mv : Moves)
  /-- SUB (R267): sub forms a wrapping difference. -/
  | sub (core dd ds dt : Fin 16) (mv : Moves)
  /-- ADDS (R267): adds forms a saturated sum. -/
  | adds (core dd ds dt : Fin 16) (mv : Moves)
  /-- SUBS (R267): subs forms a saturated difference. -/
  | subs (core dd ds dt : Fin 16) (mv : Moves)
  /-- AND (R267): and forms a bitwise and. -/
  | and (core dd ds dt : Fin 16) (mv : Moves)
  /-- OR (R267): or forms a bitwise or. -/
  | or (core dd ds dt : Fin 16) (mv : Moves)
  /-- XOR (R267): xor forms a bitwise exclusive or. -/
  | xor (core dd ds dt : Fin 16) (mv : Moves)
  /-- NOT (R267): not forms a bitwise complement. -/
  | not (core dd ds : Fin 16) (mv : Moves)
  /-- NEG (R267): neg negates with wrapping. -/
  | neg (core dd ds : Fin 16) (mv : Moves)
  /-- ABS (R267): abs forms a saturated absolute value. -/
  | abs (core dd ds : Fin 16) (mv : Moves)
  /-- CMP (R267): cmp sets flags of a difference. -/
  | cmp (core ds dt : Fin 16) (mv : Moves)
  /-- ADDI (R267): addi adds a signed 6-bit immediate. -/
  | addi (core dd ds : Fin 16) (imm : BitVec 6) (mv : Moves)
  /-- ASL (R267): asl shifts left arithmetically. -/
  | asl (core dd ds : Fin 16) (k : Fin 64) (mv : Moves)
  /-- ASR (R267): asr shifts right arithmetically. -/
  | asr (core dd ds : Fin 16) (k : Fin 64) (mv : Moves)
  /-- LSR (R267): lsr shifts right logically. -/
  | lsr (core dd ds : Fin 16) (k : Fin 64) (mv : Moves)
  /-- NRM (R267): nrm counts the redundant sign bits. -/
  | nrm (core dd ds : Fin 16) (mv : Moves)
  /-- MUL (R256): mul writes a signed product to an accumulator. -/
  | mul (core : Fin 16) (aa : Fin 4) (ds dt : Fin 16) (third : Bool) (mv : Moves)
  /-- MAC (R256): mac adds a signed product to an accumulator. -/
  | mac (core : Fin 16) (aa : Fin 4) (ds dt : Fin 16) (third : Bool) (mv : Moves)
  /-- NMAC (R256): nmac subtracts a signed product from an accumulator. -/
  | nmac (core : Fin 16) (aa : Fin 4) (ds dt : Fin 16) (third : Bool) (mv : Moves)
  /-- MULM (R256): mulm writes a mixed-sign product. -/
  | mulm (core : Fin 16) (aa : Fin 4) (ds dt : Fin 16) (third : Bool) (mv : Moves)
  /-- MACM (R256): macm adds a mixed-sign product. -/
  | macm (core : Fin 16) (aa : Fin 4) (ds dt : Fin 16) (third : Bool) (mv : Moves)
  /-- MACU (R256): macu adds an unsigned product. -/
  | macu (core : Fin 16) (aa : Fin 4) (ds dt : Fin 16) (third : Bool) (mv : Moves)
  /-- CLR (R267): clr zeroes an accumulator. -/
  | clr (core : Fin 16) (aa : Fin 4) (mv : Moves)
  /-- AADD (R267): aadd adds two accumulators. -/
  | aadd (core : Fin 16) (aa ab : Fin 4) (mv : Moves)
  /-- ASUB (R267): asub subtracts two accumulators. -/
  | asub (core : Fin 16) (aa ab : Fin 4) (mv : Moves)
  /-- AMOV (R267): amov copies an accumulator. -/
  | amov (core : Fin 16) (aa ab : Fin 4) (mv : Moves)
  /-- ANEG (R267): aneg negates an accumulator. -/
  | aneg (core : Fin 16) (aa ab : Fin 4) (mv : Moves)
  /-- AABS (R267): aabs takes an accumulator's absolute value. -/
  | aabs (core : Fin 16) (aa ab : Fin 4) (mv : Moves)
  /-- ASHL (R267): ashl shifts an accumulator left. -/
  | ashl (core : Fin 16) (aa ab : Fin 4) (k : Fin 64) (mv : Moves)
  /-- ASHR (R267): ashr shifts an accumulator right. -/
  | ashr (core : Fin 16) (aa ab : Fin 4) (k : Fin 64) (mv : Moves)
  /-- EXT (R258): ext extracts a saturated 20-bit value from an accumulator. -/
  | ext (core dd : Fin 16) (ab : Fin 4) (k : Fin 64) (mv : Moves)
  /-- DEP (R267): dep deposits a shifted register into an accumulator. -/
  | dep (core : Fin 16) (aa : Fin 4) (ds : Fin 16) (k : Fin 64) (mv : Moves)
  /-- ACMP (R267): acmp sets flags of an accumulator difference. -/
  | acmp (core : Fin 16) (aa ab : Fin 4) (mv : Moves)
  /-- CMUL (R259): cmul writes a complex product to an accumulator pair. -/
  | cmul (core : Fin 16) (aa : Fin 4) (ds dt : Fin 16) (third : Bool) (mv : Moves)
  /-- CMAC (R259): cmac accumulates a complex product. -/
  | cmac (core : Fin 16) (aa : Fin 4) (ds dt : Fin 16) (third : Bool) (mv : Moves)
  /-- CMACC (R259): cmacc accumulates a product by the conjugate. -/
  | cmacc (core : Fin 16) (aa : Fin 4) (ds dt : Fin 16) (third : Bool) (mv : Moves)
  /-- CNMAC (R259): cnmac subtracts a complex product. -/
  | cnmac (core : Fin 16) (aa : Fin 4) (ds dt : Fin 16) (third : Bool) (mv : Moves)
  /-- CPK (R258): cpk packs a saturated complex word from an accumulator pair. -/
  | cpk (core dd : Fin 16) (ab : Fin 4) (k : Fin 64) (mv : Moves)
  /-- CUNP (R267): cunp unpacks a complex word into two registers. -/
  | cunp (core dd ds : Fin 16) (mv : Moves)
  /-- CADD (R267): cadd adds packed complex words with saturation. -/
  | cadd (core dd ds dt : Fin 16) (mv : Moves)
  /-- CSUB (R267): csub subtracts packed complex words with saturation. -/
  | csub (core dd ds dt : Fin 16) (mv : Moves)
  /-- CCONJ (R267): cconj conjugates a packed complex word. -/
  | cconj (core dd ds : Fin 16) (mv : Moves)
  /-- SMAX (R260): smax compares the X-loaded word with mx and keeps the greater with its index. -/
  | smax (core : Fin 16) (u : Bool) (mv : Moves)
  /-- SMIN (R260): smin compares the X-loaded word with mx and keeps the lesser. -/
  | smin (core : Fin 16) (u : Bool) (mv : Moves)
  /-- SMAXD (R260): smaxd searches for the maximum with a register candidate and index. -/
  | smaxd (core ds dt : Fin 16) (u : Bool) (mv : Moves)
  /-- SMIND (R260): smind searches for the minimum with a register candidate and index. -/
  | smind (core ds dt : Fin 16) (u : Bool) (mv : Moves)
  /-- SINIT (R260): sinit prepares mx and mi for a search. -/
  | sinit (core : Fin 16) (mode : Fin 4) (mv : Moves)
  /-- CLRF (R267): clrf clears the sticky flags selected by its mask. -/
  | clrf (core : Fin 16) (mask : Fin 8) (mv : Moves)
  /-- EI (R267): ei sets sr.ie. -/
  | ei (core : Fin 16) (mv : Moves)
  /-- DI (R267): di clears sr.ie. -/
  | di (core : Fin 16) (mv : Moves)
  /-- FENCE (R249): fence stalls until no window write is outstanding. -/
  | fence (core : Fin 16) (mv : Moves)
  /-- WINDOW_READ_DATA (R249): The data of a window read arrives and the stalled core continues. -/
  | windowReadData (core : Fin 16)
  /-- WINDOW_WRITE_DONE (R249): A posted window write completes, freeing a slot, or returns refused and raises an access fault. -/
  | windowWriteDone (core : Fin 16)
  /-- INTERRUPT_ENTRY (R285): A pending interrupt is accepted at the first unheld slot and the core enters its vector. -/
  | interruptEntry (core : Fin 16)
  /-- WATCHDOG_EXPIRY (R291): The DSP watchdog count reaches zero, raises the watchdog fault and reloads. -/
  | watchdogExpiry (core : Fin 16)
  /-- WDG_KICK (R291): Writing WDG_CTRL.kick reloads the watchdog. -/
  | wdgKick (core : Fin 16)
  /-- DOORBELL (R282): The steward cores write a core's DOORBELL, raising source 9. -/
  | doorbell (core : Fin 16) (value : Word20)
  /-- DQ_DATA_READ (R225): A read of DQ_DATA returns the next dump word and removes the record after its last word. -/
  | dqDataRead (core : Fin 12)
  /-- UPD_DATA_WRITE (R226): A write of UPD_DATA adds a loop-update word and sends the record on the ninth. -/
  | updDataWrite (core : Fin 12) (value : Word20)
  /-- NOTIFY (R297): A write of NOTIFY sends a word to the steward cores. -/
  | notify (core : Fin 16) (value : Word20)
  /-- FEED_WIDX_READ (R301): A read of FEED_WIDX latches the lane word number into FEED_WORD. -/
  | feedWidxRead (core : Fin 16)
  /-- FEED_OVERRUN_CLEAR (R300): Writing 1 to FEED_STATUS.overrun clears it and the drop count. -/
  | feedOverrunClear (core : Fin 16)
  /-- WIN_CFG_WRITE (R250): The steward cores write a window's base or enable, applying to later accesses. -/
  | winCfgWrite (core : Fin 16) (window : Fin 4) (base : Fin 512) (en : Bool)
  /-- KERNEL_LOAD_DONE (R295): After the last chunk the image is checked, verified and copied, ending OK or with a failure. -/
  | kernelLoadDone (core : Fin 4)
  /-- KERNEL_STOP_DONE (R297): A stopped core completes its writes and is held, and the completion is sent. -/
  | kernelStopDone (core : Fin 4)
  /-- REPORT_EPOCH (R306): At a report grid instant the navigation engine forms, signs and queues a position report. -/
  | reportEpoch (solution : NavSolution)
  /-- DETECTOR_EXPIRY (R325): A detector bit clears 10 s after its condition last held. -/
  | detectorExpiry (detector : Fin 8)
  /-- CAPTURE_START (R329): At t_start an armed capture chooses its shifts and starts storing lane words. -/
  | captureStart
  /-- CAPTURE_END (R335): A capture ends and its header is written last. -/
  | captureEnd
  /-- SNAP_COMMIT_DONE (R342): A snapshot's last page is written and it is committed to the non-volatile ring. -/
  | snapCommitDone
  /-- SCHEDULE_WAKE (R504): 2 ms before a scheduled capture the device wakes from PARKED and prepares the chain and lane. -/
  | scheduleWake (entry : Fin 8)
  /-- PARKED_RETURN (R504): After the commit the time relation is written, PWR_EN falls and the device returns to PARKED. -/
  | parkedReturn (rtc : BitVec 48)
  /-- TIME_NOW_READ (R354): A read of TIME_NOW_SEC_LO latches the whole clock value. -/
  | timeNowRead
  /-- SLEW_WRITE (R353): A write of TIME_SLEW.offset sets or replaces the offset the clock absorbs gradually. -/
  | slewWrite (value : Word)
  /-- SLEW_DONE (R353): The slew offset reaches zero and slew_done is set. -/
  | slewDone
  /-- STEP_ARM (R367): Writing TIME_STEP_CTRL.arm arms a step at the second S. -/
  | stepArm
  /-- STEP_CANCEL (R367): Writing TIME_STEP_CTRL.cancel withdraws a pending step. -/
  | stepCancel
  /-- STEP_APPLY (R367): At the first marker at or after S the clock takes its value plus Δ. -/
  | stepApply
  /-- TIME_SOLUTION (R362): A GNSS time solution arrives, is counted towards qualification, and the servo may change source and slew or step. -/
  | timeSolution (solution : TimeSolution)
  /-- GNSS_LOSS_TIMEOUT (R362): No usable solution for loss_timeout makes GNSS invalid. -/
  | gnssLossTimeout
  /-- SPOOF_HOLD_END (R364): spoof_suspect clear for spoof_hold seconds ends the spoofing hold. -/
  | spoofHoldEnd
  /-- LEAP_APPLY (R369): At the end of the named month a pending leap changes TAI − UTC and clears. -/
  | leapApply
  /-- TRIGGER_ENABLE (R371): A change of TRIG_CFG.en from 0 to 1 arms a trigger. -/
  | triggerEnable (trigger : Fin 32)
  /-- TRIGGER_FIRE (R371): A trigger fires at the first tick at or after its fire time and goes to its targets. -/
  | triggerFire (trigger : Fin 32)
  /-- TRIG_OUT_END (R373): width_ticks after its leading edge, a trigger output's trailing edge is placed. -/
  | trigOutEnd (trigger : Fin 32)
  /-- CAPTURE_EDGE (R377): A selected edge on a capture source is time-stamped and kept or counted. -/
  | captureEdge (channel : Fin 16) (rising : Bool) (tick : Fin 375) (tap : Fin 128) (close : Bool)
  /-- CAP_RESULT_READ (R379): Reading the result's sec_lo after CAP_STATUS completes the sequence and clears valid. -/
  | capResultRead (channel : Fin 16)
  /-- CAP_OVERRUN_CLEAR (R379): Writing 1 to CAP_STATUS.overrun clears it and missed. -/
  | capOverrunClear (channel : Fin 16)
  /-- TP_DECISION (R383): At a pulse's decision time the conditions are judged and the pulse emitted or suppressed. -/
  | tpDecision (pulse : Fin 4)
  /-- TP_LEADING_EDGE (R382): The leading edge of an emitted pulse is placed at its interpolator tap. -/
  | tpLeadingEdge (pulse : Fin 4)
  /-- TP_TRAILING_EDGE (R382): One width after the leading edge the trailing edge is placed and the record completed. -/
  | tpTrailingEdge (pulse : Fin 4)
  /-- TIME_RELATION_WRITE (R392): At the first RTC edge after each whole second a time relation is written to the keep store. -/
  | timeRelationWrite (rtc : BitVec 48)
  /-- RTC_ALARM (R610): The RTC counter reaches the alarm count, en clears and a wake may follow. -/
  | rtcAlarm (rtc : BitVec 48)
  /-- RTC_CAL_DONE (R358): A measurement of CK_FAB ticks over 32,768 RTC periods completes in TIME_RTC_CAL. -/
  | rtcCalDone (count : BitVec 30)
  /-- RTC_HANDOVER (R359): After the reference returns, the next RTC edge is ticked and the clock passes to REFCLK with half a period added. -/
  | rtcHandover (rtc : BitVec 48)
  /-- WIDE_WRITE (R608): A write of a low word forms the 40-bit value with the staged high bits, limits it and puts it in force. -/
  | wideWrite (which : Wide) (low : Word)
  /-- LINK_CHANGE (R395): The PHY's link state or speed changes, unsupported modes counting as link down. -/
  | linkChange (up : Bool) (mbit : Fin 3) (full : Bool)
  /-- FRAME_RX (R396): A received frame that is not an accepted PTP message is discarded and counted. -/
  | frameRx
  /-- ANNOUNCE_RX (R404): An Announce enters or refreshes the foreign-master table, or a ninth master is refused. -/
  | announceRx (msg : Announce)
  /-- SYNC_RX (R406): A Sync is timestamped and forms an offset, which the servo uses, holds aside or judges as a step. -/
  | syncRx (msg : EventMsg)
  /-- FOLLOW_UP_RX (R399): A Follow_Up supplies the precise origin time of a two-step Sync. -/
  | followUpRx (msg : GeneralMsg)
  /-- DELAY_REQ_RX (R400): As master the port timestamps a Delay_Req and answers with Delay_Resp. -/
  | delayReqRx (msg : EventMsg)
  /-- DELAY_RESP_RX (R406): A Delay_Resp completes a delay exchange for the mean path delay. -/
  | delayRespRx (msg : GeneralMsg)
  /-- PDELAY_REQ_RX (R400): A Pdelay_Req is timestamped and answered with Pdelay_Resp. -/
  | pdelayReqRx (msg : EventMsg)
  /-- PDELAY_RESP_RX (R406): A Pdelay_Resp completes or advances a peer-delay measurement. -/
  | pdelayRespRx (msg : EventMsg)
  /-- PDELAY_RESP_FOLLOW_UP_RX (R399): A Pdelay_Resp_Follow_Up completes a two-step peer-delay exchange. -/
  | pdelayRespFollowUpRx (msg : GeneralMsg)
  /-- SYNC_TX (R399): As master at each sync interval the port sends Sync, one-step or followed by Follow_Up. -/
  | syncTx (ball : Time)
  /-- ANNOUNCE_TX (R402): At each announce interval the port announces its dataset as master. -/
  | announceTx
  /-- DELAY_REQ_TX (R400): As slave the port sends a Delay_Req at its interval. -/
  | delayReqTx (ball : Time)
  /-- PDELAY_REQ_TX (R400): Under IEEE 802.1AS the port sends a Pdelay_Req at its interval. -/
  | pdelayReqTx (ball : Time)
  /-- BMCA (R403): At every announce interval the best master algorithm selects the master and port state. -/
  | bmca
  /-- ANNOUNCE_TIMEOUT (R404): announceReceiptTimeout without an Announce expires an entry or loses the selected master. -/
  | announceTimeout (entry : Fin 8)
  /-- SYNC_TIMEOUT (R405): sync_timeout intervals without a usable Sync unqualify the port. -/
  | syncTimeout
  /-- SLEW_PART (R409): When the slew remainder falls below 4,194,304 ns the servo writes it plus the next part. -/
  | slewPart
  /-- ACTIVITY_COMMIT (R426): At a TX or RX activity's commit instant the radio checks it, sets power and starts it or ends it. -/
  | activityCommit (temp : BitVec 8) (supply : BitVec 16)
  /-- STATE_RAISE (R419): The MAC raises the radio state in time for the next activity's commit. -/
  | stateRaise
  /-- TX_END (R419): A transmitted frame's last pulse ends the activity and the return state is entered. -/
  | txEnd
  /-- RX_FRAME (R429): A received frame ends and is delivered or discarded by its window. -/
  | rxFrame (frame : RadioFrame)
  /-- RX_WINDOW_CLOSE (R429): A receive window closes with no frame begun and the activity ends LATE. -/
  | rxWindowClose
  /-- FIRST_PATH_DONE (R430): The first-path search ends and the receive record with its flags is sent. -/
  | firstPathDone (path : FirstPath)
  /-- RANGING_ROUND_END (R445): A ranging round ends and its distance is computed. -/
  | rangingRoundEnd (handle : Fin 16)
  /-- ROUND_TIMEOUT (R444): Remote intervals not supplied within the round timeout end the round LATE. -/
  | roundTimeout (handle : Fin 16)
  /-- TEMP_CAL_DUE (R420): A die temperature change of cal_temp sets cal_due and defers CAL. -/
  | tempCalDue (temp : BitVec 8)
  /-- CAL_START (R420): Deferred or commanded CAL starts when the radio is idle long enough, or forced after 1 s. -/
  | calStart
  /-- CAL_DONE (R418): CAL ends and the radio returns to the state it left. -/
  | calDone (temp : BitVec 8)
  /-- GNT_CHANGE (R439): COEX_GNT changes level; a withdrawal during a frame sets gnt_lost. -/
  | gntChange (level : Bool)
  /-- LISTEN_WINDOW (R446): A WATCH listen window opens on its period. -/
  | listenWindow
  /-- UART_RX_CHAR (R455): A received character completes and enters the receive FIFO with its marks. -/
  | uartRxChar (uart : Fin 8) (samples : BitVec 12)
  /-- UART_BREAK_RX (R460): A break line returns high, its length is recorded and a break entry is queued. -/
  | uartBreakRx (uart : Fin 8) (len : Nat)
  /-- UART_STUCK (R462): A receive line low for thresh bit times is declared stuck. -/
  | uartStuck (uart : Fin 8)
  /-- UART_STUCK_END (R462): A stuck line returns high, stuck clears and one break entry is queued. -/
  | uartStuckEnd (uart : Fin 8) (len : Nat)
  /-- UART_TX_CHAR (R452): The transmitter takes a character from the FIFO and sends it. -/
  | uartTxChar (uart : Fin 8) (cts : Bool) (low : Bool)
  /-- UART_DATA_READ (R457): A read of UART_DATA removes and returns the head receive entry. -/
  | uartDataRead (uart : Fin 8)
  /-- UART_DATA_WRITE (R456): A write of UART_DATA adds a transmit entry or is discarded when full. -/
  | uartDataWrite (uart : Fin 8) (value : Word)
  /-- UART_STATUS_READ (R457): A read of UART_STATUS begins the status-then-data sequence. -/
  | uartStatusRead (uart : Fin 8)
  /-- FLUSH_RX (R478): Writing flush_rx empties the receive FIFO. -/
  | flushRx (uart : Fin 8)
  /-- FLUSH_TX (R478): Writing flush_tx empties the transmit FIFO. -/
  | flushTx (uart : Fin 8)
  /-- UART_BREAK_SEND (R461): Writing UART_BRK_TX.send starts a break after the current character. -/
  | uartBreakSend (uart : Fin 8)
  /-- UART_BREAK_DONE (R461): The break and its delimiter end and busy clears. -/
  | uartBreakDone (uart : Fin 8)
  /-- LIN_HEADER_SEND (R468): A master writes UART_LIN_HDR.send and a break, sync and PID are sent. -/
  | linHeaderSend (uart : Fin 8)
  /-- LIN_BREAK_DETECT (R468): A slave recognises a break of 11 bit times and measures the sync field. -/
  | linBreakDetect (uart : Fin 8) (departure : BitVec 16)
  /-- LIN_PID (R469): A protected identifier is received and its table entry acted on. -/
  | linPid (uart : Fin 8) (pid : BitVec 8)
  /-- LIN_RESPONSE_START (R469): resp_space after the PID a publisher sends its data or ends with TX underrun. -/
  | linResponseStart (uart : Fin 8)
  /-- LIN_TIMEOUT (R470): A frame not complete by its time limit ends with timeout or no response. -/
  | linTimeout (uart : Fin 8)
  /-- UART_WAKE (R471): A UART line low for wake_min + 1 samples in DORMANT wakes the device. -/
  | uartWake (uart : Fin 8)
  /-- CVU_START (R475): Writing CVU_CTRL.start arms the unit or refuses with cfg_err. -/
  | cvuStart (unit : Fin 16)
  /-- CVU_ABORT (R476): Writing CVU_CTRL.abort disarms the unit and discards a partial frame. -/
  | cvuAbort (unit : Fin 16)
  /-- CVU_DATA_WRITE (R475): A write of CVU_DATA feeds four bytes to an unbound unit. -/
  | cvuDataWrite (unit : Fin 16) (value : Word)
  /-- CVU_DONE (R475): The check is ready in CVU_RESULT and done is set. -/
  | cvuDone (unit : Fin 16)
  /-- TO_VBAK (R484): VSYS below 2.80 V moves the always-on domain to VBAK. -/
  | toVbak
  /-- TO_VSYS (R484): VSYS above 2.90 V for 10 ms returns the always-on domain to VSYS. -/
  | toVsys
  /-- VBAK_LOW (R484): VBAK below 2.0 V while selected returns the domain to VSYS. -/
  | vbakLow
  /-- AON_POWER_LOSS (R485): Both supplies below 2.0 V cut power to the always-on domain. -/
  | aonPowerLoss
  /-- AON_POWER_UP (R485): The always-on domain powers up with RTC and keep store zeroed and aon_por set. -/
  | aonPowerUp (onVbak : Bool)
  /-- SHUTDOWN_START (R487): PFAIL_N held low or VSYS below 2.95 V starts the orderly shutdown. -/
  | shutdownStart (pfail : Bool) (rtc : BitVec 48)
  /-- MAIN_POWER_START (R490): PFAIL_N high and VSYS above 3.00 V for 10 ms raise PWR_EN. -/
  | mainPowerStart
  /-- MAIN_RESET_RELEASE (R481): The main-domain reset is released 100 µs after rails, PWR_EN and SYS_RST_N are good. -/
  | mainResetRelease (strap hostSel : Bool) (rtc : BitVec 48)
  /-- RAIL_FAULT (R481): A monitored rail below 95 % for 1 µs resets the main domain at once. -/
  | railFault
  /-- EXT_RESET (R481): SYS_RST_N driven low resets the main domain at once. -/
  | extReset
  /-- EARLY_PFAIL (R611): A power failure before reset release drops PWR_EN with no shutdown. -/
  | earlyPfail (pfail : Bool)
  /-- FROZEN_PFAIL (R491): PFAIL_N in CAPTURED makes the monitor zeroise keys, close debug and reset the main domain. -/
  | frozenPfail
  /-- MODE_TRANSITION_DONE (R500): A mode transition ends and any pending request is checked. -/
  | modeTransitionDone
  /-- HOST_WAKE (R502): HOST_WAKE_N low on two samples wakes the device from DORMANT or PARKED. -/
  | hostWake
  /-- BOOT_DONE (R501): The device reaches its boot mode and the link service becomes ready. -/
  | bootDone
  /-- PRES_PRESS (R517): PRES_N low for 20 ms is recognised as a press. -/
  | presPress
  /-- PRES_RELEASE (R517): A recognised release opens or restarts the 30 s presence window. -/
  | presRelease
  /-- PRES_WINDOW_EXPIRY (R517): The presence window closes after 30 s. -/
  | presWindowExpiry
  /-- SEAL_CHECK (R520): A seal check drives SEAL_OUT and samples SEAL_IN, latching a break on mismatch. -/
  | sealCheck (rtc : BitVec 48) (level first second : Bool)
  /-- TRNG_FAIL (R512): A TRNG health test fails and random-number operations answer INTERNAL_FAULT. -/
  | trngFail
  /-- AUTH_VERIFY_DONE (R523): A password or signature verification ends, opening debug into SERVICE or counting a failure. -/
  | authVerifyDone
  /-- LOCKOUT_END (R525): The RTC reaches the lockout end and authentication is possible again. -/
  | lockoutEnd (rtc : BitVec 48)
  /-- NONCE_EXPIRY (R523): A challenge nonce expires after 600 s. -/
  | nonceExpiry
  /-- SERVICE_TIMEOUT (R515): service_timeout expiry closes debug and returns SERVICE to FIELD. -/
  | serviceTimeout
  /-- FREEZE (R527): FREEZE_N asserted closes the gates without loss of lock and enters CAPTURED, or is ignored. -/
  | freeze (ticks : Fin 12)
  /-- THAW (R532): On a marker of index 0 with FREEZE_N high, lock held and no scan running, the device thaws. -/
  | thaw (refPeriods rtcPeriods : BitVec 48)
  /-- TAP_RESET (R522): TRST_N or five TCK cycles with TMS high reset the TAP and select IDCODE. -/
  | tapReset
  /-- IDCODE (R522): The IDCODE instruction returns 0x1484_018B. -/
  | idcode
  /-- SAMPLE_PRELOAD (R522): The SAMPLE/PRELOAD instruction samples or preloads the boundary scan. -/
  | samplePreload (sampled preload : List Bool)
  /-- EXTEST (R522): EXTEST drives the boundary, or selects BYPASS where disallowed. -/
  | extest
  /-- CLAMP (R522): CLAMP holds the boundary outputs, where available. -/
  | clamp
  /-- HIGHZ (R522): HIGHZ places the outputs in high impedance, where available. -/
  | highz
  /-- AUTH (R522): The AUTH instruction selects the authentication data register. -/
  | auth
  /-- AUTH_OPEN (R522): An AUTH OPEN operation with presence opens debug with scope FULL in BLANK, PROVISIONED or RETIRED. -/
  | authOpen
  /-- AUTH_CLOSE (R522): An AUTH CLOSE operation closes debug, leaving SERVICE for FIELD. -/
  | authClose
  /-- TAP_AUTH_PASSWORD (R523): A password operation through the TAP starts a verification with scope CUSTOMER. -/
  | tapAuthPassword (password : BitVec 128)
  /-- TAP_AUTH_CHALLENGE (R523): A challenge operation through the TAP returns a nonce and the device identifier. -/
  | tapAuthChallenge (nonce : BitVec 256)
  /-- TAP_AUTH_RESPONSE (R523): A response operation through the TAP starts a signature verification with scope VENDOR. -/
  | tapAuthResponse (scope : Word) (sigR sigS : BitVec 256)
  /-- DBG_REG (R522): DBG_REG reads and writes register blocks while debug is open and not frozen. -/
  | dbgReg (block : BitVec 8) (offset : BitVec 24) (value : Option Word)
  /-- FRZ_READ (R530): A FRZ_READ data scan selects a range or shifts out the next word of frozen state. -/
  | frzRead (command : BitVec 64)
  /-- DBG_STATUS (R522): DBG_STATUS reads the security block. -/
  | dbgStatus (word : Fin 12)
  /-- BYPASS (R522): BYPASS, or any unlisted code, selects the bypass register. -/
  | bypass
  /-- HOST_TLP (R538): A memory or configuration request from the host is taken as consecutive accesses to BAR0, BAR2 or BAR4. -/
  | hostTlp (tlp : Tlp) (clash : List (Nat × Word))
  /-- LINK_UP (R553): The link trains to L0 after PERST_N rises. -/
  | linkUp (speed : Fin 4) (x2 : Bool)
  /-- HOST_LINK_LOSS (R554): DL_Down, PERST_N, hot reset, FLR or D3hot loses the host link and discards rings, sessions and delegations. -/
  | hostLinkLoss (cause : Fin 5)
  /-- SPI_TIMEOUT (R554): spi_timeout without an SPI transaction loses the host link. -/
  | spiTimeout
  /-- HL_DB (R544): A doorbell write makes new requests available and frees consumed responses, or is ignored as a ring error. -/
  | hlDb (cls : Cls) (reqProd rspCons : BitVec 16)
  /-- RING_INIT (R550): Writing HL_RING_CTRL.init starts initialisation of every ring. -/
  | ringInit
  /-- RING_INIT_DONE (R550): Within 20 µs the rings are empty, halts cleared and init_needed cleared. -/
  | ringInitDone
  /-- EVT_CONS_WRITE (R541): A write of HL_EVT_CONS frees event records, ignored past prod. -/
  | evtConsWrite (value : BitVec 16)
  /-- HL_TIME (R394): A read of HL_TIME's sec_lo latches the local clock. -/
  | hlTime
  /-- MSIX_UNMASK (R31): Unmasking or enabling a vector with its pending bit set sends the message. -/
  | msixUnmask (vector : Fin 32)
  /-- IRQ_MOD_EXPIRY (R540): A moderation interval ends and one message signals the writes made inside it. -/
  | irqModExpiry (cls : Fin 3)
  /-- SPI_TRANSACTION (R556): An SPI transaction reads or writes words of a BAR space with a CRC-16. -/
  | spiTransaction (mosi : List Byte) (clash : List (Nat × Word))
  /-- DEV_RESET (R488): Writing HL_RESET.dev_reset with key 0xA5 runs the shutdown steps and resets the main domain. -/
  | devReset (key : BitVec 8) (rtc : BitVec 48)
  /-- RESPONSE_RELEASE (R545): A held response is written as soon as its response ring has room. -/
  | responseRelease (cls : Cls)
  /-- REGISTER_WRITE (R11): A write to a register field without behaviour of its own takes effect under its access code. -/
  | registerWrite (address value : Word)
  /-- PING (R565): PING returns the value and the time of receipt. -/
  | ping (r : Req) (p : List Byte)
  /-- GET_INFO (R565): GET_INFO returns identity, versions, mode and lifecycle. -/
  | getInfo (r : Req) (p : List Byte)
  /-- SET_MODE (R566): SET_MODE requests a power mode, answered when reached or refused. -/
  | setMode (r : Req) (p : List Byte)
  /-- POWER_CFG (R565): POWER_CFG sets auto-promotion, boot mode and wake enables. -/
  | powerCfg (r : Req) (p : List Byte)
  /-- WAKE_ALARM (R565): WAKE_ALARM sets the RTC wake alarm. -/
  | wakeAlarm (r : Req) (p : List Byte)
  /-- FW_CHUNK (R564): FW_CHUNK stages a chunk of a firmware image. -/
  | fwChunk (r : Req) (p : List Byte)
  /-- FW_COMMIT (R567): FW_COMMIT verifies the staged image and writes it over the older slot. -/
  | fwCommit (r : Req) (p : List Byte)
  /-- LANE_SET (R568): LANE_SET programs a lane preset or stops the lane. -/
  | laneSet (r : Req) (p : List Byte)
  /-- SIGNAL_ADD (R235): SIGNAL_ADD admits a channel, evicting a lower priority one or refusing. -/
  | signalAdd (r : Req) (p : List Byte)
  /-- SIGNAL_DROP (R568): SIGNAL_DROP ends the channels of a signal. -/
  | signalDrop (r : Req) (p : List Byte)
  /-- CHANNEL_POLICY (R569): CHANNEL_POLICY sets pre-emption, drop threshold and priorities. -/
  | channelPolicy (r : Req) (p : List Byte)
  /-- REPORT_CFG (R568): REPORT_CFG sets report period, alert limits, integrity risk, corrections and OSNMA. -/
  | reportCfg (r : Req) (p : List Byte)
  /-- AIDING (R568): AIDING supplies position, uncertainty and REFCLK tolerance. -/
  | aiding (r : Req) (p : List Byte)
  /-- NAV_AIDING (R568): NAV_AIDING supplies orbit data in RTCM frames. -/
  | navAiding (r : Req) (p : List Byte)
  /-- CORRECTIONS (R317): CORRECTIONS delivers RTCM correction frames, rejected whole on a CRC failure. -/
  | corrections (r : Req) (p : List Byte)
  /-- SEARCH (R568): SEARCH builds a thresher pass and answers at pass_done. -/
  | search (r : Req) (p : List Byte)
  /-- DECLARE (R326): DECLARE sets or cancels a declared static position. -/
  | declare (r : Req) (p : List Byte)
  /-- NAV_DATA_GET (R568): NAV_DATA_GET returns decoded broadcast data in chunks. -/
  | navDataGet (r : Req) (p : List Byte)
  /-- SNAP_ARM (R330): SNAP_ARM arms a capture or refuses it. -/
  | snapArm (r : Req) (p : List Byte)
  /-- SNAP_ABORT (R570): SNAP_ABORT ends a running capture truncated. -/
  | snapAbort (r : Req) (p : List Byte)
  /-- SNAP_INFO (R570): SNAP_INFO returns a snapshot header. -/
  | snapInfo (r : Req) (p : List Byte)
  /-- SNAP_LIST (R570): SNAP_LIST returns the held snapshots. -/
  | snapList (r : Req) (p : List Byte)
  /-- SNAP_LOAD (R570): SNAP_LOAD loads a stored snapshot into gleaner bays. -/
  | snapLoad (r : Req) (p : List Byte)
  /-- SNAP_FIX (R340): SNAP_FIX computes a snapshot fix from an offline pass. -/
  | snapFix (r : Req) (p : List Byte)
  /-- SNAP_SCHEDULE (R346): SNAP_SCHEDULE sets a parked schedule entry. -/
  | snapSchedule (r : Req) (p : List Byte)
  /-- SNAP_POLICY (R342): SNAP_POLICY selects OVERWRITE or SKIP. -/
  | snapPolicy (r : Req) (p : List Byte)
  /-- SNAP_EXPORT (R345): SNAP_EXPORT sends a snapshot as an encrypted container in chunks. -/
  | snapExport (r : Req) (p : List Byte)
  /-- SNAP_DELETE (R570): SNAP_DELETE deletes a snapshot. -/
  | snapDelete (r : Req) (p : List Byte)
  /-- SNAP_COMMIT (R570): SNAP_COMMIT commits a snapshot to the non-volatile area. -/
  | snapCommit (r : Req) (p : List Byte)
  /-- TIME_GET (R571): TIME_GET returns the local time and its quality. -/
  | timeGet (r : Req) (p : List Byte)
  /-- TIME_CFG (R571): TIME_CFG sets step, slew and source-selection parameters. -/
  | timeCfg (r : Req) (p : List Byte)
  /-- UTC_SET (R369): UTC_SET supplies the UTC offset and a pending leap at lowest precedence. -/
  | utcSet (r : Req) (p : List Byte)
  /-- TRIG_ARM (R571): TRIG_ARM arms a host trigger, replacing any earlier arming. -/
  | trigArm (r : Req) (p : List Byte)
  /-- TRIG_CANCEL (R571): TRIG_CANCEL disarms a host trigger. -/
  | trigCancel (r : Req) (p : List Byte)
  /-- CAP_CFG (R571): CAP_CFG configures a capture channel and its window. -/
  | capCfg (r : Req) (p : List Byte)
  /-- CAP_READ (R379): CAP_READ returns a capture and clears valid. -/
  | capRead (r : Req) (p : List Byte)
  /-- TP_CFG (R571): TP_CFG configures a time pulse. -/
  | tpCfg (r : Req) (p : List Byte)
  /-- NET_CFG (R413): NET_CFG configures the network port and restarts it when profile or intervals change. -/
  | netCfg (r : Req) (p : List Byte)
  /-- NET_LAT (R397): NET_LAT sets the PHY latencies for each speed. -/
  | netLat (r : Req) (p : List Byte)
  /-- NET_ASYM (R408): NET_ASYM sets or adds the asymmetry correction, slewing the change. -/
  | netAsym (r : Req) (p : List Byte)
  /-- NET_REALIGN (R408): NET_REALIGN arms a step to the refused offset under WY2210. -/
  | netRealign (r : Req) (p : List Byte)
  /-- NET_INFO (R572): NET_INFO returns port status and the foreign-master table. -/
  | netInfo (r : Req) (p : List Byte)
  /-- UWB_CFG (R574): UWB_CFG sets radio defaults and coexistence. -/
  | uwbCfg (r : Req) (p : List Byte)
  /-- UWB_CAL (R420): UWB_CAL requests calibration of a channel. -/
  | uwbCal (r : Req) (p : List Byte)
  /-- UWB_PSDU (R574): UWB_PSDU loads part of a PSDU buffer. -/
  | uwbPsdu (r : Req) (p : List Byte)
  /-- UWB_TX (R427): UWB_TX schedules a transmission, answered by its outcome. -/
  | uwbTx (r : Req) (p : List Byte)
  /-- UWB_RX (R429): UWB_RX schedules a receive window. -/
  | uwbRx (r : Req) (p : List Byte)
  /-- UWB_STOP (R574): UWB_STOP ends an activity with ABORTED, cause STOPPED. -/
  | uwbStop (r : Req) (p : List Byte)
  /-- SESSION_CREATE (R440): SESSION_CREATE sets up a ranging session or refuses it. -/
  | sessionCreate (r : Req) (p : List Byte)
  /-- SESSION_START (R442): SESSION_START starts a session's rounds from t_0. -/
  | sessionStart (r : Req) (p : List Byte)
  /-- SESSION_STOP (R574): SESSION_STOP stops a session at the end of its round. -/
  | sessionStop (r : Req) (p : List Byte)
  /-- SESSION_DELETE (R441): SESSION_DELETE deletes a session and zeroises its key. -/
  | sessionDelete (r : Req) (p : List Byte)
  /-- SESSION_PSDU (R574): SESSION_PSDU supplies a slot's PSDU. -/
  | sessionPsdu (r : Req) (p : List Byte)
  /-- REMOTE_INTERVALS (R444): REMOTE_INTERVALS supplies a round's remote intervals. -/
  | remoteIntervals (r : Req) (p : List Byte)
  /-- REG_WRITE (R436): REG_WRITE writes the regulatory store under the market lock rules. -/
  | regWrite (r : Req) (p : List Byte)
  /-- REG_READ_REGULATORY (R435): The radio group's REG_READ returns the regulatory store copy in force. -/
  | regReadRegulatory (r : Req) (p : List Byte)
  /-- ANT_DELAY (R424): ANT_DELAY writes antenna delays outside FIELD and RETIRED. -/
  | antDelay (r : Req) (p : List Byte)
  /-- LISTEN_CFG (R446): LISTEN_CFG sets the WATCH listen schedule. -/
  | listenCfg (r : Req) (p : List Byte)
  /-- DELEGATE (R45): DELEGATE hands a UART, check-value unit or bay to the host or a kernel, or refuses. -/
  | delegate (r : Req) (p : List Byte)
  /-- RETURN (R48): RETURN returns a delegated block to the firmware. -/
  | returnBlock (r : Req) (p : List Byte)
  /-- OWNERS (R575): OWNERS returns the owner of every UART, unit and bay. -/
  | owners (r : Req) (p : List Byte)
  /-- SEC_GET (R576): SEC_GET returns the security state. -/
  | secGet (r : Req) (p : List Byte)
  /-- LIFECYCLE (R515): LIFECYCLE requests a lifecycle transition. -/
  | lifecycle (r : Req) (p : List Byte)
  /-- KEY_INSTALL (R509): KEY_INSTALL installs a key and returns its generation. -/
  | keyInstall (r : Req) (p : List Byte) (salt : BitVec 128)
  /-- CERT_READ (R510): CERT_READ returns a certificate, public key or the retirement statement. -/
  | certRead (r : Req) (p : List Byte)
  /-- CERT_INSTALL (R510): CERT_INSTALL installs the host's position certificate. -/
  | certInstall (r : Req) (p : List Byte)
  /-- SEC_MIN (R511): SEC_MIN raises the stored minimum sec_version. -/
  | secMin (r : Req) (p : List Byte)
  /-- AUTH_CHALLENGE (R523): AUTH_CHALLENGE returns a nonce and the device identifier. -/
  | authChallenge (r : Req) (p : List Byte) (nonce : BitVec 256)
  /-- AUTH_RESPONSE (R523): AUTH_RESPONSE starts verification of a signed response. -/
  | authResponse (r : Req) (p : List Byte)
  /-- AUTH_PASSWORD (R523): AUTH_PASSWORD starts verification of the debug password. -/
  | authPassword (r : Req) (p : List Byte)
  /-- SEAL (R521): SEAL configures seal watch or clears the break latch. -/
  | sealReq (r : Req) (p : List Byte)
  /-- MARKET_LOCK (R436): MARKET_LOCK sets the market lock fuse. -/
  | marketLock (r : Req) (p : List Byte)
  /-- VENDOR_DEBUG_OFF (R524): VENDOR_DEBUG_OFF blows the vendor_debug_off fuse. -/
  | vendorDebugOff (r : Req) (p : List Byte)
  /-- DEBUG (R522): DEBUG opens or closes debug access. -/
  | debug (r : Req) (p : List Byte)
  /-- REG_READ (R578): The diagnostics REG_READ returns register words without side effect. -/
  | regRead (r : Req) (p : List Byte)
  /-- SIGNAL_STATUS (R578): SIGNAL_STATUS returns per-signal lock state and C/N0. -/
  | signalStatus (r : Req) (p : List Byte)
  /-- ACQ_SUMMARY (R578): ACQ_SUMMARY returns the last pass's outcomes. -/
  | acqSummary (r : Req) (p : List Byte)
  /-- COUNTERS (R579): COUNTERS returns the sixteen counters. -/
  | counters (r : Req) (p : List Byte)
  /-- EVENT_LOG (R578): EVENT_LOG returns the last 256 events. -/
  | eventLog (r : Req) (p : List Byte)
  /-- COUNTERS_CLEAR (R579): COUNTERS_CLEAR zeroes the counters. -/
  | countersClear (r : Req) (p : List Byte)
  /-- PAIR_RETEST (R42): PAIR_RETEST retests the hung pair, which rejoins if it passes. -/
  | pairRetest (r : Req) (p : List Byte)
  /-- KERNEL_LOAD (R295): KERNEL_LOAD stages a chunk of a kernel image. -/
  | kernelLoad (r : Req) (p : List Byte)
  /-- KERNEL_START (R297): KERNEL_START resets the core and runs the kernel from its entry. -/
  | kernelStart (r : Req) (p : List Byte)
  /-- KERNEL_STOP (R297): KERNEL_STOP stops the kernel at its next unheld slot. -/
  | kernelStop (r : Req) (p : List Byte)
  /-- KERNEL_UNLOAD (R297): KERNEL_UNLOAD stops the core, clears it, returns its bays and withdraws routes and feed. -/
  | kernelUnload (r : Req) (p : List Byte)
  /-- KERNEL_STATUS (R580): KERNEL_STATUS returns the state of each open core. -/
  | kernelStatus (r : Req) (p : List Byte)
  /-- KERNEL_FEED (R299): KERNEL_FEED grants or withdraws a lane feed. -/
  | kernelFeed (r : Req) (p : List Byte)
  /-- KERNEL_DOORBELL (R580): KERNEL_DOORBELL writes a running kernel's doorbell. -/
  | kernelDoorbell (r : Req) (p : List Byte)
  /-- KERNEL_TRIG (R607): KERNEL_TRIG routes a trigger to an open core or removes the route. -/
  | kernelTrig (r : Req) (p : List Byte)
  /-- ALIGNMENT_MARKER (R57): At every 32nd REFCLK edge an alignment marker falls, its index advances and settings deferred to the next marker (gain code, TIME_INC, TIME_SLEW share, bw_sel) take effect. -/
  | alignmentMarker
  /-- COEX_REQ_ASSERT (R438): lead_us before the commit instant of a TX or RX activity, COEX_REQ and COEX_PRI are asserted unless the run is merged. -/
  | coexReqAssert
  /-- WAKE_MASK_RELEASE (R471): A wake-masked UART line sampled high for the required consecutive samples clears wake_masked so that it can wake the device again. -/
  | wakeMaskRelease (uart : Fin 8)
  /-- LANE_FEED_WORD (R300): A lane feed takes every 2^q-th lane word, writes it into the feed buffer or drops it as an overrun, and may raise source 6 on the open core. -/
  | laneFeedWord (core : Fin 4)
  /-- FW_COMMIT_DONE (R567): Verification of the staged firmware image and its write over the older slot end, and FW_COMMIT receives its final OK or failure. -/
  | fwCommitDone (written : Bool)
  /-- PROVISION_DONE (R515): Generation of the position key, issue of its certificate and blowing of fuse 1 complete, the lifecycle becomes PROVISIONED and the request's final OK is sent. -/
  | provisionDone (done : Bool)
  /-- PAIR_RETEST_DONE (R42): The retest of the hung steward pair ends, the pair rejoins or stays in reset, and PAIR_RETEST receives its final result. -/
  | pairRetestDone (pass : Bool)
  /-- SNAP_LOAD_DONE (R342): The loading of a stored snapshot from the non-volatile area into gleaner-owned bays ends and SNAP_LOAD is answered. -/
  | snapLoadDone
  deriving DecidableEq, Repr

end Sys2Proof
end

