-- ==== Sys2Proof/Config.lean ====
section
/-! DEFINITION. What the spec leaves open, as constants without a body: nothing in Lean can evaluate them or prove a
value of them, so a claim that mentions one holds for every value (log entries name each). -/

namespace Sys2Proof

/-- A value that the spec leaves undefined, the n-th one the machine met (log entry 3). -/
opaque Config.freeValue : Nat → Nat

/-- Where a pair's class-H state of 2,048 words begins in the mirrored pair, by pair; the word among them that holds the commit
record of a class-H command, and the record; and a word of the state that a change writes, and what it writes (R39, R40; log
entry 67). -/
opaque Config.hstateBase : Nat → Nat
opaque Config.journalWord : Nat → Nat
opaque Config.commitRecord : Nat → Nat
opaque Config.hstateWord : Nat → Nat
opaque Config.hstateData : Nat → Nat

/-- What a read through the silo's request port returns: the spec gives the port and no content (log entry 4). -/
opaque Config.siloRead : Nat → Nat

/-- The event number that EVENT_LOG shows for an event that carries none, and the 8 data bytes it shows for an event
whose payload is longer than 8 bytes (R541, R578; log entry 5). -/
opaque Config.logNumber : Nat → Nat
opaque Config.logData : List Byte → Nat

/-- Converter sample n of the GNSS converter, under a gain code and its sub-converter's offset, gain and skew, and whether
the LNA's peak detector reports compression at it (R115, R125): the antenna's signal (log entry 56). -/
opaque Config.adc : Nat → Nat → Int → Int → Int → BitVec 10
opaque Config.compressed : Nat → Bool

/-- What a calibration sets, or an update changes, for a sub-converter, the n-th time: offset, gain in 0.0001 dB, and skew in
fs (R131, R133; log entry 58). -/
opaque Config.calOffset : Nat → Nat → Int
opaque Config.calGain : Nat → Nat → Int
opaque Config.calSkew : Nat → Nat → Int

/-- The first coefficients of a ROM response, up to the one before its group delay (R147; log entry 61). -/
opaque Config.romCoef : Nat → Nat → Int

/-- The rounding of a notch's output, and its tracking loop: the next frequency in units of rate / 2^24 and frequency rate, from
the present ones, track_bw and the output (R152; log entry 62). -/
opaque Config.notchRound : Nat → Nat → Int
opaque Config.notchFreq : Nat → Int → Nat → Int × Int → Nat
opaque Config.notchRate : Nat → Int → Nat → Int × Int → Int

/-- The next state of a fractional modulator, from its state, whether dither is enabled, and the LFSR (R53; log entry 65). -/
opaque Config.modulator : Nat → Bool → Nat → Nat

/-- The words of the channel impulse response that the baseband writes for a frame, the n-th one (R430; log entry 76). -/
opaque Config.impulse : Nat → List Nat

/-- The milliseconds left in an open presence window when it is looked at: the monitor's own clock counts them (R507, R517; log
entry 77). -/
opaque Config.presenceLeft : Nat → Nat

/-- The PRNs of each signal's system: R177 checks them and no chapter lists them (log entry 7). -/
opaque Config.prnOfSystem : Nat → Nat → Bool

/-- The chips of the component that the thresher searches, by signal, satellite and chip index of the code period: 1, −1, or 0
for a chip that R173 leaves zero (R173; log entry 9). -/
opaque Config.searchChip : Nat → Nat → Nat → Int

/-- The step that the thresher's quantiser takes, between the bounds of R174, and whether a component of a job sample between
two codes takes the upper one, by its distance from the lower and the step (R174; log entry 71). -/
opaque Config.quantStep : Nat → Nat
opaque Config.quantUp : Nat → Nat → Bool

/-- The rounding of a number of the firmware's whose formula the spec gives (R188, R189, R194, R195; log entry 8): whether the
n-th one is rounded up. -/
opaque Config.roundUp : Nat → Bool

/-- Whether the sheaves hold a template for a signal and a satellite (R209, R213; log entry 9): the generators and memory codes
are not listed. -/
opaque Config.hasTemplate : Nat → Nat → Bool

/-- A template's chips of the tracked component and of the data component, by signal, satellite and chip index, and the
chips of the secondary code (R209, R211; log entry 9). -/
opaque Config.templateChip : Nat → Nat → Nat → Bool
opaque Config.dataChip : Nat → Nat → Nat → Bool
opaque Config.secondaryChip : Nat → Nat → Nat → Bool

/-- A BeiDou satellite sends D1 data, and so NH20 (R213; log entry 9). -/
opaque Config.sendsD1 : Nat → Bool

/-- The subcarrier table of R210 by shape from 1 to 7, signal, chip index and phase: I and Q, 3-bit signed (log entry 9). -/
opaque Config.subcarrier : Nat → Nat → Nat → Nat → BitVec 3 × BitVec 3

/-- The firmware's frequency error estimate lies within 10 Hz, and its bit or secondary-code synchronisation is found, at
a dump given as its words: R237 states no estimator (log entry 10). -/
opaque Config.freqClose : List Nat → Bool
opaque Config.syncFound : List Nat → Bool

/-- SHA-256, and the ECDSA P-256 signatures of the silo under its position key (R315): the standards give them, and the
private key and the signature's random number are the device's (log entry 11). -/
opaque Config.sha256 : List Byte → BitVec 256
opaque Config.positionSign : BitVec 256 → BitVec 256 × BitVec 256

/-- key_id of the position key (R309). -/
opaque Config.positionKeyId : BitVec 32

/-- The navigation engine's snapshot fix from the header and the result records of an offline pass (R340): R304 to R327 state
no algorithm (log entry 12). -/
opaque Config.snapshotFix : List Byte → List (List Byte) → NavSolution

/-- The device identifier of R508, the salt of R344, and AES-256-GCM (R343), by key, iv, additional data and plain text,
with the ciphertext and the tag: the standard gives it (log entry 11). -/
opaque Config.deviceId : BitVec 128
opaque Config.exportSalt : BitVec 32
opaque Config.aesGcm : List Byte → List Byte → List Byte → List Byte → List Byte × BitVec 128

/-- What the navigation engine predicts for a signal and a satellite, the n-th time (R188 to R191; log entry 15): the orbit
data in force, 0 none, 1 an ephemeris within its validity, 2 an almanac or an ephemeris up to 4 h beyond it; the satellite's
time at the reception, t̂ − ρ̂ / c + Δt̂_sv, in units of local time; and the range rate in mm/s. -/
opaque Config.orbitData : Nat → Nat → Nat → Nat
opaque Config.signalTime : Nat → Nat → Nat → Nat
opaque Config.rangeRate : Nat → Nat → Nat → Int

/-- The predicted fractional frequency error of REFCLK in 10^-12, its uncertainty in ppb with drift aiding, and the
uncertainties of the engine's own position in mm and velocity in mm/s, the n-th time (R188 to R190; log entry 15). -/
opaque Config.driftError : Nat → Int
opaque Config.driftUnc : Nat → Option Nat
opaque Config.posUnc : Nat → Nat
opaque Config.velUnc : Nat → Nat

/-- The satellites of a signal's system that the navigation engine predicts above its elevation mask, in descending
elevation (R569; log entry 15). -/
opaque Config.predicted : Nat → Nat → List Nat

/-- The port's clock identity (R402; log entry 16). -/
opaque Config.clockIdentity : BitVec 64

/-- The aperture delay t_ap of the device in units of local time: R596 gives its range and a typical value (log entry 13). -/
opaque Config.apertureDelay : Nat

/-- The time servo's steering: TIME_INC after the n-th solution used, in units of local time, and the rate at which it
estimates that TIME_UNC grows in holdover, in 10^-10 (R363; log entry 14). -/
opaque Config.steeredInc : Nat → Nat
opaque Config.holdoverGrowth : Nat → Nat

/-- The access radio's factory calibration (R432, R433): comp(T, V) in 0.25 dB from the die temperature in °C and the
supply in mV, limited to −16 to +16, and the peak factor of each mode in 0.25 dB (log entry 17). -/
opaque Config.comp : Int → Nat → Int
opaque Config.peakFactor : Nat → Int

/-- The air of a frame from its RMARKER to its last pulse in units of local time, from its options and the PSDU's
length: IEEE 802.15.4z gives it (R415; log entry 17). -/
opaque Config.frameTail : List Nat → Nat → Nat

/-- The density that a session's transmissions request in 0.25 dBm/MHz: SESSION_CREATE names none (log entry 17). -/
opaque Config.sessionPower : BitVec 16

/-- AES key wrap (R441, R509): the key unwrapped under another, if it unwraps (log entry 11). -/
opaque Config.keyUnwrap : List Byte → List Byte → Option (List Byte)

/-- ECDSA P-256 verification of a signature r, s over a digest under a public key (R294), and under Akerale's debug
verification key (R523; log entry 11). -/
opaque Config.ecdsaVerify : List Byte → BitVec 256 → List Byte → Bool
opaque Config.debugVerify : BitVec 256 → List Byte → Bool

/-- Jopen images (R511, R567; log entry 19), absent for the image of the factory: the version [23:16].[15:8].[7:0] that an
image carries, whether it verifies against Akerale's firmware key, and the lowest version that the security area admits. -/
opaque Config.fwVersion : Option (List Byte) → BitVec 24
opaque Config.fwVerifies : List Byte → Bool
opaque Config.fwMinimum : Nat

/-- The identity certificate that Akerale issued, the position public key, the certificate that the silo issued for it
(R510), and the public key that a DER certificate carries, if it is one (log entry 11). -/
opaque Config.identityCert : List Byte
opaque Config.positionPublic : List Byte
opaque Config.positionCert : List Byte
opaque Config.certKey : List Byte → Option (List Byte)

/-- The retirement statement that the identity key signs, by the RTC count that it carries (R515; log entry 11). -/
opaque Config.retirement : Nat → List Byte

/-- The word of a steward core's local memory, with its check bits, at a read-out: by the count of free values, core and
word; none beyond the region (R530; log entry 3). -/
opaque Config.stewardWord : Nat → Nat → Nat → Option (BitVec 39)

end Sys2Proof
end

