-- ==== Sys2Proof/Machine/Bits.lean ====
section
/-! DEFINITION. Bit fields, two's complement, byte order, times, the Hsiao codes of R605 and the cyclic checks that
messages, snapshots and check-value units share (R473). -/

namespace Sys2Proof.Machine

/-- Bits [lo + w - 1 : lo] of a number (R7). -/
def bits (v lo w : Nat) : Nat := v / 2 ^ lo % 2 ^ w

/-- Bit i of a number. -/
def bit (v i : Nat) : Bool := v / 2 ^ i % 2 == 1

/-- A Boolean as a bit. -/
def b2n (b : Bool) : Nat := if b then 1 else 0

/-- The two's complement value of the low w bits (R9). -/
def signed (w v : Nat) : Int := if 2 * (v % 2 ^ w) < 2 ^ w then ((v % 2 ^ w : Nat) : Int) else ((v % 2 ^ w : Nat) : Int) - (2 ^ w : Nat)

/-- The w-bit two's complement pattern of an integer (R9). -/
def unsigned (w : Nat) (v : Int) : Nat := (v % ((2 ^ w : Nat) : Int)).toNat

/-- An integer limited to lo to hi. -/
def clampInt (lo hi v : Int) : Int := if v < lo then lo else if hi < v then hi else v

/-- A number limited to lo to hi. -/
def clampNat (lo hi v : Nat) : Nat := if v < lo then lo else if hi < v then hi else v

/-- The absolute value of an integer, as a number. -/
def mag (v : Int) : Nat := v.natAbs

/-- The largest number from d to d + 2^n − 1 at which a property holds that holds at d, and at no number above one at which it
does not. -/
def bisect (p : Nat → Bool) : Nat → Nat → Nat
  | 0, d => d
  | n + 1, d => bisect p n (if p (d + 2 ^ n) then d + 2 ^ n else d)

/-- The largest number of hundredths of a decibel d ≤ limit < 2^16 with 10^(d / 1000) ≤ a / b, for b ≤ a. -/
def centiBels (a b limit : Nat) : Nat := bisect (fun d => decide (d ≤ limit) && decide (10 ^ d * b ^ 1000 ≤ a ^ 1000)) 16 0

/-- n bytes of a number, the least significant first (R8). -/
def le : Nat → Nat → List Byte
  | 0, _ => []
  | n + 1, v => BitVec.ofNat 8 v :: le n (v / 256)

/-- The number that bytes hold, the least significant first (R8). -/
def leVal : List Byte → Nat
  | [] => 0
  | b :: bs => b.toNat + 256 * leVal bs

/-- The field of n bytes at an offset of a payload, least significant first; absent bytes count as zero. -/
def fieldAt (p : List Byte) (off n : Nat) : Nat := leVal ((p.drop off).take n)

/-- The signed field of n bytes at an offset of a payload. -/
def sfieldAt (p : List Byte) (off n : Nat) : Int := signed (8 * n) (fieldAt p off n)

/-- Units of local time in one second: 10^9 ns of 2^32 units each (R349). -/
def second : Nat := 1000000000 * 4294967296

/-- Units of local time in one nanosecond. -/
def nanosecond : Nat := 4294967296

/-- The seconds of a time. -/
def tSec (t : Time) : Nat := t / second

/-- The nanoseconds of a time. -/
def tNs (t : Time) : Nat := t % second / nanosecond

/-- The fraction of a time, in units of 2^-32 ns. -/
def tFrac (t : Time) : Nat := t % nanosecond

/-- The time made of seconds, nanoseconds and fraction. -/
def mkTime (sec ns frac : Nat) : Time := (sec * 1000000000 + ns) * nanosecond + frac

/-- A time in the 16-byte layout of R560: sec (8), ns (4), frac (4). -/
def timeBytes (t : Time) : List Byte := le 8 (tSec t) ++ le 4 (tNs t) ++ le 4 (tFrac t)

/-- The time in the 16 bytes at an offset of a payload (R560). -/
def timeAt (p : List Byte) (off : Nat) : Time := mkTime (fieldAt p off 8) (fieldAt p (off + 8) 4) (fieldAt p (off + 12) 4)

/-- The 56 values of eight bits with exactly three bits set, ascending, and then 0x1F: the columns of R605. The narrower
codes take a first part of this list. -/
def hsiaoColumns : List Nat := [
  0x07, 0x0B, 0x0D, 0x0E, 0x13, 0x15, 0x16, 0x19, 0x1A, 0x1C, 0x23, 0x25, 0x26, 0x29,
  0x2A, 0x2C, 0x31, 0x32, 0x34, 0x38, 0x43, 0x45, 0x46, 0x49, 0x4A, 0x4C, 0x51, 0x52,
  0x54, 0x58, 0x61, 0x62, 0x64, 0x68, 0x70, 0x83, 0x85, 0x86, 0x89, 0x8A, 0x8C, 0x91,
  0x92, 0x94, 0x98, 0xA1, 0xA2, 0xA4, 0xA8, 0xB0, 0xC1, 0xC2, 0xC4, 0xC8, 0xD0, 0xE0,
  0x1F]

/-- The check bits of covered bits, given from bit 0 upward as a number (R605): the exclusive or of the columns of the
bits that are set. -/
def checkBits : List Nat → Nat → Nat
  | [], _ => 0
  | c :: cs, v => (if v % 2 == 1 then c else 0) ^^^ checkBits cs (v / 2)

/-- What a syndrome says (R605): clean, a single-bit error in a stored bit, the column of a covered bit that is not
stored, an even weight, or another odd weight. -/
inductive Syndrome where
  | clean
  | dataBit (i : Nat)
  | checkBit
  | indexColumn
  | even
  | odd
  deriving DecidableEq, Repr

/-- The position of a value in a list of columns. -/
def columnAt (v : Nat) : List Nat → Nat → Option Nat
  | [], _ => none
  | c :: cs, i => if c == v then some i else columnAt v cs (i + 1)

/-- The number of bits set among the low n bits. -/
def popCount : Nat → Nat → Nat
  | 0, _ => 0
  | n + 1, v => v % 2 + popCount n (v / 2)

/-- The classification of a syndrome for a code of `stored` stored data bits with the columns given (R605). -/
def classify (stored : Nat) (cols : List Nat) (syn : Nat) : Syndrome :=
  if syn == 0 then .clean
  else match columnAt syn cols 0 with
    | some i => if i < stored then .dataBit i else .indexColumn
    | none =>
      if popCount 8 syn == 1 then .checkBit
      else if popCount 8 syn % 2 == 0 then .even
      else .odd

/-- The covered bits of a granary word: 40 data bits and the 17-bit index (R87, R605). -/
def granCheck (data idx : Nat) : Nat := checkBits hsiaoColumns (data % 2 ^ 40 + idx % 2 ^ 17 * 2 ^ 40)

/-- The stored 48 bits of a granary word written with valid check bits (R87). -/
def granStore (data idx : Nat) : Word48 := BitVec.ofNat 48 (data % 2 ^ 40 + granCheck data idx * 2 ^ 40)

/-- The result of a read through a SECDED code: the data, and what the syndrome says. -/
structure EccRead where
  data : Nat
  syn  : Syndrome
  deriving DecidableEq, Repr

/-- The data corrected where the syndrome names a data bit (R605). -/
def eccFix (data : Nat) : Syndrome → Nat
  | .dataBit i => data ^^^ 2 ^ i
  | _ => data

/-- A syndrome of a single-bit error in a stored bit. -/
def Syndrome.corrected : Syndrome → Bool
  | .dataBit _ => true
  | .checkBit => true
  | _ => false

/-- An uncorrectable syndrome. -/
def Syndrome.bad : Syndrome → Bool
  | .indexColumn => true
  | .even => true
  | .odd => true
  | _ => false

/-- A read of 48 stored bits at a word index (R87, R605). -/
def granLoad (w : Word48) (idx : Nat) : EccRead :=
  let syn := classify 40 hsiaoColumns (bits w.toNat 40 8 ^^^ granCheck (bits w.toNat 0 40) idx)
  ⟨eccFix (bits w.toNat 0 40) syn, syn⟩

/-- The stored bits of a word of n data bits under a code without index bits: data low, check bits above (R605). -/
def eccStore (n data : Nat) : Nat := data % 2 ^ n + checkBits (hsiaoColumns.take n) (data % 2 ^ n) * 2 ^ n

/-- A read of stored bits under a code without index bits (R605). -/
def eccLoad (n w : Nat) : EccRead :=
  let d := w % 2 ^ n
  let syn := classify n (hsiaoColumns.take n) (w / 2 ^ n ^^^ checkBits (hsiaoColumns.take n) d)
  ⟨eccFix d syn, syn⟩

/-- One step of a reflected cyclic check on one bit. -/
def crcBitR (poly : Nat) (crc : Nat) : Nat := if crc % 2 == 1 then crc / 2 ^^^ poly else crc / 2

/-- n steps of a function. -/
def iter {α : Type} (f : α → α) : Nat → α → α
  | 0, x => x
  | n + 1, x => iter f n (f x)

/-- A reflected cyclic check fed with bytes (R473). -/
def crcR (poly : Nat) (crc : Nat) : List Byte → Nat
  | [] => crc
  | b :: bs => crcR poly (iter (crcBitR poly) 8 (crc ^^^ b.toNat)) bs

/-- One step of a forward cyclic check of width w on one bit. -/
def crcBitF (w poly : Nat) (crc : Nat) : Nat :=
  if crc / 2 ^ (w - 1) % 2 == 1 then (crc * 2) % 2 ^ w ^^^ poly else crc * 2 % 2 ^ w

/-- A forward cyclic check of width w, at least 8, fed with bytes (R473). -/
def crcF (w poly : Nat) (crc : Nat) : List Byte → Nat
  | [] => crc
  | b :: bs => crcF w poly (iter (crcBitF w poly) 8 (crc ^^^ b.toNat * 2 ^ (w - 8))) bs

/-- CRC-32C of bytes from the initial value of R473, with the final inversion. -/
def crc32c (bs : List Byte) : Nat := crcR 0x82F63B78 0xFFFFFFFF bs ^^^ 0xFFFFFFFF

/-- The first element of a list that satisfies a test. -/
def firstThat {α : Type} (p : α → Bool) : List α → Option α
  | [] => none
  | x :: xs => if p x then some x else firstThat p xs

/-- A list with the element at a place changed. -/
def modAt {α : Type} (f : α → α) : Nat → List α → List α
  | _, [] => []
  | 0, x :: xs => f x :: xs
  | n + 1, x :: xs => x :: modAt f n xs

/-- A function applied to every element of a vector. -/
def vmap {α β : Type} {n : Nat} (f : α → β) (v : Vector α n) : Vector β n := Vector.ofFn fun i => f v[i]

/-- The element of a vector at a number, the first argument where there is none. -/
def vget {α : Type} {n : Nat} (d : α) (v : Vector α n) (i : Nat) : α := if h : i < n then v[i] else d

/-- A vector with the element at a number changed, the same vector where there is none. -/
def vmod {α : Type} {n : Nat} (f : α → α) (v : Vector α n) (i : Nat) : Vector α n :=
  if h : i < n then v.set i (f v[i]) else v

end Sys2Proof.Machine
end

