-- ==== Sys2Proof/Machine/Angles.lean ====
section
/-! DEFINITION. Sines, cosines, decibels and roots in exact integer arithmetic, which the lanes (R138, R152, R153) and the
thresher use. -/

namespace Sys2Proof.Machine

/-- The scale of the fixed-point values of this file: 2^60 for one. -/
def fixOne : Nat := 2 ^ 60

/-- 2π × 2^64, rounded down. -/
def twoPi : Nat := 115904311329233965478

/-- Terms of the series of sine and cosine from the k-th on: each is the one before times −x² / ((2k + a)(2k + a + 1)). -/
def seriesFrom (x2 : Int) (a : Nat) : Nat → Int → Nat → Int
  | 0, _, _ => 0
  | n + 1, term, k =>
    term + seriesFrom x2 a n (-(term * x2 / (fixOne : Nat)) / ((2 * k + a) * (2 * k + a + 1) : Nat)) (k + 1)

/-- cos x and sin x for x in fixed point from 0 to π/4, by twelve terms of their series. -/
def cosSmall (x : Int) : Int := seriesFrom (x * x / (fixOne : Nat)) 1 12 (fixOne : Nat) 0
def sinSmall (x : Int) : Int := seriesFrom (x * x / (fixOne : Nat)) 2 12 x 0

/-- cos(2π × num / den) in fixed point. -/
def cosTurn (num den : Nat) : Int :=
  -- quarter turns are den units of a
  let a := 4 * (num % den)
  let a := min a (4 * den - a)
  let neg := decide (den < a)
  let a := if neg then 2 * den - a else a
  let arc := fun (n : Nat) => ((twoPi * n / (64 * den) : Nat) : Int)
  let c := if 2 * a ≤ den then cosSmall (arc a) else sinSmall (arc (den - a))
  if neg then -c else c

/-- sin(2π × num / den) in fixed point. -/
def sinTurn (num den : Nat) : Int := cosTurn (4 * num + 3 * den) (4 * den)

/-- A fixed-point value times n, rounded to the nearest integer. -/
def fixRound (n : Nat) (v : Int) : Int := (2 * (n : Int) * v + (fixOne : Nat)) / ((2 * fixOne : Nat) : Int)

/-- A power a exceeds a power b by at least d decibels: a^10 ≥ b^10 × 10^d. -/
def dbAtLeast (a b d : Nat) : Bool := decide (b ^ 10 * 10 ^ d ≤ a ^ 10)

/-- The ratio of two powers in whole decibels, rounded down, from 0 to a limit; the limit where b is zero and a is not. -/
def dbFloor (a b limit : Nat) : Nat :=
  if a == 0 then 0 else (List.range (limit + 1)).foldl (fun best d => if dbAtLeast a b d then d else best) 0

end Sys2Proof.Machine
end

