-- ==== Sys2Proof/Machine/Registers.lean ====
section
/-! DEFINITION. Every register of the spec's register tables: its address, its fields, the access code and the reset
value of each field (R11, R13, R14). A register's address in this model is 2^24 times the block number of R578
(0x0D sheaf, 0x0E peripheral, 0x0F host link, R530; 0x20 + n the I/O page of DSP_n), plus its offset from the
block base. -/

namespace Sys2Proof.Machine

/-- Access codes of R11. -/
inductive Access where
  | rw | ro | wo | w1c | w1s | sq | lk
  deriving DecidableEq, Repr

/-- A field of a register: the register's address, the field's lowest bit and its width. -/
structure Field where
  addr  : Nat
  lo    : Nat
  width : Nat
  deriving DecidableEq, Repr

/-- One field of a row of a register table: lowest bit, width, access code, reset value (R11, R14). -/
structure FieldSpec where
  lo     : Nat
  width  : Nat
  access : Access
  reset  : Nat
  deriving DecidableEq, Repr

/-- A register, or an array of registers at base + stride * i + step * j for i below count and j below steps. -/
structure RegRow where
  base   : Nat
  stride : Nat
  count  : Nat
  step   : Nat
  steps  : Nat
  fields : List FieldSpec
  deriving DecidableEq, Repr

/-- spec/01_architecture.md: FAB_WEIGHT is at offset 0x000 of the fabric block and sets the weights of R23. -/
def FAB_WEIGHT : Nat := 0x1000000
def FAB_WEIGHT.weight_a : Field := ⟨FAB_WEIGHT, 0, 4⟩
def FAB_WEIGHT.weight_b : Field := ⟨FAB_WEIGHT, 4, 4⟩
def FAB_WEIGHT.weight_c : Field := ⟨FAB_WEIGHT, 8, 4⟩
/-- spec/01_architecture.md: FAB_H_DEMOTE is at offset 0x004 and counts class-H requests carried as class A under R24 and R26. -/
def FAB_H_DEMOTE : Nat := 0x1000004
def FAB_H_DEMOTE.count : Field := ⟨FAB_H_DEMOTE, 0, 32⟩
/-- spec/01_architecture.md: FAB_STATUS is at offset 0x008 and reports demotions and delegation violations. -/
def FAB_STATUS : Nat := 0x1000008
def FAB_STATUS.demote_seen : Field := ⟨FAB_STATUS, 0, 1⟩
def FAB_STATUS.violation_seen : Field := ⟨FAB_STATUS, 1, 1⟩
def FAB_STATUS.clear_count : Field := ⟨FAB_STATUS, 2, 1⟩
def FAB_STATUS.last_demote_id : Field := ⟨FAB_STATUS, 8, 6⟩
def FAB_STATUS.last_viol_id : Field := ⟨FAB_STATUS, 16, 6⟩
/-- spec/01_architecture.md: FAB_VIOL_COUNT is at offset 0x00C and counts refused accesses. -/
def FAB_VIOL_COUNT : Nat := 0x100000C
def FAB_VIOL_COUNT.count : Field := ⟨FAB_VIOL_COUNT, 0, 32⟩
/-- spec/01_architecture.md: FAB_VIOL_ADDR is at offset 0x010 and holds the target address of the most recent refused access. -/
def FAB_VIOL_ADDR : Nat := 0x1000010
def FAB_VIOL_ADDR.address : Field := ⟨FAB_VIOL_ADDR, 0, 32⟩
/-- spec/01_architecture.md: STW_STATUS is at offset 0x000 of the steward block and reports the state of the pairs. -/
def STW_STATUS : Nat := 0x2000000
def STW_STATUS.pair0_ok : Field := ⟨STW_STATUS, 0, 1⟩
def STW_STATUS.pair1_ok : Field := ⟨STW_STATUS, 1, 1⟩
def STW_STATUS.single_pair : Field := ⟨STW_STATUS, 2, 1⟩
def STW_STATUS.last_cause : Field := ⟨STW_STATUS, 3, 2⟩
def STW_STATUS.failover_count : Field := ⟨STW_STATUS, 8, 8⟩
/-- spec/02_clock_root.md: CLK_CTRL is at offset 0x000 of the clock block and controls ADPLL-A. -/
def CLK_CTRL : Nat := 0x3000000
def CLK_CTRL.ref_type : Field := ⟨CLK_CTRL, 0, 1⟩
def CLK_CTRL.bw_sel : Field := ⟨CLK_CTRL, 1, 3⟩
def CLK_CTRL.dither_en : Field := ⟨CLK_CTRL, 4, 1⟩
def CLK_CTRL.relock : Field := ⟨CLK_CTRL, 5, 1⟩
def CLK_CTRL.coast_periods : Field := ⟨CLK_CTRL, 8, 7⟩
/-- spec/02_clock_root.md: CLK_STATUS is at offset 0x004 and shows the present state of ADPLL-A. -/
def CLK_STATUS : Nat := 0x3000004
def CLK_STATUS.locked : Field := ⟨CLK_STATUS, 0, 1⟩
def CLK_STATUS.coasting : Field := ⟨CLK_STATUS, 1, 1⟩
def CLK_STATUS.walking : Field := ⟨CLK_STATUS, 2, 1⟩
def CLK_STATUS.ref_present : Field := ⟨CLK_STATUS, 3, 1⟩
def CLK_STATUS.cal_done : Field := ⟨CLK_STATUS, 4, 1⟩
def CLK_STATUS.safe_clock : Field := ⟨CLK_STATUS, 5, 1⟩
def CLK_STATUS.marker_coherent : Field := ⟨CLK_STATUS, 6, 1⟩
def CLK_STATUS.marker_index : Field := ⟨CLK_STATUS, 7, 2⟩
def CLK_STATUS.ceiling_active : Field := ⟨CLK_STATUS, 9, 1⟩
/-- spec/02_clock_root.md: CLK_EVENT is at offset 0x008 and latches clock events. -/
def CLK_EVENT : Nat := 0x3000008
def CLK_EVENT.lock : Field := ⟨CLK_EVENT, 0, 1⟩
def CLK_EVENT.unlock : Field := ⟨CLK_EVENT, 1, 1⟩
def CLK_EVENT.ref_missing : Field := ⟨CLK_EVENT, 2, 1⟩
def CLK_EVENT.phase_walk : Field := ⟨CLK_EVENT, 3, 1⟩
def CLK_EVENT.ref_jump : Field := ⟨CLK_EVENT, 4, 1⟩
def CLK_EVENT.ceiling_hit : Field := ⟨CLK_EVENT, 5, 1⟩
def CLK_EVENT.marker_free : Field := ⟨CLK_EVENT, 6, 1⟩
def CLK_EVENT.sync_landed : Field := ⟨CLK_EVENT, 7, 1⟩
def CLK_EVENT.sync_ignored : Field := ⟨CLK_EVENT, 8, 1⟩
def CLK_EVENT.b_lock : Field := ⟨CLK_EVENT, 9, 1⟩
def CLK_EVENT.b_unlock : Field := ⟨CLK_EVENT, 10, 1⟩
/-- spec/02_clock_root.md: CLK_UNLOCK_INFO is at offset 0x00C and records losses of lock of ADPLL-A. -/
def CLK_UNLOCK_INFO : Nat := 0x300000C
def CLK_UNLOCK_INFO.cause : Field := ⟨CLK_UNLOCK_INFO, 0, 3⟩
def CLK_UNLOCK_INFO.count : Field := ⟨CLK_UNLOCK_INFO, 8, 16⟩
/-- spec/02_clock_root.md: CLK_WINDOW is at offset 0x010 and reports the last lock window of ADPLL-A. -/
def CLK_WINDOW : Nat := 0x3000010
def CLK_WINDOW.last_count : Field := ⟨CLK_WINDOW, 0, 15⟩
def CLK_WINDOW.last_in_tol : Field := ⟨CLK_WINDOW, 15, 1⟩
/-- spec/02_clock_root.md: CLK_REF_PHASE is at offset 0x014 and holds the error of the last walk or jump. -/
def CLK_REF_PHASE : Nat := 0x3000014
def CLK_REF_PHASE.error : Field := ⟨CLK_REF_PHASE, 0, 16⟩
/-- spec/02_clock_root.md: CLK_DCO_CEIL is at offset 0x018 and sets the frequency ceiling of ADPLL-A. -/
def CLK_DCO_CEIL : Nat := 0x3000018
def CLK_DCO_CEIL.ceil_ppm : Field := ⟨CLK_DCO_CEIL, 0, 15⟩
/-- spec/02_clock_root.md: CLK_DITHER is at offset 0x01C and holds the dither seed of ADPLL-A. -/
def CLK_DITHER : Nat := 0x300001C
def CLK_DITHER.seed : Field := ⟨CLK_DITHER, 0, 23⟩
/-- spec/02_clock_root.md: CLK_SYNC_CFG is at offset 0x020 and configures SYNC_IN. -/
def CLK_SYNC_CFG : Nat := 0x3000020
def CLK_SYNC_CFG.marker_src : Field := ⟨CLK_SYNC_CFG, 0, 1⟩
def CLK_SYNC_CFG.lane_sync_en : Field := ⟨CLK_SYNC_CFG, 1, 1⟩
def CLK_SYNC_CFG.marker_delay : Field := ⟨CLK_SYNC_CFG, 2, 5⟩
def CLK_SYNC_CFG.sync_wait : Field := ⟨CLK_SYNC_CFG, 8, 8⟩
/-- spec/02_clock_root.md: CLK_SYNC_CMD is at offset 0x024 and requests a lane sync by command. -/
def CLK_SYNC_CMD : Nat := 0x3000024
def CLK_SYNC_CMD.lane_sync : Field := ⟨CLK_SYNC_CMD, 0, 1⟩
/-- spec/02_clock_root.md: CLK_SYNC_COUNT is at offset 0x028 and counts sync requests. -/
def CLK_SYNC_COUNT : Nat := 0x3000028
def CLK_SYNC_COUNT.landed : Field := ⟨CLK_SYNC_COUNT, 0, 16⟩
def CLK_SYNC_COUNT.ignored : Field := ⟨CLK_SYNC_COUNT, 16, 16⟩
/-- spec/02_clock_root.md: CLK_SAFE_MEAS is at offset 0x02C and measures the safe clock. -/
def CLK_SAFE_MEAS : Nat := 0x300002C
def CLK_SAFE_MEAS.count : Field := ⟨CLK_SAFE_MEAS, 0, 12⟩
def CLK_SAFE_MEAS.valid : Field := ⟨CLK_SAFE_MEAS, 12, 1⟩
/-- spec/02_clock_root.md: CLKB_CTRL is at offset 0x040 and controls ADPLL-B. -/
def CLKB_CTRL : Nat := 0x3000040
def CLKB_CTRL.enable : Field := ⟨CLKB_CTRL, 0, 1⟩
def CLKB_CTRL.channel : Field := ⟨CLKB_CTRL, 1, 1⟩
def CLKB_CTRL.bw_sel : Field := ⟨CLKB_CTRL, 2, 3⟩
def CLKB_CTRL.dither_en : Field := ⟨CLKB_CTRL, 5, 1⟩
/-- spec/02_clock_root.md: CLKB_STATUS is at offset 0x044 and shows the state of ADPLL-B. -/
def CLKB_STATUS : Nat := 0x3000044
def CLKB_STATUS.locked : Field := ⟨CLKB_STATUS, 0, 1⟩
def CLKB_STATUS.cal_done : Field := ⟨CLKB_STATUS, 1, 1⟩
def CLKB_STATUS.active_channel : Field := ⟨CLKB_STATUS, 2, 1⟩
def CLKB_STATUS.last_count : Field := ⟨CLKB_STATUS, 4, 12⟩
/-- spec/02_clock_root.md: CLKB_DITHER is at offset 0x048 and holds the dither seed of ADPLL-B. -/
def CLKB_DITHER : Nat := 0x3000048
def CLKB_DITHER.seed : Field := ⟨CLKB_DITHER, 0, 23⟩
/-- spec/03_granary.md: BAY_OWNER[n] is at offset 0x000 + 4 × n, for n from 0 to 63, and holds the ownership of BAY_n. -/
def BAY_OWNER (i : Nat) : Nat := 0x4000000 + 0x4 * i
def BAY_OWNER.owner_id (i : Nat) : Field := ⟨BAY_OWNER i, 0, 6⟩
def BAY_OWNER.next_id (i : Nat) : Field := ⟨BAY_OWNER i, 8, 6⟩
def BAY_OWNER.clear (i : Nat) : Field := ⟨BAY_OWNER i, 14, 1⟩
def BAY_OWNER.go (i : Nat) : Field := ⟨BAY_OWNER i, 15, 1⟩
def BAY_OWNER.lendable (i : Nat) : Field := ⟨BAY_OWNER i, 16, 1⟩
def BAY_OWNER.busy (i : Nat) : Field := ⟨BAY_OWNER i, 17, 1⟩
def BAY_OWNER.in_group (i : Nat) : Field := ⟨BAY_OWNER i, 18, 1⟩
/-- spec/03_granary.md: BAY_STATUS[n] is at offset 0x100 + 4 × n and reports errors and audit state of BAY_n. -/
def BAY_STATUS (i : Nat) : Nat := 0x4000100 + 0x4 * i
def BAY_STATUS.ce_count (i : Nat) : Field := ⟨BAY_STATUS i, 0, 8⟩
def BAY_STATUS.ue_count (i : Nat) : Field := ⟨BAY_STATUS i, 8, 8⟩
def BAY_STATUS.borrowed (i : Nat) : Field := ⟨BAY_STATUS i, 16, 1⟩
def BAY_STATUS.phase (i : Nat) : Field := ⟨BAY_STATUS i, 17, 2⟩
def BAY_STATUS.audit_fault (i : Nat) : Field := ⟨BAY_STATUS i, 19, 1⟩
def BAY_STATUS.dirty (i : Nat) : Field := ⟨BAY_STATUS i, 20, 1⟩
/-- spec/03_granary.md: GRAN_STATUS is at offset 0x200 and shows the state of the granary. -/
def GRAN_STATUS : Nat := 0x4000200
def GRAN_STATUS.init_done : Field := ⟨GRAN_STATUS, 0, 1⟩
/-- spec/03_granary.md: GRAN_EVENT is at offset 0x204 and latches granary events. -/
def GRAN_EVENT : Nat := 0x4000204
def GRAN_EVENT.ce : Field := ⟨GRAN_EVENT, 0, 1⟩
def GRAN_EVENT.ue : Field := ⟨GRAN_EVENT, 1, 1⟩
def GRAN_EVENT.handover_done : Field := ⟨GRAN_EVENT, 2, 1⟩
def GRAN_EVENT.owner_ignored : Field := ⟨GRAN_EVENT, 3, 1⟩
def GRAN_EVENT.hstate_ecc : Field := ⟨GRAN_EVENT, 4, 1⟩
def GRAN_EVENT.audit_fault : Field := ⟨GRAN_EVENT, 5, 1⟩
def GRAN_EVENT.group_error : Field := ⟨GRAN_EVENT, 6, 1⟩
def GRAN_EVENT.clear_counts : Field := ⟨GRAN_EVENT, 7, 1⟩
/-- spec/03_granary.md: GRAN_ERR_ADDR is at offset 0x208 and records the most recent uncorrectable read. -/
def GRAN_ERR_ADDR : Nat := 0x4000208
def GRAN_ERR_ADDR.word : Field := ⟨GRAN_ERR_ADDR, 0, 17⟩
def GRAN_ERR_ADDR.bay : Field := ⟨GRAN_ERR_ADDR, 17, 6⟩
def GRAN_ERR_ADDR.initiator : Field := ⟨GRAN_ERR_ADDR, 23, 6⟩
def GRAN_ERR_ADDR.hstate : Field := ⟨GRAN_ERR_ADDR, 29, 1⟩
/-- spec/03_granary.md: GRP_CFG[k] is at offset 0x300 + 8 × k, for k from 0 to 15, and configures GRP_k. -/
def GRP_CFG (i : Nat) : Nat := 0x4000300 + 0x8 * i
def GRP_CFG.enable (i : Nat) : Field := ⟨GRP_CFG i, 0, 1⟩
def GRP_CFG.size (i : Nat) : Field := ⟨GRP_CFG i, 1, 2⟩
def GRP_CFG.base_bay (i : Nat) : Field := ⟨GRP_CFG i, 3, 6⟩
def GRP_CFG.lendable (i : Nat) : Field := ⟨GRP_CFG i, 9, 1⟩
def GRP_CFG.refused (i : Nat) : Field := ⟨GRP_CFG i, 10, 1⟩
/-- spec/03_granary.md: GRP_MEMBERS[k] is at offset 0x304 + 8 × k and names the members of GRP_k. -/
def GRP_MEMBERS (i : Nat) : Nat := 0x4000304 + 0x8 * i
def GRP_MEMBERS.member0 (i : Nat) : Field := ⟨GRP_MEMBERS i, 0, 6⟩
def GRP_MEMBERS.member1 (i : Nat) : Field := ⟨GRP_MEMBERS i, 6, 6⟩
def GRP_MEMBERS.member2 (i : Nat) : Field := ⟨GRP_MEMBERS i, 12, 6⟩
def GRP_MEMBERS.member3 (i : Nat) : Field := ⟨GRP_MEMBERS i, 18, 6⟩
def GRP_MEMBERS.write_en (i : Nat) : Field := ⟨GRP_MEMBERS i, 24, 4⟩
/-- spec/03_granary.md: AUD_CFG is at offset 0x400 and controls the audit. -/
def AUD_CFG : Nat := 0x4000400
def AUD_CFG.enable : Field := ⟨AUD_CFG, 0, 1⟩
def AUD_CFG.pause : Field := ⟨AUD_CFG, 8, 12⟩
/-- spec/03_granary.md: AUD_STATUS is at offset 0x404 and shows the audit's position. -/
def AUD_STATUS : Nat := 0x4000404
def AUD_STATUS.bay : Field := ⟨AUD_STATUS, 0, 6⟩
def AUD_STATUS.segment : Field := ⟨AUD_STATUS, 6, 5⟩
def AUD_STATUS.active : Field := ⟨AUD_STATUS, 11, 1⟩
def AUD_STATUS.passes : Field := ⟨AUD_STATUS, 16, 16⟩
/-- spec/03_granary.md: AUD_FAULT_ADDR is at offset 0x408 and records the most recent audit fault. -/
def AUD_FAULT_ADDR : Nat := 0x4000408
def AUD_FAULT_ADDR.word : Field := ⟨AUD_FAULT_ADDR, 0, 17⟩
def AUD_FAULT_ADDR.bay : Field := ⟨AUD_FAULT_ADDR, 17, 6⟩
def AUD_FAULT_ADDR.valid : Field := ⟨AUD_FAULT_ADDR, 23, 1⟩
/-- spec/03_granary.md: AUD_COUNT is at offset 0x40C and counts audit outcomes. -/
def AUD_COUNT : Nat := 0x400040C
def AUD_COUNT.faults : Field := ⟨AUD_COUNT, 0, 16⟩
def AUD_COUNT.discards : Field := ⟨AUD_COUNT, 16, 16⟩
/-- spec/03_granary.md: BALE_COLL is at offset 0x500 and reports bale collisions and errors. -/
def BALE_COLL : Nat := 0x4000500
def BALE_COLL.collision : Field := ⟨BALE_COLL, 0, 1⟩
def BALE_COLL.ce_count : Field := ⟨BALE_COLL, 8, 8⟩
def BALE_COLL.ue_count : Field := ⟨BALE_COLL, 16, 8⟩
/-- spec/03_granary.md: BALE_COLL_COUNT is at offset 0x504 and counts collisions. -/
def BALE_COLL_COUNT : Nat := 0x4000504
def BALE_COLL_COUNT.count : Field := ⟨BALE_COLL_COUNT, 0, 16⟩
/-- spec/03_granary.md: BALE_COLL_ADDR is at offset 0x508 and records the most recent collision. -/
def BALE_COLL_ADDR : Nat := 0x4000508
def BALE_COLL_ADDR.address : Field := ⟨BALE_COLL_ADDR, 0, 16⟩
/-- spec/04_rf_sampling.md: FE_CTRL is at offset 0x000 and enables and configures the GNSS chain. -/
def FE_CTRL : Nat := 0x5000000
def FE_CTRL.gnss_en : Field := ⟨FE_CTRL, 0, 1⟩
def FE_CTRL.bias_en : Field := ⟨FE_CTRL, 1, 1⟩
def FE_CTRL.agc_mode : Field := ⟨FE_CTRL, 2, 2⟩
def FE_CTRL.blank_en : Field := ⟨FE_CTRL, 4, 1⟩
def FE_CTRL.blank_zero : Field := ⟨FE_CTRL, 5, 1⟩
def FE_CTRL.blank_active_low : Field := ⟨FE_CTRL, 6, 1⟩
/-- spec/04_rf_sampling.md: FE_GAIN is at offset 0x004 and sets and shows the gain. -/
def FE_GAIN : Nat := 0x5000004
def FE_GAIN.manual_code : Field := ⟨FE_GAIN, 0, 7⟩
def FE_GAIN.code : Field := ⟨FE_GAIN, 8, 7⟩
def FE_GAIN.at_limit : Field := ⟨FE_GAIN, 16, 1⟩
def FE_GAIN.agc_settled : Field := ⟨FE_GAIN, 17, 1⟩
/-- spec/04_rf_sampling.md: FE_AGC_CFG is at offset 0x008 and configures the AGC and the overload state. -/
def FE_AGC_CFG : Nat := 0x5000008
def FE_AGC_CFG.target_rms : Field := ⟨FE_AGC_CFG, 0, 8⟩
def FE_AGC_CFG.hyst : Field := ⟨FE_AGC_CFG, 8, 4⟩
def FE_AGC_CFG.fast_step : Field := ⟨FE_AGC_CFG, 12, 4⟩
def FE_AGC_CFG.clip_thresh : Field := ⟨FE_AGC_CFG, 16, 12⟩
def FE_AGC_CFG.ovl_windows : Field := ⟨FE_AGC_CFG, 28, 3⟩
/-- spec/04_rf_sampling.md: FE_AGC_STATUS is at offset 0x00C and reports the last window. -/
def FE_AGC_STATUS : Nat := 0x500000C
def FE_AGC_STATUS.last_rms : Field := ⟨FE_AGC_STATUS, 0, 10⟩
def FE_AGC_STATUS.window_valid : Field := ⟨FE_AGC_STATUS, 10, 1⟩
def FE_AGC_STATUS.last_clips : Field := ⟨FE_AGC_STATUS, 12, 14⟩
def FE_AGC_STATUS.overload : Field := ⟨FE_AGC_STATUS, 26, 1⟩
/-- spec/04_rf_sampling.md: FE_BLANK_CFG is at offset 0x010 and configures GNSS_BLANK. -/
def FE_BLANK_CFG : Nat := 0x5000010
def FE_BLANK_CFG.pre : Field := ⟨FE_BLANK_CFG, 0, 6⟩
def FE_BLANK_CFG.post : Field := ⟨FE_BLANK_CFG, 8, 8⟩
def FE_BLANK_CFG.max_len : Field := ⟨FE_BLANK_CFG, 16, 8⟩
/-- spec/04_rf_sampling.md: FE_BLANK_COUNT is at offset 0x014 and counts blank intervals. -/
def FE_BLANK_COUNT : Nat := 0x5000014
def FE_BLANK_COUNT.intervals : Field := ⟨FE_BLANK_COUNT, 0, 16⟩
def FE_BLANK_COUNT.stuck : Field := ⟨FE_BLANK_COUNT, 16, 16⟩
/-- spec/04_rf_sampling.md: FE_ANT_CFG is at offset 0x018 and configures the antenna supervisor. -/
def FE_ANT_CFG : Nat := 0x5000018
def FE_ANT_CFG.open_ma : Field := ⟨FE_ANT_CFG, 0, 8⟩
def FE_ANT_CFG.short_ma : Field := ⟨FE_ANT_CFG, 8, 8⟩
def FE_ANT_CFG.bias_settle : Field := ⟨FE_ANT_CFG, 16, 10⟩
def FE_ANT_CFG.retry : Field := ⟨FE_ANT_CFG, 26, 6⟩
/-- spec/04_rf_sampling.md: FE_ANT_STATUS is at offset 0x01C and reports the antenna. -/
def FE_ANT_STATUS : Nat := 0x500001C
def FE_ANT_STATUS.state : Field := ⟨FE_ANT_STATUS, 0, 2⟩
def FE_ANT_STATUS.current : Field := ⟨FE_ANT_STATUS, 8, 10⟩
/-- spec/04_rf_sampling.md: FE_CAL_CTRL is at offset 0x020 and controls interleave calibration. -/
def FE_CAL_CTRL : Nat := 0x5000020
def FE_CAL_CTRL.start : Field := ⟨FE_CAL_CTRL, 0, 1⟩
def FE_CAL_CTRL.bg_en : Field := ⟨FE_CAL_CTRL, 1, 1⟩
def FE_CAL_CTRL.hold : Field := ⟨FE_CAL_CTRL, 2, 1⟩
/-- spec/04_rf_sampling.md: FE_CAL_STATUS is at offset 0x024 and shows the calibration state. -/
def FE_CAL_STATUS : Nat := 0x5000024
def FE_CAL_STATUS.coef_valid : Field := ⟨FE_CAL_STATUS, 0, 1⟩
def FE_CAL_STATUS.fg_running : Field := ⟨FE_CAL_STATUS, 1, 1⟩
def FE_CAL_STATUS.bg_held : Field := ⟨FE_CAL_STATUS, 2, 1⟩
def FE_CAL_STATUS.updates : Field := ⟨FE_CAL_STATUS, 16, 16⟩
/-- spec/04_rf_sampling.md: FE_EVENT is at offset 0x028 and latches front-end events. -/
def FE_EVENT : Nat := 0x5000028
def FE_EVENT.overload : Field := ⟨FE_EVENT, 0, 1⟩
def FE_EVENT.overload_end : Field := ⟨FE_EVENT, 1, 1⟩
def FE_EVENT.blank_stuck : Field := ⟨FE_EVENT, 2, 1⟩
def FE_EVENT.ant_change : Field := ⟨FE_EVENT, 3, 1⟩
def FE_EVENT.agc_limit : Field := ⟨FE_EVENT, 4, 1⟩
def FE_EVENT.cal_done : Field := ⟨FE_EVENT, 5, 1⟩
def FE_EVENT.agc_fast : Field := ⟨FE_EVENT, 6, 1⟩
/-- spec/05_band_lanes.md: LANE_CTRL is at offset 0x00 and starts and stops the lane. -/
def LANE_CTRL (l : Nat) : Nat := 0x6000000 + 0x80 * l
def LANE_CTRL.enable (l : Nat) : Field := ⟨LANE_CTRL l, 0, 1⟩
def LANE_CTRL.restart (l : Nat) : Field := ⟨LANE_CTRL l, 1, 1⟩
/-- spec/05_band_lanes.md: LANE_NCO_FREQ is at offset 0x04 and sets the NCO frequency. -/
def LANE_NCO_FREQ (l : Nat) : Nat := 0x6000004 + 0x80 * l
def LANE_NCO_FREQ.inc (l : Nat) : Field := ⟨LANE_NCO_FREQ l, 0, 32⟩
/-- spec/05_band_lanes.md: LANE_NCO_PHASE is at offset 0x08 and sets the NCO phase at the sample origin. -/
def LANE_NCO_PHASE (l : Nat) : Nat := 0x6000008 + 0x80 * l
def LANE_NCO_PHASE.phase_init (l : Nat) : Field := ⟨LANE_NCO_PHASE l, 0, 32⟩
/-- spec/05_band_lanes.md: LANE_DEC_A is at offset 0x0C and configures stage A; it is double-buffered (R144). -/
def LANE_DEC_A (l : Nat) : Nat := 0x600000C + 0x80 * l
def LANE_DEC_A.l_a (l : Nat) : Field := ⟨LANE_DEC_A l, 0, 6⟩
def LANE_DEC_A.d_a (l : Nat) : Field := ⟨LANE_DEC_A l, 8, 5⟩
def LANE_DEC_A.n_a (l : Nat) : Field := ⟨LANE_DEC_A l, 16, 2⟩
/-- spec/05_band_lanes.md: LANE_DEC_B is at offset 0x10 and configures stage B; it is double-buffered (R144). -/
def LANE_DEC_B (l : Nat) : Nat := 0x6000010 + 0x80 * l
def LANE_DEC_B.l_b (l : Nat) : Field := ⟨LANE_DEC_B l, 0, 8⟩
def LANE_DEC_B.d_b (l : Nat) : Field := ⟨LANE_DEC_B l, 8, 6⟩
def LANE_DEC_B.n_b (l : Nat) : Field := ⟨LANE_DEC_B l, 16, 2⟩
/-- spec/05_band_lanes.md: LANE_SCALE is at offset 0x14 and sets the four shifts. -/
def LANE_SCALE (l : Nat) : Nat := 0x6000014 + 0x80 * l
def LANE_SCALE.a_shift (l : Nat) : Field := ⟨LANE_SCALE l, 0, 5⟩
def LANE_SCALE.b_shift (l : Nat) : Field := ⟨LANE_SCALE l, 8, 6⟩
def LANE_SCALE.c_shift (l : Nat) : Field := ⟨LANE_SCALE l, 16, 6⟩
def LANE_SCALE.r_shift (l : Nat) : Field := ⟨LANE_SCALE l, 24, 4⟩
/-- spec/05_band_lanes.md: LANE_FIR_SEL is at offset 0x18 and requests a filter change (R149, R150). -/
def LANE_FIR_SEL (l : Nat) : Nat := 0x6000018 + 0x80 * l
def LANE_FIR_SEL.sel (l : Nat) : Field := ⟨LANE_FIR_SEL l, 0, 6⟩
def LANE_FIR_SEL.fade_len (l : Nat) : Field := ⟨LANE_FIR_SEL l, 6, 13⟩
/-- spec/05_band_lanes.md: LANE_FIR_STATUS is at offset 0x1C and shows the filter state. -/
def LANE_FIR_STATUS (l : Nat) : Nat := 0x600001C + 0x80 * l
def LANE_FIR_STATUS.current (l : Nat) : Field := ⟨LANE_FIR_STATUS l, 0, 6⟩
def LANE_FIR_STATUS.target (l : Nat) : Field := ⟨LANE_FIR_STATUS l, 8, 6⟩
def LANE_FIR_STATUS.pending (l : Nat) : Field := ⟨LANE_FIR_STATUS l, 16, 6⟩
def LANE_FIR_STATUS.fading (l : Nat) : Field := ⟨LANE_FIR_STATUS l, 22, 1⟩
def LANE_FIR_STATUS.pending_valid (l : Nat) : Field := ⟨LANE_FIR_STATUS l, 23, 1⟩
/-- spec/05_band_lanes.md: LANE_BANK_CFG[b] is at offset 0x20 + 4 × b, for b = 0 and 1, and describes loadable bank b (R148). -/
def LANE_BANK_CFG (l : Nat) (i : Nat) : Nat := 0x6000020 + 0x80 * l + 0x4 * i
def LANE_BANK_CFG.taps (l : Nat) (i : Nat) : Field := ⟨LANE_BANK_CFG l i, 0, 8⟩
def LANE_BANK_CFG.gd (l : Nat) (i : Nat) : Field := ⟨LANE_BANK_CFG l i, 8, 11⟩
def LANE_BANK_CFG.locked (l : Nat) (i : Nat) : Field := ⟨LANE_BANK_CFG l i, 19, 1⟩
/-- spec/05_band_lanes.md: LANE_FILL is at offset 0x28 and reports the fill count of the last sample origin. -/
def LANE_FILL (l : Nat) : Nat := 0x6000028 + 0x80 * l
def LANE_FILL.fill (l : Nat) : Field := ⟨LANE_FILL l, 0, 11⟩
/-- spec/05_band_lanes.md: LANE_GD is at offset 0x2C and reports the group delay. -/
def LANE_GD (l : Nat) : Nat := 0x600002C + 0x80 * l
def LANE_GD.gd (l : Nat) : Field := ⟨LANE_GD l, 0, 22⟩
/-- spec/05_band_lanes.md: LANE_WIN_CFG is at offset 0x30 and configures the notches and detector. -/
def LANE_WIN_CFG (l : Nat) : Nat := 0x6000030 + 0x80 * l
def LANE_WIN_CFG.rho_k (l : Nat) : Field := ⟨LANE_WIN_CFG l, 0, 4⟩
def LANE_WIN_CFG.j_thresh (l : Nat) : Field := ⟨LANE_WIN_CFG l, 4, 5⟩
def LANE_WIN_CFG.track_bw (l : Nat) : Field := ⟨LANE_WIN_CFG l, 9, 3⟩
def LANE_WIN_CFG.bypass (l : Nat) : Field := ⟨LANE_WIN_CFG l, 12, 1⟩
def LANE_WIN_CFG.release (l : Nat) : Field := ⟨LANE_WIN_CFG l, 16, 8⟩
/-- spec/05_band_lanes.md: LANE_PB_CFG is at offset 0x34 and configures the pulse blanker (R154). -/
def LANE_PB_CFG (l : Nat) : Nat := 0x6000034 + 0x80 * l
def LANE_PB_CFG.pb_en (l : Nat) : Field := ⟨LANE_PB_CFG l, 0, 1⟩
def LANE_PB_CFG.pb_factor (l : Nat) : Field := ⟨LANE_PB_CFG l, 8, 7⟩
def LANE_PB_CFG.pb_pre (l : Nat) : Field := ⟨LANE_PB_CFG l, 16, 4⟩
def LANE_PB_CFG.pb_post (l : Nat) : Field := ⟨LANE_PB_CFG l, 24, 8⟩
/-- spec/05_band_lanes.md: LANE_NOTCH[j] is at offset 0x38 + 4 × j, for j from 0 to 3, and controls notch j (R152, R153). -/
def LANE_NOTCH (l : Nat) (i : Nat) : Nat := 0x6000038 + 0x80 * l + 0x4 * i
def LANE_NOTCH.mode (l : Nat) (i : Nat) : Field := ⟨LANE_NOTCH l i, 0, 2⟩
def LANE_NOTCH.engaged (l : Nat) (i : Nat) : Field := ⟨LANE_NOTCH l i, 2, 1⟩
def LANE_NOTCH.freq (l : Nat) (i : Nat) : Field := ⟨LANE_NOTCH l i, 8, 24⟩
/-- spec/05_band_lanes.md: LANE_WIN_STATUS is at offset 0x48 and reports each notch's J/N. -/
def LANE_WIN_STATUS (l : Nat) : Nat := 0x6000048 + 0x80 * l
def LANE_WIN_STATUS.jn0 (l : Nat) : Field := ⟨LANE_WIN_STATUS l, 0, 8⟩
def LANE_WIN_STATUS.jn1 (l : Nat) : Field := ⟨LANE_WIN_STATUS l, 8, 8⟩
def LANE_WIN_STATUS.jn2 (l : Nat) : Field := ⟨LANE_WIN_STATUS l, 16, 8⟩
def LANE_WIN_STATUS.jn3 (l : Nat) : Field := ⟨LANE_WIN_STATUS l, 24, 8⟩
/-- spec/05_band_lanes.md: LANE_RQ_LEVEL is at offset 0x4C and reports the requantiser level (R155). -/
def LANE_RQ_LEVEL (l : Nat) : Nat := 0x600004C + 0x80 * l
def LANE_RQ_LEVEL.rms16 (l : Nat) : Field := ⟨LANE_RQ_LEVEL l, 0, 16⟩
def LANE_RQ_LEVEL.sat_count (l : Nat) : Field := ⟨LANE_RQ_LEVEL l, 16, 16⟩
/-- spec/05_band_lanes.md: LANE_STATUS is at offset 0x50 and shows the lane's state. -/
def LANE_STATUS (l : Nat) : Nat := 0x6000050 + 0x80 * l
def LANE_STATUS.running (l : Nat) : Field := ⟨LANE_STATUS l, 0, 1⟩
def LANE_STATUS.start_pending (l : Nat) : Field := ⟨LANE_STATUS l, 1, 1⟩
def LANE_STATUS.cfg_error (l : Nat) : Field := ⟨LANE_STATUS l, 2, 1⟩
def LANE_STATUS.settling (l : Nat) : Field := ⟨LANE_STATUS l, 3, 1⟩
def LANE_STATUS.pb_duty (l : Nat) : Field := ⟨LANE_STATUS l, 8, 8⟩
/-- spec/05_band_lanes.md: LANE_EVENT is at offset 0x54 and latches lane events. -/
def LANE_EVENT (l : Nat) : Nat := 0x6000054 + 0x80 * l
def LANE_EVENT.started (l : Nat) : Field := ⟨LANE_EVENT l, 0, 1⟩
def LANE_EVENT.sync (l : Nat) : Field := ⟨LANE_EVENT l, 1, 1⟩
def LANE_EVENT.cfg_refused (l : Nat) : Field := ⟨LANE_EVENT l, 2, 1⟩
def LANE_EVENT.fade_done (l : Nat) : Field := ⟨LANE_EVENT l, 3, 1⟩
def LANE_EVENT.fade_cut (l : Nat) : Field := ⟨LANE_EVENT l, 4, 1⟩
def LANE_EVENT.sel_ignored (l : Nat) : Field := ⟨LANE_EVENT l, 5, 1⟩
def LANE_EVENT.bank_busy (l : Nat) : Field := ⟨LANE_EVENT l, 6, 1⟩
def LANE_EVENT.notch_change (l : Nat) : Field := ⟨LANE_EVENT l, 7, 1⟩
def LANE_EVENT.overload (l : Nat) : Field := ⟨LANE_EVENT l, 8, 1⟩
def LANE_EVENT.relock_restart (l : Nat) : Field := ⟨LANE_EVENT l, 9, 1⟩
/-- spec/05_band_lanes.md: LANE_COUNT is at offset 0x58 and counts lane occurrences. -/
def LANE_COUNT (l : Nat) : Nat := 0x6000058 + 0x80 * l
def LANE_COUNT.replaced (l : Nat) : Field := ⟨LANE_COUNT l, 0, 8⟩
def LANE_COUNT.bank_busy (l : Nat) : Field := ⟨LANE_COUNT l, 8, 8⟩
def LANE_COUNT.unserved (l : Nat) : Field := ⟨LANE_COUNT l, 16, 8⟩
/-- spec/05_band_lanes.md: LANE_AGG is at offset 0x600 and reports the aggregate rate (R143). -/
def LANE_AGG : Nat := 0x6000600
def LANE_AGG.rate_ksps : Field := ⟨LANE_AGG, 0, 19⟩
/-- spec/06_thresher.md: THR_CTRL is at offset 0x000 and controls the thresher. -/
def THR_CTRL : Nat := 0x7000000
def THR_CTRL.enable : Field := ⟨THR_CTRL, 0, 1⟩
def THR_CTRL.start : Field := ⟨THR_CTRL, 1, 1⟩
def THR_CTRL.abort : Field := ⟨THR_CTRL, 2, 1⟩
def THR_CTRL.free_a : Field := ⟨THR_CTRL, 3, 1⟩
def THR_CTRL.free_b : Field := ⟨THR_CTRL, 4, 1⟩
def THR_CTRL.rate_div : Field := ⟨THR_CTRL, 5, 2⟩
/-- spec/06_thresher.md: THR_PASS_CFG is at offset 0x004 and describes the next pass. -/
def THR_PASS_CFG : Nat := 0x7000004
def THR_PASS_CFG.k : Field := ⟨THR_PASS_CFG, 0, 11⟩
def THR_PASS_CFG.source : Field := ⟨THR_PASS_CFG, 11, 1⟩
def THR_PASS_CFG.start_mode : Field := ⟨THR_PASS_CFG, 12, 1⟩
def THR_PASS_CFG.trigger : Field := ⟨THR_PASS_CFG, 13, 5⟩
def THR_PASS_CFG.grp_a : Field := ⟨THR_PASS_CFG, 18, 4⟩
def THR_PASS_CFG.grp_b : Field := ⟨THR_PASS_CFG, 22, 4⟩
def THR_PASS_CFG.dual : Field := ⟨THR_PASS_CFG, 26, 1⟩
def THR_PASS_CFG.blank_max : Field := ⟨THR_PASS_CFG, 27, 4⟩
/-- spec/06_thresher.md: THR_OFFLINE is at offset 0x008 and names the snapshot of an offline pass. -/
def THR_OFFLINE : Nat := 0x7000008
def THR_OFFLINE.header_addr : Field := ⟨THR_OFFLINE, 0, 26⟩
/-- spec/06_thresher.md: THR_STATUS is at offset 0x00C and shows the thresher's state. -/
def THR_STATUS : Nat := 0x700000C
def THR_STATUS.state : Field := ⟨THR_STATUS, 0, 2⟩
def THR_STATUS.queued : Field := ⟨THR_STATUS, 2, 1⟩
def THR_STATUS.jobs : Field := ⟨THR_STATUS, 3, 7⟩
def THR_STATUS.round : Field := ⟨THR_STATUS, 16, 6⟩
def THR_STATUS.rounds : Field := ⟨THR_STATUS, 22, 7⟩
/-- spec/06_thresher.md: THR_EVENT is at offset 0x010 and latches thresher events. -/
def THR_EVENT : Nat := 0x7000010
def THR_EVENT.round_done : Field := ⟨THR_EVENT, 0, 1⟩
def THR_EVENT.pass_done : Field := ⟨THR_EVENT, 1, 1⟩
def THR_EVENT.start_ignored : Field := ⟨THR_EVENT, 2, 1⟩
def THR_EVENT.cfg_error : Field := ⟨THR_EVENT, 3, 1⟩
def THR_EVENT.job_refused : Field := ⟨THR_EVENT, 4, 1⟩
def THR_EVENT.aborted : Field := ⟨THR_EVENT, 5, 1⟩
def THR_EVENT.discard : Field := ⟨THR_EVENT, 6, 1⟩
def THR_EVENT.sum_error : Field := ⟨THR_EVENT, 7, 1⟩
/-- spec/06_thresher.md: THR_ROUND_INFO is at offset 0x014 and describes the most recent completed round. -/
def THR_ROUND_INFO : Nat := 0x7000014
def THR_ROUND_INFO.round : Field := ⟨THR_ROUND_INFO, 0, 6⟩
def THR_ROUND_INFO.group : Field := ⟨THR_ROUND_INFO, 6, 1⟩
def THR_ROUND_INFO.tiles : Field := ⟨THR_ROUND_INFO, 8, 10⟩
/-- spec/06_thresher.md: THR_T0_SEC_LO is at offset 0x018 and holds the low half of the seconds of the latest T_r. -/
def THR_T0_SEC_LO : Nat := 0x7000018
def THR_T0_SEC_LO.sec_lo : Field := ⟨THR_T0_SEC_LO, 0, 32⟩
/-- spec/06_thresher.md: THR_T0_SEC_HI is at offset 0x01C and holds the high half of those seconds. -/
def THR_T0_SEC_HI : Nat := 0x700001C
def THR_T0_SEC_HI.sec_hi : Field := ⟨THR_T0_SEC_HI, 0, 32⟩
/-- spec/06_thresher.md: THR_T0_NS is at offset 0x020 and holds the nanoseconds of the latest T_r. -/
def THR_T0_NS : Nat := 0x7000020
def THR_T0_NS.ns : Field := ⟨THR_T0_NS, 0, 30⟩
/-- spec/06_thresher.md: THR_T0_FRAC is at offset 0x024 and holds the fraction of the latest T_r. -/
def THR_T0_FRAC : Nat := 0x7000024
def THR_T0_FRAC.frac : Field := ⟨THR_T0_FRAC, 0, 32⟩
/-- spec/06_thresher.md: THR_COUNT is at offset 0x028 and counts discarded blocks and refused jobs. -/
def THR_COUNT : Nat := 0x7000028
def THR_COUNT.discards : Field := ⟨THR_COUNT, 0, 16⟩
def THR_COUNT.refused : Field := ⟨THR_COUNT, 16, 16⟩
/-- spec/06_thresher.md: THR_JOB_CFG[j] is at offset 0x00 of slot j and describes the job. -/
def THR_JOB_CFG (j : Nat) : Nat := 0x7000400 + 0x20 * j
def THR_JOB_CFG.valid (j : Nat) : Field := ⟨THR_JOB_CFG j, 0, 1⟩
def THR_JOB_CFG.lane (j : Nat) : Field := ⟨THR_JOB_CFG j, 1, 4⟩
def THR_JOB_CFG.signal (j : Nat) : Field := ⟨THR_JOB_CFG j, 8, 6⟩
def THR_JOB_CFG.sat (j : Nat) : Field := ⟨THR_JOB_CFG j, 16, 8⟩
def THR_JOB_CFG.mode (j : Nat) : Field := ⟨THR_JOB_CFG j, 24, 1⟩
def THR_JOB_CFG.w_sel (j : Nat) : Field := ⟨THR_JOB_CFG j, 25, 3⟩
def THR_JOB_CFG.step (j : Nat) : Field := ⟨THR_JOB_CFG j, 28, 1⟩
/-- spec/06_thresher.md: THR_JOB_CODE[j] is at offset 0x04 of slot j and sets the window start. -/
def THR_JOB_CODE (j : Nat) : Nat := 0x7000404 + 0x20 * j
def THR_JOB_CODE.start_frac (j : Nat) : Field := ⟨THR_JOB_CODE j, 0, 8⟩
def THR_JOB_CODE.start_cell (j : Nat) : Field := ⟨THR_JOB_CODE j, 8, 16⟩
/-- spec/06_thresher.md: THR_JOB_WIN[j] is at offset 0x08 of slot j and sets the window width. -/
def THR_JOB_WIN (j : Nat) : Nat := 0x7000408 + 0x20 * j
def THR_JOB_WIN.cells (j : Nat) : Field := ⟨THR_JOB_WIN j, 0, 16⟩
/-- spec/06_thresher.md: THR_JOB_DOP[j] is at offset 0x0C of slot j and sets the Doppler centre. -/
def THR_JOB_DOP (j : Nat) : Nat := 0x700040C + 0x20 * j
def THR_JOB_DOP.centre (j : Nat) : Field := ⟨THR_JOB_DOP j, 0, 32⟩
/-- spec/06_thresher.md: THR_JOB_BINS[j] is at offset 0x10 of slot j and sets the Doppler width. -/
def THR_JOB_BINS (j : Nat) : Nat := 0x7000410 + 0x20 * j
def THR_JOB_BINS.n (j : Nat) : Field := ⟨THR_JOB_BINS j, 0, 7⟩
/-- spec/06_thresher.md: THR_JOB_STATE[j] is at offset 0x14 of slot j and reports the job. -/
def THR_JOB_STATE (j : Nat) : Nat := 0x7000414 + 0x20 * j
def THR_JOB_STATE.state (j : Nat) : Field := ⟨THR_JOB_STATE j, 0, 3⟩
def THR_JOB_STATE.cause (j : Nat) : Field := ⟨THR_JOB_STATE j, 4, 3⟩
def THR_JOB_STATE.pshift (j : Nat) : Field := ⟨THR_JOB_STATE j, 8, 5⟩
def THR_JOB_STATE.overload (j : Nat) : Field := ⟨THR_JOB_STATE j, 13, 1⟩
def THR_JOB_STATE.sat_seen (j : Nat) : Field := ⟨THR_JOB_STATE j, 14, 1⟩
def THR_JOB_STATE.sum_error (j : Nat) : Field := ⟨THR_JOB_STATE j, 15, 1⟩
def THR_JOB_STATE.round (j : Nat) : Field := ⟨THR_JOB_STATE j, 16, 6⟩
/-- spec/06_thresher.md: THR_JOB_NOISE[j] is at offset 0x18 of slot j and reports the noise mean. -/
def THR_JOB_NOISE (j : Nat) : Nat := 0x7000418 + 0x20 * j
def THR_JOB_NOISE.sigma2 (j : Nat) : Field := ⟨THR_JOB_NOISE j, 0, 32⟩
/-- spec/06_thresher.md: THR_JOB_BLK[j] is at offset 0x1C of slot j and counts the job's blocks. -/
def THR_JOB_BLK (j : Nat) : Nat := 0x700041C + 0x20 * j
def THR_JOB_BLK.used (j : Nat) : Field := ⟨THR_JOB_BLK j, 0, 11⟩
def THR_JOB_BLK.discarded (j : Nat) : Field := ⟨THR_JOB_BLK j, 11, 11⟩
/-- spec/07_sheaves.md: SHF_CTRL is at offset 0x000 and enables the sheaves. -/
def SHF_CTRL : Nat := 0xD000000
def SHF_CTRL.enable : Field := ⟨SHF_CTRL, 0, 1⟩
/-- spec/07_sheaves.md: SHF_EVENT is at offset 0x004 and latches sheaf events. -/
def SHF_EVENT : Nat := 0xD000004
def SHF_EVENT.start_refused : Field := ⟨SHF_EVENT, 0, 1⟩
def SHF_EVENT.late_start : Field := ⟨SHF_EVENT, 1, 1⟩
def SHF_EVENT.lane_lost : Field := ⟨SHF_EVENT, 2, 1⟩
def SHF_EVENT.dump_drop : Field := ⟨SHF_EVENT, 3, 1⟩
def SHF_EVENT.clamp : Field := ⟨SHF_EVENT, 4, 1⟩
def SHF_EVENT.ram_busy : Field := ⟨SHF_EVENT, 5, 1⟩
/-- spec/07_sheaves.md: SHF_COUNT is at offset 0x008 and counts sheaf occurrences. -/
def SHF_COUNT : Nat := 0xD000008
def SHF_COUNT.dump_drop : Field := ⟨SHF_COUNT, 0, 8⟩
def SHF_COUNT.upd_merged : Field := ⟨SHF_COUNT, 8, 8⟩
def SHF_COUNT.upd_discard : Field := ⟨SHF_COUNT, 16, 8⟩
def SHF_COUNT.ram_busy : Field := ⟨SHF_COUNT, 24, 8⟩
/-- spec/07_sheaves.md: SHF_ACTIVE is at offset 0x00C and counts running channels. -/
def SHF_ACTIVE : Nat := 0xD00000C
def SHF_ACTIVE.running : Field := ⟨SHF_ACTIVE, 0, 10⟩
/-- spec/07_sheaves.md: SHF_CH_CTRL is at offset 0x00 and starts and stops the channel. -/
def SHF_CH_CTRL (c : Nat) : Nat := 0xD001000 + 0x40 * c
def SHF_CH_CTRL.start (c : Nat) : Field := ⟨SHF_CH_CTRL c, 0, 1⟩
def SHF_CH_CTRL.stop (c : Nat) : Field := ⟨SHF_CH_CTRL c, 1, 1⟩
/-- spec/07_sheaves.md: SHF_CH_CFG is at offset 0x04 and configures the channel. -/
def SHF_CH_CFG (c : Nat) : Nat := 0xD001004 + 0x40 * c
def SHF_CH_CFG.lane (c : Nat) : Field := ⟨SHF_CH_CFG c, 0, 4⟩
def SHF_CH_CFG.dsp (c : Nat) : Field := ⟨SHF_CH_CFG c, 4, 4⟩
def SHF_CH_CFG.pair (c : Nat) : Field := ⟨SHF_CH_CFG c, 8, 1⟩
def SHF_CH_CFG.fan (c : Nat) : Field := ⟨SHF_CH_CFG c, 9, 2⟩
def SHF_CH_CFG.integ_len (c : Nat) : Field := ⟨SHF_CH_CFG c, 11, 7⟩
def SHF_CH_CFG.align (c : Nat) : Field := ⟨SHF_CH_CFG c, 18, 1⟩
def SHF_CH_CFG.dump_shift (c : Nat) : Field := ⟨SHF_CH_CFG c, 19, 4⟩
def SHF_CH_CFG.wipe_shift (c : Nat) : Field := ⟨SHF_CH_CFG c, 23, 4⟩
def SHF_CH_CFG.s3_data (c : Nat) : Field := ⟨SHF_CH_CFG c, 27, 1⟩
def SHF_CH_CFG.sec_en (c : Nat) : Field := ⟨SHF_CH_CFG c, 28, 1⟩
def SHF_CH_CFG.prio (c : Nat) : Field := ⟨SHF_CH_CFG c, 29, 3⟩
/-- spec/07_sheaves.md: SHF_CH_CODE is at offset 0x08 and selects the code. -/
def SHF_CH_CODE (c : Nat) : Nat := 0xD001008 + 0x40 * c
def SHF_CH_CODE.signal (c : Nat) : Field := ⟨SHF_CH_CODE c, 0, 6⟩
def SHF_CH_CODE.sat (c : Nat) : Field := ⟨SHF_CH_CODE c, 8, 8⟩
def SHF_CH_CODE.code_ram (c : Nat) : Field := ⟨SHF_CH_CODE c, 16, 1⟩
def SHF_CH_CODE.sub_sel (c : Nat) : Field := ⟨SHF_CH_CODE c, 20, 4⟩
/-- spec/07_sheaves.md: SHF_CH_RAM is at offset 0x0C and names the code RAM region. -/
def SHF_CH_RAM (c : Nat) : Nat := 0xD00100C + 0x40 * c
def SHF_CH_RAM.offset (c : Nat) : Field := ⟨SHF_CH_RAM c, 0, 16⟩
def SHF_CH_RAM.length (c : Nat) : Field := ⟨SHF_CH_RAM c, 16, 16⟩
/-- spec/07_sheaves.md: SHF_CH_TAPS is at offset 0x10 and places the standard taps and S0 and S1. -/
def SHF_CH_TAPS (c : Nat) : Nat := 0xD001010 + 0x40 * c
def SHF_CH_TAPS.spacing (c : Nat) : Field := ⟨SHF_CH_TAPS c, 0, 7⟩
def SHF_CH_TAPS.s0 (c : Nat) : Field := ⟨SHF_CH_TAPS c, 7, 9⟩
def SHF_CH_TAPS.s1 (c : Nat) : Field := ⟨SHF_CH_TAPS c, 16, 9⟩
/-- spec/07_sheaves.md: SHF_CH_STROBE is at offset 0x14 and places S2 and S3. -/
def SHF_CH_STROBE (c : Nat) : Nat := 0xD001014 + 0x40 * c
def SHF_CH_STROBE.s2 (c : Nat) : Field := ⟨SHF_CH_STROBE c, 0, 9⟩
def SHF_CH_STROBE.s3 (c : Nat) : Field := ⟨SHF_CH_STROBE c, 9, 9⟩
/-- spec/07_sheaves.md: SHF_CH_START is at offset 0x18 and names the first word. -/
def SHF_CH_START (c : Nat) : Nat := 0xD001018 + 0x40 * c
def SHF_CH_START.start_word (c : Nat) : Field := ⟨SHF_CH_START c, 0, 32⟩
/-- spec/07_sheaves.md: SHF_CH_CARF_LO is at offset 0x1C and holds the low part of F_c. -/
def SHF_CH_CARF_LO (c : Nat) : Nat := 0xD00101C + 0x40 * c
def SHF_CH_CARF_LO.fc_lo (c : Nat) : Field := ⟨SHF_CH_CARF_LO c, 0, 32⟩
/-- spec/07_sheaves.md: SHF_CH_CARF_HI is at offset 0x20 and holds the high part of F_c. -/
def SHF_CH_CARF_HI (c : Nat) : Nat := 0xD001020 + 0x40 * c
def SHF_CH_CARF_HI.fc_hi (c : Nat) : Field := ⟨SHF_CH_CARF_HI c, 0, 16⟩
/-- spec/07_sheaves.md: SHF_CH_CODEF_LO is at offset 0x24 and holds the low part of F_k. -/
def SHF_CH_CODEF_LO (c : Nat) : Nat := 0xD001024 + 0x40 * c
def SHF_CH_CODEF_LO.fk_lo (c : Nat) : Field := ⟨SHF_CH_CODEF_LO c, 0, 32⟩
/-- spec/07_sheaves.md: SHF_CH_CODEF_HI is at offset 0x28 and holds the high part of F_k. -/
def SHF_CH_CODEF_HI (c : Nat) : Nat := 0xD001028 + 0x40 * c
def SHF_CH_CODEF_HI.fk_hi (c : Nat) : Field := ⟨SHF_CH_CODEF_HI c, 0, 16⟩
/-- spec/07_sheaves.md: SHF_CH_CARP is at offset 0x2C and holds the carrier phase. -/
def SHF_CH_CARP (c : Nat) : Nat := 0xD00102C + 0x40 * c
def SHF_CH_CARP.phase (c : Nat) : Field := ⟨SHF_CH_CARP c, 0, 32⟩
/-- spec/07_sheaves.md: SHF_CH_CODEP is at offset 0x30 and holds the code phase. -/
def SHF_CH_CODEP (c : Nat) : Nat := 0xD001030 + 0x40 * c
def SHF_CH_CODEP.chip (c : Nat) : Field := ⟨SHF_CH_CODEP c, 0, 20⟩
def SHF_CH_CODEP.frac (c : Nat) : Field := ⟨SHF_CH_CODEP c, 20, 12⟩
/-- spec/07_sheaves.md: SHF_CH_AUX is at offset 0x34 and holds the fan step and the secondary index. -/
def SHF_CH_AUX (c : Nat) : Nat := 0xD001034 + 0x40 * c
def SHF_CH_AUX.fan_step (c : Nat) : Field := ⟨SHF_CH_AUX c, 0, 20⟩
def SHF_CH_AUX.sec_index (c : Nat) : Field := ⟨SHF_CH_AUX c, 20, 11⟩
/-- spec/07_sheaves.md: SHF_CH_STATUS is at offset 0x38 and shows the channel's state. -/
def SHF_CH_STATUS (c : Nat) : Nat := 0xD001038 + 0x40 * c
def SHF_CH_STATUS.state (c : Nat) : Field := ⟨SHF_CH_STATUS c, 0, 2⟩
def SHF_CH_STATUS.late_start (c : Nat) : Field := ⟨SHF_CH_STATUS c, 2, 1⟩
def SHF_CH_STATUS.lane_lost (c : Nat) : Field := ⟨SHF_CH_STATUS c, 3, 1⟩
def SHF_CH_STATUS.cause (c : Nat) : Field := ⟨SHF_CH_STATUS c, 4, 4⟩
def SHF_CH_STATUS.wipe_sat (c : Nat) : Field := ⟨SHF_CH_STATUS c, 8, 8⟩
/-- spec/08_dsp_core.md: WIN_CFG[w] is at I/O address 0x0_F000 + 2 × w, for w from 0 to 3, and configures window w. -/
def WIN_CFG (n : Nat) (i : Nat) : Nat := 0x2000F000 + 0x1000000 * n + 0x2 * i
def WIN_CFG.base (n : Nat) (i : Nat) : Field := ⟨WIN_CFG n i, 0, 9⟩
def WIN_CFG.en (n : Nat) (i : Nat) : Field := ⟨WIN_CFG n i, 9, 1⟩
def WIN_CFG.cls (n : Nat) (i : Nat) : Field := ⟨WIN_CFG n i, 10, 2⟩
def WIN_CFG.err (n : Nat) (i : Nat) : Field := ⟨WIN_CFG n i, 12, 1⟩
def WIN_CFG.busy (n : Nat) (i : Nat) : Field := ⟨WIN_CFG n i, 13, 1⟩
/-- spec/08_dsp_core.md: WIN_HI[w] is at I/O address 0x0_F001 + 2 × w and holds the high half of window w's granary words. -/
def WIN_HI (n : Nat) (i : Nat) : Nat := 0x2000F001 + 0x1000000 * n + 0x2 * i
def WIN_HI.hi (n : Nat) (i : Nat) : Field := ⟨WIN_HI n i, 0, 20⟩
/-- spec/08_dsp_core.md: CORE_ID is at I/O address 0x0_F010 and identifies the core. -/
def CORE_ID (n : Nat) : Nat := 0x2000F010 + 0x1000000 * n
def CORE_ID.number (n : Nat) : Field := ⟨CORE_ID n, 0, 4⟩
def CORE_ID.isOpen (n : Nat) : Field := ⟨CORE_ID n, 4, 1⟩
/-- spec/09_dsp_programs.md: INT_PEND is at I/O address 0x0_F020 and shows pending sources. -/
def INT_PEND (n : Nat) : Nat := 0x2000F020 + 0x1000000 * n
def INT_PEND.pend (n : Nat) : Field := ⟨INT_PEND n, 1, 9⟩
/-- spec/09_dsp_programs.md: INT_MASK is at I/O address 0x0_F021 and enables sources 6 to 9. -/
def INT_MASK (n : Nat) : Nat := 0x2000F021 + 0x1000000 * n
def INT_MASK.mask (n : Nat) : Field := ⟨INT_MASK n, 6, 4⟩
/-- spec/09_dsp_programs.md: INT_STATUS is at I/O address 0x0_F022 and shows the running handler. -/
def INT_STATUS (n : Nat) : Nat := 0x2000F022 + 0x1000000 * n
def INT_STATUS.active (n : Nat) : Field := ⟨INT_STATUS n, 0, 1⟩
def INT_STATUS.vector (n : Nat) : Field := ⟨INT_STATUS n, 1, 4⟩
/-- spec/09_dsp_programs.md: INT_RET is at I/O address 0x0_F023 and holds the return address. -/
def INT_RET (n : Nat) : Nat := 0x2000F023 + 0x1000000 * n
def INT_RET.ret_pc (n : Nat) : Field := ⟨INT_RET n, 0, 14⟩
/-- spec/09_dsp_programs.md: INT_SAVED_SR is at I/O address 0x0_F024 and holds sr as it stood at entry. -/
def INT_SAVED_SR (n : Nat) : Nat := 0x2000F024 + 0x1000000 * n
def INT_SAVED_SR.sr (n : Nat) : Field := ⟨INT_SAVED_SR n, 0, 20⟩
/-- spec/09_dsp_programs.md: INT_FAULT_PC is at I/O address 0x0_F025 and records the latest fault. -/
def INT_FAULT_PC (n : Nat) : Nat := 0x2000F025 + 0x1000000 * n
def INT_FAULT_PC.pc (n : Nat) : Field := ⟨INT_FAULT_PC n, 0, 14⟩
def INT_FAULT_PC.vector (n : Nat) : Field := ⟨INT_FAULT_PC n, 14, 3⟩
/-- spec/09_dsp_programs.md: INT_FAULT_ADDR is at I/O address 0x0_F026 and records the address involved in the latest fault. -/
def INT_FAULT_ADDR (n : Nat) : Nat := 0x2000F026 + 0x1000000 * n
def INT_FAULT_ADDR.addr (n : Nat) : Field := ⟨INT_FAULT_ADDR n, 0, 20⟩
/-- spec/09_dsp_programs.md: WDG_CTRL is at I/O address 0x0_F027 and runs the watchdog. -/
def WDG_CTRL (n : Nat) : Nat := 0x2000F027 + 0x1000000 * n
def WDG_CTRL.kick (n : Nat) : Field := ⟨WDG_CTRL n, 0, 1⟩
def WDG_CTRL.period_us (n : Nat) : Field := ⟨WDG_CTRL n, 1, 16⟩
/-- spec/09_dsp_programs.md: TRIG_LAST is at I/O address 0x0_F028 and names the trigger of source 8. -/
def TRIG_LAST (n : Nat) : Nat := 0x2000F028 + 0x1000000 * n
def TRIG_LAST.trigger (n : Nat) : Field := ⟨TRIG_LAST n, 0, 5⟩
def TRIG_LAST.more (n : Nat) : Field := ⟨TRIG_LAST n, 5, 1⟩
/-- spec/09_dsp_programs.md: NOTIFY is at I/O address 0x0_F029 and sends a word to the steward cores. -/
def NOTIFY (n : Nat) : Nat := 0x2000F029 + 0x1000000 * n
def NOTIFY.value (n : Nat) : Field := ⟨NOTIFY n, 0, 20⟩
/-- spec/09_dsp_programs.md: DOORBELL is at I/O address 0x0_F02A and holds the word written by the steward cores. -/
def DOORBELL (n : Nat) : Nat := 0x2000F02A + 0x1000000 * n
def DOORBELL.value (n : Nat) : Field := ⟨DOORBELL n, 0, 20⟩
/-- spec/09_dsp_programs.md: DQ_STATUS is a firmware-core register at I/O address 0x0_F030 and shows the dump queue, which holds up to 32 dump records (R224, R225). -/
def DQ_STATUS (n : Nat) : Nat := 0x2000F030 + 0x1000000 * n
def DQ_STATUS.count (n : Nat) : Field := ⟨DQ_STATUS n, 0, 6⟩
def DQ_STATUS.thresh (n : Nat) : Field := ⟨DQ_STATUS n, 8, 6⟩
def DQ_STATUS.full (n : Nat) : Field := ⟨DQ_STATUS n, 14, 1⟩
/-- spec/09_dsp_programs.md: DQ_DATA is a firmware-core register at I/O address 0x0_F031 and reads the queue. -/
def DQ_DATA (n : Nat) : Nat := 0x2000F031 + 0x1000000 * n
def DQ_DATA.word (n : Nat) : Field := ⟨DQ_DATA n, 0, 20⟩
/-- spec/09_dsp_programs.md: UPD_DATA is a firmware-core register at I/O address 0x0_F032 and sends loop updates. -/
def UPD_DATA (n : Nat) : Nat := 0x2000F032 + 0x1000000 * n
def UPD_DATA.word (n : Nat) : Field := ⟨UPD_DATA n, 0, 20⟩
/-- spec/09_dsp_programs.md: FEED_CFG is at I/O address 0x0_F038 and shows and controls the feed. -/
def FEED_CFG (n : Nat) : Nat := 0x2000F038 + 0x1000000 * n
def FEED_CFG.granted (n : Nat) : Field := ⟨FEED_CFG n, 0, 1⟩
def FEED_CFG.lane (n : Nat) : Field := ⟨FEED_CFG n, 1, 4⟩
def FEED_CFG.q (n : Nat) : Field := ⟨FEED_CFG n, 5, 3⟩
def FEED_CFG.run (n : Nat) : Field := ⟨FEED_CFG n, 8, 1⟩
def FEED_CFG.thresh (n : Nat) : Field := ⟨FEED_CFG n, 9, 10⟩
/-- spec/09_dsp_programs.md: FEED_WIDX is at I/O address 0x0_F039 and gives the feed's write index. -/
def FEED_WIDX (n : Nat) : Nat := 0x2000F039 + 0x1000000 * n
def FEED_WIDX.widx (n : Nat) : Field := ⟨FEED_WIDX n, 0, 11⟩
/-- spec/09_dsp_programs.md: FEED_RIDX is at I/O address 0x0_F03A and holds the kernel's read index. -/
def FEED_RIDX (n : Nat) : Nat := 0x2000F03A + 0x1000000 * n
def FEED_RIDX.ridx (n : Nat) : Field := ⟨FEED_RIDX n, 0, 11⟩
/-- spec/09_dsp_programs.md: FEED_WORD_LO is at I/O address 0x0_F03B and holds the low half of the latched word number. -/
def FEED_WORD_LO (n : Nat) : Nat := 0x2000F03B + 0x1000000 * n
def FEED_WORD_LO.word_lo (n : Nat) : Field := ⟨FEED_WORD_LO n, 0, 20⟩
/-- spec/09_dsp_programs.md: FEED_WORD_HI is at I/O address 0x0_F03C and holds the high half. -/
def FEED_WORD_HI (n : Nat) : Nat := 0x2000F03C + 0x1000000 * n
def FEED_WORD_HI.word_hi (n : Nat) : Field := ⟨FEED_WORD_HI n, 0, 20⟩
/-- spec/09_dsp_programs.md: FEED_STATUS is at I/O address 0x0_F03D and reports the feed. -/
def FEED_STATUS (n : Nat) : Nat := 0x2000F03D + 0x1000000 * n
def FEED_STATUS.overrun (n : Nat) : Field := ⟨FEED_STATUS n, 0, 1⟩
def FEED_STATUS.ovl_seen (n : Nat) : Field := ⟨FEED_STATUS n, 1, 1⟩
def FEED_STATUS.origin (n : Nat) : Field := ⟨FEED_STATUS n, 2, 1⟩
def FEED_STATUS.lane_stopped (n : Nat) : Field := ⟨FEED_STATUS n, 3, 1⟩
def FEED_STATUS.drops (n : Nat) : Field := ⟨FEED_STATUS n, 8, 12⟩
/-- spec/11_local_time.md: TIME_CTRL is at offset 0x000 and sets the step and slew limits. -/
def TIME_CTRL : Nat := 0x8000000
def TIME_CTRL.step_threshold : Field := ⟨TIME_CTRL, 0, 20⟩
def TIME_CTRL.slew_max : Field := ⟨TIME_CTRL, 20, 8⟩
/-- spec/11_local_time.md: TIME_SRC_CFG is at offset 0x004 and configures source selection. -/
def TIME_SRC_CFG : Nat := 0x8000004
def TIME_SRC_CFG.gnss_en : Field := ⟨TIME_SRC_CFG, 0, 1⟩
def TIME_SRC_CFG.ptp_en : Field := ⟨TIME_SRC_CFG, 1, 1⟩
def TIME_SRC_CFG.loss_timeout : Field := ⟨TIME_SRC_CFG, 4, 8⟩
def TIME_SRC_CFG.qual_count : Field := ⟨TIME_SRC_CFG, 12, 4⟩
def TIME_SRC_CFG.rtc_drift : Field := ⟨TIME_SRC_CFG, 16, 8⟩
def TIME_SRC_CFG.spoof_hold : Field := ⟨TIME_SRC_CFG, 24, 8⟩
/-- spec/11_local_time.md: TIME_STATUS is at offset 0x008 and shows the unit's state. -/
def TIME_STATUS : Nat := 0x8000008
def TIME_STATUS.source : Field := ⟨TIME_STATUS, 0, 2⟩
def TIME_STATUS.tick_src : Field := ⟨TIME_STATUS, 2, 2⟩
def TIME_STATUS.degraded : Field := ⟨TIME_STATUS, 4, 1⟩
def TIME_STATUS.slewing : Field := ⟨TIME_STATUS, 5, 1⟩
def TIME_STATUS.step_pending : Field := ⟨TIME_STATUS, 6, 1⟩
def TIME_STATUS.walk_comp : Field := ⟨TIME_STATUS, 7, 1⟩
def TIME_STATUS.spoof_hold : Field := ⟨TIME_STATUS, 8, 1⟩
/-- spec/11_local_time.md: TIME_EVENT is at offset 0x00C and latches events. -/
def TIME_EVENT : Nat := 0x800000C
def TIME_EVENT.src_change : Field := ⟨TIME_EVENT, 0, 1⟩
def TIME_EVENT.tick_change : Field := ⟨TIME_EVENT, 1, 1⟩
def TIME_EVENT.step_done : Field := ⟨TIME_EVENT, 2, 1⟩
def TIME_EVENT.slew_done : Field := ⟨TIME_EVENT, 3, 1⟩
def TIME_EVENT.discont : Field := ⟨TIME_EVENT, 4, 1⟩
def TIME_EVENT.trig_late : Field := ⟨TIME_EVENT, 5, 1⟩
def TIME_EVENT.cap_overrun : Field := ⟨TIME_EVENT, 6, 1⟩
def TIME_EVENT.tp_suppressed : Field := ⟨TIME_EVENT, 7, 1⟩
def TIME_EVENT.jump_uncomp : Field := ⟨TIME_EVENT, 8, 1⟩
def TIME_EVENT.keep_reload : Field := ⟨TIME_EVENT, 9, 1⟩
/-- spec/11_local_time.md: TIME_INC_FRAC is at offset 0x020 and holds the increment's fraction. -/
def TIME_INC_FRAC : Nat := 0x8000020
def TIME_INC_FRAC.f : Field := ⟨TIME_INC_FRAC, 0, 32⟩
/-- spec/11_local_time.md: TIME_INC_INT is at offset 0x024 and holds the increment's integer part. -/
def TIME_INC_INT : Nat := 0x8000024
def TIME_INC_INT.i : Field := ⟨TIME_INC_INT, 0, 4⟩
/-- spec/11_local_time.md: TIME_SLEW is at offset 0x028 and sets the slew offset. -/
def TIME_SLEW : Nat := 0x8000028
def TIME_SLEW.offset : Field := ⟨TIME_SLEW, 0, 32⟩
/-- spec/11_local_time.md: TIME_STEP_SEC is at offset 0x02C and holds the step's seconds. -/
def TIME_STEP_SEC : Nat := 0x800002C
def TIME_STEP_SEC.step_sec : Field := ⟨TIME_STEP_SEC, 0, 32⟩
/-- spec/11_local_time.md: TIME_STEP_NS is at offset 0x030 and holds the step's nanoseconds. -/
def TIME_STEP_NS : Nat := 0x8000030
def TIME_STEP_NS.step_ns : Field := ⟨TIME_STEP_NS, 0, 30⟩
/-- spec/11_local_time.md: TIME_STEP_CTRL is at offset 0x034 and arms steps. -/
def TIME_STEP_CTRL : Nat := 0x8000034
def TIME_STEP_CTRL.arm : Field := ⟨TIME_STEP_CTRL, 0, 1⟩
def TIME_STEP_CTRL.cancel : Field := ⟨TIME_STEP_CTRL, 1, 1⟩
def TIME_STEP_CTRL.pending : Field := ⟨TIME_STEP_CTRL, 2, 1⟩
/-- spec/11_local_time.md: TIME_UNC is at offset 0x038 and holds the time uncertainty. -/
def TIME_UNC : Nat := 0x8000038
def TIME_UNC.unc_ns : Field := ⟨TIME_UNC, 0, 32⟩
/-- spec/11_local_time.md: TIME_UTC is at offset 0x03C and holds the UTC offset. -/
def TIME_UTC : Nat := 0x800003C
def TIME_UTC.offset : Field := ⟨TIME_UTC, 0, 16⟩
def TIME_UTC.leap : Field := ⟨TIME_UTC, 16, 2⟩
def TIME_UTC.valid : Field := ⟨TIME_UTC, 18, 1⟩
def TIME_UTC.leap_month : Field := ⟨TIME_UTC, 19, 13⟩
/-- spec/11_local_time.md: TIME_TICK_INFO is at offset 0x040 and records the last loss of lock. -/
def TIME_TICK_INFO : Nat := 0x8000040
def TIME_TICK_INFO.last_n : Field := ⟨TIME_TICK_INFO, 0, 4⟩
/-- spec/11_local_time.md: TIME_RTC_CAL is at offset 0x044 and calibrates the RTC. -/
def TIME_RTC_CAL : Nat := 0x8000044
def TIME_RTC_CAL.count : Field := ⟨TIME_RTC_CAL, 0, 30⟩
def TIME_RTC_CAL.valid : Field := ⟨TIME_RTC_CAL, 30, 1⟩
/-- spec/11_local_time.md: TIME_RTC_CNT_LO is at offset 0x048 and holds the low half of the RTC counter, always-on. -/
def TIME_RTC_CNT_LO : Nat := 0x8000048
def TIME_RTC_CNT_LO.cnt_lo : Field := ⟨TIME_RTC_CNT_LO, 0, 32⟩
/-- spec/11_local_time.md: TIME_RTC_CNT_HI is at offset 0x04C and holds the high part, always-on. -/
def TIME_RTC_CNT_HI : Nat := 0x800004C
def TIME_RTC_CNT_HI.cnt_hi : Field := ⟨TIME_RTC_CNT_HI, 0, 16⟩
/-- spec/11_local_time.md: TIME_RTC_ALARM_LO is at offset 0x050 and holds the low half of the wake alarm, always-on. -/
def TIME_RTC_ALARM_LO : Nat := 0x8000050
def TIME_RTC_ALARM_LO.alarm_lo : Field := ⟨TIME_RTC_ALARM_LO, 0, 32⟩
/-- spec/11_local_time.md: TIME_RTC_ALARM_HI is at offset 0x054 and holds the high part and enable, always-on. -/
def TIME_RTC_ALARM_HI : Nat := 0x8000054
def TIME_RTC_ALARM_HI.alarm_hi : Field := ⟨TIME_RTC_ALARM_HI, 0, 16⟩
def TIME_RTC_ALARM_HI.en : Field := ⟨TIME_RTC_ALARM_HI, 16, 1⟩
/-- spec/11_local_time.md: TIME_FREEZE_CNT_LO is at offset 0x058 and holds the low half of N (R391). -/
def TIME_FREEZE_CNT_LO : Nat := 0x8000058
def TIME_FREEZE_CNT_LO.n_lo : Field := ⟨TIME_FREEZE_CNT_LO, 0, 32⟩
/-- spec/11_local_time.md: TIME_FREEZE_CNT_HI is at offset 0x05C and holds the high part. -/
def TIME_FREEZE_CNT_HI : Nat := 0x800005C
def TIME_FREEZE_CNT_HI.n_hi : Field := ⟨TIME_FREEZE_CNT_HI, 0, 16⟩
/-- spec/11_local_time.md: TRIG_PER_LO is at offset 0x10 of trigger j and holds the period's low word. -/
def TRIG_PER_LO (j : Nat) : Nat := 0x8000210 + 0x20 * j
def TRIG_PER_LO.per_lo (j : Nat) : Field := ⟨TRIG_PER_LO j, 0, 32⟩
/-- spec/11_local_time.md: TRIG_PER_HI is at offset 0x14 and holds the period's high part. -/
def TRIG_PER_HI (j : Nat) : Nat := 0x8000214 + 0x20 * j
def TRIG_PER_HI.per_hi (j : Nat) : Field := ⟨TRIG_PER_HI j, 0, 8⟩
/-- spec/11_local_time.md: TRIG_CFG is at offset 0x18 and controls trigger j. -/
def TRIG_CFG (j : Nat) : Nat := 0x8000218 + 0x20 * j
def TRIG_CFG.en (j : Nat) : Field := ⟨TRIG_CFG j, 0, 1⟩
def TRIG_CFG.fired (j : Nat) : Field := ⟨TRIG_CFG j, 1, 1⟩
def TRIG_CFG.late (j : Nat) : Field := ⟨TRIG_CFG j, 2, 1⟩
def TRIG_CFG.out_en (j : Nat) : Field := ⟨TRIG_CFG j, 3, 1⟩
def TRIG_CFG.out_pin (j : Nat) : Field := ⟨TRIG_CFG j, 4, 2⟩
def TRIG_CFG.out_low (j : Nat) : Field := ⟨TRIG_CFG j, 6, 1⟩
def TRIG_CFG.width_ticks (j : Nat) : Field := ⟨TRIG_CFG j, 8, 16⟩
/-- spec/11_local_time.md: TRIG_ROUTE is at offset 0x1C and routes trigger j. -/
def TRIG_ROUTE (j : Nat) : Nat := 0x800021C + 0x20 * j
def TRIG_ROUTE.dsp (j : Nat) : Field := ⟨TRIG_ROUTE j, 0, 16⟩
def TRIG_ROUTE.stw (j : Nat) : Field := ⟨TRIG_ROUTE j, 16, 1⟩
def TRIG_ROUTE.host (j : Nat) : Field := ⟨TRIG_ROUTE j, 17, 1⟩
def TRIG_ROUTE.skipped (j : Nat) : Field := ⟨TRIG_ROUTE j, 20, 8⟩
/-- spec/11_local_time.md: CAP_CFG configures channel i. -/
def CAP_CFG (i : Nat) : Nat := 0x8000600 + 0x40 * i
def CAP_CFG.en (i : Nat) : Field := ⟨CAP_CFG i, 0, 1⟩
def CAP_CFG.src (i : Nat) : Field := ⟨CAP_CFG i, 1, 5⟩
def CAP_CFG.edge (i : Nat) : Field := ⟨CAP_CFG i, 6, 2⟩
def CAP_CFG.win_en (i : Nat) : Field := ⟨CAP_CFG i, 8, 1⟩
def CAP_CFG.host_irq (i : Nat) : Field := ⟨CAP_CFG i, 9, 1⟩
def CAP_CFG.host (i : Nat) : Field := ⟨CAP_CFG i, 10, 1⟩
/-- spec/11_local_time.md: CAP_STATUS reports channel i. -/
def CAP_STATUS (i : Nat) : Nat := 0x8000604 + 0x40 * i
def CAP_STATUS.valid (i : Nat) : Field := ⟨CAP_STATUS i, 0, 1⟩
def CAP_STATUS.overrun (i : Nat) : Field := ⟨CAP_STATUS i, 1, 1⟩
def CAP_STATUS.rising (i : Nat) : Field := ⟨CAP_STATUS i, 2, 1⟩
def CAP_STATUS.missed (i : Nat) : Field := ⟨CAP_STATUS i, 8, 8⟩
def CAP_STATUS.outside (i : Nat) : Field := ⟨CAP_STATUS i, 16, 8⟩
/-- spec/11_local_time.md: TP_CFG is at offset 0x00 and controls pulse k. -/
def TP_CFG (k : Nat) : Nat := 0x8000A00 + 0x40 * k
def TP_CFG.en (k : Nat) : Field := ⟨TP_CFG k, 0, 1⟩
def TP_CFG.gate (k : Nat) : Field := ⟨TP_CFG k, 1, 2⟩
def TP_CFG.active_low (k : Nat) : Field := ⟨TP_CFG k, 3, 1⟩
def TP_CFG.utc_align (k : Nat) : Field := ⟨TP_CFG k, 4, 1⟩
def TP_CFG.event (k : Nat) : Field := ⟨TP_CFG k, 5, 1⟩
def TP_CFG.status_evt (k : Nat) : Field := ⟨TP_CFG k, 6, 1⟩
/-- spec/11_local_time.md: TP_PER_LO is at offset 0x04 and holds the period's low word. -/
def TP_PER_LO (k : Nat) : Nat := 0x8000A04 + 0x40 * k
def TP_PER_LO.per_lo (k : Nat) : Field := ⟨TP_PER_LO k, 0, 32⟩
/-- spec/11_local_time.md: TP_PER_HI is at offset 0x08 and holds the period's high part. -/
def TP_PER_HI (k : Nat) : Nat := 0x8000A08 + 0x40 * k
def TP_PER_HI.per_hi (k : Nat) : Field := ⟨TP_PER_HI k, 0, 8⟩
/-- spec/11_local_time.md: TP_WIDTH is at offset 0x0C and holds the low word of the width. -/
def TP_WIDTH (k : Nat) : Nat := 0x8000A0C + 0x40 * k
def TP_WIDTH.width (k : Nat) : Field := ⟨TP_WIDTH k, 0, 32⟩
/-- spec/11_local_time.md: TP_PHASE_LO is at offset 0x10 and holds the phase's low word. -/
def TP_PHASE_LO (k : Nat) : Nat := 0x8000A10 + 0x40 * k
def TP_PHASE_LO.ph_lo (k : Nat) : Field := ⟨TP_PHASE_LO k, 0, 32⟩
/-- spec/11_local_time.md: TP_PHASE_HI is at offset 0x14 and holds the phase's high part. -/
def TP_PHASE_HI (k : Nat) : Nat := 0x8000A14 + 0x40 * k
def TP_PHASE_HI.ph_hi (k : Nat) : Field := ⟨TP_PHASE_HI k, 0, 8⟩
/-- spec/11_local_time.md: TP_CABLE is at offset 0x18 and holds the cable delay. -/
def TP_CABLE (k : Nat) : Nat := 0x8000A18 + 0x40 * k
def TP_CABLE.cable (k : Nat) : Field := ⟨TP_CABLE k, 0, 32⟩
/-- spec/11_local_time.md: TP_UNC_LIMIT is at offset 0x1C and limits uncertainty. -/
def TP_UNC_LIMIT (k : Nat) : Nat := 0x8000A1C + 0x40 * k
def TP_UNC_LIMIT.limit (k : Nat) : Field := ⟨TP_UNC_LIMIT k, 0, 32⟩
/-- spec/11_local_time.md: TP_LAST is at offset 0x20 and holds the latest companion flags. -/
def TP_LAST (k : Nat) : Nat := 0x8000A20 + 0x40 * k
def TP_LAST.flags (k : Nat) : Field := ⟨TP_LAST k, 0, 16⟩
def TP_LAST.source (k : Nat) : Field := ⟨TP_LAST k, 16, 2⟩
/-- spec/11_local_time.md: TP_SEQ is at offset 0x24 and holds the latest sequence number. -/
def TP_SEQ (k : Nat) : Nat := 0x8000A24 + 0x40 * k
def TP_SEQ.seq (k : Nat) : Field := ⟨TP_SEQ k, 0, 32⟩
/-- spec/11_local_time.md: TP_WIDTH_HI is at offset 0x28 and holds the high part of the width. -/
def TP_WIDTH_HI (k : Nat) : Nat := 0x8000A28 + 0x40 * k
def TP_WIDTH_HI.width_hi (k : Nat) : Field := ⟨TP_WIDTH_HI k, 0, 8⟩
/-- spec/12_network_time.md: NET_CTRL is at offset 0x000 and controls the port. -/
def NET_CTRL : Nat := 0x9000000
def NET_CTRL.enable : Field := ⟨NET_CTRL, 0, 1⟩
def NET_CTRL.role : Field := ⟨NET_CTRL, 1, 2⟩
def NET_CTRL.profile : Field := ⟨NET_CTRL, 3, 1⟩
def NET_CTRL.transport : Field := ⟨NET_CTRL, 4, 1⟩
def NET_CTRL.one_step : Field := ⟨NET_CTRL, 5, 1⟩
def NET_CTRL.policy : Field := ⟨NET_CTRL, 6, 1⟩
def NET_CTRL.realign : Field := ⟨NET_CTRL, 7, 1⟩
def NET_CTRL.domain : Field := ⟨NET_CTRL, 8, 7⟩
/-- spec/12_network_time.md: NET_INTERVALS is at offset 0x004 and sets the message intervals. -/
def NET_INTERVALS : Nat := 0x9000004
def NET_INTERVALS.log_sync : Field := ⟨NET_INTERVALS, 0, 4⟩
def NET_INTERVALS.log_announce : Field := ⟨NET_INTERVALS, 4, 4⟩
def NET_INTERVALS.log_delay : Field := ⟨NET_INTERVALS, 8, 4⟩
def NET_INTERVALS.announce_timeout : Field := ⟨NET_INTERVALS, 12, 4⟩
def NET_INTERVALS.sync_timeout : Field := ⟨NET_INTERVALS, 16, 4⟩
/-- spec/12_network_time.md: NET_DATASET is at offset 0x008 and sets the announced priorities and the holdover limit. -/
def NET_DATASET : Nat := 0x9000008
def NET_DATASET.priority1 : Field := ⟨NET_DATASET, 0, 8⟩
def NET_DATASET.priority2 : Field := ⟨NET_DATASET, 8, 8⟩
def NET_DATASET.hold_limit : Field := ⟨NET_DATASET, 16, 16⟩
/-- spec/12_network_time.md: NET_LAT is at offset 0x00C and holds the PHY latencies. -/
def NET_LAT : Nat := 0x900000C
def NET_LAT.tx_lat : Field := ⟨NET_LAT, 0, 16⟩
def NET_LAT.rx_lat : Field := ⟨NET_LAT, 16, 16⟩
/-- spec/12_network_time.md: NET_ASYM is at offset 0x010 and holds the asymmetry correction. -/
def NET_ASYM : Nat := 0x9000010
def NET_ASYM.correction : Field := ⟨NET_ASYM, 0, 32⟩
/-- spec/12_network_time.md: NET_STATUS is at offset 0x014 and shows the port's state. -/
def NET_STATUS : Nat := 0x9000014
def NET_STATUS.link : Field := ⟨NET_STATUS, 0, 1⟩
def NET_STATUS.speed : Field := ⟨NET_STATUS, 1, 1⟩
def NET_STATUS.port_state : Field := ⟨NET_STATUS, 2, 4⟩
def NET_STATUS.qualified : Field := ⟨NET_STATUS, 6, 1⟩
def NET_STATUS.requalifying : Field := ⟨NET_STATUS, 7, 1⟩
def NET_STATUS.grandmaster : Field := ⟨NET_STATUS, 8, 1⟩
def NET_STATUS.offset_refused : Field := ⟨NET_STATUS, 9, 1⟩
def NET_STATUS.as_capable : Field := ⟨NET_STATUS, 10, 1⟩
def NET_STATUS.meas_valid : Field := ⟨NET_STATUS, 11, 1⟩
def NET_STATUS.fm_sel : Field := ⟨NET_STATUS, 12, 3⟩
def NET_STATUS.clock_class : Field := ⟨NET_STATUS, 16, 8⟩
/-- spec/12_network_time.md: NET_EVENT is at offset 0x018 and latches port events. -/
def NET_EVENT : Nat := 0x9000018
def NET_EVENT.link_change : Field := ⟨NET_EVENT, 0, 1⟩
def NET_EVENT.state_change : Field := ⟨NET_EVENT, 1, 1⟩
def NET_EVENT.qualified : Field := ⟨NET_EVENT, 2, 1⟩
def NET_EVENT.unqualified : Field := ⟨NET_EVENT, 3, 1⟩
def NET_EVENT.master_change : Field := ⟨NET_EVENT, 4, 1⟩
def NET_EVENT.step_detected : Field := ⟨NET_EVENT, 5, 1⟩
def NET_EVENT.jump_refused : Field := ⟨NET_EVENT, 6, 1⟩
def NET_EVENT.asym_suspect : Field := ⟨NET_EVENT, 7, 1⟩
def NET_EVENT.asym_meas : Field := ⟨NET_EVENT, 8, 1⟩
def NET_EVENT.fm_refused : Field := ⟨NET_EVENT, 9, 1⟩
/-- spec/12_network_time.md: NET_OFFSET is at offset 0x01C and holds the latest offset from master. -/
def NET_OFFSET : Nat := 0x900001C
def NET_OFFSET.offset : Field := ⟨NET_OFFSET, 0, 32⟩
/-- spec/12_network_time.md: NET_MPD is at offset 0x020 and holds the mean path delay. -/
def NET_MPD : Nat := 0x9000020
def NET_MPD.mpd : Field := ⟨NET_MPD, 0, 32⟩
/-- spec/12_network_time.md: NET_ASYM_MEAS is at offset 0x024 and holds the measured asymmetry. -/
def NET_ASYM_MEAS : Nat := 0x9000024
def NET_ASYM_MEAS.asym : Field := ⟨NET_ASYM_MEAS, 0, 32⟩
/-- spec/12_network_time.md: NET_COUNT is at offset 0x028 and counts port occurrences. -/
def NET_COUNT : Nat := 0x9000028
def NET_COUNT.fm_refused : Field := ⟨NET_COUNT, 0, 8⟩
def NET_COUNT.outliers : Field := ⟨NET_COUNT, 8, 8⟩
def NET_COUNT.steps : Field := ⟨NET_COUNT, 16, 8⟩
def NET_COUNT.rx_discard : Field := ⟨NET_COUNT, 24, 8⟩
/-- spec/12_network_time.md: NET_FM[k] is at offset 0x040 + 4 × k, for k from 0 to 7, and summarises foreign-master entry k. -/
def NET_FM (i : Nat) : Nat := 0x9000040 + 0x4 * i
def NET_FM.valid (i : Nat) : Field := ⟨NET_FM i, 0, 1⟩
def NET_FM.selected (i : Nat) : Field := ⟨NET_FM i, 1, 1⟩
def NET_FM.qualified (i : Nat) : Field := ⟨NET_FM i, 2, 1⟩
def NET_FM.clock_class (i : Nat) : Field := ⟨NET_FM i, 8, 8⟩
def NET_FM.priority1 (i : Nat) : Field := ⟨NET_FM i, 16, 8⟩
def NET_FM.steps_removed (i : Nat) : Field := ⟨NET_FM i, 24, 8⟩
/-- spec/13_access_radio.md: UWB_CTRL is at offset 0x000 and sets the default behaviour of the radio. -/
def UWB_CTRL : Nat := 0xA000000
def UWB_CTRL.enable : Field := ⟨UWB_CTRL, 0, 1⟩
def UWB_CTRL.ret_default : Field := ⟨UWB_CTRL, 1, 2⟩
def UWB_CTRL.cal_temp : Field := ⟨UWB_CTRL, 3, 5⟩
def UWB_CTRL.cal : Field := ⟨UWB_CTRL, 8, 1⟩
/-- spec/13_access_radio.md: UWB_STATUS is at offset 0x004 and shows the radio's state. -/
def UWB_STATUS : Nat := 0xA000004
def UWB_STATUS.state : Field := ⟨UWB_STATUS, 0, 3⟩
def UWB_STATUS.channel : Field := ⟨UWB_STATUS, 3, 1⟩
def UWB_STATUS.cal_ch5 : Field := ⟨UWB_STATUS, 4, 1⟩
def UWB_STATUS.cal_ch9 : Field := ⟨UWB_STATUS, 5, 1⟩
def UWB_STATUS.cal_due : Field := ⟨UWB_STATUS, 6, 1⟩
def UWB_STATUS.market_locked : Field := ⟨UWB_STATUS, 7, 1⟩
def UWB_STATUS.store_valid : Field := ⟨UWB_STATUS, 8, 1⟩
def UWB_STATUS.gnt : Field := ⟨UWB_STATUS, 9, 1⟩
def UWB_STATUS.sessions : Field := ⟨UWB_STATUS, 16, 5⟩
/-- spec/13_access_radio.md: UWB_EVENT is at offset 0x008 and latches radio events. -/
def UWB_EVENT : Nat := 0xA000008
def UWB_EVENT.late : Field := ⟨UWB_EVENT, 0, 1⟩
def UWB_EVENT.aborted : Field := ⟨UWB_EVENT, 1, 1⟩
def UWB_EVENT.clipped : Field := ⟨UWB_EVENT, 2, 1⟩
def UWB_EVENT.airtime : Field := ⟨UWB_EVENT, 3, 1⟩
def UWB_EVENT.coex_denied : Field := ⟨UWB_EVENT, 4, 1⟩
def UWB_EVENT.gnt_lost : Field := ⟨UWB_EVENT, 5, 1⟩
def UWB_EVENT.cal_done : Field := ⟨UWB_EVENT, 6, 1⟩
def UWB_EVENT.session_refused : Field := ⟨UWB_EVENT, 7, 1⟩
def UWB_EVENT.sts_fail : Field := ⟨UWB_EVENT, 8, 1⟩
def UWB_EVENT.out_window : Field := ⟨UWB_EVENT, 9, 1⟩
/-- spec/13_access_radio.md: UWB_COEX_CFG is at offset 0x00C and configures coexistence. -/
def UWB_COEX_CFG : Nat := 0xA00000C
def UWB_COEX_CFG.en : Field := ⟨UWB_COEX_CFG, 0, 1⟩
def UWB_COEX_CFG.lead_us : Field := ⟨UWB_COEX_CFG, 1, 8⟩
def UWB_COEX_CFG.gnt_mode : Field := ⟨UWB_COEX_CFG, 9, 2⟩
def UWB_COEX_CFG.gnt_active_low : Field := ⟨UWB_COEX_CFG, 11, 1⟩
def UWB_COEX_CFG.pri_thresh : Field := ⟨UWB_COEX_CFG, 12, 3⟩
/-- spec/13_access_radio.md: UWB_PWR_STATUS is at offset 0x010 and reports the last transmission's power. -/
def UWB_PWR_STATUS : Nat := 0xA000010
def UWB_PWR_STATUS.code : Field := ⟨UWB_PWR_STATUS, 0, 7⟩
def UWB_PWR_STATUS.at_max : Field := ⟨UWB_PWR_STATUS, 7, 1⟩
def UWB_PWR_STATUS.clip : Field := ⟨UWB_PWR_STATUS, 8, 8⟩
def UWB_PWR_STATUS.comp : Field := ⟨UWB_PWR_STATUS, 16, 8⟩
def UWB_PWR_STATUS.temp : Field := ⟨UWB_PWR_STATUS, 24, 8⟩
/-- spec/13_access_radio.md: UWB_COUNT is at offset 0x014 and counts radio occurrences. -/
def UWB_COUNT : Nat := 0xA000014
def UWB_COUNT.late : Field := ⟨UWB_COUNT, 0, 8⟩
def UWB_COUNT.clipped : Field := ⟨UWB_COUNT, 8, 8⟩
def UWB_COUNT.coex_denied : Field := ⟨UWB_COUNT, 16, 8⟩
def UWB_COUNT.refused : Field := ⟨UWB_COUNT, 24, 8⟩
/-- spec/13_access_radio.md: UWB_AIRTIME is at offset 0x018 and reports the air time of the last second. -/
def UWB_AIRTIME : Nat := 0xA000018
def UWB_AIRTIME.used_1s : Field := ⟨UWB_AIRTIME, 0, 20⟩
/-- spec/13_access_radio.md: UWB_AIRTIME_H is at offset 0x01C and reports the air time of the last hour. -/
def UWB_AIRTIME_H : Nat := 0xA00001C
def UWB_AIRTIME_H.used_1h : Field := ⟨UWB_AIRTIME_H, 0, 22⟩
/-- spec/14_serial_and_check.md: UART_OWNER is at offset 0x000 and shows the owner. -/
def UART_OWNER (n : Nat) : Nat := 0xE000000 + 0x1000 * n
def UART_OWNER.owner (n : Nat) : Field := ⟨UART_OWNER n, 0, 6⟩
/-- spec/14_serial_and_check.md: UART_CTRL is at offset 0x004 and configures the port. -/
def UART_CTRL (n : Nat) : Nat := 0xE000004 + 0x1000 * n
def UART_CTRL.rx_en (n : Nat) : Field := ⟨UART_CTRL n, 0, 1⟩
def UART_CTRL.tx_en (n : Nat) : Field := ⟨UART_CTRL n, 1, 1⟩
def UART_CTRL.mode (n : Nat) : Field := ⟨UART_CTRL n, 2, 2⟩
def UART_CTRL.data7 (n : Nat) : Field := ⟨UART_CTRL n, 4, 1⟩
def UART_CTRL.parity (n : Nat) : Field := ⟨UART_CTRL n, 5, 2⟩
def UART_CTRL.stop2 (n : Nat) : Field := ⟨UART_CTRL n, 7, 1⟩
def UART_CTRL.flush_rx (n : Nat) : Field := ⟨UART_CTRL n, 8, 1⟩
def UART_CTRL.flush_tx (n : Nat) : Field := ⟨UART_CTRL n, 9, 1⟩
def UART_CTRL.wake_en (n : Nat) : Field := ⟨UART_CTRL n, 10, 1⟩
def UART_CTRL.wake_min (n : Nat) : Field := ⟨UART_CTRL n, 11, 3⟩
/-- spec/14_serial_and_check.md: UART_DIV is at offset 0x008 and sets the rate; it is double-buffered (R454). -/
def UART_DIV (n : Nat) : Nat := 0xE000008 + 0x1000 * n
def UART_DIV.div (n : Nat) : Field := ⟨UART_DIV n, 0, 16⟩
def UART_DIV.x8 (n : Nat) : Field := ⟨UART_DIV n, 16, 1⟩
/-- spec/14_serial_and_check.md: UART_STATUS is at offset 0x00C and shows the port's state. -/
def UART_STATUS (n : Nat) : Nat := 0xE00000C + 0x1000 * n
def UART_STATUS.rx_ready (n : Nat) : Field := ⟨UART_STATUS n, 0, 1⟩
def UART_STATUS.pe (n : Nat) : Field := ⟨UART_STATUS n, 1, 1⟩
def UART_STATUS.fe (n : Nat) : Field := ⟨UART_STATUS n, 2, 1⟩
def UART_STATUS.brk (n : Nat) : Field := ⟨UART_STATUS n, 3, 1⟩
def UART_STATUS.ov (n : Nat) : Field := ⟨UART_STATUS n, 4, 1⟩
def UART_STATUS.tx_empty (n : Nat) : Field := ⟨UART_STATUS n, 5, 1⟩
def UART_STATUS.tx_idle (n : Nat) : Field := ⟨UART_STATUS n, 6, 1⟩
def UART_STATUS.cts (n : Nat) : Field := ⟨UART_STATUS n, 7, 1⟩
def UART_STATUS.rts (n : Nat) : Field := ⟨UART_STATUS n, 8, 1⟩
def UART_STATUS.stuck (n : Nat) : Field := ⟨UART_STATUS n, 9, 1⟩
def UART_STATUS.wake_masked (n : Nat) : Field := ⟨UART_STATUS n, 10, 1⟩
def UART_STATUS.engine_stopped (n : Nat) : Field := ⟨UART_STATUS n, 11, 1⟩
def UART_STATUS.chk_err (n : Nat) : Field := ⟨UART_STATUS n, 12, 1⟩
def UART_STATUS.rx_level (n : Nat) : Field := ⟨UART_STATUS n, 16, 7⟩
def UART_STATUS.tx_level (n : Nat) : Field := ⟨UART_STATUS n, 24, 7⟩
/-- spec/14_serial_and_check.md: UART_DATA is at offset 0x010 and carries characters. -/
def UART_DATA (n : Nat) : Nat := 0xE000010 + 0x1000 * n
def UART_DATA.data (n : Nat) : Field := ⟨UART_DATA n, 0, 8⟩
/-- spec/14_serial_and_check.md: UART_FLOW is at offset 0x014 and configures flow control (R458). -/
def UART_FLOW (n : Nat) : Nat := 0xE000014 + 0x1000 * n
def UART_FLOW.rts_en (n : Nat) : Field := ⟨UART_FLOW n, 0, 1⟩
def UART_FLOW.cts_en (n : Nat) : Field := ⟨UART_FLOW n, 1, 1⟩
def UART_FLOW.rts_off (n : Nat) : Field := ⟨UART_FLOW n, 2, 7⟩
def UART_FLOW.rts_on (n : Nat) : Field := ⟨UART_FLOW n, 9, 7⟩
/-- spec/14_serial_and_check.md: UART_EVENT is at offset 0x018 and latches events. -/
def UART_EVENT (n : Nat) : Nat := 0xE000018 + 0x1000 * n
def UART_EVENT.rx_data (n : Nat) : Field := ⟨UART_EVENT n, 0, 1⟩
def UART_EVENT.tx_done (n : Nat) : Field := ⟨UART_EVENT n, 1, 1⟩
def UART_EVENT.ov (n : Nat) : Field := ⟨UART_EVENT n, 2, 1⟩
def UART_EVENT.brk (n : Nat) : Field := ⟨UART_EVENT n, 3, 1⟩
def UART_EVENT.stuck (n : Nat) : Field := ⟨UART_EVENT n, 4, 1⟩
def UART_EVENT.stuck_end (n : Nat) : Field := ⟨UART_EVENT n, 5, 1⟩
def UART_EVENT.wake (n : Nat) : Field := ⟨UART_EVENT n, 6, 1⟩
def UART_EVENT.wake_lost (n : Nat) : Field := ⟨UART_EVENT n, 7, 1⟩
def UART_EVENT.clk_lost (n : Nat) : Field := ⟨UART_EVENT n, 8, 1⟩
def UART_EVENT.tx_ovf (n : Nat) : Field := ⟨UART_EVENT n, 9, 1⟩
def UART_EVENT.noise (n : Nat) : Field := ⟨UART_EVENT n, 10, 1⟩
def UART_EVENT.card_rep (n : Nat) : Field := ⟨UART_EVENT n, 11, 1⟩
def UART_EVENT.conv_err (n : Nat) : Field := ⟨UART_EVENT n, 12, 1⟩
def UART_EVENT.lin_done (n : Nat) : Field := ⟨UART_EVENT n, 13, 1⟩
def UART_EVENT.lin_err (n : Nat) : Field := ⟨UART_EVENT n, 14, 1⟩
/-- spec/14_serial_and_check.md: UART_IRQ_EN, at offset 0x01C, enables the events of UART_EVENT. -/
def UART_IRQ_EN (n : Nat) : Nat := 0xE00001C + 0x1000 * n
def UART_IRQ_EN.rx_data (n : Nat) : Field := ⟨UART_IRQ_EN n, 0, 1⟩
def UART_IRQ_EN.tx_done (n : Nat) : Field := ⟨UART_IRQ_EN n, 1, 1⟩
def UART_IRQ_EN.ov (n : Nat) : Field := ⟨UART_IRQ_EN n, 2, 1⟩
def UART_IRQ_EN.brk (n : Nat) : Field := ⟨UART_IRQ_EN n, 3, 1⟩
def UART_IRQ_EN.stuck (n : Nat) : Field := ⟨UART_IRQ_EN n, 4, 1⟩
def UART_IRQ_EN.stuck_end (n : Nat) : Field := ⟨UART_IRQ_EN n, 5, 1⟩
def UART_IRQ_EN.wake (n : Nat) : Field := ⟨UART_IRQ_EN n, 6, 1⟩
def UART_IRQ_EN.wake_lost (n : Nat) : Field := ⟨UART_IRQ_EN n, 7, 1⟩
def UART_IRQ_EN.clk_lost (n : Nat) : Field := ⟨UART_IRQ_EN n, 8, 1⟩
def UART_IRQ_EN.tx_ovf (n : Nat) : Field := ⟨UART_IRQ_EN n, 9, 1⟩
def UART_IRQ_EN.noise (n : Nat) : Field := ⟨UART_IRQ_EN n, 10, 1⟩
def UART_IRQ_EN.card_rep (n : Nat) : Field := ⟨UART_IRQ_EN n, 11, 1⟩
def UART_IRQ_EN.conv_err (n : Nat) : Field := ⟨UART_IRQ_EN n, 12, 1⟩
def UART_IRQ_EN.lin_done (n : Nat) : Field := ⟨UART_IRQ_EN n, 13, 1⟩
def UART_IRQ_EN.lin_err (n : Nat) : Field := ⟨UART_IRQ_EN n, 14, 1⟩
/-- spec/14_serial_and_check.md: UART_BRK_TX is at offset 0x020 and sends breaks (R461). -/
def UART_BRK_TX (n : Nat) : Nat := 0xE000020 + 0x1000 * n
def UART_BRK_TX.len (n : Nat) : Field := ⟨UART_BRK_TX n, 0, 20⟩
def UART_BRK_TX.del (n : Nat) : Field := ⟨UART_BRK_TX n, 20, 8⟩
def UART_BRK_TX.send (n : Nat) : Field := ⟨UART_BRK_TX n, 28, 1⟩
def UART_BRK_TX.busy (n : Nat) : Field := ⟨UART_BRK_TX n, 29, 1⟩
/-- spec/14_serial_and_check.md: UART_BRK_RX is at offset 0x024 and reports the last break received (R460). -/
def UART_BRK_RX (n : Nat) : Nat := 0xE000024 + 0x1000 * n
def UART_BRK_RX.len (n : Nat) : Field := ⟨UART_BRK_RX n, 0, 24⟩
def UART_BRK_RX.sat (n : Nat) : Field := ⟨UART_BRK_RX n, 24, 1⟩
def UART_BRK_RX.isOpen (n : Nat) : Field := ⟨UART_BRK_RX n, 25, 1⟩
/-- spec/14_serial_and_check.md: UART_STUCK is at offset 0x028 and sets the stuck threshold (R462). -/
def UART_STUCK (n : Nat) : Nat := 0xE000028 + 0x1000 * n
def UART_STUCK.thresh (n : Nat) : Field := ⟨UART_STUCK n, 0, 16⟩
/-- spec/14_serial_and_check.md: UART_CARD is at offset 0x02C and configures card mode. -/
def UART_CARD (n : Nat) : Nat := 0xE00002C + 0x1000 * n
def UART_CARD.conv (n : Nat) : Field := ⟨UART_CARD n, 0, 1⟩
def UART_CARD.auto_conv (n : Nat) : Field := ⟨UART_CARD n, 1, 1⟩
def UART_CARD.err_sig (n : Nat) : Field := ⟨UART_CARD n, 2, 1⟩
def UART_CARD.repeat (n : Nat) : Field := ⟨UART_CARD n, 3, 3⟩
def UART_CARD.egt (n : Nat) : Field := ⟨UART_CARD n, 6, 8⟩
def UART_CARD.ck_div (n : Nat) : Field := ⟨UART_CARD n, 14, 6⟩
def UART_CARD.ck_en (n : Nat) : Field := ⟨UART_CARD n, 20, 1⟩
def UART_CARD.rst (n : Nat) : Field := ⟨UART_CARD n, 21, 1⟩
/-- spec/14_serial_and_check.md: UART_LIN_CFG is at offset 0x030 and configures LIN mode. -/
def UART_LIN_CFG (n : Nat) : Nat := 0xE000030 + 0x1000 * n
def UART_LIN_CFG.master (n : Nat) : Field := ⟨UART_LIN_CFG n, 0, 1⟩
def UART_LIN_CFG.auto_sync (n : Nat) : Field := ⟨UART_LIN_CFG n, 1, 1⟩
def UART_LIN_CFG.resp_space (n : Nat) : Field := ⟨UART_LIN_CFG n, 2, 4⟩
def UART_LIN_CFG.ib_space (n : Nat) : Field := ⟨UART_LIN_CFG n, 6, 4⟩
/-- spec/14_serial_and_check.md: UART_LIN_HDR is at offset 0x034 and sends headers. -/
def UART_LIN_HDR (n : Nat) : Nat := 0xE000034 + 0x1000 * n
def UART_LIN_HDR.id (n : Nat) : Field := ⟨UART_LIN_HDR n, 0, 6⟩
def UART_LIN_HDR.send (n : Nat) : Field := ⟨UART_LIN_HDR n, 6, 1⟩
/-- spec/14_serial_and_check.md: UART_LIN_TAB[k] is at offset 0x040 + 4 × k, for k from 0 to 15, and holds the entries of identifiers 4k to 4k + 3 (R469). -/
def UART_LIN_TAB (n : Nat) (i : Nat) : Nat := 0xE000040 + 0x1000 * n + 0x4 * i
def UART_LIN_TAB.entry0 (n : Nat) (i : Nat) : Field := ⟨UART_LIN_TAB n i, 0, 8⟩
def UART_LIN_TAB.entry1 (n : Nat) (i : Nat) : Field := ⟨UART_LIN_TAB n i, 8, 8⟩
def UART_LIN_TAB.entry2 (n : Nat) (i : Nat) : Field := ⟨UART_LIN_TAB n i, 16, 8⟩
def UART_LIN_TAB.entry3 (n : Nat) (i : Nat) : Field := ⟨UART_LIN_TAB n i, 24, 8⟩
/-- spec/14_serial_and_check.md: UART_LIN_STATUS is at offset 0x080 and reports the last LIN frame. -/
def UART_LIN_STATUS (n : Nat) : Nat := 0xE000080 + 0x1000 * n
def UART_LIN_STATUS.last_id (n : Nat) : Field := ⟨UART_LIN_STATUS n, 0, 6⟩
def UART_LIN_STATUS.last_ok (n : Nat) : Field := ⟨UART_LIN_STATUS n, 6, 1⟩
def UART_LIN_STATUS.err (n : Nat) : Field := ⟨UART_LIN_STATUS n, 7, 4⟩
/-- spec/14_serial_and_check.md: CVU_OWNER is at offset 0x00 of a check-value unit and shows its owner. -/
def CVU_OWNER (n : Nat) : Nat := 0xE010000 + 0x400 * n
def CVU_OWNER.owner (n : Nat) : Field := ⟨CVU_OWNER n, 0, 6⟩
/-- spec/14_serial_and_check.md: CVU_CFG is at offset 0x04 and configures the unit; writes take effect at the next start. -/
def CVU_CFG (n : Nat) : Nat := 0xE010004 + 0x400 * n
def CVU_CFG.sel (n : Nat) : Field := ⟨CVU_CFG n, 0, 3⟩
def CVU_CFG.mode (n : Nat) : Field := ⟨CVU_CFG n, 3, 2⟩
def CVU_CFG.ctx_en (n : Nat) : Field := ⟨CVU_CFG n, 5, 1⟩
def CVU_CFG.ctx_inc (n : Nat) : Field := ⟨CVU_CFG n, 6, 1⟩
def CVU_CFG.repeat (n : Nat) : Field := ⟨CVU_CFG n, 7, 1⟩
def CVU_CFG.port (n : Nat) : Field := ⟨CVU_CFG n, 8, 4⟩
def CVU_CFG.pid (n : Nat) : Field := ⟨CVU_CFG n, 12, 8⟩
def CVU_CFG.irq_en (n : Nat) : Field := ⟨CVU_CFG n, 20, 1⟩
/-- spec/14_serial_and_check.md: CVU_CTX is at offset 0x08 and holds the context word. -/
def CVU_CTX (n : Nat) : Nat := 0xE010008 + 0x400 * n
def CVU_CTX.ctx (n : Nat) : Field := ⟨CVU_CTX n, 0, 32⟩
/-- spec/14_serial_and_check.md: CVU_LEN is at offset 0x0C and sets the frame length. -/
def CVU_LEN (n : Nat) : Nat := 0xE01000C + 0x400 * n
def CVU_LEN.len (n : Nat) : Field := ⟨CVU_LEN n, 0, 16⟩
/-- spec/14_serial_and_check.md: CVU_CTRL is at offset 0x10 and arms the unit. -/
def CVU_CTRL (n : Nat) : Nat := 0xE010010 + 0x400 * n
def CVU_CTRL.start (n : Nat) : Field := ⟨CVU_CTRL n, 0, 1⟩
def CVU_CTRL.abort (n : Nat) : Field := ⟨CVU_CTRL n, 1, 1⟩
/-- spec/14_serial_and_check.md: CVU_DATA is at offset 0x14 and feeds an unbound unit. -/
def CVU_DATA (n : Nat) : Nat := 0xE010014 + 0x400 * n
def CVU_DATA.bytes (n : Nat) : Field := ⟨CVU_DATA n, 0, 32⟩
/-- spec/14_serial_and_check.md: CVU_RESULT is at offset 0x18 and holds the last check computed. -/
def CVU_RESULT (n : Nat) : Nat := 0xE010018 + 0x400 * n
def CVU_RESULT.value (n : Nat) : Field := ⟨CVU_RESULT n, 0, 32⟩
/-- spec/14_serial_and_check.md: CVU_STATUS is at offset 0x1C and shows the unit's state. -/
def CVU_STATUS (n : Nat) : Nat := 0xE01001C + 0x400 * n
def CVU_STATUS.armed (n : Nat) : Field := ⟨CVU_STATUS n, 0, 1⟩
def CVU_STATUS.done (n : Nat) : Field := ⟨CVU_STATUS n, 1, 1⟩
def CVU_STATUS.last_ok (n : Nat) : Field := ⟨CVU_STATUS n, 2, 1⟩
def CVU_STATUS.fail (n : Nat) : Field := ⟨CVU_STATUS n, 3, 1⟩
def CVU_STATUS.cfg_err (n : Nat) : Field := ⟨CVU_STATUS n, 4, 1⟩
def CVU_STATUS.fed (n : Nat) : Field := ⟨CVU_STATUS n, 16, 16⟩
/-- spec/14_serial_and_check.md: CVU_COUNT is at offset 0x20 and counts frames. -/
def CVU_COUNT (n : Nat) : Nat := 0xE010020 + 0x400 * n
def CVU_COUNT.frames_ok (n : Nat) : Field := ⟨CVU_COUNT n, 0, 16⟩
def CVU_COUNT.frames_failed (n : Nat) : Field := ⟨CVU_COUNT n, 16, 16⟩
/-- spec/15_supplies_modes.md: PWR_MODE is at offset 0x000 and requests and shows the mode. -/
def PWR_MODE : Nat := 0xB000000
def PWR_MODE.request : Field := ⟨PWR_MODE, 0, 4⟩
def PWR_MODE.pending : Field := ⟨PWR_MODE, 4, 4⟩
def PWR_MODE.pending_valid : Field := ⟨PWR_MODE, 8, 1⟩
/-- spec/15_supplies_modes.md: PWR_CFG is at offset 0x004 and configures promotion, boot and wake; always-on. -/
def PWR_CFG : Nat := 0xB000004
def PWR_CFG.auto_promote : Field := ⟨PWR_CFG, 0, 1⟩
def PWR_CFG.boot_mode : Field := ⟨PWR_CFG, 1, 4⟩
def PWR_CFG.wake_host : Field := ⟨PWR_CFG, 5, 1⟩
def PWR_CFG.wake_rtc : Field := ⟨PWR_CFG, 6, 1⟩
/-- spec/15_supplies_modes.md: PWR_STATUS is at offset 0x008 and shows the supplies and the mode. -/
def PWR_STATUS : Nat := 0xB000008
def PWR_STATUS.mode : Field := ⟨PWR_STATUS, 0, 4⟩
def PWR_STATUS.on_vbak : Field := ⟨PWR_STATUS, 4, 1⟩
def PWR_STATUS.vsys_ok : Field := ⟨PWR_STATUS, 5, 1⟩
def PWR_STATUS.pfail : Field := ⟨PWR_STATUS, 6, 1⟩
def PWR_STATUS.rails_ok : Field := ⟨PWR_STATUS, 7, 1⟩
def PWR_STATUS.settling : Field := ⟨PWR_STATUS, 8, 1⟩
/-- spec/15_supplies_modes.md: PWR_EVENT is at offset 0x00C and latches power events; always-on. -/
def PWR_EVENT : Nat := 0xB00000C
def PWR_EVENT.mode_change : Field := ⟨PWR_EVENT, 0, 1⟩
def PWR_EVENT.promoted : Field := ⟨PWR_EVENT, 1, 1⟩
def PWR_EVENT.refused : Field := ⟨PWR_EVENT, 2, 1⟩
def PWR_EVENT.shutdown : Field := ⟨PWR_EVENT, 3, 1⟩
def PWR_EVENT.to_vbak : Field := ⟨PWR_EVENT, 4, 1⟩
def PWR_EVENT.to_vsys : Field := ⟨PWR_EVENT, 5, 1⟩
def PWR_EVENT.aon_por : Field := ⟨PWR_EVENT, 6, 1⟩
def PWR_EVENT.frozen_loss : Field := ⟨PWR_EVENT, 7, 1⟩
def PWR_EVENT.rail_fault : Field := ⟨PWR_EVENT, 8, 1⟩
def PWR_EVENT.ext_reset : Field := ⟨PWR_EVENT, 9, 1⟩
/-- spec/15_supplies_modes.md: PWR_WAKE is at offset 0x014 and records the last wake; always-on. -/
def PWR_WAKE : Nat := 0xB000014
def PWR_WAKE.cause : Field := ⟨PWR_WAKE, 0, 4⟩
def PWR_WAKE.uart : Field := ⟨PWR_WAKE, 4, 3⟩
def PWR_WAKE.wake_masked : Field := ⟨PWR_WAKE, 8, 8⟩
/-- spec/15_supplies_modes.md: PWR_REFUSE is at offset 0x018 and records the last mode request refused under R499. -/
def PWR_REFUSE : Nat := 0xB000018
def PWR_REFUSE.target : Field := ⟨PWR_REFUSE, 0, 4⟩
def PWR_REFUSE.blocking : Field := ⟨PWR_REFUSE, 4, 4⟩
def PWR_REFUSE.count : Field := ⟨PWR_REFUSE, 8, 16⟩
/-- spec/16_security_debug.md: SEC_STATE is at offset 0x000 and shows the lifecycle and debug state. -/
def SEC_STATE : Nat := 0xC000000
def SEC_STATE.lifecycle : Field := ⟨SEC_STATE, 0, 3⟩
def SEC_STATE.debug : Field := ⟨SEC_STATE, 3, 2⟩
def SEC_STATE.scope : Field := ⟨SEC_STATE, 5, 2⟩
def SEC_STATE.strap : Field := ⟨SEC_STATE, 7, 1⟩
def SEC_STATE.strap_honoured : Field := ⟨SEC_STATE, 8, 1⟩
def SEC_STATE.frozen : Field := ⟨SEC_STATE, 9, 1⟩
def SEC_STATE.market_locked : Field := ⟨SEC_STATE, 10, 1⟩
def SEC_STATE.vendor_debug_off : Field := ⟨SEC_STATE, 11, 1⟩
def SEC_STATE.trng_ok : Field := ⟨SEC_STATE, 12, 1⟩
/-- spec/16_security_debug.md: SEC_PRES is at offset 0x004 and shows presence; always-on. -/
def SEC_PRES : Nat := 0xC000004
def SEC_PRES.pressed : Field := ⟨SEC_PRES, 0, 1⟩
def SEC_PRES.window : Field := ⟨SEC_PRES, 1, 1⟩
def SEC_PRES.remaining_ms : Field := ⟨SEC_PRES, 2, 15⟩
def SEC_PRES.via_strap : Field := ⟨SEC_PRES, 17, 1⟩
/-- spec/16_security_debug.md: SEC_SEAL_CFG is at offset 0x008 and configures the seal. -/
def SEC_SEAL_CFG : Nat := 0xC000008
def SEC_SEAL_CFG.en : Field := ⟨SEC_SEAL_CFG, 0, 1⟩
def SEC_SEAL_CFG.action : Field := ⟨SEC_SEAL_CFG, 1, 1⟩
def SEC_SEAL_CFG.clear : Field := ⟨SEC_SEAL_CFG, 2, 1⟩
/-- spec/16_security_debug.md: SEC_SEAL_STATUS is at offset 0x00C and reports the seal; always-on. -/
def SEC_SEAL_STATUS : Nat := 0xC00000C
def SEC_SEAL_STATUS.broken : Field := ⟨SEC_SEAL_STATUS, 0, 1⟩
def SEC_SEAL_STATUS.cause : Field := ⟨SEC_SEAL_STATUS, 1, 2⟩
def SEC_SEAL_STATUS.breaks : Field := ⟨SEC_SEAL_STATUS, 8, 8⟩
/-- spec/16_security_debug.md: SEC_SEAL_TIME_LO is at offset 0x010 and holds the low word of the break's RTC count; always-on. -/
def SEC_SEAL_TIME_LO : Nat := 0xC000010
def SEC_SEAL_TIME_LO.cnt_lo : Field := ⟨SEC_SEAL_TIME_LO, 0, 32⟩
/-- spec/16_security_debug.md: SEC_SEAL_TIME_HI is at offset 0x014 and holds the high part; always-on. -/
def SEC_SEAL_TIME_HI : Nat := 0xC000014
def SEC_SEAL_TIME_HI.cnt_hi : Field := ⟨SEC_SEAL_TIME_HI, 0, 16⟩
/-- spec/16_security_debug.md: SEC_AUTH is at offset 0x018 and reports authentication; always-on, mirrored under R525. -/
def SEC_AUTH : Nat := 0xC000018
def SEC_AUTH.failures : Field := ⟨SEC_AUTH, 0, 5⟩
def SEC_AUTH.last_result : Field := ⟨SEC_AUTH, 5, 3⟩
def SEC_AUTH.nonce_valid : Field := ⟨SEC_AUTH, 8, 1⟩
/-- spec/16_security_debug.md: SEC_LOCKOUT_LO is at offset 0x01C and holds the low word of the RTC count at which the lockout ends; always-on. -/
def SEC_LOCKOUT_LO : Nat := 0xC00001C
def SEC_LOCKOUT_LO.end_lo : Field := ⟨SEC_LOCKOUT_LO, 0, 32⟩
/-- spec/16_security_debug.md: SEC_LOCKOUT_HI is at offset 0x020 and holds the high part; always-on. -/
def SEC_LOCKOUT_HI : Nat := 0xC000020
def SEC_LOCKOUT_HI.end_hi : Field := ⟨SEC_LOCKOUT_HI, 0, 16⟩
/-- spec/16_security_debug.md: SEC_DBG_CFG is at offset 0x024 and configures service and freeze. -/
def SEC_DBG_CFG : Nat := 0xC000024
def SEC_DBG_CFG.service_timeout : Field := ⟨SEC_DBG_CFG, 0, 8⟩
def SEC_DBG_CFG.freeze_field : Field := ⟨SEC_DBG_CFG, 8, 1⟩
/-- spec/16_security_debug.md: SEC_FREEZE_STATUS is at offset 0x028 and counts freezes; always-on. -/
def SEC_FREEZE_STATUS : Nat := 0xC000028
def SEC_FREEZE_STATUS.count : Field := ⟨SEC_FREEZE_STATUS, 0, 16⟩
def SEC_FREEZE_STATUS.ignored : Field := ⟨SEC_FREEZE_STATUS, 16, 8⟩
def SEC_FREEZE_STATUS.readout : Field := ⟨SEC_FREEZE_STATUS, 24, 1⟩
/-- spec/16_security_debug.md: SEC_EVENT is at offset 0x02C and latches security events; always-on. -/
def SEC_EVENT : Nat := 0xC00002C
def SEC_EVENT.lifecycle_change : Field := ⟨SEC_EVENT, 0, 1⟩
def SEC_EVENT.debug_open : Field := ⟨SEC_EVENT, 1, 1⟩
def SEC_EVENT.debug_close : Field := ⟨SEC_EVENT, 2, 1⟩
def SEC_EVENT.auth_fail : Field := ⟨SEC_EVENT, 3, 1⟩
def SEC_EVENT.lockout : Field := ⟨SEC_EVENT, 4, 1⟩
def SEC_EVENT.seal_break : Field := ⟨SEC_EVENT, 5, 1⟩
def SEC_EVENT.zeroised : Field := ⟨SEC_EVENT, 6, 1⟩
def SEC_EVENT.freeze : Field := ⟨SEC_EVENT, 7, 1⟩
def SEC_EVENT.thaw : Field := ⟨SEC_EVENT, 8, 1⟩
def SEC_EVENT.freeze_ignored : Field := ⟨SEC_EVENT, 9, 1⟩
def SEC_EVENT.dbg_refused : Field := ⟨SEC_EVENT, 10, 1⟩
def SEC_EVENT.trng_fail : Field := ⟨SEC_EVENT, 11, 1⟩
/-- spec/17_host_link.md: HL_ID is at offset 0x0_0000 and identifies the device and interface. -/
def HL_ID : Nat := 0xF000000
def HL_ID.part : Field := ⟨HL_ID, 0, 16⟩
def HL_ID.revision : Field := ⟨HL_ID, 16, 4⟩
def HL_ID.layout : Field := ⟨HL_ID, 20, 4⟩
def HL_ID.spi : Field := ⟨HL_ID, 24, 1⟩
/-- spec/17_host_link.md: HL_FW_VER is at offset 0x0_0004 and gives the running Jopen version. -/
def HL_FW_VER : Nat := 0xF000004
def HL_FW_VER.patch : Field := ⟨HL_FW_VER, 0, 8⟩
def HL_FW_VER.minor : Field := ⟨HL_FW_VER, 8, 8⟩
def HL_FW_VER.major : Field := ⟨HL_FW_VER, 16, 8⟩
/-- spec/17_host_link.md: HL_DEV_ID[k] is at offset 0x0_0008 + 4 × k, for k from 0 to 3, and holds the device identifier. -/
def HL_DEV_ID (i : Nat) : Nat := 0xF000008 + 0x4 * i
def HL_DEV_ID.id (i : Nat) : Field := ⟨HL_DEV_ID i, 0, 32⟩
/-- spec/17_host_link.md: HL_STATUS is at offset 0x0_0100 and shows the state of the link service. -/
def HL_STATUS : Nat := 0xF000100
def HL_STATUS.ready : Field := ⟨HL_STATUS, 0, 1⟩
def HL_STATUS.init_needed : Field := ⟨HL_STATUS, 1, 1⟩
def HL_STATUS.halted : Field := ⟨HL_STATUS, 2, 4⟩
def HL_STATUS.mode : Field := ⟨HL_STATUS, 6, 4⟩
def HL_STATUS.lifecycle : Field := ⟨HL_STATUS, 10, 3⟩
def HL_STATUS.single_pair : Field := ⟨HL_STATUS, 13, 1⟩
/-- spec/17_host_link.md: HL_RESET is at offset 0x0_0104 and lets the host restart the device. -/
def HL_RESET : Nat := 0xF000104
def HL_RESET.dev_reset : Field := ⟨HL_RESET, 0, 1⟩
def HL_RESET.key : Field := ⟨HL_RESET, 8, 8⟩
/-- spec/17_host_link.md: HL_RING_CTRL is at offset 0x0_0108 and initialises the rings. -/
def HL_RING_CTRL : Nat := 0xF000108
def HL_RING_CTRL.init : Field := ⟨HL_RING_CTRL, 0, 1⟩
def HL_RING_CTRL.spi_timeout : Field := ⟨HL_RING_CTRL, 8, 8⟩
/-- spec/17_host_link.md: HL_RING_ERR is at offset 0x0_010C and records ring errors. -/
def HL_RING_ERR : Nat := 0xF00010C
def HL_RING_ERR.ring : Field := ⟨HL_RING_ERR, 0, 4⟩
def HL_RING_ERR.cause : Field := ⟨HL_RING_ERR, 4, 4⟩
def HL_RING_ERR.count : Field := ⟨HL_RING_ERR, 8, 8⟩
def HL_RING_ERR.err : Field := ⟨HL_RING_ERR, 16, 1⟩
/-- spec/17_host_link.md: HL_HP_STATUS is at offset 0x0_0200 and reports the link and its losses. -/
def HL_HP_STATUS : Nat := 0xF000200
def HL_HP_STATUS.link_lost : Field := ⟨HL_HP_STATUS, 0, 1⟩
def HL_HP_STATUS.last_cause : Field := ⟨HL_HP_STATUS, 1, 3⟩
def HL_HP_STATUS.speed : Field := ⟨HL_HP_STATUS, 4, 2⟩
def HL_HP_STATUS.width : Field := ⟨HL_HP_STATUS, 6, 1⟩
def HL_HP_STATUS.losses : Field := ⟨HL_HP_STATUS, 8, 8⟩
/-- spec/17_host_link.md: HL_DB[c] is at offset 0x0_0300 + 4 × c, for c = 0 (H), 1 (A), 2 (B) and 3 (C), and is the doorbell of class c (R544). -/
def HL_DB (i : Nat) : Nat := 0xF000300 + 0x4 * i
def HL_DB.req_prod (i : Nat) : Field := ⟨HL_DB i, 0, 16⟩
def HL_DB.rsp_cons (i : Nat) : Field := ⟨HL_DB i, 16, 16⟩
/-- spec/17_host_link.md: HL_IRQ_CAUSE is at offset 0x0_0400 and latches interrupt causes. -/
def HL_IRQ_CAUSE : Nat := 0xF000400
def HL_IRQ_CAUSE.h_rsp : Field := ⟨HL_IRQ_CAUSE, 0, 1⟩
def HL_IRQ_CAUSE.h_evt : Field := ⟨HL_IRQ_CAUSE, 1, 1⟩
def HL_IRQ_CAUSE.a_rsp : Field := ⟨HL_IRQ_CAUSE, 2, 1⟩
def HL_IRQ_CAUSE.b_rsp : Field := ⟨HL_IRQ_CAUSE, 3, 1⟩
def HL_IRQ_CAUSE.c_rsp : Field := ⟨HL_IRQ_CAUSE, 4, 1⟩
def HL_IRQ_CAUSE.ring_err : Field := ⟨HL_IRQ_CAUSE, 5, 1⟩
def HL_IRQ_CAUSE.bale_err : Field := ⟨HL_IRQ_CAUSE, 6, 1⟩
def HL_IRQ_CAUSE.evt_ovf : Field := ⟨HL_IRQ_CAUSE, 7, 1⟩
def HL_IRQ_CAUSE.bay_err : Field := ⟨HL_IRQ_CAUSE, 8, 1⟩
/-- spec/17_host_link.md: HL_IRQ_EN, at offset 0x0_0404, enables the causes of HL_IRQ_CAUSE. -/
def HL_IRQ_EN : Nat := 0xF000404
def HL_IRQ_EN.h_rsp : Field := ⟨HL_IRQ_EN, 0, 1⟩
def HL_IRQ_EN.h_evt : Field := ⟨HL_IRQ_EN, 1, 1⟩
def HL_IRQ_EN.a_rsp : Field := ⟨HL_IRQ_EN, 2, 1⟩
def HL_IRQ_EN.b_rsp : Field := ⟨HL_IRQ_EN, 3, 1⟩
def HL_IRQ_EN.c_rsp : Field := ⟨HL_IRQ_EN, 4, 1⟩
def HL_IRQ_EN.ring_err : Field := ⟨HL_IRQ_EN, 5, 1⟩
def HL_IRQ_EN.bale_err : Field := ⟨HL_IRQ_EN, 6, 1⟩
def HL_IRQ_EN.evt_ovf : Field := ⟨HL_IRQ_EN, 7, 1⟩
def HL_IRQ_EN.bay_err : Field := ⟨HL_IRQ_EN, 8, 1⟩
/-- spec/17_host_link.md: HL_IRQ_MOD is at offset 0x0_0408 and moderates vectors 1 to 3. -/
def HL_IRQ_MOD : Nat := 0xF000408
def HL_IRQ_MOD.interval_us : Field := ⟨HL_IRQ_MOD, 0, 8⟩
/-- spec/17_host_link.md: HL_EVT_PROD is at offset 0x0_0600 and counts event records written. -/
def HL_EVT_PROD : Nat := 0xF000600
def HL_EVT_PROD.prod : Field := ⟨HL_EVT_PROD, 0, 16⟩
/-- spec/17_host_link.md: HL_EVT_CONS is at offset 0x0_0604 and holds the host's consumption of event records. -/
def HL_EVT_CONS : Nat := 0xF000604
def HL_EVT_CONS.cons : Field := ⟨HL_EVT_CONS, 0, 16⟩
/-- spec/17_host_link.md: HL_EVT_LOST is at offset 0x0_0608 and counts lost events. -/
def HL_EVT_LOST : Nat := 0xF000608
def HL_EVT_LOST.lost : Field := ⟨HL_EVT_LOST, 0, 16⟩
/-- spec/07_sheaves.md: SHF_LOAD[s] at offset 0x100 + 4 × s, for s from 0 to 63. -/
def SHF_LOAD (i : Nat) : Nat := 0xD000100 + 0x4 * i
def SHF_LOAD.load_ksps (i : Nat) : Field := ⟨SHF_LOAD i, 0, 20⟩
def SHF_LOAD.slots (i : Nat) : Field := ⟨SHF_LOAD i, 20, 8⟩
/-- spec/11_local_time.md: TIME_NOW time record (R394), word +0x0. -/
def TIME_NOW_SEC_LO : Nat := 0x8000010
def TIME_NOW_SEC_LO.sec_lo : Field := ⟨TIME_NOW_SEC_LO, 0, 32⟩
/-- spec/11_local_time.md: TIME_NOW time record (R394), word +0x4. -/
def TIME_NOW_SEC_HI : Nat := 0x8000014
def TIME_NOW_SEC_HI.sec_hi : Field := ⟨TIME_NOW_SEC_HI, 0, 32⟩
/-- spec/11_local_time.md: TIME_NOW time record (R394), word +0x8. -/
def TIME_NOW_NS : Nat := 0x8000018
def TIME_NOW_NS.ns : Field := ⟨TIME_NOW_NS, 0, 30⟩
/-- spec/11_local_time.md: TIME_NOW time record (R394), word +0xC. -/
def TIME_NOW_FRAC : Nat := 0x800001C
def TIME_NOW_FRAC.frac : Field := ⟨TIME_NOW_FRAC, 0, 32⟩
/-- spec/11_local_time.md: TIME_ORIGIN time record (R394), word +0x0. -/
def TIME_ORIGIN_SEC_LO (n : Nat) : Nat := 0x8000100 + 0x10 * n
def TIME_ORIGIN_SEC_LO.sec_lo (n : Nat) : Field := ⟨TIME_ORIGIN_SEC_LO n, 0, 32⟩
/-- spec/11_local_time.md: TIME_ORIGIN time record (R394), word +0x4. -/
def TIME_ORIGIN_SEC_HI (n : Nat) : Nat := 0x8000104 + 0x10 * n
def TIME_ORIGIN_SEC_HI.sec_hi (n : Nat) : Field := ⟨TIME_ORIGIN_SEC_HI n, 0, 32⟩
/-- spec/11_local_time.md: TIME_ORIGIN time record (R394), word +0x8. -/
def TIME_ORIGIN_NS (n : Nat) : Nat := 0x8000108 + 0x10 * n
def TIME_ORIGIN_NS.ns (n : Nat) : Field := ⟨TIME_ORIGIN_NS n, 0, 30⟩
/-- spec/11_local_time.md: TIME_ORIGIN time record (R394), word +0xC. -/
def TIME_ORIGIN_FRAC (n : Nat) : Nat := 0x800010C + 0x10 * n
def TIME_ORIGIN_FRAC.frac (n : Nat) : Field := ⟨TIME_ORIGIN_FRAC n, 0, 32⟩
/-- spec/11_local_time.md: TRIG_T time record (R394), word +0x0. -/
def TRIG_T_SEC_LO (j : Nat) : Nat := 0x8000200 + 0x20 * j
def TRIG_T_SEC_LO.sec_lo (j : Nat) : Field := ⟨TRIG_T_SEC_LO j, 0, 32⟩
/-- spec/11_local_time.md: TRIG_T time record (R394), word +0x4. -/
def TRIG_T_SEC_HI (j : Nat) : Nat := 0x8000204 + 0x20 * j
def TRIG_T_SEC_HI.sec_hi (j : Nat) : Field := ⟨TRIG_T_SEC_HI j, 0, 32⟩
/-- spec/11_local_time.md: TRIG_T time record (R394), word +0x8. -/
def TRIG_T_NS (j : Nat) : Nat := 0x8000208 + 0x20 * j
def TRIG_T_NS.ns (j : Nat) : Field := ⟨TRIG_T_NS j, 0, 30⟩
def TRIG_T_NS.late (j : Nat) : Field := ⟨TRIG_T_NS j, 31, 1⟩
/-- spec/11_local_time.md: TRIG_T time record (R394), word +0xC. -/
def TRIG_T_FRAC (j : Nat) : Nat := 0x800020C + 0x20 * j
def TRIG_T_FRAC.frac (j : Nat) : Field := ⟨TRIG_T_FRAC j, 0, 32⟩
/-- spec/11_local_time.md: CAP_RESULT time record (R394), word +0x0. -/
def CAP_RESULT_SEC_LO (i : Nat) : Nat := 0x8000610 + 0x40 * i
def CAP_RESULT_SEC_LO.sec_lo (i : Nat) : Field := ⟨CAP_RESULT_SEC_LO i, 0, 32⟩
/-- spec/11_local_time.md: CAP_RESULT time record (R394), word +0x4. -/
def CAP_RESULT_SEC_HI (i : Nat) : Nat := 0x8000614 + 0x40 * i
def CAP_RESULT_SEC_HI.sec_hi (i : Nat) : Field := ⟨CAP_RESULT_SEC_HI i, 0, 32⟩
/-- spec/11_local_time.md: CAP_RESULT time record (R394), word +0x8. -/
def CAP_RESULT_NS (i : Nat) : Nat := 0x8000618 + 0x40 * i
def CAP_RESULT_NS.ns (i : Nat) : Field := ⟨CAP_RESULT_NS i, 0, 30⟩
def CAP_RESULT_NS.coarse (i : Nat) : Field := ⟨CAP_RESULT_NS i, 30, 1⟩
/-- spec/11_local_time.md: CAP_RESULT time record (R394), word +0xC. -/
def CAP_RESULT_FRAC (i : Nat) : Nat := 0x800061C + 0x40 * i
def CAP_RESULT_FRAC.frac (i : Nat) : Field := ⟨CAP_RESULT_FRAC i, 0, 32⟩
/-- spec/11_local_time.md: CAP_OPEN time record (R394), word +0x0. -/
def CAP_OPEN_SEC_LO (i : Nat) : Nat := 0x8000620 + 0x40 * i
def CAP_OPEN_SEC_LO.sec_lo (i : Nat) : Field := ⟨CAP_OPEN_SEC_LO i, 0, 32⟩
/-- spec/11_local_time.md: CAP_OPEN time record (R394), word +0x4. -/
def CAP_OPEN_SEC_HI (i : Nat) : Nat := 0x8000624 + 0x40 * i
def CAP_OPEN_SEC_HI.sec_hi (i : Nat) : Field := ⟨CAP_OPEN_SEC_HI i, 0, 32⟩
/-- spec/11_local_time.md: CAP_OPEN time record (R394), word +0x8. -/
def CAP_OPEN_NS (i : Nat) : Nat := 0x8000628 + 0x40 * i
def CAP_OPEN_NS.ns (i : Nat) : Field := ⟨CAP_OPEN_NS i, 0, 30⟩
/-- spec/11_local_time.md: CAP_OPEN time record (R394), word +0xC. -/
def CAP_OPEN_FRAC (i : Nat) : Nat := 0x800062C + 0x40 * i
def CAP_OPEN_FRAC.frac (i : Nat) : Field := ⟨CAP_OPEN_FRAC i, 0, 32⟩
/-- spec/11_local_time.md: CAP_CLOSE time record (R394), word +0x0. -/
def CAP_CLOSE_SEC_LO (i : Nat) : Nat := 0x8000630 + 0x40 * i
def CAP_CLOSE_SEC_LO.sec_lo (i : Nat) : Field := ⟨CAP_CLOSE_SEC_LO i, 0, 32⟩
/-- spec/11_local_time.md: CAP_CLOSE time record (R394), word +0x4. -/
def CAP_CLOSE_SEC_HI (i : Nat) : Nat := 0x8000634 + 0x40 * i
def CAP_CLOSE_SEC_HI.sec_hi (i : Nat) : Field := ⟨CAP_CLOSE_SEC_HI i, 0, 32⟩
/-- spec/11_local_time.md: CAP_CLOSE time record (R394), word +0x8. -/
def CAP_CLOSE_NS (i : Nat) : Nat := 0x8000638 + 0x40 * i
def CAP_CLOSE_NS.ns (i : Nat) : Field := ⟨CAP_CLOSE_NS i, 0, 30⟩
/-- spec/11_local_time.md: CAP_CLOSE time record (R394), word +0xC. -/
def CAP_CLOSE_FRAC (i : Nat) : Nat := 0x800063C + 0x40 * i
def CAP_CLOSE_FRAC.frac (i : Nat) : Field := ⟨CAP_CLOSE_FRAC i, 0, 32⟩
/-- spec/11_local_time.md: TP_LABEL time record (R394), word +0x0. -/
def TP_LABEL_SEC_LO (k : Nat) : Nat := 0x8000A30 + 0x40 * k
def TP_LABEL_SEC_LO.sec_lo (k : Nat) : Field := ⟨TP_LABEL_SEC_LO k, 0, 32⟩
/-- spec/11_local_time.md: TP_LABEL time record (R394), word +0x4. -/
def TP_LABEL_SEC_HI (k : Nat) : Nat := 0x8000A34 + 0x40 * k
def TP_LABEL_SEC_HI.sec_hi (k : Nat) : Field := ⟨TP_LABEL_SEC_HI k, 0, 32⟩
/-- spec/11_local_time.md: TP_LABEL time record (R394), word +0x8. -/
def TP_LABEL_NS (k : Nat) : Nat := 0x8000A38 + 0x40 * k
def TP_LABEL_NS.ns (k : Nat) : Field := ⟨TP_LABEL_NS k, 0, 30⟩
/-- spec/11_local_time.md: TP_LABEL time record (R394), word +0xC. -/
def TP_LABEL_FRAC (k : Nat) : Nat := 0x8000A3C + 0x40 * k
def TP_LABEL_FRAC.frac (k : Nat) : Field := ⟨TP_LABEL_FRAC k, 0, 32⟩
/-- spec/17_host_link.md: HL_TIME time record (R394), word +0x0. -/
def HL_TIME_SEC_LO : Nat := 0xF001000
def HL_TIME_SEC_LO.sec_lo : Field := ⟨HL_TIME_SEC_LO, 0, 32⟩
/-- spec/17_host_link.md: HL_TIME time record (R394), word +0x4. -/
def HL_TIME_SEC_HI : Nat := 0xF001004
def HL_TIME_SEC_HI.sec_hi : Field := ⟨HL_TIME_SEC_HI, 0, 32⟩
/-- spec/17_host_link.md: HL_TIME time record (R394), word +0x8. -/
def HL_TIME_NS : Nat := 0xF001008
def HL_TIME_NS.ns : Field := ⟨HL_TIME_NS, 0, 30⟩
/-- spec/17_host_link.md: HL_TIME time record (R394), word +0xC. -/
def HL_TIME_FRAC : Nat := 0xF00100C
def HL_TIME_FRAC.frac : Field := ⟨HL_TIME_FRAC, 0, 32⟩
/-- spec/15_supplies_modes.md: PWR_UART_WAKE holds the line-wake settings of R503; always-on. -/
def PWR_UART_WAKE : Nat := 0xB000010
def PWR_UART_WAKE.en_0 : Field := ⟨PWR_UART_WAKE, 0, 1⟩
def PWR_UART_WAKE.min_0 : Field := ⟨PWR_UART_WAKE, 1, 3⟩
def PWR_UART_WAKE.en_1 : Field := ⟨PWR_UART_WAKE, 4, 1⟩
def PWR_UART_WAKE.min_1 : Field := ⟨PWR_UART_WAKE, 5, 3⟩
def PWR_UART_WAKE.en_2 : Field := ⟨PWR_UART_WAKE, 8, 1⟩
def PWR_UART_WAKE.min_2 : Field := ⟨PWR_UART_WAKE, 9, 3⟩
def PWR_UART_WAKE.en_3 : Field := ⟨PWR_UART_WAKE, 12, 1⟩
def PWR_UART_WAKE.min_3 : Field := ⟨PWR_UART_WAKE, 13, 3⟩
def PWR_UART_WAKE.en_4 : Field := ⟨PWR_UART_WAKE, 16, 1⟩
def PWR_UART_WAKE.min_4 : Field := ⟨PWR_UART_WAKE, 17, 3⟩
def PWR_UART_WAKE.en_5 : Field := ⟨PWR_UART_WAKE, 20, 1⟩
def PWR_UART_WAKE.min_5 : Field := ⟨PWR_UART_WAKE, 21, 3⟩
def PWR_UART_WAKE.en_6 : Field := ⟨PWR_UART_WAKE, 24, 1⟩
def PWR_UART_WAKE.min_6 : Field := ⟨PWR_UART_WAKE, 25, 3⟩
def PWR_UART_WAKE.en_7 : Field := ⟨PWR_UART_WAKE, 28, 1⟩
def PWR_UART_WAKE.min_7 : Field := ⟨PWR_UART_WAKE, 29, 3⟩
/-- spec/05_band_lanes.md: LANE_COEF[n][b][t] (R148, R166). -/
def LANE_COEF (l : Nat) (b : Nat) (t : Nat) : Nat := 0x6001000 + 0x400 * l + 0x200 * b + 0x4 * t
def LANE_COEF.coef (l : Nat) (b : Nat) (t : Nat) : Field := ⟨LANE_COEF l b t, 0, 20⟩
/-- spec/07_sheaves.md: SHF_CODE_RAM: 32 chips a word (R212, R239). -/
def SHF_CODE_RAM (s : Nat) (w : Nat) : Nat := 0xD020000 + 0x10000 * s + 0x4 * w
def SHF_CODE_RAM.chips (s : Nat) (w : Nat) : Field := ⟨SHF_CODE_RAM s w, 0, 32⟩

/-- The register tables of the fabric block. -/
def fabricRows : List RegRow := [
  ⟨0x1000000, 0x4, 1, 0x4, 1, [⟨0, 4, .rw, 8⟩, ⟨4, 4, .rw, 4⟩, ⟨8, 4, .rw, 1⟩]⟩,
  ⟨0x1000004, 0x4, 1, 0x4, 1, [⟨0, 32, .ro, 0⟩]⟩,
  ⟨0x1000008, 0x4, 1, 0x4, 1, [⟨0, 1, .w1c, 0⟩, ⟨1, 1, .w1c, 0⟩, ⟨2, 1, .w1s, 0⟩, ⟨8, 6, .ro, 0⟩, ⟨16, 6, .ro, 0⟩]⟩,
  ⟨0x100000C, 0x4, 1, 0x4, 1, [⟨0, 32, .ro, 0⟩]⟩,
  ⟨0x1000010, 0x4, 1, 0x4, 1, [⟨0, 32, .ro, 0⟩]⟩]

/-- The register tables of the steward block. -/
def stewardRows : List RegRow := [
  ⟨0x2000000, 0x4, 1, 0x4, 1, [⟨0, 1, .ro, 1⟩, ⟨1, 1, .ro, 1⟩, ⟨2, 1, .ro, 0⟩, ⟨3, 2, .ro, 0⟩, ⟨8, 8, .ro, 0⟩]⟩]

/-- The register tables of the clock block. -/
def clockRows : List RegRow := [
  ⟨0x3000000, 0x4, 1, 0x4, 1, [⟨0, 1, .rw, 0⟩, ⟨1, 3, .rw, 2⟩, ⟨4, 1, .rw, 1⟩, ⟨5, 1, .w1s, 0⟩, ⟨8, 7, .rw, 8⟩]⟩,
  ⟨0x3000004, 0x4, 1, 0x4, 1, [⟨0, 1, .ro, 0⟩, ⟨1, 1, .ro, 0⟩, ⟨2, 1, .ro, 0⟩, ⟨3, 1, .ro, 0⟩, ⟨4, 1, .ro, 0⟩, ⟨5, 1, .ro, 1⟩, ⟨6, 1, .ro, 0⟩, ⟨7, 2, .ro, 0⟩, ⟨9, 1, .ro, 0⟩]⟩,
  ⟨0x3000008, 0x4, 1, 0x4, 1, [⟨0, 1, .w1c, 0⟩, ⟨1, 1, .w1c, 0⟩, ⟨2, 1, .w1c, 0⟩, ⟨3, 1, .w1c, 0⟩, ⟨4, 1, .w1c, 0⟩, ⟨5, 1, .w1c, 0⟩, ⟨6, 1, .w1c, 0⟩, ⟨7, 1, .w1c, 0⟩, ⟨8, 1, .w1c, 0⟩, ⟨9, 1, .w1c, 0⟩, ⟨10, 1, .w1c, 0⟩]⟩,
  ⟨0x300000C, 0x4, 1, 0x4, 1, [⟨0, 3, .ro, 0⟩, ⟨8, 16, .ro, 0⟩]⟩,
  ⟨0x3000010, 0x4, 1, 0x4, 1, [⟨0, 15, .ro, 0⟩, ⟨15, 1, .ro, 0⟩]⟩,
  ⟨0x3000014, 0x4, 1, 0x4, 1, [⟨0, 16, .ro, 0⟩]⟩,
  ⟨0x3000018, 0x4, 1, 0x4, 1, [⟨0, 15, .rw, 0x61A8⟩]⟩,
  ⟨0x300001C, 0x4, 1, 0x4, 1, [⟨0, 23, .rw, 0x2A5A5A⟩]⟩,
  ⟨0x3000020, 0x4, 1, 0x4, 1, [⟨0, 1, .rw, 0⟩, ⟨1, 1, .rw, 0⟩, ⟨2, 5, .rw, 8⟩, ⟨8, 8, .rw, 0x26⟩]⟩,
  ⟨0x3000024, 0x4, 1, 0x4, 1, [⟨0, 1, .w1s, 0⟩]⟩,
  ⟨0x3000028, 0x4, 1, 0x4, 1, [⟨0, 16, .ro, 0⟩, ⟨16, 16, .ro, 0⟩]⟩,
  ⟨0x300002C, 0x4, 1, 0x4, 1, [⟨0, 12, .ro, 0⟩, ⟨12, 1, .ro, 0⟩]⟩,
  ⟨0x3000040, 0x4, 1, 0x4, 1, [⟨0, 1, .rw, 0⟩, ⟨1, 1, .rw, 0⟩, ⟨2, 3, .rw, 4⟩, ⟨5, 1, .rw, 1⟩]⟩,
  ⟨0x3000044, 0x4, 1, 0x4, 1, [⟨0, 1, .ro, 0⟩, ⟨1, 1, .ro, 0⟩, ⟨2, 1, .ro, 0⟩, ⟨4, 12, .ro, 0⟩]⟩,
  ⟨0x3000048, 0x4, 1, 0x4, 1, [⟨0, 23, .rw, 0x15A5A5⟩]⟩]

/-- The register tables of the granary block. -/
def granaryRows : List RegRow := [
  ⟨0x4000000, 0x4, 60, 0x4, 1, [⟨0, 6, .ro, 1⟩, ⟨8, 6, .rw, 0⟩, ⟨14, 1, .rw, 0⟩, ⟨15, 1, .w1s, 0⟩, ⟨16, 1, .rw, 0⟩, ⟨17, 1, .ro, 0⟩, ⟨18, 1, .ro, 0⟩]⟩,
  ⟨0x40000F0, 0x4, 2, 0x4, 1, [⟨0, 6, .ro, 0x3E⟩, ⟨8, 6, .rw, 0⟩, ⟨14, 1, .rw, 0⟩, ⟨15, 1, .w1s, 0⟩, ⟨16, 1, .rw, 0⟩, ⟨17, 1, .ro, 0⟩, ⟨18, 1, .ro, 0⟩]⟩,
  ⟨0x40000F8, 0x4, 1, 0x4, 1, [⟨0, 6, .ro, 1⟩, ⟨8, 6, .rw, 0⟩, ⟨14, 1, .rw, 0⟩, ⟨15, 1, .w1s, 0⟩, ⟨16, 1, .rw, 0⟩, ⟨17, 1, .ro, 0⟩, ⟨18, 1, .ro, 0⟩]⟩,
  ⟨0x40000FC, 0x4, 1, 0x4, 1, [⟨0, 6, .ro, 0xD⟩, ⟨8, 6, .rw, 0⟩, ⟨14, 1, .rw, 0⟩, ⟨15, 1, .w1s, 0⟩, ⟨16, 1, .rw, 0⟩, ⟨17, 1, .ro, 0⟩, ⟨18, 1, .ro, 0⟩]⟩,
  ⟨0x4000100, 0x4, 64, 0x4, 1, [⟨0, 8, .ro, 0⟩, ⟨8, 8, .ro, 0⟩, ⟨16, 1, .ro, 0⟩, ⟨17, 2, .ro, 0⟩, ⟨19, 1, .w1c, 0⟩, ⟨20, 1, .ro, 0⟩]⟩,
  ⟨0x4000200, 0x4, 1, 0x4, 1, [⟨0, 1, .ro, 0⟩]⟩,
  ⟨0x4000204, 0x4, 1, 0x4, 1, [⟨0, 1, .w1c, 0⟩, ⟨1, 1, .w1c, 0⟩, ⟨2, 1, .w1c, 0⟩, ⟨3, 1, .w1c, 0⟩, ⟨4, 1, .w1c, 0⟩, ⟨5, 1, .w1c, 0⟩, ⟨6, 1, .w1c, 0⟩, ⟨7, 1, .w1s, 0⟩]⟩,
  ⟨0x4000208, 0x4, 1, 0x4, 1, [⟨0, 17, .ro, 0⟩, ⟨17, 6, .ro, 0⟩, ⟨23, 6, .ro, 0⟩, ⟨29, 1, .ro, 0⟩]⟩,
  ⟨0x4000300, 0x8, 16, 0x4, 1, [⟨0, 1, .rw, 0⟩, ⟨1, 2, .rw, 0⟩, ⟨3, 6, .rw, 0⟩, ⟨9, 1, .rw, 0⟩, ⟨10, 1, .ro, 0⟩]⟩,
  ⟨0x4000304, 0x8, 16, 0x4, 1, [⟨0, 6, .rw, 0⟩, ⟨6, 6, .rw, 0⟩, ⟨12, 6, .rw, 0⟩, ⟨18, 6, .rw, 0⟩, ⟨24, 4, .rw, 0⟩]⟩,
  ⟨0x4000400, 0x4, 1, 0x4, 1, [⟨0, 1, .rw, 1⟩, ⟨8, 12, .rw, 0x3E8⟩]⟩,
  ⟨0x4000404, 0x4, 1, 0x4, 1, [⟨0, 6, .ro, 0⟩, ⟨6, 5, .ro, 0⟩, ⟨11, 1, .ro, 0⟩, ⟨16, 16, .ro, 0⟩]⟩,
  ⟨0x4000408, 0x4, 1, 0x4, 1, [⟨0, 17, .ro, 0⟩, ⟨17, 6, .ro, 0⟩, ⟨23, 1, .ro, 0⟩]⟩,
  ⟨0x400040C, 0x4, 1, 0x4, 1, [⟨0, 16, .ro, 0⟩, ⟨16, 16, .ro, 0⟩]⟩,
  ⟨0x4000500, 0x4, 1, 0x4, 1, [⟨0, 1, .w1c, 0⟩, ⟨8, 8, .ro, 0⟩, ⟨16, 8, .ro, 0⟩]⟩,
  ⟨0x4000504, 0x4, 1, 0x4, 1, [⟨0, 16, .ro, 0⟩]⟩,
  ⟨0x4000508, 0x4, 1, 0x4, 1, [⟨0, 16, .ro, 0⟩]⟩]

/-- The register tables of the front end block. -/
def frontEndRows : List RegRow := [
  ⟨0x5000000, 0x4, 1, 0x4, 1, [⟨0, 1, .rw, 0⟩, ⟨1, 1, .rw, 0⟩, ⟨2, 2, .rw, 0⟩, ⟨4, 1, .rw, 1⟩, ⟨5, 1, .rw, 0⟩, ⟨6, 1, .rw, 0⟩]⟩,
  ⟨0x5000004, 0x4, 1, 0x4, 1, [⟨0, 7, .rw, 0x28⟩, ⟨8, 7, .ro, 0⟩, ⟨16, 1, .ro, 0⟩, ⟨17, 1, .ro, 0⟩]⟩,
  ⟨0x5000008, 0x4, 1, 0x4, 1, [⟨0, 8, .rw, 0x20⟩, ⟨8, 4, .rw, 2⟩, ⟨12, 4, .rw, 0xC⟩, ⟨16, 12, .rw, 0x40⟩, ⟨28, 3, .rw, 4⟩]⟩,
  ⟨0x500000C, 0x4, 1, 0x4, 1, [⟨0, 10, .ro, 0⟩, ⟨10, 1, .ro, 0⟩, ⟨12, 14, .ro, 0⟩, ⟨26, 1, .ro, 0⟩]⟩,
  ⟨0x5000010, 0x4, 1, 0x4, 1, [⟨0, 6, .rw, 0⟩, ⟨8, 8, .rw, 0x10⟩, ⟨16, 8, .rw, 0x32⟩]⟩,
  ⟨0x5000014, 0x4, 1, 0x4, 1, [⟨0, 16, .ro, 0⟩, ⟨16, 16, .ro, 0⟩]⟩,
  ⟨0x5000018, 0x4, 1, 0x4, 1, [⟨0, 8, .rw, 8⟩, ⟨8, 8, .rw, 0x3C⟩, ⟨16, 10, .rw, 0x64⟩, ⟨26, 6, .rw, 0xA⟩]⟩,
  ⟨0x500001C, 0x4, 1, 0x4, 1, [⟨0, 2, .ro, 0⟩, ⟨8, 10, .ro, 0⟩]⟩,
  ⟨0x5000020, 0x4, 1, 0x4, 1, [⟨0, 1, .w1s, 0⟩, ⟨1, 1, .rw, 1⟩, ⟨2, 1, .rw, 0⟩]⟩,
  ⟨0x5000024, 0x4, 1, 0x4, 1, [⟨0, 1, .ro, 0⟩, ⟨1, 1, .ro, 0⟩, ⟨2, 1, .ro, 0⟩, ⟨16, 16, .ro, 0⟩]⟩,
  ⟨0x5000028, 0x4, 1, 0x4, 1, [⟨0, 1, .w1c, 0⟩, ⟨1, 1, .w1c, 0⟩, ⟨2, 1, .w1c, 0⟩, ⟨3, 1, .w1c, 0⟩, ⟨4, 1, .w1c, 0⟩, ⟨5, 1, .w1c, 0⟩, ⟨6, 1, .w1c, 0⟩]⟩]

/-- The register tables of the lanes block. -/
def laneRows : List RegRow := [
  ⟨0x6000000, 0x80, 12, 0x4, 1, [⟨0, 1, .rw, 0⟩, ⟨1, 1, .w1s, 0⟩]⟩,
  ⟨0x6000004, 0x80, 12, 0x4, 1, [⟨0, 32, .rw, 0⟩]⟩,
  ⟨0x6000008, 0x80, 12, 0x4, 1, [⟨0, 32, .rw, 0⟩]⟩,
  ⟨0x600000C, 0x80, 12, 0x4, 1, [⟨0, 6, .rw, 0xF⟩, ⟨8, 5, .rw, 0xF⟩, ⟨16, 2, .rw, 3⟩]⟩,
  ⟨0x6000010, 0x80, 12, 0x4, 1, [⟨0, 8, .rw, 0xC⟩, ⟨8, 6, .rw, 0xC⟩, ⟨16, 2, .rw, 3⟩]⟩,
  ⟨0x6000014, 0x80, 12, 0x4, 1, [⟨0, 5, .rw, 0xC⟩, ⟨8, 6, .rw, 0xD⟩, ⟨16, 6, .rw, 0x15⟩, ⟨24, 4, .rw, 6⟩]⟩,
  ⟨0x6000018, 0x80, 12, 0x4, 1, [⟨0, 6, .wo, 0⟩, ⟨6, 13, .wo, 0⟩]⟩,
  ⟨0x600001C, 0x80, 12, 0x4, 1, [⟨0, 6, .ro, 0x19⟩, ⟨8, 6, .ro, 0⟩, ⟨16, 6, .ro, 0⟩, ⟨22, 1, .ro, 0⟩, ⟨23, 1, .ro, 0⟩]⟩,
  ⟨0x6000020, 0x80, 12, 0x4, 2, [⟨0, 8, .rw, 0x80⟩, ⟨8, 11, .rw, 0x3F0⟩, ⟨19, 1, .ro, 0⟩]⟩,
  ⟨0x6000028, 0x80, 12, 0x4, 1, [⟨0, 11, .ro, 0⟩]⟩,
  ⟨0x600002C, 0x80, 12, 0x4, 1, [⟨0, 22, .ro, 0⟩]⟩,
  ⟨0x6000030, 0x80, 12, 0x4, 1, [⟨0, 4, .rw, 8⟩, ⟨4, 5, .rw, 0xC⟩, ⟨9, 3, .rw, 3⟩, ⟨12, 1, .rw, 0⟩, ⟨16, 8, .rw, 0x64⟩]⟩,
  ⟨0x6000034, 0x80, 12, 0x4, 1, [⟨0, 1, .rw, 0⟩, ⟨8, 7, .rw, 0x18⟩, ⟨16, 4, .rw, 8⟩, ⟨24, 8, .rw, 0x28⟩]⟩,
  ⟨0x6000038, 0x80, 12, 0x4, 4, [⟨0, 2, .rw, 1⟩, ⟨2, 1, .ro, 0⟩, ⟨8, 24, .rw, 0⟩]⟩,
  ⟨0x6000048, 0x80, 12, 0x4, 1, [⟨0, 8, .ro, 0⟩, ⟨8, 8, .ro, 0⟩, ⟨16, 8, .ro, 0⟩, ⟨24, 8, .ro, 0⟩]⟩,
  ⟨0x600004C, 0x80, 12, 0x4, 1, [⟨0, 16, .ro, 0⟩, ⟨16, 16, .ro, 0⟩]⟩,
  ⟨0x6000050, 0x80, 12, 0x4, 1, [⟨0, 1, .ro, 0⟩, ⟨1, 1, .ro, 0⟩, ⟨2, 1, .ro, 0⟩, ⟨3, 1, .ro, 0⟩, ⟨8, 8, .ro, 0⟩]⟩,
  ⟨0x6000054, 0x80, 12, 0x4, 1, [⟨0, 1, .w1c, 0⟩, ⟨1, 1, .w1c, 0⟩, ⟨2, 1, .w1c, 0⟩, ⟨3, 1, .w1c, 0⟩, ⟨4, 1, .w1c, 0⟩, ⟨5, 1, .w1c, 0⟩, ⟨6, 1, .w1c, 0⟩, ⟨7, 1, .w1c, 0⟩, ⟨8, 1, .w1c, 0⟩, ⟨9, 1, .w1c, 0⟩]⟩,
  ⟨0x6000058, 0x80, 12, 0x4, 1, [⟨0, 8, .ro, 0⟩, ⟨8, 8, .ro, 0⟩, ⟨16, 8, .ro, 0⟩]⟩,
  ⟨0x6000600, 0x4, 1, 0x4, 1, [⟨0, 19, .ro, 0⟩]⟩,
  ⟨0x6001000, 0x400, 12, 0x4, 128, [⟨0, 20, .rw, 0⟩]⟩,
  ⟨0x6001200, 0x400, 12, 0x4, 128, [⟨0, 20, .rw, 0⟩]⟩]

/-- The register tables of the thresher block. -/
def thresherRows : List RegRow := [
  ⟨0x7000000, 0x4, 1, 0x4, 1, [⟨0, 1, .rw, 0⟩, ⟨1, 1, .w1s, 0⟩, ⟨2, 1, .w1s, 0⟩, ⟨3, 1, .w1s, 0⟩, ⟨4, 1, .w1s, 0⟩, ⟨5, 2, .rw, 0⟩]⟩,
  ⟨0x7000004, 0x4, 1, 0x4, 1, [⟨0, 11, .rw, 1⟩, ⟨11, 1, .rw, 0⟩, ⟨12, 1, .rw, 0⟩, ⟨13, 5, .rw, 0⟩, ⟨18, 4, .rw, 0⟩, ⟨22, 4, .rw, 0⟩, ⟨26, 1, .rw, 0⟩, ⟨27, 4, .rw, 8⟩]⟩,
  ⟨0x7000008, 0x4, 1, 0x4, 1, [⟨0, 26, .rw, 0⟩]⟩,
  ⟨0x700000C, 0x4, 1, 0x4, 1, [⟨0, 2, .ro, 0⟩, ⟨2, 1, .ro, 0⟩, ⟨3, 7, .ro, 0⟩, ⟨16, 6, .ro, 0⟩, ⟨22, 7, .ro, 0⟩]⟩,
  ⟨0x7000010, 0x4, 1, 0x4, 1, [⟨0, 1, .w1c, 0⟩, ⟨1, 1, .w1c, 0⟩, ⟨2, 1, .w1c, 0⟩, ⟨3, 1, .w1c, 0⟩, ⟨4, 1, .w1c, 0⟩, ⟨5, 1, .w1c, 0⟩, ⟨6, 1, .w1c, 0⟩, ⟨7, 1, .w1c, 0⟩]⟩,
  ⟨0x7000014, 0x4, 1, 0x4, 1, [⟨0, 6, .ro, 0⟩, ⟨6, 1, .ro, 0⟩, ⟨8, 10, .ro, 0⟩]⟩,
  ⟨0x7000018, 0x4, 1, 0x4, 1, [⟨0, 32, .ro, 0⟩]⟩,
  ⟨0x700001C, 0x4, 1, 0x4, 1, [⟨0, 32, .ro, 0⟩]⟩,
  ⟨0x7000020, 0x4, 1, 0x4, 1, [⟨0, 30, .ro, 0⟩]⟩,
  ⟨0x7000024, 0x4, 1, 0x4, 1, [⟨0, 32, .ro, 0⟩]⟩,
  ⟨0x7000028, 0x4, 1, 0x4, 1, [⟨0, 16, .ro, 0⟩, ⟨16, 16, .ro, 0⟩]⟩,
  ⟨0x7000400, 0x20, 64, 0x4, 1, [⟨0, 1, .rw, 0⟩, ⟨1, 4, .rw, 0⟩, ⟨8, 6, .rw, 0⟩, ⟨16, 8, .rw, 0⟩, ⟨24, 1, .rw, 0⟩, ⟨25, 3, .rw, 0⟩, ⟨28, 1, .rw, 0⟩]⟩,
  ⟨0x7000404, 0x20, 64, 0x4, 1, [⟨0, 8, .rw, 0⟩, ⟨8, 16, .rw, 0⟩]⟩,
  ⟨0x7000408, 0x20, 64, 0x4, 1, [⟨0, 16, .rw, 0⟩]⟩,
  ⟨0x700040C, 0x20, 64, 0x4, 1, [⟨0, 32, .rw, 0⟩]⟩,
  ⟨0x7000410, 0x20, 64, 0x4, 1, [⟨0, 7, .rw, 0⟩]⟩,
  ⟨0x7000414, 0x20, 64, 0x4, 1, [⟨0, 3, .ro, 0⟩, ⟨4, 3, .ro, 0⟩, ⟨8, 5, .ro, 0⟩, ⟨13, 1, .ro, 0⟩, ⟨14, 1, .ro, 0⟩, ⟨15, 1, .ro, 0⟩, ⟨16, 6, .ro, 0⟩]⟩,
  ⟨0x7000418, 0x20, 64, 0x4, 1, [⟨0, 32, .ro, 0⟩]⟩,
  ⟨0x700041C, 0x20, 64, 0x4, 1, [⟨0, 11, .ro, 0⟩, ⟨11, 11, .ro, 0⟩]⟩]

/-- The register tables of the local time block. -/
def timeRows : List RegRow := [
  ⟨0x8000000, 0x4, 1, 0x4, 1, [⟨0, 20, .rw, 0x3E8⟩, ⟨20, 8, .rw, 0x14⟩]⟩,
  ⟨0x8000004, 0x4, 1, 0x4, 1, [⟨0, 1, .rw, 1⟩, ⟨1, 1, .rw, 0⟩, ⟨4, 8, .rw, 0xF⟩, ⟨12, 4, .rw, 0xA⟩, ⟨16, 8, .rw, 0x14⟩, ⟨24, 8, .rw, 0x3C⟩]⟩,
  ⟨0x8000008, 0x4, 1, 0x4, 1, [⟨0, 2, .ro, 3⟩, ⟨2, 2, .ro, 2⟩, ⟨4, 1, .ro, 1⟩, ⟨5, 1, .ro, 0⟩, ⟨6, 1, .ro, 0⟩, ⟨7, 1, .ro, 0⟩, ⟨8, 1, .ro, 0⟩]⟩,
  ⟨0x800000C, 0x4, 1, 0x4, 1, [⟨0, 1, .w1c, 0⟩, ⟨1, 1, .w1c, 0⟩, ⟨2, 1, .w1c, 0⟩, ⟨3, 1, .w1c, 0⟩, ⟨4, 1, .w1c, 0⟩, ⟨5, 1, .w1c, 0⟩, ⟨6, 1, .w1c, 0⟩, ⟨7, 1, .w1c, 0⟩, ⟨8, 1, .w1c, 0⟩, ⟨9, 1, .w1c, 0⟩]⟩,
  ⟨0x8000020, 0x4, 1, 0x4, 1, [⟨0, 32, .rw, 0x38E38E39⟩]⟩,
  ⟨0x8000024, 0x4, 1, 0x4, 1, [⟨0, 4, .rw, 2⟩]⟩,
  ⟨0x8000028, 0x4, 1, 0x4, 1, [⟨0, 32, .rw, 0⟩]⟩,
  ⟨0x800002C, 0x4, 1, 0x4, 1, [⟨0, 32, .rw, 0⟩]⟩,
  ⟨0x8000030, 0x4, 1, 0x4, 1, [⟨0, 30, .rw, 0⟩]⟩,
  ⟨0x8000034, 0x4, 1, 0x4, 1, [⟨0, 1, .w1s, 0⟩, ⟨1, 1, .w1s, 0⟩, ⟨2, 1, .ro, 0⟩]⟩,
  ⟨0x8000038, 0x4, 1, 0x4, 1, [⟨0, 32, .rw, 0xFFFFFFFF⟩]⟩,
  ⟨0x800003C, 0x4, 1, 0x4, 1, [⟨0, 16, .rw, 0⟩, ⟨16, 2, .rw, 0⟩, ⟨18, 1, .rw, 0⟩, ⟨19, 13, .rw, 0⟩]⟩,
  ⟨0x8000040, 0x4, 1, 0x4, 1, [⟨0, 4, .ro, 0⟩]⟩,
  ⟨0x8000044, 0x4, 1, 0x4, 1, [⟨0, 30, .ro, 0x1AD27480⟩, ⟨30, 1, .ro, 0⟩]⟩,
  ⟨0x8000048, 0x4, 1, 0x4, 1, [⟨0, 32, .ro, 0⟩]⟩,
  ⟨0x800004C, 0x4, 1, 0x4, 1, [⟨0, 16, .ro, 0⟩]⟩,
  ⟨0x8000050, 0x4, 1, 0x4, 1, [⟨0, 32, .rw, 0⟩]⟩,
  ⟨0x8000054, 0x4, 1, 0x4, 1, [⟨0, 16, .rw, 0⟩, ⟨16, 1, .rw, 0⟩]⟩,
  ⟨0x8000058, 0x4, 1, 0x4, 1, [⟨0, 32, .ro, 0⟩]⟩,
  ⟨0x800005C, 0x4, 1, 0x4, 1, [⟨0, 16, .ro, 0⟩]⟩,
  ⟨0x8000210, 0x20, 32, 0x4, 1, [⟨0, 32, .rw, 0⟩]⟩,
  ⟨0x8000214, 0x20, 32, 0x4, 1, [⟨0, 8, .rw, 0⟩]⟩,
  ⟨0x8000218, 0x20, 32, 0x4, 1, [⟨0, 1, .rw, 0⟩, ⟨1, 1, .w1c, 0⟩, ⟨2, 1, .w1c, 0⟩, ⟨3, 1, .rw, 0⟩, ⟨4, 2, .rw, 0⟩, ⟨6, 1, .rw, 0⟩, ⟨8, 16, .rw, 0x2D⟩]⟩,
  ⟨0x800021C, 0x20, 32, 0x4, 1, [⟨0, 16, .rw, 0⟩, ⟨16, 1, .rw, 0⟩, ⟨17, 1, .rw, 0⟩, ⟨20, 8, .ro, 0⟩]⟩,
  ⟨0x8000600, 0x40, 16, 0x4, 1, [⟨0, 1, .rw, 0⟩, ⟨1, 5, .rw, 0⟩, ⟨6, 2, .rw, 1⟩, ⟨8, 1, .rw, 0⟩, ⟨9, 1, .rw, 0⟩, ⟨10, 1, .rw, 0⟩]⟩,
  ⟨0x8000604, 0x40, 16, 0x4, 1, [⟨0, 1, .sq, 0⟩, ⟨1, 1, .w1c, 0⟩, ⟨2, 1, .ro, 0⟩, ⟨8, 8, .ro, 0⟩, ⟨16, 8, .ro, 0⟩]⟩,
  ⟨0x8000A00, 0x40, 4, 0x4, 1, [⟨0, 1, .rw, 0⟩, ⟨1, 2, .rw, 2⟩, ⟨3, 1, .rw, 0⟩, ⟨4, 1, .rw, 0⟩, ⟨5, 1, .rw, 0⟩, ⟨6, 1, .rw, 0⟩]⟩,
  ⟨0x8000A04, 0x40, 4, 0x4, 1, [⟨0, 32, .rw, 0x3B9ACA00⟩]⟩,
  ⟨0x8000A08, 0x40, 4, 0x4, 1, [⟨0, 8, .rw, 0⟩]⟩,
  ⟨0x8000A0C, 0x40, 4, 0x4, 1, [⟨0, 32, .rw, 0x5F5E100⟩]⟩,
  ⟨0x8000A10, 0x40, 4, 0x4, 1, [⟨0, 32, .rw, 0⟩]⟩,
  ⟨0x8000A14, 0x40, 4, 0x4, 1, [⟨0, 8, .rw, 0⟩]⟩,
  ⟨0x8000A18, 0x40, 4, 0x4, 1, [⟨0, 32, .rw, 0⟩]⟩,
  ⟨0x8000A1C, 0x40, 4, 0x4, 1, [⟨0, 32, .rw, 0xFFFFFFFF⟩]⟩,
  ⟨0x8000A20, 0x40, 4, 0x4, 1, [⟨0, 16, .ro, 0⟩, ⟨16, 2, .ro, 0⟩]⟩,
  ⟨0x8000A24, 0x40, 4, 0x4, 1, [⟨0, 32, .ro, 0⟩]⟩,
  ⟨0x8000A28, 0x40, 4, 0x4, 1, [⟨0, 8, .rw, 0⟩]⟩,
  ⟨0x8000010, 0x4, 1, 0x4, 1, [⟨0, 32, .ro, 0⟩]⟩,
  ⟨0x8000014, 0x4, 1, 0x4, 1, [⟨0, 32, .ro, 0⟩]⟩,
  ⟨0x8000018, 0x4, 1, 0x4, 1, [⟨0, 30, .ro, 0⟩]⟩,
  ⟨0x800001C, 0x4, 1, 0x4, 1, [⟨0, 32, .ro, 0⟩]⟩,
  ⟨0x8000100, 0x10, 12, 0x4, 1, [⟨0, 32, .ro, 0⟩]⟩,
  ⟨0x8000104, 0x10, 12, 0x4, 1, [⟨0, 32, .ro, 0⟩]⟩,
  ⟨0x8000108, 0x10, 12, 0x4, 1, [⟨0, 30, .ro, 0⟩]⟩,
  ⟨0x800010C, 0x10, 12, 0x4, 1, [⟨0, 32, .ro, 0⟩]⟩,
  ⟨0x8000200, 0x20, 32, 0x4, 1, [⟨0, 32, .rw, 0⟩]⟩,
  ⟨0x8000204, 0x20, 32, 0x4, 1, [⟨0, 32, .rw, 0⟩]⟩,
  ⟨0x8000208, 0x20, 32, 0x4, 1, [⟨0, 30, .rw, 0⟩, ⟨31, 1, .ro, 0⟩]⟩,
  ⟨0x800020C, 0x20, 32, 0x4, 1, [⟨0, 32, .rw, 0⟩]⟩,
  ⟨0x8000610, 0x40, 16, 0x4, 1, [⟨0, 32, .ro, 0⟩]⟩,
  ⟨0x8000614, 0x40, 16, 0x4, 1, [⟨0, 32, .ro, 0⟩]⟩,
  ⟨0x8000618, 0x40, 16, 0x4, 1, [⟨0, 30, .ro, 0⟩, ⟨30, 1, .ro, 0⟩]⟩,
  ⟨0x800061C, 0x40, 16, 0x4, 1, [⟨0, 32, .ro, 0⟩]⟩,
  ⟨0x8000620, 0x40, 16, 0x4, 1, [⟨0, 32, .rw, 0⟩]⟩,
  ⟨0x8000624, 0x40, 16, 0x4, 1, [⟨0, 32, .rw, 0⟩]⟩,
  ⟨0x8000628, 0x40, 16, 0x4, 1, [⟨0, 30, .rw, 0⟩]⟩,
  ⟨0x800062C, 0x40, 16, 0x4, 1, [⟨0, 32, .rw, 0⟩]⟩,
  ⟨0x8000630, 0x40, 16, 0x4, 1, [⟨0, 32, .rw, 0⟩]⟩,
  ⟨0x8000634, 0x40, 16, 0x4, 1, [⟨0, 32, .rw, 0⟩]⟩,
  ⟨0x8000638, 0x40, 16, 0x4, 1, [⟨0, 30, .rw, 0⟩]⟩,
  ⟨0x800063C, 0x40, 16, 0x4, 1, [⟨0, 32, .rw, 0⟩]⟩,
  ⟨0x8000A30, 0x40, 4, 0x4, 1, [⟨0, 32, .ro, 0⟩]⟩,
  ⟨0x8000A34, 0x40, 4, 0x4, 1, [⟨0, 32, .ro, 0⟩]⟩,
  ⟨0x8000A38, 0x40, 4, 0x4, 1, [⟨0, 30, .ro, 0⟩]⟩,
  ⟨0x8000A3C, 0x40, 4, 0x4, 1, [⟨0, 32, .ro, 0⟩]⟩]

/-- The register tables of the network block. -/
def netRows : List RegRow := [
  ⟨0x9000000, 0x4, 1, 0x4, 1, [⟨0, 1, .rw, 0⟩, ⟨1, 2, .rw, 0⟩, ⟨3, 1, .rw, 0⟩, ⟨4, 1, .rw, 0⟩, ⟨5, 1, .rw, 0⟩, ⟨6, 1, .rw, 0⟩, ⟨7, 1, .w1s, 0⟩, ⟨8, 7, .rw, 0⟩]⟩,
  ⟨0x9000004, 0x4, 1, 0x4, 1, [⟨0, 4, .rw, 0⟩, ⟨4, 4, .rw, 1⟩, ⟨8, 4, .rw, 0⟩, ⟨12, 4, .rw, 3⟩, ⟨16, 4, .rw, 3⟩]⟩,
  ⟨0x9000008, 0x4, 1, 0x4, 1, [⟨0, 8, .rw, 0x80⟩, ⟨8, 8, .rw, 0x80⟩, ⟨16, 16, .rw, 0x64⟩]⟩,
  ⟨0x900000C, 0x4, 1, 0x4, 1, [⟨0, 16, .rw, 0⟩, ⟨16, 16, .rw, 0⟩]⟩,
  ⟨0x9000010, 0x4, 1, 0x4, 1, [⟨0, 32, .rw, 0⟩]⟩,
  ⟨0x9000014, 0x4, 1, 0x4, 1, [⟨0, 1, .ro, 0⟩, ⟨1, 1, .ro, 0⟩, ⟨2, 4, .ro, 3⟩, ⟨6, 1, .ro, 0⟩, ⟨7, 1, .ro, 0⟩, ⟨8, 1, .ro, 0⟩, ⟨9, 1, .ro, 0⟩, ⟨10, 1, .ro, 0⟩, ⟨11, 1, .ro, 0⟩, ⟨12, 3, .ro, 0⟩, ⟨16, 8, .ro, 0xF8⟩]⟩,
  ⟨0x9000018, 0x4, 1, 0x4, 1, [⟨0, 1, .w1c, 0⟩, ⟨1, 1, .w1c, 0⟩, ⟨2, 1, .w1c, 0⟩, ⟨3, 1, .w1c, 0⟩, ⟨4, 1, .w1c, 0⟩, ⟨5, 1, .w1c, 0⟩, ⟨6, 1, .w1c, 0⟩, ⟨7, 1, .w1c, 0⟩, ⟨8, 1, .w1c, 0⟩, ⟨9, 1, .w1c, 0⟩]⟩,
  ⟨0x900001C, 0x4, 1, 0x4, 1, [⟨0, 32, .ro, 0⟩]⟩,
  ⟨0x9000020, 0x4, 1, 0x4, 1, [⟨0, 32, .ro, 0⟩]⟩,
  ⟨0x9000024, 0x4, 1, 0x4, 1, [⟨0, 32, .ro, 0⟩]⟩,
  ⟨0x9000028, 0x4, 1, 0x4, 1, [⟨0, 8, .ro, 0⟩, ⟨8, 8, .ro, 0⟩, ⟨16, 8, .ro, 0⟩, ⟨24, 8, .ro, 0⟩]⟩,
  ⟨0x9000040, 0x4, 8, 0x4, 1, [⟨0, 1, .ro, 0⟩, ⟨1, 1, .ro, 0⟩, ⟨2, 1, .ro, 0⟩, ⟨8, 8, .ro, 0⟩, ⟨16, 8, .ro, 0⟩, ⟨24, 8, .ro, 0⟩]⟩]

/-- The register tables of the radio block. -/
def radioRows : List RegRow := [
  ⟨0xA000000, 0x4, 1, 0x4, 1, [⟨0, 1, .rw, 0⟩, ⟨1, 2, .rw, 1⟩, ⟨3, 5, .rw, 8⟩, ⟨8, 1, .w1s, 0⟩]⟩,
  ⟨0xA000004, 0x4, 1, 0x4, 1, [⟨0, 3, .ro, 0⟩, ⟨3, 1, .ro, 0⟩, ⟨4, 1, .ro, 0⟩, ⟨5, 1, .ro, 0⟩, ⟨6, 1, .ro, 0⟩, ⟨7, 1, .ro, 0⟩, ⟨8, 1, .ro, 0⟩, ⟨9, 1, .ro, 0⟩, ⟨16, 5, .ro, 0⟩]⟩,
  ⟨0xA000008, 0x4, 1, 0x4, 1, [⟨0, 1, .w1c, 0⟩, ⟨1, 1, .w1c, 0⟩, ⟨2, 1, .w1c, 0⟩, ⟨3, 1, .w1c, 0⟩, ⟨4, 1, .w1c, 0⟩, ⟨5, 1, .w1c, 0⟩, ⟨6, 1, .w1c, 0⟩, ⟨7, 1, .w1c, 0⟩, ⟨8, 1, .w1c, 0⟩, ⟨9, 1, .w1c, 0⟩]⟩,
  ⟨0xA00000C, 0x4, 1, 0x4, 1, [⟨0, 1, .rw, 0⟩, ⟨1, 8, .rw, 0⟩, ⟨9, 2, .rw, 0⟩, ⟨11, 1, .rw, 0⟩, ⟨12, 3, .rw, 4⟩]⟩,
  ⟨0xA000010, 0x4, 1, 0x4, 1, [⟨0, 7, .ro, 0⟩, ⟨7, 1, .ro, 0⟩, ⟨8, 8, .ro, 0⟩, ⟨16, 8, .ro, 0⟩, ⟨24, 8, .ro, 0⟩]⟩,
  ⟨0xA000014, 0x4, 1, 0x4, 1, [⟨0, 8, .ro, 0⟩, ⟨8, 8, .ro, 0⟩, ⟨16, 8, .ro, 0⟩, ⟨24, 8, .ro, 0⟩]⟩,
  ⟨0xA000018, 0x4, 1, 0x4, 1, [⟨0, 20, .ro, 0⟩]⟩,
  ⟨0xA00001C, 0x4, 1, 0x4, 1, [⟨0, 22, .ro, 0⟩]⟩]

/-- The register tables of the power block. -/
def powerRows : List RegRow := [
  ⟨0xB000000, 0x4, 1, 0x4, 1, [⟨0, 4, .rw, 5⟩, ⟨4, 4, .ro, 0⟩, ⟨8, 1, .ro, 0⟩]⟩,
  ⟨0xB000004, 0x4, 1, 0x4, 1, [⟨0, 1, .rw, 0⟩, ⟨1, 4, .rw, 5⟩, ⟨5, 1, .rw, 1⟩, ⟨6, 1, .rw, 1⟩]⟩,
  ⟨0xB000008, 0x4, 1, 0x4, 1, [⟨0, 4, .ro, 5⟩, ⟨4, 1, .ro, 0⟩, ⟨5, 1, .ro, 1⟩, ⟨6, 1, .ro, 0⟩, ⟨7, 1, .ro, 1⟩, ⟨8, 1, .ro, 0⟩]⟩,
  ⟨0xB00000C, 0x4, 1, 0x4, 1, [⟨0, 1, .w1c, 0⟩, ⟨1, 1, .w1c, 0⟩, ⟨2, 1, .w1c, 0⟩, ⟨3, 1, .w1c, 0⟩, ⟨4, 1, .w1c, 0⟩, ⟨5, 1, .w1c, 0⟩, ⟨6, 1, .w1c, 1⟩, ⟨7, 1, .w1c, 0⟩, ⟨8, 1, .w1c, 0⟩, ⟨9, 1, .w1c, 0⟩]⟩,
  ⟨0xB000014, 0x4, 1, 0x4, 1, [⟨0, 4, .ro, 0⟩, ⟨4, 3, .ro, 0⟩, ⟨8, 8, .ro, 0⟩]⟩,
  ⟨0xB000018, 0x4, 1, 0x4, 1, [⟨0, 4, .ro, 0⟩, ⟨4, 4, .ro, 0⟩, ⟨8, 16, .ro, 0⟩]⟩,
  ⟨0xB000010, 0x4, 1, 0x4, 1, [⟨0, 1, .rw, 0⟩, ⟨1, 3, .rw, 0⟩, ⟨4, 1, .rw, 0⟩, ⟨5, 3, .rw, 0⟩, ⟨8, 1, .rw, 0⟩, ⟨9, 3, .rw, 0⟩, ⟨12, 1, .rw, 0⟩, ⟨13, 3, .rw, 0⟩, ⟨16, 1, .rw, 0⟩, ⟨17, 3, .rw, 0⟩, ⟨20, 1, .rw, 0⟩, ⟨21, 3, .rw, 0⟩, ⟨24, 1, .rw, 0⟩, ⟨25, 3, .rw, 0⟩, ⟨28, 1, .rw, 0⟩, ⟨29, 3, .rw, 0⟩]⟩]

/-- The register tables of the security block. -/
def securityRows : List RegRow := [
  ⟨0xC000000, 0x4, 1, 0x4, 1, [⟨0, 3, .ro, 0⟩, ⟨3, 2, .ro, 0⟩, ⟨5, 2, .ro, 0⟩, ⟨7, 1, .ro, 0⟩, ⟨8, 1, .ro, 0⟩, ⟨9, 1, .ro, 0⟩, ⟨10, 1, .ro, 0⟩, ⟨11, 1, .ro, 0⟩, ⟨12, 1, .ro, 1⟩]⟩,
  ⟨0xC000004, 0x4, 1, 0x4, 1, [⟨0, 1, .ro, 0⟩, ⟨1, 1, .ro, 0⟩, ⟨2, 15, .ro, 0⟩, ⟨17, 1, .ro, 0⟩]⟩,
  ⟨0xC000008, 0x4, 1, 0x4, 1, [⟨0, 1, .lk, 0⟩, ⟨1, 1, .lk, 0⟩, ⟨2, 1, .w1s, 0⟩]⟩,
  ⟨0xC00000C, 0x4, 1, 0x4, 1, [⟨0, 1, .ro, 0⟩, ⟨1, 2, .ro, 0⟩, ⟨8, 8, .ro, 0⟩]⟩,
  ⟨0xC000010, 0x4, 1, 0x4, 1, [⟨0, 32, .ro, 0⟩]⟩,
  ⟨0xC000014, 0x4, 1, 0x4, 1, [⟨0, 16, .ro, 0⟩]⟩,
  ⟨0xC000018, 0x4, 1, 0x4, 1, [⟨0, 5, .ro, 0⟩, ⟨5, 3, .ro, 0⟩, ⟨8, 1, .ro, 0⟩]⟩,
  ⟨0xC00001C, 0x4, 1, 0x4, 1, [⟨0, 32, .ro, 0⟩]⟩,
  ⟨0xC000020, 0x4, 1, 0x4, 1, [⟨0, 16, .ro, 0⟩]⟩,
  ⟨0xC000024, 0x4, 1, 0x4, 1, [⟨0, 8, .rw, 0x30⟩, ⟨8, 1, .lk, 1⟩]⟩,
  ⟨0xC000028, 0x4, 1, 0x4, 1, [⟨0, 16, .ro, 0⟩, ⟨16, 8, .ro, 0⟩, ⟨24, 1, .ro, 0⟩]⟩,
  ⟨0xC00002C, 0x4, 1, 0x4, 1, [⟨0, 1, .w1c, 0⟩, ⟨1, 1, .w1c, 0⟩, ⟨2, 1, .w1c, 0⟩, ⟨3, 1, .w1c, 0⟩, ⟨4, 1, .w1c, 0⟩, ⟨5, 1, .w1c, 0⟩, ⟨6, 1, .w1c, 0⟩, ⟨7, 1, .w1c, 0⟩, ⟨8, 1, .w1c, 0⟩, ⟨9, 1, .w1c, 0⟩, ⟨10, 1, .w1c, 0⟩, ⟨11, 1, .w1c, 0⟩]⟩]

/-- The register tables of the sheaf block. -/
def sheafRows : List RegRow := [
  ⟨0xD000000, 0x4, 1, 0x4, 1, [⟨0, 1, .rw, 0⟩]⟩,
  ⟨0xD000004, 0x4, 1, 0x4, 1, [⟨0, 1, .w1c, 0⟩, ⟨1, 1, .w1c, 0⟩, ⟨2, 1, .w1c, 0⟩, ⟨3, 1, .w1c, 0⟩, ⟨4, 1, .w1c, 0⟩, ⟨5, 1, .w1c, 0⟩]⟩,
  ⟨0xD000008, 0x4, 1, 0x4, 1, [⟨0, 8, .ro, 0⟩, ⟨8, 8, .ro, 0⟩, ⟨16, 8, .ro, 0⟩, ⟨24, 8, .ro, 0⟩]⟩,
  ⟨0xD00000C, 0x4, 1, 0x4, 1, [⟨0, 10, .ro, 0⟩]⟩,
  ⟨0xD001000, 0x40, 512, 0x4, 1, [⟨0, 1, .w1s, 0⟩, ⟨1, 1, .w1s, 0⟩]⟩,
  ⟨0xD001004, 0x40, 512, 0x4, 1, [⟨0, 4, .rw, 0⟩, ⟨4, 4, .rw, 0⟩, ⟨8, 1, .rw, 0⟩, ⟨9, 2, .rw, 0⟩, ⟨11, 7, .rw, 1⟩, ⟨18, 1, .rw, 0⟩, ⟨19, 4, .rw, 0⟩, ⟨23, 4, .rw, 8⟩, ⟨27, 1, .rw, 0⟩, ⟨28, 1, .rw, 0⟩, ⟨29, 3, .rw, 0⟩]⟩,
  ⟨0xD001008, 0x40, 512, 0x4, 1, [⟨0, 6, .rw, 0⟩, ⟨8, 8, .rw, 0⟩, ⟨16, 1, .rw, 0⟩, ⟨20, 4, .rw, 0⟩]⟩,
  ⟨0xD00100C, 0x40, 512, 0x4, 1, [⟨0, 16, .rw, 0⟩, ⟨16, 16, .rw, 0⟩]⟩,
  ⟨0xD001010, 0x40, 512, 0x4, 1, [⟨0, 7, .rw, 0x20⟩, ⟨7, 9, .rw, 0x180⟩, ⟨16, 9, .rw, 0x10⟩]⟩,
  ⟨0xD001014, 0x40, 512, 0x4, 1, [⟨0, 9, .rw, 0x20⟩, ⟨9, 9, .rw, 0x40⟩]⟩,
  ⟨0xD001018, 0x40, 512, 0x4, 1, [⟨0, 32, .rw, 0⟩]⟩,
  ⟨0xD00101C, 0x40, 512, 0x4, 1, [⟨0, 32, .rw, 0⟩]⟩,
  ⟨0xD001020, 0x40, 512, 0x4, 1, [⟨0, 16, .rw, 0⟩]⟩,
  ⟨0xD001024, 0x40, 512, 0x4, 1, [⟨0, 32, .rw, 0⟩]⟩,
  ⟨0xD001028, 0x40, 512, 0x4, 1, [⟨0, 16, .rw, 0⟩]⟩,
  ⟨0xD00102C, 0x40, 512, 0x4, 1, [⟨0, 32, .rw, 0⟩]⟩,
  ⟨0xD001030, 0x40, 512, 0x4, 1, [⟨0, 20, .rw, 0⟩, ⟨20, 12, .rw, 0⟩]⟩,
  ⟨0xD001034, 0x40, 512, 0x4, 1, [⟨0, 20, .rw, 0⟩, ⟨20, 11, .rw, 0⟩]⟩,
  ⟨0xD001038, 0x40, 512, 0x4, 1, [⟨0, 2, .ro, 0⟩, ⟨2, 1, .ro, 0⟩, ⟨3, 1, .ro, 0⟩, ⟨4, 4, .ro, 0⟩, ⟨8, 8, .ro, 0⟩]⟩,
  ⟨0xD000100, 0x4, 64, 0x4, 1, [⟨0, 20, .ro, 0⟩, ⟨20, 8, .ro, 0⟩]⟩,
  ⟨0xD020000, 0x10000, 64, 0x4, 2048, [⟨0, 32, .rw, 0⟩]⟩]

/-- The register tables of the peripheral block. -/
def peripheralRows : List RegRow := [
  ⟨0xE000000, 0x1000, 8, 0x4, 1, [⟨0, 6, .ro, 1⟩]⟩,
  ⟨0xE000004, 0x1000, 8, 0x4, 1, [⟨0, 1, .rw, 0⟩, ⟨1, 1, .rw, 0⟩, ⟨2, 2, .rw, 0⟩, ⟨4, 1, .rw, 0⟩, ⟨5, 2, .rw, 0⟩, ⟨7, 1, .rw, 0⟩, ⟨8, 1, .w1s, 0⟩, ⟨9, 1, .w1s, 0⟩, ⟨10, 1, .rw, 0⟩, ⟨11, 3, .rw, 0⟩]⟩,
  ⟨0xE000008, 0x1000, 8, 0x4, 1, [⟨0, 16, .rw, 0x2DC7⟩, ⟨16, 1, .rw, 0⟩]⟩,
  ⟨0xE00000C, 0x1000, 8, 0x4, 1, [⟨0, 1, .ro, 0⟩, ⟨1, 1, .sq, 0⟩, ⟨2, 1, .sq, 0⟩, ⟨3, 1, .sq, 0⟩, ⟨4, 1, .sq, 0⟩, ⟨5, 1, .ro, 1⟩, ⟨6, 1, .ro, 1⟩, ⟨7, 1, .ro, 0⟩, ⟨8, 1, .ro, 0⟩, ⟨9, 1, .ro, 0⟩, ⟨10, 1, .ro, 0⟩, ⟨11, 1, .ro, 1⟩, ⟨12, 1, .sq, 0⟩, ⟨16, 7, .ro, 0⟩, ⟨24, 7, .ro, 0⟩]⟩,
  ⟨0xE000010, 0x1000, 8, 0x4, 1, [⟨0, 8, .rw, 0⟩]⟩,
  ⟨0xE000014, 0x1000, 8, 0x4, 1, [⟨0, 1, .rw, 0⟩, ⟨1, 1, .rw, 0⟩, ⟨2, 7, .rw, 0x30⟩, ⟨9, 7, .rw, 0x20⟩]⟩,
  ⟨0xE000018, 0x1000, 8, 0x4, 1, [⟨0, 1, .w1c, 0⟩, ⟨1, 1, .w1c, 0⟩, ⟨2, 1, .w1c, 0⟩, ⟨3, 1, .w1c, 0⟩, ⟨4, 1, .w1c, 0⟩, ⟨5, 1, .w1c, 0⟩, ⟨6, 1, .w1c, 0⟩, ⟨7, 1, .w1c, 0⟩, ⟨8, 1, .w1c, 0⟩, ⟨9, 1, .w1c, 0⟩, ⟨10, 1, .w1c, 0⟩, ⟨11, 1, .w1c, 0⟩, ⟨12, 1, .w1c, 0⟩, ⟨13, 1, .w1c, 0⟩, ⟨14, 1, .w1c, 0⟩]⟩,
  ⟨0xE00001C, 0x1000, 8, 0x4, 1, [⟨0, 1, .rw, 0⟩, ⟨1, 1, .rw, 0⟩, ⟨2, 1, .rw, 0⟩, ⟨3, 1, .rw, 0⟩, ⟨4, 1, .rw, 0⟩, ⟨5, 1, .rw, 0⟩, ⟨6, 1, .rw, 0⟩, ⟨7, 1, .rw, 0⟩, ⟨8, 1, .rw, 0⟩, ⟨9, 1, .rw, 0⟩, ⟨10, 1, .rw, 0⟩, ⟨11, 1, .rw, 0⟩, ⟨12, 1, .rw, 0⟩, ⟨13, 1, .rw, 0⟩, ⟨14, 1, .rw, 0⟩]⟩,
  ⟨0xE000020, 0x1000, 8, 0x4, 1, [⟨0, 20, .rw, 0xD0⟩, ⟨20, 8, .rw, 0x10⟩, ⟨28, 1, .w1s, 0⟩, ⟨29, 1, .ro, 0⟩]⟩,
  ⟨0xE000024, 0x1000, 8, 0x4, 1, [⟨0, 24, .ro, 0⟩, ⟨24, 1, .ro, 0⟩, ⟨25, 1, .ro, 0⟩]⟩,
  ⟨0xE000028, 0x1000, 8, 0x4, 1, [⟨0, 16, .rw, 0x400⟩]⟩,
  ⟨0xE00002C, 0x1000, 8, 0x4, 1, [⟨0, 1, .rw, 0⟩, ⟨1, 1, .rw, 1⟩, ⟨2, 1, .rw, 1⟩, ⟨3, 3, .rw, 4⟩, ⟨6, 8, .rw, 0⟩, ⟨14, 6, .rw, 0x1E⟩, ⟨20, 1, .rw, 0⟩, ⟨21, 1, .rw, 0⟩]⟩,
  ⟨0xE000030, 0x1000, 8, 0x4, 1, [⟨0, 1, .rw, 0⟩, ⟨1, 1, .rw, 0⟩, ⟨2, 4, .rw, 0⟩, ⟨6, 4, .rw, 0⟩]⟩,
  ⟨0xE000034, 0x1000, 8, 0x4, 1, [⟨0, 6, .rw, 0⟩, ⟨6, 1, .w1s, 0⟩]⟩,
  ⟨0xE000040, 0x1000, 8, 0x4, 16, [⟨0, 8, .rw, 0⟩, ⟨8, 8, .rw, 0⟩, ⟨16, 8, .rw, 0⟩, ⟨24, 8, .rw, 0⟩]⟩,
  ⟨0xE000080, 0x1000, 8, 0x4, 1, [⟨0, 6, .ro, 0⟩, ⟨6, 1, .ro, 0⟩, ⟨7, 4, .ro, 0⟩]⟩,
  ⟨0xE010000, 0x400, 16, 0x4, 1, [⟨0, 6, .ro, 1⟩]⟩,
  ⟨0xE010004, 0x400, 16, 0x4, 1, [⟨0, 3, .rw, 0⟩, ⟨3, 2, .rw, 0⟩, ⟨5, 1, .rw, 1⟩, ⟨6, 1, .rw, 0⟩, ⟨7, 1, .rw, 0⟩, ⟨8, 4, .rw, 0⟩, ⟨12, 8, .rw, 0⟩, ⟨20, 1, .rw, 0⟩]⟩,
  ⟨0xE010008, 0x400, 16, 0x4, 1, [⟨0, 32, .rw, 0⟩]⟩,
  ⟨0xE01000C, 0x400, 16, 0x4, 1, [⟨0, 16, .rw, 1⟩]⟩,
  ⟨0xE010010, 0x400, 16, 0x4, 1, [⟨0, 1, .w1s, 0⟩, ⟨1, 1, .w1s, 0⟩]⟩,
  ⟨0xE010014, 0x400, 16, 0x4, 1, [⟨0, 32, .wo, 0⟩]⟩,
  ⟨0xE010018, 0x400, 16, 0x4, 1, [⟨0, 32, .ro, 0⟩]⟩,
  ⟨0xE01001C, 0x400, 16, 0x4, 1, [⟨0, 1, .ro, 0⟩, ⟨1, 1, .w1c, 0⟩, ⟨2, 1, .ro, 0⟩, ⟨3, 1, .w1c, 0⟩, ⟨4, 1, .w1c, 0⟩, ⟨16, 16, .ro, 0⟩]⟩,
  ⟨0xE010020, 0x400, 16, 0x4, 1, [⟨0, 16, .ro, 0⟩, ⟨16, 16, .ro, 0⟩]⟩]

/-- The register tables of the host link block. -/
def hostLinkRows : List RegRow := [
  ⟨0xF000000, 0x4, 1, 0x4, 1, [⟨0, 16, .ro, 0x4840⟩, ⟨16, 4, .ro, 1⟩, ⟨20, 4, .ro, 1⟩, ⟨24, 1, .ro, 0⟩]⟩,
  ⟨0xF000004, 0x4, 1, 0x4, 1, [⟨0, 8, .ro, 0⟩, ⟨8, 8, .ro, 0⟩, ⟨16, 8, .ro, 0⟩]⟩,
  ⟨0xF000008, 0x4, 4, 0x4, 1, [⟨0, 32, .ro, 0⟩]⟩,
  ⟨0xF000100, 0x4, 1, 0x4, 1, [⟨0, 1, .ro, 0⟩, ⟨1, 1, .ro, 1⟩, ⟨2, 4, .ro, 0⟩, ⟨6, 4, .ro, 0⟩, ⟨10, 3, .ro, 0⟩, ⟨13, 1, .ro, 0⟩]⟩,
  ⟨0xF000104, 0x4, 1, 0x4, 1, [⟨0, 1, .w1s, 0⟩, ⟨8, 8, .wo, 0⟩]⟩,
  ⟨0xF000108, 0x4, 1, 0x4, 1, [⟨0, 1, .w1s, 0⟩, ⟨8, 8, .rw, 0⟩]⟩,
  ⟨0xF00010C, 0x4, 1, 0x4, 1, [⟨0, 4, .ro, 0⟩, ⟨4, 4, .ro, 0⟩, ⟨8, 8, .ro, 0⟩, ⟨16, 1, .w1c, 0⟩]⟩,
  ⟨0xF000200, 0x4, 1, 0x4, 1, [⟨0, 1, .w1c, 0⟩, ⟨1, 3, .ro, 0⟩, ⟨4, 2, .ro, 0⟩, ⟨6, 1, .ro, 0⟩, ⟨8, 8, .ro, 0⟩]⟩,
  ⟨0xF000300, 0x4, 4, 0x4, 1, [⟨0, 16, .wo, 0⟩, ⟨16, 16, .wo, 0⟩]⟩,
  ⟨0xF000400, 0x4, 1, 0x4, 1, [⟨0, 1, .w1c, 0⟩, ⟨1, 1, .w1c, 0⟩, ⟨2, 1, .w1c, 0⟩, ⟨3, 1, .w1c, 0⟩, ⟨4, 1, .w1c, 0⟩, ⟨5, 1, .w1c, 0⟩, ⟨6, 1, .w1c, 0⟩, ⟨7, 1, .w1c, 0⟩, ⟨8, 1, .w1c, 0⟩]⟩,
  ⟨0xF000404, 0x4, 1, 0x4, 1, [⟨0, 1, .rw, 0⟩, ⟨1, 1, .rw, 0⟩, ⟨2, 1, .rw, 0⟩, ⟨3, 1, .rw, 0⟩, ⟨4, 1, .rw, 0⟩, ⟨5, 1, .rw, 0⟩, ⟨6, 1, .rw, 0⟩, ⟨7, 1, .rw, 0⟩, ⟨8, 1, .rw, 0⟩]⟩,
  ⟨0xF000408, 0x4, 1, 0x4, 1, [⟨0, 8, .rw, 0⟩]⟩,
  ⟨0xF000600, 0x4, 1, 0x4, 1, [⟨0, 16, .ro, 0⟩]⟩,
  ⟨0xF000604, 0x4, 1, 0x4, 1, [⟨0, 16, .rw, 0⟩]⟩,
  ⟨0xF000608, 0x4, 1, 0x4, 1, [⟨0, 16, .ro, 0⟩]⟩,
  ⟨0xF001000, 0x4, 1, 0x4, 1, [⟨0, 32, .ro, 0⟩]⟩,
  ⟨0xF001004, 0x4, 1, 0x4, 1, [⟨0, 32, .ro, 0⟩]⟩,
  ⟨0xF001008, 0x4, 1, 0x4, 1, [⟨0, 30, .ro, 0⟩]⟩,
  ⟨0xF00100C, 0x4, 1, 0x4, 1, [⟨0, 32, .ro, 0⟩]⟩]

/-- The register tables of the dsp i/o block. -/
def dspIoRows : List RegRow := [
  ⟨0x2000F000, 0x1000000, 16, 0x2, 4, [⟨0, 9, .ro, 0⟩, ⟨9, 1, .ro, 0⟩, ⟨10, 2, .rw, 3⟩, ⟨12, 1, .w1c, 0⟩, ⟨13, 1, .ro, 0⟩]⟩,
  ⟨0x2000F001, 0x1000000, 16, 0x2, 4, [⟨0, 20, .rw, 0⟩]⟩,
  ⟨0x2000F010, 0x1, 1, 0x1, 1, [⟨0, 4, .ro, 0⟩, ⟨4, 1, .ro, 0⟩]⟩,
  ⟨0x2100F010, 0x1, 1, 0x1, 1, [⟨0, 4, .ro, 1⟩, ⟨4, 1, .ro, 0⟩]⟩,
  ⟨0x2200F010, 0x1, 1, 0x1, 1, [⟨0, 4, .ro, 2⟩, ⟨4, 1, .ro, 0⟩]⟩,
  ⟨0x2300F010, 0x1, 1, 0x1, 1, [⟨0, 4, .ro, 3⟩, ⟨4, 1, .ro, 0⟩]⟩,
  ⟨0x2400F010, 0x1, 1, 0x1, 1, [⟨0, 4, .ro, 4⟩, ⟨4, 1, .ro, 0⟩]⟩,
  ⟨0x2500F010, 0x1, 1, 0x1, 1, [⟨0, 4, .ro, 5⟩, ⟨4, 1, .ro, 0⟩]⟩,
  ⟨0x2600F010, 0x1, 1, 0x1, 1, [⟨0, 4, .ro, 6⟩, ⟨4, 1, .ro, 0⟩]⟩,
  ⟨0x2700F010, 0x1, 1, 0x1, 1, [⟨0, 4, .ro, 7⟩, ⟨4, 1, .ro, 0⟩]⟩,
  ⟨0x2800F010, 0x1, 1, 0x1, 1, [⟨0, 4, .ro, 8⟩, ⟨4, 1, .ro, 0⟩]⟩,
  ⟨0x2900F010, 0x1, 1, 0x1, 1, [⟨0, 4, .ro, 9⟩, ⟨4, 1, .ro, 0⟩]⟩,
  ⟨0x2A00F010, 0x1, 1, 0x1, 1, [⟨0, 4, .ro, 0xA⟩, ⟨4, 1, .ro, 0⟩]⟩,
  ⟨0x2B00F010, 0x1, 1, 0x1, 1, [⟨0, 4, .ro, 0xB⟩, ⟨4, 1, .ro, 0⟩]⟩,
  ⟨0x2C00F010, 0x1, 1, 0x1, 1, [⟨0, 4, .ro, 0xC⟩, ⟨4, 1, .ro, 1⟩]⟩,
  ⟨0x2D00F010, 0x1, 1, 0x1, 1, [⟨0, 4, .ro, 0xD⟩, ⟨4, 1, .ro, 1⟩]⟩,
  ⟨0x2E00F010, 0x1, 1, 0x1, 1, [⟨0, 4, .ro, 0xE⟩, ⟨4, 1, .ro, 1⟩]⟩,
  ⟨0x2F00F010, 0x1, 1, 0x1, 1, [⟨0, 4, .ro, 0xF⟩, ⟨4, 1, .ro, 1⟩]⟩,
  ⟨0x2000F020, 0x1000000, 16, 0x1, 1, [⟨1, 9, .ro, 0⟩]⟩,
  ⟨0x2000F021, 0x1000000, 16, 0x1, 1, [⟨6, 4, .rw, 0⟩]⟩,
  ⟨0x2000F022, 0x1000000, 16, 0x1, 1, [⟨0, 1, .ro, 0⟩, ⟨1, 4, .ro, 0⟩]⟩,
  ⟨0x2000F023, 0x1000000, 16, 0x1, 1, [⟨0, 14, .rw, 0⟩]⟩,
  ⟨0x2000F024, 0x1000000, 16, 0x1, 1, [⟨0, 20, .rw, 0⟩]⟩,
  ⟨0x2000F025, 0x1000000, 16, 0x1, 1, [⟨0, 14, .ro, 0⟩, ⟨14, 3, .ro, 0⟩]⟩,
  ⟨0x2000F026, 0x1000000, 16, 0x1, 1, [⟨0, 20, .ro, 0⟩]⟩,
  ⟨0x2000F027, 0x1000000, 16, 0x1, 1, [⟨0, 1, .w1s, 0⟩, ⟨1, 16, .ro, 0⟩]⟩,
  ⟨0x2000F028, 0x1000000, 16, 0x1, 1, [⟨0, 5, .ro, 0⟩, ⟨5, 1, .ro, 0⟩]⟩,
  ⟨0x2000F029, 0x1000000, 16, 0x1, 1, [⟨0, 20, .wo, 0⟩]⟩,
  ⟨0x2000F02A, 0x1000000, 16, 0x1, 1, [⟨0, 20, .ro, 0⟩]⟩,
  ⟨0x2000F030, 0x1000000, 16, 0x1, 1, [⟨0, 6, .ro, 0⟩, ⟨8, 6, .rw, 1⟩, ⟨14, 1, .ro, 0⟩]⟩,
  ⟨0x2000F031, 0x1000000, 16, 0x1, 1, [⟨0, 20, .ro, 0⟩]⟩,
  ⟨0x2000F032, 0x1000000, 16, 0x1, 1, [⟨0, 20, .wo, 0⟩]⟩,
  ⟨0x2000F038, 0x1000000, 16, 0x1, 1, [⟨0, 1, .ro, 0⟩, ⟨1, 4, .ro, 0⟩, ⟨5, 3, .ro, 0⟩, ⟨8, 1, .rw, 0⟩, ⟨9, 10, .rw, 0x100⟩]⟩,
  ⟨0x2000F039, 0x1000000, 16, 0x1, 1, [⟨0, 11, .ro, 0⟩]⟩,
  ⟨0x2000F03A, 0x1000000, 16, 0x1, 1, [⟨0, 11, .rw, 0⟩]⟩,
  ⟨0x2000F03B, 0x1000000, 16, 0x1, 1, [⟨0, 20, .ro, 0⟩]⟩,
  ⟨0x2000F03C, 0x1000000, 16, 0x1, 1, [⟨0, 20, .ro, 0⟩]⟩,
  ⟨0x2000F03D, 0x1000000, 16, 0x1, 1, [⟨0, 1, .w1c, 0⟩, ⟨1, 1, .w1c, 0⟩, ⟨2, 1, .w1c, 0⟩, ⟨3, 1, .ro, 0⟩, ⟨8, 12, .ro, 0⟩]⟩]

/-- The rows of one block, by its number (R578, R530). -/
def blockRows : Nat → List RegRow
  | 0x1 => fabricRows
  | 0x2 => stewardRows
  | 0x3 => clockRows
  | 0x4 => granaryRows
  | 0x5 => frontEndRows
  | 0x6 => laneRows
  | 0x7 => thresherRows
  | 0x8 => timeRows
  | 0x9 => netRows
  | 0xA => radioRows
  | 0xB => powerRows
  | 0xC => securityRows
  | 0xD => sheafRows
  | 0xE => peripheralRows
  | 0xF => hostLinkRows
  | n => if 0x20 ≤ n ∧ n < 0x30 then dspIoRows else []

/-- The address names a register of this row. -/
def RegRow.has (r : RegRow) (a : Nat) : Bool :=
  decide (r.base ≤ a) && decide ((a - r.base) / r.stride < r.count) &&
    decide ((a - r.base) % r.stride / r.step < r.steps) && (a - r.base) % r.stride % r.step == 0

/-- The first row of a list that names the address. -/
def findRow (a : Nat) : List RegRow → Option RegRow
  | [] => none
  | r :: rs => if r.has a then some r else findRow a rs

/-- The register table's row for an address, none where the spec tables no register. -/
def regRow (a : Nat) : Option RegRow := findRow a (blockRows (a / 0x1000000))

/-- The fields of the register at an address. -/
def regFields (a : Nat) : List FieldSpec := match regRow a with
  | some r => r.fields
  | none => []

/-- The word made of every field at its reset value (R14). -/
def fieldsReset : List FieldSpec → Nat
  | [] => 0
  | f :: fs => f.reset % 2 ^ f.width * 2 ^ f.lo + fieldsReset fs

/-- The reset value of the register at an address (R14). A field that the spec gives no reset value, or one that comes
from a fuse or a store, is zero here; the operation of the reset loads the latter. DESIGN CHOICE, unsafe: log entry 2. -/
def regReset (a : Nat) : Word := BitVec.ofNat 32 (fieldsReset (regFields a))

end Sys2Proof.Machine
end

