-- ==== Sys2Proof/Machine/Sparse.lean ====
section
/-! DEFINITION. Memories and register files as sparse lists in one canonical form: addresses strictly rising, and no
entry equal to what an unlisted address reads as. -/

namespace Sys2Proof.Machine

/-- The value at an address; an unlisted address reads as its default. -/
def sparseGet {α : Type} (d : Nat → α) : List (Nat × α) → Nat → α
  | [], k => d k
  | (a, v) :: m, k => if a = k then v else if k < a then d k else sparseGet d m k

/-- The list with an address removed. -/
def sparseErase {α : Type} : List (Nat × α) → Nat → List (Nat × α)
  | [], _ => []
  | (a, v) :: m, k => if a = k then m else if k < a then (a, v) :: m else (a, v) :: sparseErase m k

/-- The list with an address bound to a value. -/
def sparseInsert {α : Type} : List (Nat × α) → Nat → α → List (Nat × α)
  | [], k, x => [(k, x)]
  | (a, v) :: m, k, x =>
    if a = k then (k, x) :: m
    else if k < a then (k, x) :: (a, v) :: m
    else (a, v) :: sparseInsert m k x

/-- A write that keeps the canonical form: writing the default removes the entry. -/
def sparseSet {α : Type} [DecidableEq α] (d : Nat → α) (m : List (Nat × α)) (k : Nat) (x : α) : List (Nat × α) :=
  if x = d k then sparseErase m k else sparseInsert m k x

/-- Every address of the list is above a bound, the addresses rise strictly and no entry is its default. -/
def sparseWfFrom {α : Type} [DecidableEq α] (d : Nat → α) : Nat → List (Nat × α) → Bool
  | _, [] => true
  | lo, (a, v) :: m => decide (lo ≤ a) && decide (v ≠ d a) && sparseWfFrom d (a + 1) m

/-- The canonical form. -/
def sparseWf {α : Type} [DecidableEq α] (d : Nat → α) (m : List (Nat × α)) : Bool := sparseWfFrom d 0 m

/-- The entries whose address satisfies a test; the others read as their default again. -/
def sparseKeep {α : Type} (p : Nat → Bool) : List (Nat × α) → List (Nat × α)
  | [] => []
  | (a, v) :: m => if p a then (a, v) :: sparseKeep p m else sparseKeep p m

/-- The values that differ from the default among n addresses from lo on, for a function of the address. -/
def sparseRun {α : Type} [DecidableEq α] (d f : Nat → α) : Nat → Nat → List (Nat × α)
  | _, 0 => []
  | lo, n + 1 => if f lo = d lo then sparseRun d f (lo + 1) n else (lo, f lo) :: sparseRun d f (lo + 1) n

/-- The n addresses from lo on all rewritten by a function of the address. -/
def sparseFill {α : Type} [DecidableEq α] (d f : Nat → α) (m : List (Nat × α)) (lo n : Nat) : List (Nat × α) :=
  sparseKeep (fun a => decide (a < lo)) m ++ sparseRun d f lo n ++ sparseKeep (fun a => decide (lo + n ≤ a)) m

end Sys2Proof.Machine
end

