-- ==== Sys2Proof/Machine/State.lean ====
section
/-! DEFINITION. The machine's state: everything the spec gives the block, as plain data, and its reset. Every register of
the spec's tables is in `regs` (see Registers.lean for their addresses, fields and reset values); what the spec gives a
unit beside its registers is in that unit's structure. -/

namespace Sys2Proof.Machine

/-- Why a command stops with a fault. -/
inductive Fault where
  /-- Raised by no command of this model: the spec gives every command an effect. Safe: it only stops. -/
  | impossible
  deriving DecidableEq, Repr

/-- Why a command is refused. -/
inductive Refusal where
  /-- Raised by an arm of `exec` whose command has no meaning yet. Safe: it only stops. -/
  | notModelled (mnemonic : String)
  deriving DecidableEq, Repr

/-- An event of R581: its code and its payload, or the 8 bytes of data of a vector-0 event. -/
structure Event where
  code : Nat
  data : List Byte
  deriving DecidableEq, Repr

/-- An entry of the event log that EVENT_LOG reads (R578, R581), and the content of an event record (R541). -/
structure LogEntry where
  event  : Event
  number : Option Nat
  time   : Time
  deriving DecidableEq, Repr

/-- A request that awaits a response: its ring class, seq, tag and opcode (R546, R547), and the initialisation of the
rings under which it was taken: a later initialisation, or a loss of the link, discards its responses (R550, R554). -/
structure OpenReq where
  cls   : Cls
  seq   : Nat
  tag   : Nat
  op    : Nat
  epoch : Nat
  deriving DecidableEq, Repr

/-- A message from the device: a response or an event (R546). -/
structure Msg where
  event   : Bool
  final   : Bool
  seq     : Nat
  op      : Nat
  status  : Nat
  tag     : Nat
  payload : List Byte
  deriving DecidableEq, Repr

/-- A request that waits for the end of a mode transition (R498, R561). -/
structure Deferred where
  op      : Nat
  seq     : Nat
  tag     : Nat
  payload : List Byte
  epoch   : Nat
  deriving DecidableEq, Repr

/-- Arbitration state of one crossbar target: the ID last granted class H (R22), and for classes A, B and C the ID last
granted and the grants left in the present round of the weighted rotation (R23). -/
structure FabArb where
  lastH : Nat := 0
  lastA : Nat := 0
  lastB : Nat := 0
  lastC : Nat := 0
  leftA : Nat := 0
  leftB : Nat := 0
  leftC : Nat := 0
  deriving DecidableEq, Repr

/-- What an initiator's port received for one granted word. -/
structure FabResp where
  initiator : Nat
  cls       : Cls
  address   : Nat
  data      : Nat
  error     : Bool
  refused   : Bool
  deriving DecidableEq, Repr

/-- The interconnect. -/
structure FabState where
  /-- CK_FAB or safe-clock cycles counted so far (R26). -/
  cycle    : Nat := 0
  /-- For each initiator, one more than the cycle of its port's last class-H request; absent when there was none (R26). -/
  hIssue   : List (Nat × Nat) := []
  /-- Arbitration state of each target, by target number (R22, R23). -/
  arb      : List (Nat × FabArb) := []
  /-- The responses of the last requests presented, in the order of their grants. -/
  resp     : List FabResp := []
  /-- Requests that wait at the crossbar until the granary's initialisation ends (R89). -/
  waiting  : List FabReq := []
  deriving DecidableEq, Repr

/-- The state of a steward pair (R38, R39, R42). -/
inductive PairState where
  | running
  | held
  | retesting
  deriving DecidableEq, Repr

/-- The steward pairs. Pair 0 is C_0 and C_1, pair 1 is C_2 and C_3. -/
structure StwState where
  pair0     : PairState := .running
  pair1     : PairState := .running
  /-- The pair that carries the duties of the control pair, and of the navigation pair (R37, R39). -/
  controlOn : Nat := 0
  navOn     : Nat := 1
  /-- A fault outside the guarantee was met: every response reports INTERNAL_FAULT (R36). -/
  beyond    : Bool := false
  /-- The PAIR_RETEST requests that await the result (R42). -/
  retests   : List OpenReq := []
  deriving DecidableEq, Repr

/-- Where the lock sequence of ADPLL-A stands (R62, R64). -/
inductive ClkPhase where
  | calibrating
  | acquiring
  | counting
  | aligning
  /-- The marker waits for SYNC_IN (R59). -/
  | waitSync
  /-- The marker is placed, and the gates open at its index 0 (R62). -/
  | waitGates
  | locked
  deriving DecidableEq, Repr

/-- Where the lock sequence of ADPLL-B stands (R83). -/
inductive ClkBPhase where
  | off
  | acquiring
  | counting
  | locked
  deriving DecidableEq, Repr

/-- An alignment marker from which on the local clock's rate has held: its CK_FAB cycle, T(M) and inc_M (R352). -/
structure Mark where
  cycle : Nat
  time  : Time
  inc   : Nat
  deriving DecidableEq, Repr

/-- The clock root, beside its registers. -/
structure ClkState where
  phase      : ClkPhase := .calibrating
  /-- Consecutive windows in tolerance (R62, R83). -/
  inTol      : Nat := 0
  bInTol     : Nat := 0
  bPhase     : ClkBPhase := .off
  /-- The edge counter has run continuously since the marker was last placed (R59, R60). -/
  continuous : Bool := false
  /-- The window count of the coast in progress, sampled at its start (R85). -/
  coast      : Nat := 8
  /-- The walk in progress: its remaining target in TDC units when it was last set (R66, R70). -/
  walk       : Int := 0
  /-- ref_type, the seeds and the loop bandwidth in effect (R54, R85). -/
  refType    : Nat := 0
  seed       : Nat := 0x2A5A5A
  bSeed      : Nat := 0x15A5A5
  bw         : Nat := 2
  /-- The dither LFSR, 23 bits, and the state of the fractional modulator (R53); those of ADPLL-B. -/
  lfsr       : Nat := 0
  modState   : Nat := 0
  bLfsr      : Nat := 0
  bModState  : Nat := 0
  /-- CK_FAB cycles delivered up to the last alignment marker, counted since reset (R57): the samples are numbered by
  them, eight to a cycle (R115). -/
  cycle      : Nat := 0
  /-- The markers at which the local clock's rate or scale changed, newest first (R352). -/
  marks      : List Mark := []
  /-- marker_delay of the placement in progress (R85). -/
  delay      : Nat := 8
  /-- Markers until a pending lane sync lands (R78). -/
  sync       : Option Nat := none
  /-- REFCLK was found missing and no edge has returned (R67). -/
  missing    : Bool := false
  deriving DecidableEq, Repr

/-- A bay's hand-over (R92, R94). The new owner is next_id at the write of go, by which R93 decides whether the bay is
cleared: DEDUCED, log entry 66. -/
inductive Handover where
  | none
  /-- busy is set, and the hand-over begins when the audit releases its segment. -/
  | waiting (clear : Bool) (owner : Nat)
  /-- Running: whether the bay is cleared (R93), and its new owner. -/
  | running (clear : Bool) (owner : Nat)
  deriving DecidableEq, Repr

/-- The segment that the audit has borrowed (R106). -/
structure Borrow where
  bay : Nat
  seg : Nat
  deriving DecidableEq, Repr

/-- The background audit (R105 to R108). -/
structure AuditState where
  /-- The segment of BAY_63 that is the shadow slot in this pass (R107). -/
  slot     : Nat := 0
  /-- The next visit takes AUD_STATUS.bay and .segment as they stand, not their successors. -/
  fresh    : Bool := true
  borrow   : Option Borrow := none
  /-- enable was written 0 while a segment is borrowed (R105). -/
  stopping : Bool := false
  /-- The test of the borrowed segment was stopped (R106), and what it had found is not yet reported (R108). -/
  stopped  : Bool := false
  deriving DecidableEq, Repr

/-- A repair write to the mirrored pair: the word, and the data for BAY_60 and for BAY_61 (R100, R101). -/
structure Repair where
  word : Nat
  data : Nat
  to60 : Bool
  to61 : Bool
  deriving DecidableEq, Repr

/-- The granary. -/
structure GranState where
  /-- The stored bits of every word: address 131,072 times the bay plus the word index, 40 data bits and 8 check bits
  (R86, R87). An unlisted word is zero with valid check bits (R89). -/
  words    : List (Nat × Word48) := []
  handover : Vector Handover 64 := Vector.replicate 64 .none
  /-- A return that waits for the running hand-over (R612). -/
  deferred : Vector Bool 64 := Vector.replicate 64 false
  /-- Requests answered OK when the hand-over of their bay ends (R45, R48). -/
  waits    : List (Nat × OpenReq) := []
  /-- Words whose corrected value waits to be rewritten, as bay and index (R102). -/
  rewrites : List (Nat × Nat) := []
  repairs  : List Repair := []
  /-- For each group, the bays that have not left it yet since its enable was written 0 (R99). -/
  leaving  : Vector (List Nat) 16 := Vector.replicate 16 []
  audit    : AuditState := {}
  /-- The bale: word addresses 0 to 16,383, 32 data bits and 7 check bits (R110). -/
  bale     : List (Nat × BitVec 39) := []
  deriving DecidableEq, Repr

/-- Where the GNSS chain stands (R135). -/
inductive ChainPhase where
  | off
  /-- Powered and muted: references settle, calibration and bias settling run (R135 steps 1 to 3). -/
  | starting
  /-- Samples are released to the lanes (R135 step 4). -/
  | released
  deriving DecidableEq, Repr

/-- The GNSS_BLANK interval (R127, R129). -/
inductive BlankPhase where
  | idle
  | active
  /-- The post-extension runs. -/
  | post
  /-- A stuck interval was ended: the pin is ignored until it has been sampled inactive (R129). -/
  | ignoring
  deriving DecidableEq, Repr

/-- Offset, gain and timing skew of one sub-converter (R131, R133): the offset in codes of no stated scale, the gain in
0.0001 dB, the skew in fs. -/
structure SubCoef where
  offset : Int := 0
  gain   : Int := 0
  skew   : Int := 0
  deriving DecidableEq, Repr

/-- What decides the samples that the front end delivers, from a CK_FAB cycle on: whether samples are released (R135), a
commanded calibration mutes them (R131), blanked ones become zero (R128), the gain code and the coefficients in use. -/
structure FeSet where
  cycle : Nat := 0
  live  : Bool := false
  mute  : Bool := false
  zero  : Bool := false
  gain  : Nat := 0
  coef  : Vector SubCoef 8 := Vector.replicate 8 {}
  deriving DecidableEq, Repr

/-- The AGC's successive approximation (R122): windows done, and the codes still possible. -/
structure AgcSearch where
  done : Nat := 0
  low  : Nat := 0
  high : Nat := 80
  deriving DecidableEq, Repr

/-- The GNSS front end. -/
structure FeState where
  chain     : ChainPhase := .off
  /-- The search, while the AGC acquires (R122). -/
  acq       : Option AgcSearch := none
  /-- The first sample of the present AGC window, by number (R121). -/
  agcFrom   : Nat := 0
  /-- The code that the AGC takes at the next alignment marker (R120, R121), and whether it is a fast attack. -/
  nextCode  : Option Nat := none
  attack    : Bool := false
  /-- Consecutive windows at or above, and below, clip_thresh (R126); they count no further than 7. -/
  ovlRun    : Nat := 0
  ovlClear  : Nat := 0
  /-- The level of the GNSS_BLANK pin as the synchroniser shows it (R127). -/
  pin       : Bool := false
  blank     : BlankPhase := .idle
  /-- Of the interval in progress: its e_a, its first cycle, and with the post-extension running its end (R127). -/
  blankEa   : Nat := 0
  blankFrom : Nat := 0
  blankEnd  : Nat := 0
  /-- The blank intervals that have ended, newest first: the first cycle, and the cycle after the last (R127). -/
  blanks    : List (Nat × Nat) := []
  /-- Consecutive antenna measurements in range, and below open_ma (R130); they count no further than 3. -/
  okRun     : Nat := 0
  openRun   : Nat := 0
  /-- The bias switch was opened by a short (R130), and the next measurement decides the state. -/
  shortOpen : Bool := false
  decide1   : Bool := false
  /-- Offset, gain and skew of the eight sub-converters (R131, R133). -/
  coef      : Vector SubCoef 8 := Vector.replicate 8 {}
  /-- The calibration that runs was commanded with samples released (R131). -/
  commanded : Bool := false
  /-- The CK_FAB cycle of the last background update (R133). -/
  bgAt      : Option Nat := none
  /-- What decided the samples delivered so far, newest first. -/
  sets      : List FeSet := []
  deriving DecidableEq, Repr

/-- A decimator configuration in force: lengths, decimations and sections of stages A and B (R140, R144). -/
structure DecCfg where
  lA : Nat
  dA : Nat
  nA : Nat
  lB : Nat
  dB : Nat
  nB : Nat
  deriving DecidableEq, Repr

/-- A complex value between two stages of a lane, with the overload tag that it carries (R137, R158). -/
structure CWord (w : Nat) where
  i   : BitVec w
  q   : BitVec w
  ovl : Bool := false
  deriving DecidableEq, Repr

/-- A moving-sum section (R140, R141): its last L inputs, newest first, and its sums in registers that wrap. -/
structure MovSec (w : Nat) where
  line : List (CWord w) := []
  i    : BitVec w := 0
  q    : BitVec w := 0
  deriving DecidableEq, Repr

/-- A word in the winnower (R151, R158): 16-bit I and Q, the tags, and whether the pulse blanker blanks it. -/
structure WinWord where
  i      : BitVec 16
  q      : BitVec 16
  settle : Bool
  blank  : Bool
  ovl    : Bool
  pulse  : Bool := false
  deriving DecidableEq, Repr

/-- The lane's settings that take effect from the first converter sample of a lane word: that sample's index, the NCO
increment (R139), and the shifts of LANE_SCALE (R166). -/
structure LaneSet where
  from_  : Nat := 0
  inc    : Nat := 0
  aShift : Nat := 0
  bShift : Nat := 0
  cShift : Nat := 0
  rShift : Nat := 0
  deriving DecidableEq, Repr

/-- What a sample origin clears (R160): the NCO (R138), stages A, B and C (R140, R145), the winnower's delay of 16 words
(R151), newest first, and the words that have left on the lane bus since the origin (R156, R159), newest first: the model's
own record, from which the sheaves' loft, the thresher, the gleaner and the feeds take theirs. -/
structure LanePath where
  /-- Converter samples taken since the sample origin; values that left stage A, and words formed by stage C. -/
  taken  : Nat := 0
  formedA : Nat := 0
  formed : Nat := 0
  phase  : BitVec 32 := 0
  secA   : List (MovSec 32) := []
  secB   : List (MovSec 48) := []
  line   : List (CWord 18) := []
  delay  : List WinWord := []
  out    : List (BitVec 23) := []
  deriving DecidableEq, Repr

/-- A notch of the winnower (R152, R153), beside LANE_NOTCH: its last input and output, the output in 2^-16 units; the
tracker's frequency rate; the powers removed and passed over the present detector block; words for which its J/N has stayed
low; and the words formed before a notch that took a line engages. -/
structure Notch where
  x       : Int × Int := (0, 0)
  y       : Int × Int := (0, 0)
  rate    : Int := 0
  removed : Nat := 0
  passed  : Nat := 0
  low     : Nat := 0
  wait    : Option Nat := none
  deriving DecidableEq, Repr

/-- What the winnower and the requantiser keep across a sample origin (R160). -/
structure Winnower where
  notches : Vector Notch 4 := Vector.replicate 4 {}
  /-- The detector's present block of 4,096 words, and the last complete one not yet examined (R153), newest first; the
  words that carry the blank tag enter as zero. -/
  block   : List (BitVec 16 × BitVec 16) := []
  ready   : Option (List (BitVec 16 × BitVec 16)) := none
  /-- The pulse blanker's estimates of the last 1,024 words that it has not blanked, words still to blank after a
  detection, and which of the last 65,536 words it blanked, newest first (R154). -/
  mags    : List Nat := []
  post    : Nat := 0
  pulses  : List Bool := []
  /-- The requantiser's present window: words, their power, and saturations (R155). -/
  rqWords : Nat := 0
  rqPower : Nat := 0
  rqSats  : Nat := 0
  deriving DecidableEq, Repr

/-- A fade (R149, R150): its length F, the CK_FAB cycle from which on a word may be its first, and the words j that it has
blended, none before its first word. -/
structure Fade where
  len    : Nat
  ready  : Nat
  done   : Option Nat := none
  deriving DecidableEq, Repr

/-- A word that has left a lane on the lane bus: the CK_FAB cycle of its sample origin, its number since, its local time and its
bits (R156, R157). -/
structure LaneWord where
  origin : Nat
  k      : Nat
  time   : Int
  bits   : BitVec 23
  deriving DecidableEq, Repr

/-- A band lane, beside its registers. -/
structure LaneState where
  /-- The configuration applied at the last sample origin (R144). -/
  cfg      : Option DecCfg := none
  /-- The CK_FAB cycle of the sample origin (R160). -/
  origin   : Nat := 0
  path     : LanePath := {}
  win      : Winnower := {}
  /-- Settings since the sample origin, newest first (R139, R166). -/
  sets     : List LaneSet := []
  /-- The group delay G in 1/16 samples, from a word on, since the sample origin, newest first (R157). -/
  gds      : List (Nat × Nat) := []
  /-- Words of earlier sample origins that a capture or the thresher may still take, oldest first (R174, R329, R332). -/
  gone     : List LaneWord := []
  /-- The fade that runs or was requested (R149, R150). -/
  fade     : Option Fade := none
  /-- The last words of fades that stage C has ended and whose end has not been shown, oldest first. -/
  ends     : List Nat := []
  /-- The length F of the pending request (R150). -/
  pendLen  : Nat := 0
  /-- Markers until a pending lane start is due (R160). -/
  startIn  : Option Nat := none
  /-- The LANE_SET request answered when the lane start lands (R568). -/
  req      : Option OpenReq := none
  deriving DecidableEq, Repr

/-- How a job of a pass ended (R176, R199). -/
inductive JobEnd where
  | done
  | short
  | laneLost
  | aborted
  deriving DecidableEq, Repr

/-- A job as latched into a pass (R177 to R180), with its progress. -/
structure ThrJob where
  slot      : Nat
  lane      : Nat
  signal    : Nat
  sat       : Nat
  /-- 0 circular, 1 linear. -/
  mode      : Nat
  w         : Nat
  step      : Nat
  startCell : Nat
  startFrac : Nat
  cells     : Nat
  centre    : Int
  n         : Nat
  /-- Tiles per block T_j (R172), round (R180), and first group word B_j (R186). -/
  tiles     : Nat
  round     : Nat
  base      : Nat
  used      : Nat := 0
  discarded : Nat := 0
  /-- The quantiser's step, set by the first used block, in 2^-60 of a lane code (R174). -/
  quant     : Nat := 0
  pshift    : Nat := 0
  /-- Sum of the energies of the used blocks, N times their mean power (R185). -/
  energy    : Nat := 0
  overload  : Bool := false
  satSeen   : Bool := false
  sumError  : Bool := false
  ended     : Option JobEnd := none
  deriving DecidableEq, Repr

/-- Where the round of a pass stands (THR_STATUS.state). -/
inductive RoundPhase where
  | waitStart
  | running
  | waitGroup
  deriving DecidableEq, Repr

/-- A latched pass (R179 to R183). -/
structure ThrPass where
  k         : Nat
  offline   : Bool
  /-- The granary address of the snapshot's header, and its bytes as read at the latch (R197). -/
  header    : Nat
  head      : List Byte
  startMode : Nat
  trigger   : Nat
  grpA      : Nat
  grpB      : Nat
  dual      : Bool
  blankMax  : Nat
  /-- Tile limit per millisecond at the latch (R168, R199). -/
  limit     : Nat
  jobs      : List ThrJob
  rounds    : Nat
  round     : Nat := 0
  phase     : RoundPhase := .waitStart
  /-- The first firing of the named trigger since the pass left the queue and its group was free (R182, R186). -/
  fired     : Option Time := none
  /-- The local time at or after which a round that starts at a marker starts (R182, R186). -/
  notBefore : Time := 0
  tR        : Time := 0
  /-- Blocks of the round that have ended. -/
  block     : Nat := 0
  /-- Slots that a later latch has taken: their RO fields describe its pass (R200). -/
  hidden    : List Nat := []
  /-- The SEARCH or SNAP_FIX request that waits for pass_done. -/
  req       : Option OpenReq := none
  deriving DecidableEq, Repr

/-- A result record (R196), before its layout. -/
structure ThrResult where
  slot      : Nat
  signal    : Nat
  sat       : Nat
  outcome   : Nat
  codePhase : Nat
  doppler   : Int
  peakRatio : Nat
  second    : Nat
  cn0       : Nat
  tR        : Time
  used      : Nat
  discarded : Nat
  noise     : Nat
  pshift    : Nat
  flags     : Nat
  round     : Nat
  deriving DecidableEq, Repr

/-- The thresher. -/
structure ThrState where
  running  : Option ThrPass := none
  queued   : Option ThrPass := none
  /-- Held marks of GRP_0 to GRP_15 (R186). -/
  held     : Vector Bool 16 := Vector.replicate 16 false
  /-- Slots of passes discarded at a loss of the clock: they read as aborted, and aborted is set, at its next delivery
  (R199). -/
  onClock  : Option (List Nat) := none
  /-- The jobs of the round whose sums wait for the peak search, its group and T_r (R194). -/
  toSearch : List ThrJob := []
  group    : Nat := 0
  tR       : Time := 0
  k        : Nat := 0
  /-- The result records of the last pass in the navigation pair's memory, of 48 bytes each (R196). -/
  results  : List (List Byte) := []
  /-- P_job = 10^-pjob (R193). -/
  pjob     : Nat := 3
  deriving DecidableEq, Repr

/-- A loop update that waits at a sheaf (R226, R227, R229). -/
structure LoopUpd where
  atBlock : Bool
  fc      : Option Int
  fk      : Option Nat
  cstep   : Int
  kstep   : Int
  fanOff  : Bool
  deriving DecidableEq, Repr

/-- The working state of a tracking channel (R206, R220 to R232), beside its registers. -/
structure ShfChan where
  /-- The channel is pending or running. -/
  inUse   : Bool := false
  /-- It is a slot of an AltBOC pair (R214). -/
  pair    : Bool := false
  /-- It has been swept over words of the lane's present sample origin (R231). -/
  swept   : Bool := false
  /-- The lane word that the channel uses next, counted from the lane's sample origin (R202). -/
  word    : Nat := 0
  /-- Words used since the start of the present block: the sweeps of a fan take their phase from there (R207). -/
  inBlock : Nat := 0
  /-- The carrier phase with the whole cycles since the start, in 2^-48 cycle (R206, R224). -/
  car     : Int := 0
  /-- The code phase with the primary epochs since the start, in 2^-48 chip (R206, R228). -/
  code    : Int := 0
  /-- The secondary index at the start (R211). -/
  sec0    : Nat := 0
  fc      : Int := 0
  fk      : Nat := 0
  /-- The primary epoch, counted from the start, that ends the present integration (R221). -/
  bound   : Nat := 0
  /-- Sums of each sweep, nine taps of I and Q each (R216, R220). -/
  sums    : List (List Int) := []
  count   : Nat := 0
  integ   : Nat := 0
  wipeSat : Nat := 0
  overload : Bool := false
  blank   : Bool := false
  settle  : Bool := false
  upd     : Bool := false
  discont : Bool := false
  /-- The next dump carries discont (R225, R232). -/
  gap     : Bool := false
  waiting : Option LoopUpd := none
  deriving DecidableEq, Repr

/-- What the firmware keeps of one dump of sweep 0 (R237): t_e, prompt I and Q, the power of S0. -/
structure DumpStat where
  time : Time
  pI   : Int
  pQ   : Int
  s0   : Nat
  deriving DecidableEq, Repr

/-- The firmware's lock indicators of a channel (R237), and the priority under which it was admitted (R236). -/
structure LockInfo where
  /-- 0 IDLE, 1 PULL_IN, 2 FLL, 3 PLL, 4 SYNC, 5 LOST. -/
  lock     : Nat := 0
  since    : Time := 0
  hist     : List DumpStat := []
  /-- Consecutive dumps with the frequency error estimate within 10 Hz. -/
  within   : Nat := 0
  /-- Since when C/N0 has stayed below the drop threshold. -/
  lowSince : Option Time := none
  cn0      : Nat := 0
  slips    : Nat := 0
  deriving DecidableEq, Repr

/-- The sheaves. -/
structure ShfState where
  /-- Channels that are not as at reset, by channel number. -/
  chans : List (Nat × ShfChan) := []
  locks : List (Nat × LockInfo) := []
  /-- Loop update records on the dump network, with the sending core, oldest first (R226). -/
  net   : List (Nat × List Nat) := []
  /-- The drop threshold in 0.01 dB-Hz (R237). -/
  drop  : Nat := 2200
  deriving DecidableEq, Repr

/-- What a write of a DSP core lands in (R241, R262). For the status register the bits of the mask are written. -/
inductive DspTarget where
  | d (i : Nat)
  | accLow (i : Nat)
  | accHigh (i : Nat)
  | accGuard (i : Nat)
  | acc (i : Nat)
  | p (i : Nat)
  | m (i : Nat)
  | b (i : Nat)
  | l (i : Nat)
  /-- A loop counter of the program's bank (0, 1) or of the handler's (2, 3) (R286). -/
  | lc (i : Nat)
  | rrb
  | sr (mask : Nat)
  | mi
  | mxLow
  | mxHigh
  | mx
  deriving DecidableEq, Repr

/-- A write on its way through the pipeline: it lands at the end of the cycle `land`, counted in fetch slots, stalls left
out (R261, R262). -/
structure DspWrite where
  land   : Nat
  target : DspTarget
  value  : Nat
  deriving DecidableEq, Repr

/-- The registers of a core (R241). -/
structure DspFile where
  d   : Vector Word20 16 := Vector.replicate 16 0
  acc : Vector Word48 4 := Vector.replicate 4 0
  p   : Vector Word20 8 := Vector.replicate 8 0
  m   : Vector Word20 8 := Vector.replicate 8 0
  b   : Vector Word20 8 := Vector.replicate 8 0
  l   : Vector Word20 8 := Vector.replicate 8 0
  /-- lc0 and lc1 of the program, and of the handler's loop bank (R286). -/
  lc  : Vector Word20 4 := Vector.replicate 4 0
  rrb : BitVec 3 := 0
  /-- The stored bits of sr: flags, sticky flags, rot and ie; lcache, depth and rep are formed on a read. -/
  sr  : Word20 := 0
  mi  : Word20 := 0
  mx  : Word40 := 0
  deriving DecidableEq, Repr

/-- An active hardware loop level: its first and its last instruction (R269). -/
structure DspLevel where
  first : Nat
  last  : Nat
  deriving DecidableEq, Repr

/-- A raised interrupt source: the cycle from which it is pending, and for a fault the addresses it records (R284, R289). -/
structure DspRaised where
  since : Nat
  pc    : Nat
  addr  : Nat
  deriving DecidableEq, Repr

/-- What happens when the delay slots in progress have been fetched (R264, R287, R292). -/
inductive DspAfter where
  | goOn
  | jump (target : Nat)
  | reti (target : Nat)
  | halt
  deriving DecidableEq, Repr

/-- A posted window write that has not completed (R249). -/
structure DspPost where
  window : Nat
  /-- The granary address that the window's base gave at the issue (R247, R250). -/
  target : Nat
  data   : Nat
  pc     : Nat
  addr   : Nat
  deriving DecidableEq, Repr

/-- Why a core is stalled (R265). -/
inductive DspStall where
  /-- A window read: the granary address, and the window, whose data has not arrived (R249). -/
  | read (window target : Nat)
  /-- A window read that waits for the earlier writes of the core (R249). -/
  | readBehind
  /-- A fifth posted write (R249). -/
  | fifthWrite
  /-- fence (R249). -/
  | fence
  deriving DecidableEq, Repr

/-- An instruction in its R stage whose moves have not all completed. -/
structure DspFlight where
  word    : Nat
  pc      : Nat
  /-- Repetitions still to be executed after this one (R279). -/
  more    : Nat
  /-- The rotation mapping taken in D: rrb while sr.rot is 1, else 0 (R242). -/
  map     : Nat
  /-- Effective addresses of the X and the Y move, and the moves done so far. -/
  eaX     : Nat
  eaY     : Nat
  done    : Nat
  /-- The words loaded by the X and the Y move; for a search the X word is 40 bits wide (R260). -/
  gotX    : Option Nat
  gotY    : Option Nat
  third   : Option Nat
  deriving DecidableEq, Repr

/-- An instruction that reads or stores what an interrupt entry changes: its slot, its word, its rotation mapping, and the
effective addresses of its moves. -/
structure DspLast where
  slot : Nat
  word : Nat
  map  : Nat
  eaX  : Nat
  eaY  : Nat
  deriving DecidableEq, Repr

/-- A DSP core. -/
structure DspCore where
  file      : DspFile := {}
  pend      : List DspWrite := []
  /-- The number of the next fetch slot since the start of the core. -/
  slot      : Nat := 0
  pc        : Nat := 0
  /-- The return stack, the last entry first (R290). -/
  stack     : List Nat := []
  /-- Active levels of the program and of the handler, the outermost first (R270, R286). -/
  levels    : List DspLevel := []
  hLevels   : List DspLevel := []
  /-- The handler's loop bank is in use (R286, R287). -/
  inHandler : Bool := false
  /-- Delay slots still to be fetched, and what follows them (R264). -/
  delay     : Nat := 0
  after     : DspAfter := .goOn
  /-- The slot in which a reti's return is fetched (R287). -/
  leaveAt   : Option Nat := none
  /-- The next fetch is the first after a reti (R284). -/
  afterReti : Bool := false
  /-- The count of an rpt or rptr whose instruction has not been fetched, and its address (R279, R275). -/
  rep       : Option (Nat × Nat) := none
  /-- A repeat is in progress (sr.rep). -/
  repeating : Bool := false
  /-- A loopr of count 0: the next instruction is discarded, and the fetch goes on there (R272). -/
  skipTo    : Option Nat := none
  /-- The loop level that owns the loop cache, as handler bank or not, and index (R276). -/
  cacheOf   : Option (Bool × Nat) := none
  cacheOk   : Bool := false
  /-- The present pass fills the cache so far (R277). -/
  filling   : Bool := false
  lcache    : Bool := false
  halted    : Bool := false
  /-- The core runs: it is neither held nor stopped (R296, R297). -/
  running   : Bool := false
  /-- It stops at its next slot that is not held (R297). -/
  stopping  : Bool := false
  raised    : Vector (Option DspRaised) 10 := Vector.replicate 10 none
  /-- The latest cycle, counted in fetch slots, after which the stages stood still (R265). -/
  stalled   : Option Nat := none
  /-- Faults that instructions in the pipeline raise in cycles to come, with their vectors, those cycles and the addresses they
  record, also where the vector was raised already (R288). -/
  late      : List (Nat × DspRaised) := []
  /-- The slot of the last instruction that stored to INT_MASK, and the mask before: the store takes effect two cycles after
  the fetch (R261, R283). -/
  maskWas   : Option (Nat × Nat) := none
  /-- The last instruction that reads or stores what an interrupt entry changes (R261, R286). -/
  last      : Option DspLast := none
  /-- A fault raised by the instruction being executed while a fault handler runs: its vector and addresses (R288). -/
  doomed    : Option (Nat × Nat × Nat) := none
  stall     : Option (DspStall × DspFlight) := none
  /-- Instructions behind a stall, in order (R265). -/
  behind    : List Nat := []
  writes    : List DspPost := []
  /-- The CK_FAB cycle of the last load of the watchdog's count, which CK_CORE counts down at two cycles to one of CK_FAB
  (R291). -/
  wdg       : Nat := 0
  /-- The dump queue, oldest record first, and the next word of the oldest (R225, DQ_DATA). -/
  dumps     : List (List Nat) := []
  dumpWord  : Nat := 0
  /-- Words of a loop update record written so far (R226, UPD_DATA). -/
  updWords  : List Nat := []
  /-- The last word sent to the steward cores (NOTIFY). -/
  notified  : Option Nat := none
  /-- The lane feed's buffer, by index (R299), and the lane word that the feed takes next (R301). -/
  feedBuf   : List (Nat × Word20) := []
  feedNext  : Nat := 0
  deriving DecidableEq, Repr

/-- A kernel's state (R296). -/
inductive KernelState where
  | empty
  | loading
  | loaded
  | running
  | stopped
  | faulted
  deriving DecidableEq, Repr

/-- A kernel image being received or checked (R295, R609). -/
structure KernelLoad where
  bay      : Nat
  bytes    : List Byte
  total    : Nat
  /-- The request of the last chunk, answered ACCEPTED, while the image is checked. -/
  checking : Option OpenReq
  deriving DecidableEq, Repr

/-- A kernel on an open core (R293 to R302). -/
structure Kernel where
  state    : KernelState := .empty
  id       : Nat := 0
  version  : Nat := 0
  entry    : Nat := 0
  wdgUs    : Nat := 0
  maxBays  : Nat := 0
  wantFeed : Bool := false
  load     : Option KernelLoad := none
  /-- The bay in each window (R298). -/
  bays     : Vector (Option Nat) 4 := Vector.replicate 4 none
  /-- Stops that await their completion, and the unloads in progress. -/
  stops     : List OpenReq := []
  unloads   : List OpenReq := []
  unloading : Bool := false
  /-- Bays whose return an unload awaits (R297, R580). -/
  returning : List Nat := []
  /-- Triggers routed to the core through KERNEL_TRIG (R607). -/
  triggers  : Nat := 0
  deriving DecidableEq, Repr

/-- The DSP cores and their memories: data words of 20 bits with 6 check bits at 32,768 times the core plus the address,
program words of 40 bits with 8 check bits at 16,384 times the core plus the address (R244). -/
structure DspState where
  cores   : Vector DspCore 16 := Vector.ofFn fun i => { running := decide (i.val < 12) }
  x       : List (Nat × BitVec 26) := []
  y       : List (Nat × BitVec 26) := []
  prog    : List (Nat × Word48) := []
  kernels : Vector Kernel 4 := Vector.replicate 4 {}
  deriving DecidableEq, Repr

/-- A position declared by the host (R326). -/
structure Declared where
  lat   : Int
  lon   : Int
  height : Int
  hUnc  : Nat
  vUnc  : Nat
  /-- Since when it has differed from the computed position by more than three times the sum of the h_unc. -/
  apart : Option Time
  deriving DecidableEq, Repr

/-- Broadcast data held for a satellite (R304, NAV_DATA_GET): the bits as bytes, most significant first. -/
structure NavData where
  system : Nat
  sat    : Nat
  kind   : Nat
  time   : Time
  nbits  : Nat
  bits   : List Byte
  deriving DecidableEq, Repr

/-- What the POWER detector compares (R324): the AGC gain code at a report, and the C/N0 of the tracked signals in 0.01 dB-Hz as
their sum and number. -/
structure PowerSample where
  time  : Time
  gain  : Nat
  sum   : Nat
  count : Nat
  deriving DecidableEq, Repr

/-- The navigation engine (R306 to R327). -/
structure NavState where
  /-- The report period in ms; 0 stops reports (REPORT_CFG). -/
  period   : Nat := 0
  hal      : Nat := 0xFFFFFFFF
  val      : Nat := 0xFFFFFFFF
  /-- P_IR = 10^-pirExp (R319). -/
  pirExp   : Nat := 7
  /-- Corrections enabled: [0] RTK, [1] SSR from RTCM, [2] SSR from E6-B, [3] SBAS. -/
  corrEn   : Nat := 0
  osnmaEn  : Bool := false
  /-- The next sequence number, and the stored one (R314). -/
  seq      : Nat := 0
  seqNv    : Nat := 0
  lastTov  : Option Time := none
  /-- The next report carries discontinuity (R308, R312). -/
  discont  : Bool := true
  /-- The detector mask, and when each condition last held (R324, R325). -/
  detMask  : Nat := 0
  /-- When the mask was last cleared (R364). -/
  clearAt  : Time := 0
  detLast  : Vector Time 8 := Vector.replicate 8 0
  declared : Option Declared := none
  /-- Position of the last fix since reset (R327). -/
  lastFix  : Option (Int × Int × Int) := none
  osnmaBad : Option Time := none
  /-- Epoch of the newest MSM set, and of the newest SSR orbit and clock set by RTCM and by E6-B (R316, R317). -/
  rtkTime  : Option Time := none
  ssrTime  : Option Time := none
  hasTime  : Option Time := none
  /-- Since which report h_unc has stayed at or below 100 mm (R311). -/
  fineSince : Option Time := none
  /-- The next RTK report is at float: there has been no fix, or the reference station has changed (R317, R327). -/
  rtkStart : Bool := true
  /-- Gain code and C/N0 at the reports of the last 10 s, oldest first (R324). -/
  power    : List PowerSample := []
  /-- RTK reference station in use, as the message gave it (R317). -/
  station  : Option (List Byte) := none
  /-- Orbit data are held (R340). -/
  orbit    : Bool := false
  aiding   : Option (List Byte) := none
  /-- The tolerance of REFCLK declared through AIDING in ppb, 0 for undeclared. -/
  refTol   : Nat := 0
  data     : List NavData := []
  /-- Admission (R234 to R236, CHANNEL_POLICY): pre-emption allowed, and the priority of each signal code. -/
  preempt  : Bool := false
  prio     : Vector Nat 25 := Vector.replicate 25 0
  deriving DecidableEq, Repr

/-- A capture that has started (R329 to R338). Its words are the lanes', which keep them. -/
structure CaptureRun where
  tStart   : Time
  /-- The CK_FAB cycle of the last marker at or before t_start. -/
  cycle    : Nat
  gainCode : Nat
  /-- TIME_UNC at t_start (R336). -/
  tUnc     : Nat
  /-- Decimation and LANE_NCO_FREQ.inc of each lane at t_start, in list order (R337). -/
  lanes    : List (Nat × Nat)
  /-- Fast attacks: markers since t_start, and the new code (R123, R336). -/
  attacks  : List (Nat × Nat) := []
  /-- The local time at which the capture was cut short (R338). -/
  cut      : Option Time := none
  /-- Once the capture has ended: for each lane the CK_FAB cycle of its sample origin, and its first word after the end. -/
  ends     : Option (List (Nat × Nat)) := none
  deriving DecidableEq, Repr

/-- An armed capture, and its run once it has started (R328). -/
structure Capture where
  /-- The SNAP_ARM request that awaits its completion; none for a scheduled capture. -/
  req      : Option OpenReq
  /-- The schedule entry, 0xFF for none (R581 SNAP_DONE). -/
  entry    : Nat
  lanes    : List Nat
  quant    : Nat
  lengthMs : Nat
  /-- A trigger from 0 to 23, or 0xFF for a marker. -/
  trigger  : Nat
  firstBay : Nat
  /-- The local time of the arming (R328), and of the first firing of the trigger since (R329). -/
  armedAt  : Time
  fired    : Option Time := none
  run      : Option CaptureRun := none
  deriving DecidableEq, Repr

/-- A snapshot held in gleaner bays (R335). -/
structure BaySnap where
  id       : Nat
  firstBay : Nat
  nBays    : Nat
  deriving DecidableEq, Repr

/-- A snapshot in the non-volatile area, in compact form (R341, R342). -/
structure NvSnap where
  id    : Nat
  bytes : List Byte
  deriving DecidableEq, Repr

/-- A schedule entry (R346, SNAP_SCHEDULE). -/
structure Schedule where
  enable   : Bool := false
  preset   : Nat := 0
  quant    : Nat := 0
  lengthMs : Nat := 0
  periodS  : Nat := 0
  firstSec : Nat := 0
  deriving DecidableEq, Repr

/-- A load from the non-volatile area into bays, or a commit to it, in progress (R342). -/
structure SnapMove where
  id       : Nat
  firstBay : Nat
  req      : Option OpenReq
  deriving DecidableEq, Repr

/-- The gleaner, the non-volatile snapshot area, export and parked scheduling. -/
structure SnapState where
  capture    : Option Capture := none
  /-- The identifier of the next capture (R336). -/
  nextId     : Nat := 0
  inBays     : List BaySnap := []
  nv         : List NvSnap := []
  /-- 0 OVERWRITE, 1 SKIP (SNAP_POLICY). -/
  policy     : Nat := 0
  schedule   : Vector Schedule 8 := Vector.replicate 8 {}
  /-- The schedule entry for which the device woke from PARKED (R504), and whether the lane start waits. -/
  parkedRun  : Option Nat := none
  load       : Option SnapMove := none
  commit     : Option SnapMove := none
  /-- The snapshot being exported, and its request (R345). -/
  outgoing   : Option (Nat × OpenReq) := none
  /-- The export counter, and the value persisted (R344). -/
  counter    : Nat := 0
  counterNv  : Nat := 0
  /-- A snapshot fix being computed: snapshot and request (R340). -/
  fixFor     : Option (Nat × OpenReq) := none
  /-- The offline pass of that fix has been latched. -/
  fixPass    : Bool := false
  deriving DecidableEq, Repr

/-- A step that is armed (R367): when, its second S, and Δ in units of local time. -/
structure StepArmed where
  tArm  : Time
  second : Nat
  delta : Int
  deriving DecidableEq, Repr

/-- A time relation of the keep store (R392). -/
structure TimeRelation where
  time   : Time
  count  : Nat
  inc    : Nat
  unc    : Nat
  source : Nat
  deriving DecidableEq, Repr

/-- A placed edge: the local time of its CK_FAB tick and its interpolator tap, 0 to 63 (R382). -/
structure Placed where
  tick : Time
  tap  : Nat
  deriving DecidableEq, Repr

/-- A trigger, beside its registers. -/
structure TrigState where
  /-- The period in force in ns (R608). -/
  per     : Nat := 0
  /-- It fires late at the next tick (R374). -/
  late    : Bool := false
  /-- Its output is at the active level, and its last leading and trailing edges (R373). -/
  active  : Bool := false
  lead    : Option Placed := none
  trail   : Option Placed := none
  deriving DecidableEq, Repr

/-- The companion record of an instant (R385). -/
structure TpRecord where
  source : Nat
  flags  : Nat
  seq    : Nat
  label  : Time
  unc    : Nat
  utc    : Nat
  leap   : Nat
  deriving DecidableEq, Repr

/-- A time pulse, beside its registers. -/
structure TpState where
  /-- Period, width and phase in force in ns (R608). -/
  per     : Nat := 1000000000
  width   : Nat := 100000000
  phase   : Nat := 0
  /-- The last instant decided, and the last write of the grid (R383). -/
  last    : Option Time := none
  wrote   : Option Time := none
  seq     : Nat := 0
  /-- The next record carries flag 4, or flag 5 (R385). -/
  stepped : Bool := false
  discont : Bool := false
  /-- The pulses decided for emission whose records are not complete, oldest first, and whether the leading edge of the oldest
  has been placed. -/
  shown   : List TpRecord := []
  high    : Bool := false
  lead    : Option Placed := none
  trail   : Option Placed := none
  /-- The last complete record. -/
  record  : Option TpRecord := none
  deriving DecidableEq, Repr

/-- The local time unit, beside its registers. -/
structure LtuState where
  /-- The local clock (R349). -/
  now     : Time := 0
  /-- T(M) of the last alignment marker, and the increment in force after it without the slew share (R351, R352). -/
  markT   : Time := 0
  inc     : Nat := 0x238E38E39
  /-- The slew taken by the present marker interval, and the offset that remains with it, in units of local time (R353). -/
  slewNow : Int := 0
  slewRem : Int := 0
  /-- The signed size of the walk as the clock root passed it, and the share per tick that compensates it (R360). -/
  walkSize : Int := 0
  walk    : Int := 0
  /-- TIME_INC as it took effect at the last marker (R351), TIME_INC at the last loss of lock (R355), and T_e (R356). -/
  incReg  : Nat := 0x238E38E39
  incLoss : Nat := 0x238E38E39
  te      : Time := 0
  /-- The error added at the REFCLK edges after a jump, and the value the clock would have without the hold (R361). -/
  refT    : Int := 0
  /-- The local time of the last recorded RTC edge, and the RTC edges ticked since (R358). -/
  rtcT    : Time := 0
  rtcK    : Nat := 0
  step    : Option StepArmed := none
  /-- Pulses resume after this time (R367). -/
  resume  : Option Time := none
  /-- Servo: consecutive usable solutions, GNSS valid, the network valid (R362). -/
  qual    : Nat := 0
  /-- When the last usable solution came (R362). -/
  solAt   : Time := 0
  gnss    : Bool := false
  net     : Bool := false
  /-- The clock has ticked from CK_FAB since the last reload (R362). -/
  ticked  : Bool := false
  /-- The last valid source was GNSS (R402). -/
  fromGnss : Bool := false
  /-- After a reload, thaw or uncompensated jump, no source has been valid yet (R366, R368). -/
  waits   : Bool := true
  /-- No source has been entered since power-up or the last event of R368: the next one is entered whatever its error. -/
  reenter : Bool := true
  /-- TIME_INC's values while a source was valid, with the time each was taken, newest first (R363). -/
  steered : List (Time × Nat) := []
  /-- TIME_UNC as last set, and when; the growth of holdover in 10^-10 (R363). -/
  uncBase : Nat := 0xFFFFFFFF
  uncAt   : Time := 0
  growth  : Nat := 10
  /-- Where the UTC values come from: 0 nowhere, 1 host, 2 network, 3 GNSS (R369). -/
  utcRank : Nat := 0
  trig    : Vector TrigState 32 := Vector.replicate 32 {}
  /-- The level at which each TRIG_OUT pin rests, and its level (R373). -/
  pinRest : Vector Bool 4 := Vector.replicate 4 false
  pin     : Vector Bool 4 := Vector.replicate 4 false
  /-- A read of CAP_STATUS was the last access to the channel (R379). -/
  capSq   : Vector Bool 16 := Vector.replicate 16 false
  tp      : Vector TpState 4 := Vector.replicate 4 {}
  /-- The time relation of the keep store (R392). -/
  relation : Option TimeRelation := none
  deriving DecidableEq, Repr

/-- A foreign master (R404): identity, port and announced dataset, and when its last two Announces came. -/
structure Master where
  identity : Nat
  port     : Nat
  clockClass : Nat
  accuracy : Nat
  variance : Nat
  prio1    : Nat
  prio2    : Nat
  gm       : Nat
  steps    : Nat
  last     : Time
  before   : Option Time
  deriving DecidableEq, Repr

/-- A PTP message that the port sent: its messageType, sequenceId, timestamp and correctionField in 2^-16 ns, whether a
follow-up with the precise time goes with it, and an Announce's dataset, timeSource and UTC as in TIME_UTC (R399, R402);
ptpTimescale is always true. -/
structure NetTx where
  kind     : Nat
  seq      : Nat
  origin   : Time
  corr     : Nat
  followUp : Bool
  dataset  : Option Master
  timeSource : Nat := 0
  utc      : Word := 0
  deriving DecidableEq, Repr

/-- The network port, beside its registers. Times and offsets are in units of local time, 2^-32 ns. -/
structure NetState where
  masters  : Vector (Option Master) 8 := Vector.replicate 8 none
  sel      : Option Nat := none
  /-- A two-step Sync that awaits its Follow_Up: sender, sequenceId, t2 and correction. -/
  sync     : Option (Nat × Nat × Time × Int) := none
  /-- A Delay_Req sent: t3; and the latest completed exchange: t3 and t4. -/
  delayReq : Option Time := none
  exchange : Option (Time × Int) := none
  /-- A Pdelay_Req sent: t1; a two-step response: t2 and t4; and the t3 and t4 of the last complete exchange. -/
  pdReq    : Option Time := none
  pdResp   : Option (Int × Int) := none
  pdLast   : Option (Int × Int) := none
  /-- The mean path delay or peer delay, once measured. -/
  mpd      : Option Int := none
  /-- The servo's prediction of the offset (R406). -/
  pred     : Option Int := none
  /-- Offsets used since the last unqualification, newest first, at most 64; how many were used in a row; and how many since
  the last qualification (R405, R411). -/
  used     : List Int := []
  streak   : Nat := 0
  count    : Nat := 0
  /-- The local time of the last usable Sync (R405). -/
  usedAt   : Time := 0
  /-- Mean path delays of the measurements used, newest first, at most 8; and the measurements held aside, with theirs
  (R406, R407). -/
  mpds     : List Int := []
  held     : List (Int × Int) := []
  /-- Offsets of a NATIVE requalification after a step, newest first (R408). -/
  requal   : Option (List Int) := none
  /-- The network's offset has been entered since it became the time source (R365, R408). -/
  entered  : Bool := false
  /-- The refused offset (R408). -/
  refused  : Int := 0
  /-- What remains to be entered by slew, in 2^-8 ns (R409). -/
  parts    : Int := 0
  asymLast : Int := 0
  /-- When FOREIGN_MASTER was last reported (R404). -/
  fmAt     : Option Time := none
  /-- PHY latencies at 100 and 1000 Mbit/s, egress and ingress (R397). -/
  lat100   : Nat × Nat := (0, 0)
  lat1000  : Nat × Nat := (0, 0)
  ipv4     : Nat := 0
  /-- The stored correction (R411). -/
  asymNv   : Nat := 0
  /-- sequenceIds of Sync, Announce, Delay_Req and Pdelay_Req, and the last message sent. -/
  seqSync  : Nat := 0
  seqAnn   : Nat := 0
  seqReq   : Nat := 0
  seqPd    : Nat := 0
  tx       : Option NetTx := none
  deriving DecidableEq, Repr

/-- The options of a frame (R414, R573). -/
structure Phy where
  channel : Nat
  mode    : Nat
  code    : Nat
  sfd     : Nat
  psr     : Nat
  rate    : Nat
  fcs     : Nat
  stsCfg  : Nat
  stsSegs : Nat
  stsLen  : Nat
  deriving DecidableEq, Repr

/-- An activity of the access radio (R425, R429): a transmission or a receive window, of a host command or of a slot of a
session's round. -/
structure RadioAct where
  tx      : Bool
  /-- The session's handle. -/
  session : Option Nat
  tag     : Nat
  phy     : Phy
  /-- Requested density in 0.25 dBm/MHz (R432). -/
  power   : Int
  /-- Return state: 0 SLEEP, 1 IDLE, 2 STANDBY, 3 RX (R419). -/
  ret     : Nat
  /-- The air time of the RMARKER, or the opening of the window; absent for "immediate". -/
  time    : Option Time
  close   : Option Time
  psdu    : List Byte
  req     : Option OpenReq
  /-- The slot of its session's present round (R442). -/
  slot    : Option Nat
  /-- A window of the listen schedule (R446). -/
  listen  : Bool
  deriving DecidableEq, Repr

/-- The activity that has been committed. -/
structure RadioLive where
  act   : RadioAct
  /-- A transmission's first pulse, RMARKER at the antenna as reported, and last pulse; a window's opening. -/
  start : Time
  mark  : Time
  stop  : Time
  code  : Nat
  clip  : Nat
  atMax : Bool
  deriving DecidableEq, Repr

/-- A frame radiated: its first pulse and its last (R434). -/
structure OnAir where
  start : Time
  stop  : Time
  deriving DecidableEq, Repr

/-- A round of a session (R442 to R445). -/
structure Round where
  r       : Nat
  /-- RMARKER times at the antenna of the slots done. -/
  times   : List (Nat × Time) := []
  /-- The first status that is not OK, else 0. -/
  status  : Nat := 0
  /-- A received frame lacks sts_ok or fp_agree. -/
  spoiled : Bool := false
  clipped : Bool := false
  fpPower : Nat := 0
  cfo     : Int := 0
  lastPsdu : List Byte := []
  /-- Transmitted PSDUs, fixed at the first commit (R574). -/
  psdus   : Option (List (Nat × List Byte)) := none
  /-- The remote intervals that the host supplied (R444). -/
  remote  : Option (Nat × Nat) := none
  posSeq  : Nat := 0
  deadline : Time := 0
  deriving DecidableEq, Repr

/-- The state of a session (R440). -/
inductive SessionState where
  | configured
  | active
  | stopped
  deriving DecidableEq, Repr

/-- A ranging session (R440 to R445, R574). -/
structure Session where
  id        : Nat
  handle    : Nat
  method    : Nat
  role      : Nat
  prio      : Nat
  sign      : Bool
  insert    : Bool
  remoteSrc : Bool
  phy       : Phy
  key       : List Byte
  v         : Nat
  period    : Nat
  slotUs    : Nat
  guard     : Nat
  insertOff : Nat
  timeout   : Nat
  stsMin    : Nat
  fpTol     : Nat
  state     : SessionState := .configured
  t0        : Time := 0
  psdus     : List (Nat × List Byte) := []
  round     : Option Round := none
  /-- Rounds that wait for the remote intervals, oldest first. -/
  waiting   : List Round := []
  stopping  : Bool := false
  deletion  : Option OpenReq := none
  deriving DecidableEq, Repr

/-- The listen schedule (R446). -/
structure Listen where
  channel : Nat
  code    : Nat
  stsCfg  : Nat
  window  : Nat
  period  : Nat
  pattern : List Byte
  mask    : List Byte
  deriving DecidableEq, Repr

/-- A calibration in progress (R420): the channel, and the state to which it returns. -/
structure RadioCal where
  channel : Nat
  back    : Nat
  deriving DecidableEq, Repr

/-- The access radio, beside its registers. -/
structure UwbState where
  /-- Activities that wait for their commit instants. -/
  acts     : List RadioAct := []
  live     : Option RadioLive := none
  /-- Frames whose first paths are sought (R430), oldest first. -/
  heard    : List (RadioAct × RadioFrame) := []
  /-- Frames discarded outside their windows (R429). -/
  outside  : Nat := 0
  air      : List OnAir := []
  cal      : Option RadioCal := none
  /-- A calibration asked for: its channel and its requests. -/
  calAsk   : Option Nat := none
  calReqs  : List OpenReq := []
  calDueAt : Time := 0
  /-- Die temperature at the last calibration of channel 5 and of channel 9. -/
  calTemp  : Vector Int 2 := Vector.replicate 2 0
  /-- The PSDU buffers of UWB_PSDU. -/
  buffers  : Vector (List Byte) 4 := Vector.replicate 4 []
  /-- The two copies of the regulatory store (R435). -/
  store    : Vector (List Byte) 2 := Vector.replicate 2 []
  /-- Transmit and receive delays in marks, of channel 5 and of channel 9 (R424). -/
  delays   : Vector (Nat × Nat) 2 := Vector.replicate 2 (0, 0)
  /-- Sessions in the order of their creation. -/
  sessions : List Session := []
  listen   : Option Listen := none
  /-- When the next window of the listen schedule opens, once a first one has (R446). -/
  nextWindow : Option Time := none
  /-- Pins: COEX_REQ, COEX_PRI, the level of COEX_GNT, and UWB_TRSW. -/
  coexReq  : Bool := false
  coexPri  : Bool := false
  gntPin   : Bool := false
  trsw     : Bool := false
  deriving DecidableEq, Repr

/-- An entry of a receive FIFO, with its marks (R456); `own` marks a byte of the LIN frame in progress. -/
structure RxEntry where
  data : Nat
  pe   : Bool := false
  fe   : Bool := false
  brk  : Bool := false
  chk  : Bool := false
  own  : Bool := false
  deriving DecidableEq, Repr

/-- Where a LIN frame stands (R468, R469). -/
inductive LinPhase where
  /-- The header is being sent, or its identifier is awaited. -/
  | header
  | subscribe
  /-- The response is due, or is being sent. -/
  | publish
  deriving DecidableEq, Repr

/-- A LIN frame in progress. -/
structure LinFrame where
  phase : LinPhase := .header
  pid   : Nat := 0
  len   : Nat := 0
  enh   : Bool := false
  /-- Data bytes received, or sent. -/
  bytes : List Nat := []
  /-- The divisor of the frame's bit time in 1/16 (R453, R468), when the break began, and when the identifier's stop bit ended
  (R469, R470). -/
  div   : Nat := 0x2DC7
  began : Time := 0
  pidAt : Time := 0
  deriving DecidableEq, Repr

/-- A UART, beside its registers. -/
structure UartState where
  rx     : List RxEntry := []
  tx     : List Nat := []
  /-- Characters that go before the transmit FIFO: check bytes, a LIN header or response. -/
  ahead  : List Nat := []
  /-- The character in the transmit shifter. -/
  shift  : Option Nat := none
  /-- A read of UART_STATUS was the last access (R11, R457). -/
  seq    : Bool := false
  /-- The divisors in use by the receiver and the transmitter, in 1/16 (R454). -/
  divRx  : Nat := 0x2DC7
  divTx  : Nat := 0x2DC7
  /-- The start edge of the character in the shifter, of the break being sent, or of the last character sent; and that of the last
  character received (R461, R465). -/
  txAt   : Option Time := none
  rxAt   : Option Time := none
  /-- The break is on the line (R461). -/
  brk    : Bool := false
  /-- The first character after a rising edge of UART_CARD.rst is awaited (R464). -/
  ts     : Bool := false
  /-- Consecutive receptions signalled as errors, and repetitions of the character in the shifter (R466). -/
  rxBad  : Nat := 0
  txRep  : Nat := 0
  lin    : Option LinFrame := none
  deriving DecidableEq, Repr

/-- A check-value unit, beside its registers: the configuration taken at the start (R475). -/
structure CvuState where
  sel    : Nat := 0
  mode   : Nat := 0
  ctxEn  : Bool := true
  inc    : Bool := false
  again  : Bool := false
  /-- The UART bound, if any. -/
  port   : Option Nat := none
  pid    : Nat := 0
  len    : Nat := 1
  /-- Data of the present frame, then its check bytes. -/
  fed    : List RxEntry := []
  check  : List Nat := []
  bad    : Bool := false
  /-- The frame of an unbound unit is complete, and its result follows 4 CK_PER cycles after a time (R475). -/
  ready  : Bool := false
  readyAt : Time := 0
  /-- Bytes of finished CHECK_STRIP frames that wait for room in the receive FIFO (R476). -/
  out    : List RxEntry := []
  deriving DecidableEq, Repr

/-- A change of power mode that runs (R500): where it goes, the cause that MODE_CHANGE reports, and the SET_MODE request
that is answered at its end. -/
structure ModeMove where
  goal  : Nat
  cause : Nat
  req   : Option OpenReq
  deriving DecidableEq, Repr

/-- Supplies, resets and power modes, beside the power block's registers. -/
structure PwrState where
  move      : Option ModeMove := none
  /-- The request in the pending slot (R500): its mode and the request. -/
  slot      : Option (Nat × OpenReq) := none
  /-- The always-on domain is powered (R485); PWR_EN is high; the main-domain reset is held (R481). -/
  aon       : Bool := true
  powered   : Bool := true
  inReset   : Bool := false
  /-- SYS_RST_N is low. -/
  sysRst    : Bool := false
  /-- The boot in progress: the previous mode and the cause of its MODE_CHANGE event (R581). -/
  boot      : Option (Nat × Nat) := some (0, 5)
  /-- The mode from which the main domain will start next, for that event: DORMANT, PARKED, KEEP, or 0. -/
  downIn    : Nat := 0
  /-- The wake in progress is for a parked capture (R504), and a boot source that arrived during it (R502). -/
  capWake   : Bool := false
  bootAfter : Bool := false
  /-- The main domain is unpowered in DORMANT or PARKED and starts at a wake (R502). -/
  asleep    : Bool := false
  /-- The last stop of the main domain was an orderly shutdown, or DORMANT or PARKED: the reload adds no further second's
  drift (R392). -/
  orderly   : Bool := false
  /-- The keep store's copy of the UART registers (R503). -/
  keepUart  : List (Nat × Word) := []
  deriving DecidableEq, Repr

/-- An authentication operation whose verification runs (R523): the request it came with, none for the TAP, and a password,
or a scope word with r and s and the nonce that was valid. -/
structure AuthRun where
  req      : Option OpenReq
  response : Bool
  data     : List Byte
  nonce    : List Byte
  deriving DecidableEq, Repr

/-- The range of a FRZ_READ (R530): region, instance, next word and words left. -/
structure FrzRange where
  region : Nat := 0
  unit   : Nat := 0
  next   : Nat := 0
  left   : Nat := 0
  deriving DecidableEq, Repr

/-- The debug port (R521, R522, R530). -/
structure TapState where
  /-- The instruction selected; a disallowed one selects BYPASS. -/
  ir    : Nat := 0x01
  /-- What the last data scan shifted out, and the boundary cells preloaded. -/
  out   : Nat := 0
  cells : List Bool := []
  /-- Status and payload of the last AUTH operation. -/
  status  : Nat := 0
  payload : List Byte := []
  range : FrzRange := {}
  deriving DecidableEq, Repr

/-- Security state beside the security block's registers. -/
structure SecState where
  /-- The fuses: the lifecycle state that they hold (R514), the market lock (R436), vendor_debug_off (R524). -/
  fused      : Nat := 0
  marketFuse : Bool := false
  vendorOff  : Bool := false
  /-- The kernel key X then Y (R294), and the generation of each key type (R509). -/
  kernelKey  : Option (List Byte) := none
  kernelGen  : Nat := 0
  /-- The OSNMA key and Merkle root installed (R321). -/
  osnma      : Option (List Byte) := none
  osnmaGen   : Nat := 0
  /-- The export key (R343), and the session transport key (R441). -/
  exportKey  : Option (List Byte) := none
  exportGen  : Nat := 0
  transportKey : Option (List Byte) := none
  transportGen : Nat := 0
  /-- The debug password: its salt and the SHA-256 of salt and password (R509, R523). -/
  password   : Option (List Byte × BitVec 256) := none
  passwordGen : Nat := 0
  /-- The position key exists (R509). -/
  positionKey : Bool := false
  /-- The certificate that the host installed (R510), the one being received, and the retirement statement (R515). -/
  cert       : Option (List Byte) := none
  certStage  : List Byte := []
  statement  : Option (List Byte) := none
  /-- The stored minimum of sec_version (R511). -/
  secMin     : Nat := 0
  /-- PRES_STRAP is fitted. -/
  strapPin   : Bool := false
  /-- A LIFECYCLE request to PROVISIONED that awaits its end (R515, R576). -/
  provision  : Option OpenReq := none
  /-- The nonce outstanding (R523). -/
  nonce      : Option (List Byte) := none
  /-- Verifications that run, oldest first. -/
  auths      : List AuthRun := []
  /-- The stored seal setting: en and action (R521). -/
  sealEn     : Bool := false
  sealAction : Bool := false
  /-- FIELD has been entered: the LK fields are locked (R535). -/
  fielded    : Bool := false
  /-- The level that SEAL_OUT drives (R520), and the failure counter in the security area (R525). -/
  sealOut    : Bool := false
  mirror     : Nat := 0
  /-- A SEAL_BREAK that has not been sent: its cause and its RTC count (R520). -/
  sealDue    : Option (Nat × Nat) := none
  /-- The always-on domain lost power, and no boot has followed (R521, R525). -/
  aonLost    : Bool := false
  /-- The mode held before the freeze (R532). -/
  before     : Nat := 0
  tap        : TapState := {}
  deriving DecidableEq, Repr

/-- Firmware update (R564, R567): the image being staged, the FW_COMMIT in progress, the two slots, absent while they hold
the images of the factory, the slot that runs, and the slot that runs from the next main-domain reset. -/
structure FwState where
  stage  : List Byte := []
  commit : Option (List Byte × OpenReq) := none
  slots  : Vector (Option (List Byte)) 2 := Vector.replicate 2 none
  slot   : Nat := 0
  next   : Nat := 0
  deriving DecidableEq, Repr

/-- One MSI-X table entry, with its pending bit (R539). -/
structure MsixVec where
  addr   : Nat := 0
  data   : Nat := 0
  masked : Bool := true
  pend   : Bool := false
  /-- Messages sent on the vector since reset, modulo nothing: the model's own record of what left the endpoint. -/
  sent   : Nat := 0
  deriving DecidableEq, Repr

/-- The device's side of a request ring (R542 to R549). -/
structure ReqRing where
  /-- Requests posted by the host, as the last valid doorbell says (R544). -/
  posted   : Nat := 0
  /-- Requests consumed, modulo 2^16, and the byte offset reached (R542). -/
  taken    : Nat := 0
  offset   : Nat := 0
  /-- The expected seq (R549). -/
  expected : Nat := 0
  deriving DecidableEq, Repr

/-- The device's side of a response ring (R542 to R547). -/
structure RspRing where
  /-- Messages produced, modulo 2^16, and the byte offset reached (R542). -/
  prod   : Nat := 0
  offset : Nat := 0
  /-- Messages consumed by the host, modulo 2^16 (R544). -/
  cons   : Nat := 0
  /-- Byte offset and rounded length of each message not yet consumed, oldest first (R543). -/
  live   : List (Nat × Nat) := []
  /-- Events produced on the ring, with those dropped, modulo 2^16 (R547). -/
  evSeq  : Nat := 0
  /-- Responses that wait for room (R545). -/
  held   : List Msg := []
  deriving DecidableEq, Repr

/-- What is reported while the device is frozen, and leaves at the thaw (R531, R533): an event with its time, or a response
with its final flag and status. -/
inductive Held where
  | event (e : Event) (t : Time)
  | answer (r : OpenReq) (final : Bool) (status : Nat) (payload : List Byte)
  deriving DecidableEq, Repr

/-- How a request from the host completes (R528, R538, R553). -/
inductive Completion where
  | data (bytes : List Byte)
  | retry
  | abort
  | posted
  deriving DecidableEq, Repr

/-- The host link: endpoint, rings and SPI target. -/
structure HostState where
  atThaw     : List Held := []
  /-- The cause of a loss of the link during the freeze, which takes effect at the thaw (R528). -/
  lossAtThaw : Option Nat := none
  /-- The link is in L0 (R553), or the SPI target is in use. -/
  linkUp     : Bool := false
  /-- PERST_N is asserted (R553, R554). -/
  perst      : Bool := false
  /-- Power state D3hot (R536, R554). -/
  d3hot      : Bool := false
  /-- Command register: memory space and bus master enables (R553, R539). -/
  memEn      : Bool := false
  busMaster  : Bool := false
  /-- MSI-X enable and function mask (R539). -/
  msixEn     : Bool := false
  funcMask   : Bool := false
  /-- HOST_SEL as sampled at the last main-domain reset: 1 selects SPI (R555). -/
  spi        : Bool := false
  vecs       : Vector MsixVec 32 := Vector.replicate 32 {}
  /-- For vectors 1 to 3, by class A, B, C: a moderation interval runs, and a write was made inside it (R540). -/
  modRun     : Vector Bool 3 := Vector.replicate 3 false
  modPend    : Vector Bool 3 := Vector.replicate 3 false
  /-- When vectors 1 to 3 last sent a message that began an interval (R540). -/
  modAt      : Vector Time 3 := Vector.replicate 3 0
  reqs       : Vector ReqRing 4 := Vector.replicate 4 {}
  rsps       : Vector RspRing 4 := Vector.replicate 4 {}
  /-- Counts initialisations of the rings and losses of the link: a response belongs to the count it was taken under. -/
  epoch      : Nat := 0
  /-- The count under which the deferred request being run was taken; none outside such a run. -/
  runAs      : Option Nat := none
  /-- Ring initialisation in progress (R550). -/
  initRun    : Bool := false
  /-- Place in the rotation of seven among classes A, B and C (R551). -/
  turn       : Nat := 0
  /-- Events numbered so far on vector 0, written or lost (R541). -/
  evNumber   : Nat := 0
  /-- The event records of the event page, the newest 64 at their places k mod 64 (R541). -/
  records    : Vector (List Byte) 64 := Vector.replicate 64 []
  /-- The last 256 events, oldest first (R578). -/
  log        : List LogEntry := []
  /-- The sixteen counters of R579. -/
  counters   : Vector Nat 16 := Vector.replicate 16 0
  /-- Requests that wait for the end of a mode transition, oldest first (R498, R561). -/
  deferred   : List Deferred := []
  /-- How the last request from the host completed (R528, R538). -/
  completion : Completion := .data []
  /-- The bytes that the SPI target returned in the last transaction (R556). -/
  spiOut     : List Byte := []
  deriving DecidableEq, Repr

/-- The whole state of the block. -/
structure State where
  /-- Every register of the spec's tables, by address (Registers.lean), in the canonical sparse form: addresses strictly
  rising, no entry at its reset value. -/
  regs    : List (Nat × Word)
  fab     : FabState
  stw     : StwState
  gran    : GranState
  fe      : FeState
  lanes   : Vector LaneState 12
  thr     : ThrState
  clk     : ClkState
  shf     : ShfState
  dsp     : DspState
  nav     : NavState
  snap    : SnapState
  ltu     : LtuState
  net     : NetState
  uwb     : UwbState
  uarts   : Vector UartState 8
  cvus    : Vector CvuState 16
  pwr     : PwrState
  sec     : SecState
  fw      : FwState
  host    : HostState
  /-- The model's own: the number of free values taken so far (log entry 3). -/
  free    : Nat
  /-- The commands that wait, first in, first out. -/
  pending : List Instr
  deriving DecidableEq, Repr

/-- The machine right after reset. -/
def State.reset : State where
  regs := []
  fab := {}
  stw := {}
  gran := {}
  fe := {}
  lanes := Vector.replicate 12 {}
  thr := {}
  clk := {}
  shf := {}
  dsp := {}
  nav := {}
  snap := {}
  ltu := {}
  net := {}
  uwb := {}
  uarts := Vector.replicate 8 {}
  cvus := Vector.replicate 16 {}
  pwr := {}
  sec := {}
  fw := {}
  host := {}
  free := 0
  pending := []

end Sys2Proof.Machine
end

