-- ==== Sys2Proof/Machine/Ops.lean ====
section
/-! DEFINITION. The operations that every unit shares: registers and their fields (R11), the bale (R110 to R112), the
event log and event records (R541), MSI-X vectors (R539, R540), and messages on the response rings (R542 to R548). -/

namespace Sys2Proof.Machine

/-- The outcome type of every meaning. -/
abbrev Result := Host.Outcome State Fault Refusal

/-- The register word at an address. -/
def State.word (s : State) (a : Nat) : Word := sparseGet regReset s.regs a

/-- The state with the register word at an address replaced. -/
def State.setWord (s : State) (a : Nat) (v : Word) : State := { s with regs := sparseSet regReset s.regs a v }

/-- A register word with the field at lo of the given width replaced. -/
def insertField (w : Word) (lo width v : Nat) : Word :=
  BitVec.ofNat 32 (w.toNat - bits w.toNat lo width * 2 ^ lo + v % 2 ^ width * 2 ^ lo)

/-- The value of a field. -/
def State.get (s : State) (f : Field) : Nat := bits (s.word f.addr).toNat f.lo f.width

/-- The state with a field replaced. -/
def State.put (s : State) (f : Field) (v : Nat) : State :=
  s.setWord f.addr (insertField (s.word f.addr) f.lo f.width v)

/-- A one-bit field read as a Boolean. -/
def State.is (s : State) (f : Field) : Bool := s.get f == 1

/-- The state with a one-bit field set. -/
def State.flag (s : State) (f : Field) : State := s.put f 1

/-- The state with a counter raised by n; it holds at its largest value. -/
def State.bumpBy (s : State) (f : Field) (n : Nat) : State :=
  s.put f (if s.get f + n < 2 ^ f.width then s.get f + n else 2 ^ f.width - 1)

/-- The state with a counter raised by one; it holds at its largest value. -/
def State.bump (s : State) (f : Field) : State := s.bumpBy f 1

/-- The signed value of a field (R9). -/
def State.getInt (s : State) (f : Field) : Int := signed f.width (s.get f)

/-- The state with a field set to the two's complement pattern of an integer. -/
def State.putInt (s : State) (f : Field) (v : Int) : State := s.put f (unsigned f.width v)

/-- The state where a condition holds, otherwise unchanged. -/
def State.when (s : State) (c : Bool) (f : State → State) : State := if c then f s else s

/-- A fold of an operation over a list. -/
def State.each {α : Type} (s : State) (l : List α) (f : State → α → State) : State := l.foldl f s

/-- One field of a register written under its access code (R11): the value that the field holds afterwards. `locked`
is the locking condition of an LK field. -/
def codeField (a : Access) (locked : Bool) (old new : Nat) : Nat := match a with
  | .rw => new
  | .ro => old
  | .wo => 0
  | .w1c => old - (old &&& new)
  | .w1s => old ||| new
  | .sq => old
  | .lk => if locked then old else new

/-- A register word written under the access codes of its fields (R11); reserved bits stay as they are (R13). -/
def codeWrite (locked : Bool) : List FieldSpec → Word → Word → Word
  | [], old, _ => old
  | f :: fs, old, new =>
    codeWrite locked fs
      (insertField old f.lo f.width
        (codeField f.access locked (bits old.toNat f.lo f.width) (bits new.toNat f.lo f.width))) new

/-- A free value: the next one that the spec leaves undefined (log entry 3). -/
def State.freeVal (s : State) : Nat := Config.freeValue s.free

/-- The state after a free value has been taken. -/
def State.nextFree (s : State) : State := { s with free := s.free + 1 }

/-- The main domain is powered, out of reset and not frozen (R481, R528): it takes events and executes. -/
def State.mainLive (s : State) : Bool := s.pwr.powered && !s.pwr.inReset && !s.is SEC_STATE.frozen

/-- An event of the main domain: nothing changes while the domain is unpowered, in reset or frozen (R481, R528). -/
def whileLive (s : State) (f : State → Result) : Result := if s.mainLive then f s else .next s

/-- An event of the clock root, which runs through a freeze (R76, R528): nothing changes while the main domain is unpowered
or in reset. -/
def whilePowered (s : State) (f : State → Result) : Result := if s.pwr.powered && !s.pwr.inReset then f s else .next s

def State.modFab (s : State) (f : FabState → FabState) : State := { s with fab := f s.fab }
def State.modStw (s : State) (f : StwState → StwState) : State := { s with stw := f s.stw }
def State.modGran (s : State) (f : GranState → GranState) : State := { s with gran := f s.gran }
def State.modFe (s : State) (f : FeState → FeState) : State := { s with fe := f s.fe }
def State.modSnap (s : State) (f : SnapState → SnapState) : State := { s with snap := f s.snap }
def State.lane (s : State) (l : Nat) : LaneState := vget {} s.lanes l
def State.modLane (s : State) (l : Nat) (f : LaneState → LaneState) : State := { s with lanes := vmod f s.lanes l }
def State.modClk (s : State) (f : ClkState → ClkState) : State := { s with clk := f s.clk }
def State.modThr (s : State) (f : ThrState → ThrState) : State := { s with thr := f s.thr }
def State.modHost (s : State) (f : HostState → HostState) : State := { s with host := f s.host }

/-! ### The bale -/

/-- What an unlisted word of the bale reads as: zero with valid check bits. -/
def baleDefault (_ : Nat) : BitVec 39 := 0

/-- The bale word at a word address, through its SECDED code (R110, R112). -/
def State.baleRead (s : State) (w : Nat) : EccRead := eccLoad 32 (sparseGet baleDefault s.gran.bale w).toNat

/-- The bale word after a write of 32 bits. -/
def State.baleWrite (s : State) (w v : Nat) : State :=
  s.modGran fun g => { g with bale := sparseSet baleDefault g.bale w (BitVec.ofNat 39 (eccStore 32 v)) }

/-- Bytes written from a byte address that is a multiple of four; the bytes of the last word beyond them keep their
values. -/
def State.baleBytes (s : State) (addr : Nat) : List Byte → State
  | b0 :: b1 :: b2 :: b3 :: bs => (s.baleWrite (addr / 4) (leVal [b0, b1, b2, b3])).baleBytes (addr + 4) bs
  | [] => s
  | bs => s.baleWrite (addr / 4) (leVal bs + (s.baleRead (addr / 4)).data / 256 ^ bs.length * 256 ^ bs.length)

/-- n bytes read from a byte address of the bale that is a multiple of four, word by word. -/
def State.baleGet (s : State) : Nat → Nat → List Byte
  | _, 0 => []
  | w, n + 1 => le 4 (s.baleRead w).data ++ s.baleGet (w + 1) n

/-! ### Interrupt vectors -/

/-- One occurrence of an enabled cause of a vector: its message leaves, or its pending bit is set (R539, R540). With SPI
the table is inert (R557). Without a link nothing leaves. -/
def State.sendVector (s : State) (v : Nat) : State :=
  if s.host.spi || !s.host.linkUp then s
  else s.modHost fun h => { h with vecs := vmod (fun x =>
    if x.masked || h.funcMask || !h.busMaster || !h.msixEn then { x with pend := true } else { x with sent := x.sent + 1 }) h.vecs v }

/-- A cause of HL_IRQ_CAUSE is set, and its vector signalled while HL_IRQ_EN enables it (R539). -/
def State.cause (s : State) (bitNo v : Nat) : State :=
  let s := s.flag ⟨HL_IRQ_CAUSE, bitNo, 1⟩
  if s.is ⟨HL_IRQ_EN, bitNo, 1⟩ then s.sendVector v else s

/-- The counts of a bale read: a corrected error in ce_count, an uncorrectable one in ue_count (R112), and the cause
bale_err (R539). -/
def State.baleCount (s : State) (r : EccRead) : State :=
  if r.syn.corrected then (s.bump BALE_COLL.ce_count).cause 6 4
  else if r.syn.bad then (s.bump BALE_COLL.ue_count).cause 6 4
  else s

/-- A write of the response ring of class A, B or C, numbered 0 to 2, is signalled under the moderation of R540. -/
def State.signalRing (s : State) (c : Nat) : State :=
  let s := s.flag ⟨HL_IRQ_CAUSE, c + 2, 1⟩
  if !s.is ⟨HL_IRQ_EN, c + 2, 1⟩ then s
  else if vget false s.host.modRun c then s.modHost fun h => { h with modPend := vmod (fun _ => true) h.modPend c }
  else
    let s := s.sendVector (c + 1)
    if s.get HL_IRQ_MOD.interval_us == 0 then s
    else s.modHost fun h => { h with modRun := vmod (fun _ => true) h.modRun c, modAt := vmod (fun _ => s.ltu.now) h.modAt c }

/-- A host write of a bale word met a write of the firmware's port in the same cycle: it is discarded, and recorded (R111). -/
def State.baleClash (s : State) (w : Nat) : State :=
  (((s.flag BALE_COLL.collision).bump BALE_COLL_COUNT.count).put BALE_COLL_ADDR.address (4 * w)).cause 6 4

/-! ### Messages -/

/-- The number of a class in headers and doorbells (R546). -/
def clsNum : Cls → Nat
  | .H => 0
  | .A => 1
  | .B => 2
  | .C => 3

/-- The class of a number. -/
def clsOf : Nat → Cls
  | 0 => .H
  | 1 => .A
  | 2 => .B
  | _ => .C

/-- Ring IDs of the request and response rings of a class (R542). -/
def reqRingId (c : Cls) : Nat := 2 * clsNum c + 1
def rspRingId (c : Cls) : Nat := 2 * clsNum c + 2

/-- First byte, size in bytes and depth of a ring, by its ID (R542). -/
def ringBase : Nat → Nat
  | 1 => 0x0400
  | 2 => 0x2400
  | 3 => 0x4400
  | 4 => 0x5C00
  | 5 => 0x8400
  | 6 => 0x9400
  | 7 => 0xC400
  | _ => 0xD400
def ringSize : Nat → Nat
  | 1 => 0x2000
  | 2 => 0x2000
  | 3 => 0x1800
  | 4 => 0x2800
  | 5 => 0x1000
  | 6 => 0x3000
  | 7 => 0x1000
  | _ => 0x2C00
def ringDepth : Nat → Nat
  | 1 => 8
  | 2 => 8
  | 7 => 64
  | 8 => 64
  | _ => 32

/-- A length rounded up to a multiple of 16 bytes (R543). -/
def roundUp16 (n : Nat) : Nat := (n + 15) / 16 * 16

/-- The bytes of a message on a ring: header, payload and CRC-32C trailer over the context word (R546). -/
def msgBytes (ring : Nat) (c : Cls) (m : Msg) : List Byte :=
  let body := le 2 (20 + m.payload.length) ++ le 1 (clsNum c) ++
    le 1 (b2n (!m.event) + 2 * b2n m.event + 4 * b2n m.final) ++ le 2 m.seq ++ le 2 m.op ++ le 1 m.status ++
    le 3 0 ++ le 4 m.tag ++ m.payload
  body ++ le 4 (crc32c (le 4 (ring * 2 ^ 24 + m.seq % 2 ^ 16) ++ body))

/-- Whether bytes from a place on are free of the messages not yet consumed (R543). -/
def ringFree (live : List (Nat × Nat)) (start len : Nat) : Bool :=
  live.all fun m => decide (start + len ≤ m.1) || decide (m.1 + m.2 ≤ start)

/-- Where a producer at offset p places a message of a rounded length: at p, or at 0 behind a wrap marker; none when the
ring is full for it (R543). -/
def ringPlace (size depth : Nat) (live : List (Nat × Nat)) (p len : Nat) : Option Nat :=
  if depth ≤ live.length then none
  else
    let start := if p + len ≤ size then p else 0
    if ringFree live start len && (start == p || ringFree live p 1) then some start else none

/-- The position word of a ring's descriptor is written: message count and byte offset (R542). -/
def State.descriptor (s : State) (ring count offset : Nat) : State :=
  s.baleWrite (4 * (ring - 1) + 3) (count % 2 ^ 16 + offset % 2 ^ 16 * 2 ^ 16)

/-- A message is written on the response ring of its class, when it has room (R543, R545). -/
def State.produce (s : State) (c : Cls) (m : Msg) : Option State :=
  let ring := rspRingId c
  let r := vget {} s.host.rsps (clsNum c)
  let len := roundUp16 (20 + m.payload.length)
  match ringPlace (ringSize ring) (ringDepth ring) r.live r.offset len with
  | none => none
  | some start =>
    let s := if start == r.offset then s else s.baleBytes (ringBase ring + r.offset) (le 2 0)
    let s := s.baleBytes (ringBase ring + start) (msgBytes ring c m)
    let off := if start + len == ringSize ring then 0 else start + len
    let s := s.modHost fun h => { h with rsps := vmod (fun r => { r with
      prod := (r.prod + 1) % 65536, offset := off, live := r.live ++ [(start, len)] }) h.rsps (clsNum c) }
    let s := s.descriptor ring (r.prod + 1) off
    some (match c with
      | .H => s.cause 0 0
      | .A => s.signalRing 0
      | .B => s.signalRing 1
      | .C => s.signalRing 2)

/-- Whether the rings carry messages: the link is up and the rings are initialised (R550, R554). -/
def State.ringsOpen (s : State) : Bool := s.host.linkUp && !s.is HL_STATUS.init_needed

/-- A response: written on its ring, or held until there is room (R545). It is discarded when the rings were
initialised, or the link lost, since its request was taken (R550, R554). With a fault outside the guarantee it reports
INTERNAL_FAULT (R36). During a freeze it waits for the thaw (R531). -/
def State.respond (s : State) (r : OpenReq) (final : Bool) (status : Nat) (payload : List Byte) : State :=
  if s.is SEC_STATE.frozen then s.modHost fun h => { h with atThaw := h.atThaw ++ [.answer r final status payload] }
  else if !s.ringsOpen || r.epoch != s.host.epoch then s
  else
    let m : Msg := if s.stw.beyond
      then ⟨false, final, r.seq, r.op, 0x60, r.tag, le 2 2 ++ le 2 0⟩
      else ⟨false, final, r.seq, r.op, status, r.tag, payload⟩
    let hold : State := s.modHost fun h => { h with rsps := vmod (fun x => { x with held := x.held ++ [m] }) h.rsps (clsNum r.cls) }
    if (vget {} s.host.rsps (clsNum r.cls)).held.isEmpty then (s.produce r.cls m).getD hold else hold

/-- Held responses of a class written while there is room (R545); at most as many as the number given. -/
def State.releaseHeld (s : State) (c : Cls) : Nat → State
  | 0 => s
  | n + 1 =>
    match (vget {} s.host.rsps (clsNum c)).held with
    | [] => s
    | m :: rest =>
      match s.produce c m with
      | none => s
      | some s' => (s'.modHost fun h => { h with rsps := vmod (fun x => { x with held := rest }) h.rsps (clsNum c) }).releaseHeld c n

/-- A counter of R579 raised by n; it holds at 0xFFFF_FFFF. -/
def State.tally (s : State) (i n : Nat) : State :=
  s.modHost fun h => { h with counters := vmod (fun x => min (x + n) 0xFFFFFFFF) h.counters i }

/-! ### Events -/

/-- How an event travels (R581). -/
inductive Carrier where
  | vector0
  | ring (c : Cls)
  | logOnly
  deriving DecidableEq, Repr

/-- The carrier of an event code (R581). -/
def carrierOf (code : Nat) : Carrier :=
  if code == 0x0483 || code == 0x0484 || code == 0x0485 || code == 0x0881 || code == 0x098C then .vector0
  else if code == 0x098E then .logOnly
  else if code == 0x0280 || code == 0x0281 || code == 0x0486 then .ring .B
  else if code == 0x098F then .ring .C
  else .ring .A

/-- An event record of 32 bytes (R541). -/
def recordBytes (code number : Nat) (t : Time) (data : List Byte) : List Byte :=
  le 2 code ++ le 2 0 ++ le 4 number ++ le 8 (tSec t) ++ le 4 (tNs t) ++ le 4 (tFrac t) ++ le 8 (leVal data)

/-- The event log with one more entry; it keeps the last 256 (R578). -/
def State.logEvent (s : State) (e : Event) (number : Option Nat) (t : Time) : State :=
  s.modHost fun h => { h with log := (h.log ++ [LogEntry.mk e number t]).drop (h.log.length + 1 - 256) }

/-- An event sent on vector 0: numbered, and written as a record unless 64 are unread (R541). -/
def State.emitVector (s : State) (e : Event) (t : Time) : State :=
  let n := s.host.evNumber
  let s := (s.logEvent e (some n) t).modHost fun h => { h with evNumber := (n + 1) % 2 ^ 32 }
  if (s.get HL_EVT_PROD.prod + 65536 - s.get HL_EVT_CONS.cons) % 65536 == 64
  then ((s.bump HL_EVT_LOST.lost).tally 15 1).cause 7 4
  else
    let k := s.get HL_EVT_PROD.prod
    let s := s.modHost fun h => { h with records := vmod (fun _ => recordBytes e.code n t e.data) h.records (k % 64) }
    (s.put HL_EVT_PROD.prod (k + 1)).cause 1 0

/-- An event sent on a response ring: it spends its number, and is dropped and counted when the ring has no room
(R545, R547). Before the rings are initialised, and without a link, it only enters the log (R553, R581). -/
def State.emitRing (s : State) (c : Cls) (e : Event) (t : Time) : State :=
  let s := s.logEvent e none t
  if !s.ringsOpen then s
  else
    let r := vget {} s.host.rsps (clsNum c)
    let m : Msg := ⟨true, false, r.evSeq, e.code, if e.code == 0x0583 then 0x30 else 0, 0, e.data⟩
    let s := s.modHost fun h => { h with rsps := vmod (fun x => { x with evSeq := (x.evSeq + 1) % 65536 }) h.rsps (clsNum c) }
    if r.held.isEmpty then (s.produce c m).getD (s.tally (clsNum c) 1) else s.tally (clsNum c) 1

/-- An event of R581 at a local time; during a freeze it waits for the thaw (R531, R533). -/
def State.emitAt (s : State) (t : Time) (e : Event) : State :=
  if s.is SEC_STATE.frozen then s.modHost fun h => { h with atThaw := h.atThaw ++ [.event e t] }
  else match carrierOf e.code with
    | .vector0 => s.emitVector e t
    | .ring c => s.emitRing c e t
    | .logOnly => s.logEvent e none t

/-- An event of R581 at the present local time. -/
def State.emit (s : State) (e : Event) : State := s.emitAt s.ltu.now e

/-- The capture that runs, if any (R329). -/
def State.captureRun (s : State) : Option CaptureRun := match s.snap.capture with
  | some c => c.run
  | none => none

/-- The end of a capture that has started: t_start + length, or the event that cut it short (R329, R338). -/
def Capture.endTime (c : Capture) (r : CaptureRun) : Time := r.cut.getD (r.tStart + c.lengthMs * 1000000 * nanosecond)

/-- A capture runs: it has started and has not ended (R123, R133). -/
def State.capturing (s : State) : Bool := match s.snap.capture with
  | some c => match c.run with
    | some r => r.ends.isNone && decide (s.ltu.now < c.endTime r)
    | none => false
  | none => false

/-- The run of the capture changed. -/
def State.modCapture (s : State) (f : CaptureRun → CaptureRun) : State :=
  s.modSnap fun n => { n with capture := n.capture.map fun c => { c with run := c.run.map f } }

end Sys2Proof.Machine
end

