-- ==== Sys2Proof/Machine/Events.lean ====
section
/-! DEFINITION. The events of R581: code, and payload or data. -/

namespace Sys2Proof.Machine

def evModeChange (mode previous cause : Nat) : Event := ⟨0x0180, le 1 mode ++ le 1 previous ++ le 1 cause ++ le 1 0⟩
def evPosReport (report : List Byte) : Event := ⟨0x0280, report⟩
def evSpoofSuspect (mask : Nat) (t : Time) : Event := ⟨0x0281, le 1 mask ++ le 3 0 ++ timeBytes t⟩
def evChannel (kind signal sat channel : Nat) : Event :=
  ⟨0x0282, le 1 kind ++ le 1 signal ++ le 1 sat ++ le 1 0 ++ le 2 channel ++ le 2 0⟩
def evDeclaredRejected (separation : Nat) : Event := ⟨0x0283, le 4 separation⟩
def evSnapDone (snapId flags entry : Nat) : Event := ⟨0x0380, le 4 snapId ++ le 2 flags ++ le 1 entry ++ le 1 0⟩
def evSrcChange (source previous : Nat) (t : Time) : Event := ⟨0x0480, le 1 source ++ le 1 previous ++ le 2 0 ++ timeBytes t⟩
def evStep (deltaSec : Int) (deltaNs : Nat) (t : Time) : Event :=
  ⟨0x0481, le 4 (unsigned 32 deltaSec) ++ le 4 deltaNs ++ timeBytes t⟩
def evDiscontinuity (cause : Nat) (t : Time) : Event := ⟨0x0482, le 1 cause ++ le 3 0 ++ timeBytes t⟩
def evTrigger (trigger late skipped : Nat) : Event := ⟨0x0483, le 1 trigger ++ le 1 late ++ le 1 skipped ++ le 5 0⟩
def evCapture (channel rising coarse : Nat) : Event := ⟨0x0484, le 1 channel ++ le 1 rising ++ le 1 coarse ++ le 5 0⟩
def evTp (tp flags seq : Nat) : Event := ⟨0x0485, le 1 tp ++ le 1 0 ++ le 2 flags ++ le 4 seq⟩
def evTpStatus (record : List Byte) : Event := ⟨0x0486, record⟩
def evAsymSuspect (step mpdChange : Int) : Event := ⟨0x0580, le 4 (unsigned 32 step) ++ le 4 (unsigned 32 mpdChange)⟩
def evAsymMeasured (asym : Int) : Event := ⟨0x0581, le 4 (unsigned 32 asym)⟩
def evJumpRefused (offset : Int) : Event := ⟨0x0582, le 4 (unsigned 32 offset)⟩
/-- Sent with status NO_RESOURCE. -/
def evForeignMaster (identity port : Nat) : Event := ⟨0x0583, le 8 identity ++ le 2 port ++ le 2 0⟩
def evRangeResult (result : List Byte) : Event := ⟨0x0680, result⟩
def evWakeFrame (record : List Byte) : Event := ⟨0x0681, record⟩
def evRegStoreError : Event := ⟨0x0682, []⟩
def evDelegViolation (initiator address : Nat) : Event := ⟨0x0780, le 1 initiator ++ le 3 0 ++ le 4 address⟩
def evLifecycle (lifecycle previous : Nat) : Event := ⟨0x0880, le 1 lifecycle ++ le 1 previous ++ le 2 0⟩
def evSealBreak (cause rtc : Nat) : Event := ⟨0x0881, le 1 cause ++ le 1 0 ++ le 6 rtc⟩
def evDebugState (debug scope : Nat) : Event := ⟨0x0882, le 1 debug ++ le 1 scope ++ le 2 0⟩
def evPllUnlock (cause : Nat) (error : Int) : Event := ⟨0x0980, le 1 cause ++ le 1 0 ++ le 2 (unsigned 16 error)⟩
def evPllLock (cause : Nat) (error : Int) : Event := ⟨0x0981, le 1 cause ++ le 1 0 ++ le 2 (unsigned 16 error)⟩
def evPhaseWalk (cause : Nat) (error : Int) : Event := ⟨0x0982, le 1 cause ++ le 1 0 ++ le 2 (unsigned 16 error)⟩
def evRefJump (cause : Nat) (error : Int) : Event := ⟨0x0983, le 1 cause ++ le 1 0 ++ le 2 (unsigned 16 error)⟩
def evOverload (source entered : Nat) : Event := ⟨0x0984, le 1 source ++ le 1 entered ++ le 2 0⟩
def evHstateEcc (bay cause word : Nat) : Event := ⟨0x0985, le 1 bay ++ le 1 cause ++ le 2 0 ++ le 4 word⟩
def evBayEcc (bay cause word : Nat) : Event := ⟨0x0986, le 1 bay ++ le 1 cause ++ le 2 0 ++ le 4 word⟩
def evAuditFault (bay word : Nat) : Event := ⟨0x0987, le 1 bay ++ le 3 0 ++ le 4 word⟩
def evBlankStuck : Event := ⟨0x0988, []⟩
def evAntOk (current : Nat) : Event := ⟨0x0989, le 2 current ++ le 2 0⟩
def evAntOpen (current : Nat) : Event := ⟨0x098A, le 2 current ++ le 2 0⟩
def evAntShort (current : Nat) : Event := ⟨0x098B, le 2 current ++ le 2 0⟩
def evPairFailover (pair cause : Nat) : Event := ⟨0x098C, le 1 pair ++ le 1 cause ++ le 6 0⟩
def evDspFault (core vector pc channels : Nat) : Event :=
  ⟨0x098D, le 1 core ++ le 1 vector ++ le 2 pc ++ le 2 channels ++ le 2 0⟩
def evLinkLost (cause : Nat) : Event := ⟨0x098E, le 1 cause ++ le 7 0⟩
def evSatExcluded (system sat separation : Nat) : Event := ⟨0x098F, le 1 system ++ le 1 sat ++ le 2 0 ++ le 4 separation⟩
def evKernelFault (core vector pc kernelId : Nat) : Event :=
  ⟨0x0A80, le 1 core ++ le 1 vector ++ le 2 pc ++ le 4 kernelId⟩
def evKernelEvent (core kernelId value : Nat) : Event := ⟨0x0A81, le 1 core ++ le 3 0 ++ le 4 kernelId ++ le 4 value⟩

end Sys2Proof.Machine
end

