-- ==== Sys2Proof/Machine/Granary.lean ====
section
/-! DEFINITION. The granary: words and their code, owners, hand-overs, interleaved groups, the mirrored pair, error
correction, and the background audit. -/

namespace Sys2Proof.Machine

/-- Words in a bay (R86), and in a segment of the audit (R105). -/
def bayWords : Nat := 131072
def segWords : Nat := 4096

/-- What an unlisted granary word holds: zero with valid check bits for its index (R89). -/
def granDefault (k : Nat) : Word48 := granStore 0 (k % bayWords)

/-- The stored bits of word i of a bay. -/
def State.granRaw (s : State) (bay i : Nat) : Word48 := sparseGet granDefault s.gran.words (bay * bayWords + i)

/-- The stored bits of word i of a bay replaced. -/
def State.granPut (s : State) (bay i : Nat) (w : Word48) : State :=
  s.modGran fun g => { g with words := sparseSet granDefault g.words (bay * bayWords + i) w }

/-- Every word of a bay zero with valid check bits (R47, R89). -/
def State.bayClear (s : State) (bay : Nat) : State :=
  s.modGran fun g => { g with words := sparseKeep (fun a => !decide (a / bayWords = bay)) g.words }

/-- Where an initiator's granary address leads (R88). -/
inductive GranAddr where
  | single (bay word : Nat)
  | group (k word : Nat)
  | none
  deriving DecidableEq, Repr

/-- The decoding of a 26-bit granary address (R88). A single-bay address with a bit set in [24:23] names no word. -/
def granAddr (a : Nat) : GranAddr :=
  if bit a 25 then .group (bits a 21 4) (bits a 0 21)
  else if bits a 23 2 == 0 then .single (bits a 17 6) (bits a 0 17)
  else .none

/-- Bays in a group of the size code (GRP_CFG.size). -/
def groupSize (code : Nat) : Nat := 2 ^ (code + 1)

/-- The bays of group k, as first bay and number (R96). -/
def State.groupHas (s : State) (k bay : Nat) : Bool :=
  decide (s.get (GRP_CFG.base_bay k) ≤ bay) && decide (bay < s.get (GRP_CFG.base_bay k) + groupSize (s.get (GRP_CFG.size k)))

/-- The enabled group, or the one that is being left, to which a bay belongs. -/
def State.groupOf (s : State) (bay : Nat) : Option Nat :=
  firstThat (fun k => (s.is (GRP_CFG.enable k) && s.groupHas k bay) || (vget [] s.gran.leaving k).contains bay) (List.range 16)

/-- The slot of an initiator among a group's members. -/
def State.memberSlot (s : State) (k initiator : Nat) : Option Nat :=
  if initiator == 0 then none
  else if s.get (GRP_MEMBERS.member0 k) == initiator then some 0
  else if s.get (GRP_MEMBERS.member1 k) == initiator then some 1
  else if s.get (GRP_MEMBERS.member2 k) == initiator then some 2
  else if s.get (GRP_MEMBERS.member3 k) == initiator then some 3
  else none

/-- A member of group k may write it (R98). -/
def State.memberWrites (s : State) (k initiator : Nat) : Bool :=
  let w := bit (s.get (GRP_MEMBERS.write_en k))
  initiator != 0 &&
    ((s.get (GRP_MEMBERS.member0 k) == initiator && w 0) || (s.get (GRP_MEMBERS.member1 k) == initiator && w 1) ||
      (s.get (GRP_MEMBERS.member2 k) == initiator && w 2) || (s.get (GRP_MEMBERS.member3 k) == initiator && w 3))

/-- A hand-over of the bay is running: neither owner is granted (R92). -/
def State.handoverRuns (s : State) (bay : Nat) : Bool := match vget .none s.gran.handover bay with
  | .running _ _ => true
  | _ => false

/-- The owner to which a bay passes: that of a hand-over in progress, otherwise next_id (R92). -/
def State.nextOwner (s : State) (bay : Nat) : Nat := match vget .none s.gran.handover bay with
  | .waiting _ o => o
  | .running _ o => o
  | .none => s.get (BAY_OWNER.next_id bay)

/-- The bay and word that a granary address grants an initiator, none where the access is refused (R91, R92, R96, R98,
R100). -/
def State.granGrant (s : State) (initiator a : Nat) (write : Bool) : Option (Nat × Nat) :=
  match granAddr a with
  | .none => none
  | .single bay w =>
    if bay == 60 then if initiator == 0x01 || initiator == 0x03 then some (60, w) else none
    else if bay == 61 then none
    else if s.is (BAY_OWNER.in_group bay) then none
    else if s.handoverRuns bay then none
    else if initiator != 0 && s.get (BAY_OWNER.owner_id bay) == initiator then some (bay, w)
    else none
  | .group k w =>
    let g := groupSize (s.get (GRP_CFG.size k))
    if !s.is (GRP_CFG.enable k) || decide (g * bayWords ≤ w) then none
    else if (s.memberSlot k initiator).isNone || (write && !s.memberWrites k initiator) then none
    else some (s.get (GRP_CFG.base_bay k) + w % g, w / g)

/-- A refused access is counted, recorded and reported (R46). -/
def State.refuse (s : State) (initiator address : Nat) : State :=
  let s := ((((s.bump FAB_VIOL_COUNT.count).flag FAB_STATUS.violation_seen).put FAB_STATUS.last_viol_id initiator).put
    FAB_VIOL_ADDR.address address).emit (evDelegViolation initiator address)
  if initiator == 0x20 then s.cause 8 29 else s

/-- What a granary read returns: the data, and error status. -/
structure GranRead where
  data  : Nat
  error : Bool
  syn   : Syndrome
  deriving DecidableEq, Repr

/-- The cause byte of BAY_ECC for a syndrome (R103). -/
def eccCause : Syndrome → Nat
  | .even => 1
  | .indexColumn => 2
  | _ => 3

/-- The place of a word that the audit has borrowed: whether an owner's access to it reaches the shadow (R106), and the
word of BAY_63 that stands for it. -/
def State.shadowOf (s : State) (bay w : Nat) : Option Nat :=
  match s.gran.audit.borrow with
  | some b =>
    if b.bay == bay && w / segWords == b.seg && bay != 63 && decide (2 ≤ s.get (BAY_STATUS.phase bay))
    then some (s.gran.audit.slot * segWords + w % segWords) else none
  | none => none

/-- A read of a word outside the mirrored pair, with its counts and reports (R102, R103); the audit's shadow answers for
a borrowed word (R106). An error met there is counted, reported and rewritten under the bay and word addressed: DEDUCED, log
entry 66. -/
def State.bayRead (s : State) (initiator bay w : Nat) : GranRead × State :=
  let raw := match s.shadowOf bay w with
    | some i => s.granRaw 63 i
    | none => s.granRaw bay w
  let r := granLoad raw w
  if r.syn.corrected then
    (⟨r.data, false, r.syn⟩,
      (((s.bump (BAY_STATUS.ce_count bay)).flag GRAN_EVENT.ce).modGran fun g =>
        { g with rewrites := if g.rewrites.contains (bay, w) then g.rewrites else g.rewrites ++ [(bay, w)] }))
  else if r.syn.bad then
    let t := (((s.bump (BAY_STATUS.ue_count bay)).flag GRAN_EVENT.ue).put GRAN_ERR_ADDR.word w).put GRAN_ERR_ADDR.bay bay
    let t := (t.put GRAN_ERR_ADDR.initiator initiator).put GRAN_ERR_ADDR.hstate 0
    (⟨r.data, true, r.syn⟩,
      (t.emit (evBayEcc bay (eccCause r.syn) w)).when (s.get (BAY_OWNER.owner_id bay) == 0x20) (·.cause 8 29))
  else (⟨r.data, false, r.syn⟩, s)

/-- A repair write waits for the word (R101). -/
def State.addRepair (s : State) (r : Repair) : State :=
  s.modGran fun g => { g with repairs := g.repairs.filter (fun x => x.word != r.word) ++ [r] }

/-- A report of HSTATE_ECC (R100), with the most recent uncorrectable read recorded. -/
def State.hstate (s : State) (bay cause w : Nat) : State :=
  (s.flag GRAN_EVENT.hstate_ecc).emit (evHstateEcc bay cause w)

def State.hstateAddr (s : State) (initiator bay w : Nat) : State :=
  (((s.put GRAN_ERR_ADDR.word w).put GRAN_ERR_ADDR.bay bay).put GRAN_ERR_ADDR.initiator initiator).flag GRAN_ERR_ADDR.hstate

/-- A read of the mirrored pair (R100). Where both copies are correctable and the corrected values differ, the BAY_60
copy stands, as for two clean ones. HSTATE_ECC names BAY_60 where both copies are bad and BAY_61 for a mismatch, and a double
error is the one fault beyond R33 that puts INTERNAL_FAULT into every response (R36): DEDUCED, log entry 66. -/
def State.mirrorRead (s : State) (initiator w : Nat) : GranRead × State :=
  let r0 := granLoad (s.granRaw 60 w) w
  let r1 := granLoad (s.granRaw 61 w) w
  let s := s.when r0.syn.corrected (fun s => (s.bump (BAY_STATUS.ce_count 60)).flag GRAN_EVENT.ce)
  let s := s.when r1.syn.corrected (fun s => (s.bump (BAY_STATUS.ce_count 61)).flag GRAN_EVENT.ce)
  if r0.syn.bad && r1.syn.bad then
    (⟨2 ^ 40 - 1, true, r0.syn⟩, (((s.hstateAddr initiator 60 w).hstate 60 3 w).modStw fun t => { t with beyond := true }))
  else if r0.syn.bad then
    (⟨r1.data, false, r1.syn⟩, (((s.hstateAddr initiator 60 w).hstate 60 1 w).addRepair ⟨w, r1.data, true, r1.syn.corrected⟩))
  else if r1.syn.bad then
    (⟨r0.data, false, r0.syn⟩, (((s.hstateAddr initiator 61 w).hstate 61 1 w).addRepair ⟨w, r0.data, r0.syn.corrected, true⟩))
  else if r0.data != r1.data then
    (⟨r0.data, false, r0.syn⟩, ((s.hstate 61 2 w).addRepair ⟨w, r0.data, r0.syn.corrected, true⟩))
  else if r0.syn.corrected || r1.syn.corrected then
    (⟨r0.data, false, r0.syn⟩, s.addRepair ⟨w, r0.data, r0.syn.corrected, r1.syn.corrected⟩)
  else (⟨r0.data, false, .clean⟩, s)

/-- A bay is powered: in WATCH BAY_0 to BAY_55 are off, their words lost (R496). -/
def State.bayOn (s : State) (bay : Nat) : Bool := decide (56 ≤ bay) || s.get PWR_STATUS.mode != 4

/-- A read of a granted word. What an unpowered bay reads as is free. -/
def State.granReadAt (s : State) (initiator bay w : Nat) : GranRead × State :=
  if bay == 60 then s.mirrorRead initiator w
  else if s.bayOn bay then s.bayRead initiator bay w
  else (⟨s.freeVal % 2 ^ 40, false, .clean⟩, s.nextFree)

/-- The audit releases its segment: the redirection ends (R106). -/
def State.auditRelease (s : State) (bay : Nat) : State :=
  ((((s.put (BAY_STATUS.borrowed bay) 0).put (BAY_STATUS.phase bay) 0).put (BAY_STATUS.dirty bay) 0).put AUD_STATUS.active 0).modGran
    fun g => { g with audit := { g.audit with borrow := none, stopping := false, stopped := false } }

/-- A visit of the audit ends; after the last segment of BAY_63 a pass is complete and the shadow slot alternates
(R107). -/
def State.auditVisited (s : State) : State :=
  if s.get AUD_STATUS.bay == 63 && s.get AUD_STATUS.segment == 31 then
    (s.bump AUD_STATUS.passes).modGran fun g => { g with audit := { g.audit with slot := 1 - g.audit.slot } }
  else s

/-- A borrow ends early in its copy phase (R106). -/
def State.auditAbandon (s : State) (bay : Nat) : State := ((s.bump AUD_COUNT.discards).auditRelease bay).auditVisited

/-- A test stops and write-back begins (R106). -/
def State.auditStopTest (s : State) (bay : Nat) : State :=
  ((s.bump AUD_COUNT.discards).put (BAY_STATUS.phase bay) 3).modGran fun g => { g with audit := { g.audit with stopped := true } }

/-- An owner's write to a borrowed word, by the phase (R106): where the word is stored, and what the borrow does. -/
def State.borrowedWrite (s : State) (bay w : Nat) (v : Word48) : State :=
  let sh := s.gran.audit.slot * segWords + w % segWords
  if s.get (BAY_STATUS.phase bay) == 1 then ((s.granPut bay w v).flag (BAY_STATUS.dirty bay)).auditAbandon bay
  else if s.get (BAY_STATUS.phase bay) == 2 then ((s.granPut 63 sh v).flag (BAY_STATUS.dirty bay)).auditStopTest bay
  else (s.granPut 63 sh v).granPut bay w v

/-- Whether the audit holds the segment of a word. -/
def State.wordBorrowed (s : State) (bay w : Nat) : Bool :=
  match s.gran.audit.borrow with
  | some b => b.bay == bay && w / segWords == b.seg && bay != 63
  | none => false

/-- A write of a granted word: stored with valid check bits; a waiting rewrite or repair of the word is cancelled
(R87, R100 to R102, R106). -/
def State.granWriteAt (s : State) (bay w data : Nat) : State :=
  let v := granStore data w
  if bay == 60 then
    ((s.granPut 60 w v).granPut 61 w v).modGran fun g => { g with repairs := g.repairs.filter fun x => x.word != w }
  else
    let s := s.modGran fun g => { g with rewrites := g.rewrites.filter fun x => x != (bay, w) }
    if s.wordBorrowed bay w then s.borrowedWrite bay w v else s.granPut bay w v

/-- One granted or refused word access to the granary: data, error, refused (R46, R91). -/
def State.granAccess (s : State) (initiator addr reported : Nat) (write : Option Nat) : Nat × Bool × Bool × State :=
  match s.granGrant initiator addr write.isSome, write with
  | none, _ => (2 ^ 40 - 1, false, true, s.refuse initiator reported)
  | some (bay, w), some v => (0, false, false, s.granWriteAt bay w v)
  | some (bay, w), none => let r := s.granReadAt initiator bay w; (r.1.data, r.1.error, false, r.2)

/-- n words read one after the other by an initiator from a granary address on: their data, whether each had an error or was
refused, and the state after (R46, R91, R102, R103). -/
def State.granReads (s : State) (initiator addr : Nat) : Nat → List (Nat × Bool) × State
  | 0 => ([], s)
  | n + 1 =>
    let r := s.granAccess initiator addr addr none
    let q := r.2.2.2.granReads initiator (addr + 1) n
    ((r.1, r.2.1 || r.2.2.1) :: q.1, q.2)

/-- Where a word is stored that owners read: in its bay, or in the audit's shadow (R106). -/
def State.wordPlace (s : State) (bay w : Nat) : Nat × Nat := match s.shadowOf bay w with
  | some i => (63, i)
  | none => (bay, w)

/-- CE_REWRITE (R102): the corrected word is written back where it was read, unless a write came first. -/
def execCeRewrite (bay : Fin 64) (word : Fin 131072) (s : State) : Result := whileLive s fun s =>
  if s.gran.rewrites.contains (bay.val, word.val) then
    let p := s.wordPlace bay word
    let r := granLoad (s.granRaw p.1 p.2) word
    let s := if r.syn.corrected then s.granPut p.1 p.2 (granStore r.data word) else s
    .next (s.modGran fun g => { g with rewrites := g.rewrites.filter fun x => x != (bay.val, word.val) })
  else .next s

/-- MIRROR_REPAIR (R101): the waiting repair of the word is written. -/
def execMirrorRepair (word : Fin 131072) (s : State) : Result := whileLive s fun s =>
  match firstThat (fun (r : Repair) => r.word == word.val) s.gran.repairs with
  | none => .next s
  | some r =>
    let s := if r.to60 then s.granPut 60 r.word (granStore r.data r.word) else s
    let s := if r.to61 then s.granPut 61 r.word (granStore r.data r.word) else s
    .next (s.modGran fun g => { g with repairs := g.repairs.filter fun x => x.word != r.word })

/-- BALE_COLL_CLEAR (R111): the collision bit and its count are cleared. -/
def execBaleCollClear (s : State) : Result := whileLive s fun s =>
  .next ((s.put BALE_COLL.collision 0).put BALE_COLL_COUNT.count 0)

/-- CLEAR_COUNTS (GRAN_EVENT.clear_counts): every ce_count and ue_count of the bays, and AUD_COUNT. The counts of BALE_COLL
stay, whose collision bit alone has a clearing of its own (R111): DEDUCED, log entry 66. -/
def execClearCounts (s : State) : Result := whileLive s fun s =>
  let s := s.each (List.range 64) fun s n => (s.put (BAY_STATUS.ce_count n) 0).put (BAY_STATUS.ue_count n) 0
  .next ((s.put AUD_COUNT.faults 0).put AUD_COUNT.discards 0)

/-! ### Class-H state (R39, R40) -/

/-- The word of the mirrored pair that holds word i of a pair's class-H state. -/
def hstateAt (pair i : Nat) : Nat := Config.hstateBase pair % (bayWords - 2047) + i % 2048

/-- A pair's class-H state has changed, and the word that holds the change is written (R39). -/
def State.hstateSave (s : State) (pair key : Nat) : State :=
  s.granWriteAt 60 (hstateAt pair (Config.hstateWord key)) (Config.hstateData key)

/-- A class-H command commits, in one write to the mirrored pair, with the change of state that it made (R39, R40). -/
def State.commitH (s : State) (key : Nat) : State :=
  (s.hstateSave s.stw.controlOn key).granWriteAt 60 (hstateAt s.stw.controlOn (Config.journalWord key)) (Config.commitRecord key)

/-- The take-over burst (R26, R39): the surviving pair, given by its ID, reads the hung pair's class-H state word by word. -/
def State.takeOverBurst (s : State) (initiator pair : Nat) : State :=
  s.each (List.range 2048) fun s i => (s.mirrorRead initiator (hstateAt pair i)).2

/-! ### Arbitration at a target -/

def arbDefault (_ : Nat) : FabArb := {}

/-- The grants left to a class in the present round (R23). -/
def FabArb.left (a : FabArb) : Cls → Nat
  | .H => 1
  | .A => a.leftA
  | .B => a.leftB
  | .C => a.leftC

/-- A round of the weighted rotation begins anew (R23). -/
def State.refill (s : State) (a : FabArb) : FabArb :=
  { a with leftA := s.get FAB_WEIGHT.weight_a, leftB := s.get FAB_WEIGHT.weight_b, leftC := s.get FAB_WEIGHT.weight_c }

/-- A grant noted: the initiator, and the turn that it took. -/
def FabArb.took (a : FabArb) (initiator : Nat) : Cls → FabArb
  | .H => { a with lastH := initiator }
  | .A => { a with lastA := initiator, leftA := a.leftA - 1 }
  | .B => { a with lastB := initiator, leftB := a.leftB - 1 }
  | .C => { a with lastC := initiator, leftC := a.leftC - 1 }

/-- The last initiator granted in a class. -/
def FabArb.last (a : FabArb) : Cls → Nat
  | .H => a.lastH
  | .A => a.lastA
  | .B => a.lastB
  | .C => a.lastC

/-- The number at the crossbar of the bay that a granary address names, the mirrored pair as BAY_60. -/
def State.bayTarget (s : State) (a : Nat) : Nat := match granAddr a with
  | .single bay _ => if bay == 61 then 60 else bay
  | .group k x => s.get (GRP_CFG.base_bay k) + x % groupSize (s.get (GRP_CFG.size k))
  | .none => 127

/-- A request granted at a target with no other waiting (R22, R23). -/
def State.granted (s : State) (t initiator : Nat) (c : Cls) : State :=
  let a := sparseGet arbDefault s.fab.arb t
  let a := if a.left c == 0 then s.refill a else a
  s.modFab fun f => { f with arb := sparseSet arbDefault f.arb t (a.took initiator c) }

/-! ### Hand-over -/

/-- Snapshots that lie in one of n bays from a first one on are held there no longer (R335). -/
def State.dropSnaps (s : State) (first n : Nat) : State :=
  s.modSnap fun x => { x with
    inBays := x.inBays.filter fun b => decide (b.firstBay + b.nBays ≤ first) || decide (first + n ≤ b.firstBay) }

/-- An owner that is the host or an open core (R93). -/
def outsideOwner (id : Nat) : Bool := id == 0x20 || (decide (0x1C ≤ id) && decide (id ≤ 0x1F))

/-- Whether a hand-over of the bay clears it (R93). -/
def State.clears (s : State) (bay : Nat) : Bool :=
  s.is (BAY_OWNER.clear bay) ||
    (outsideOwner (s.get (BAY_OWNER.owner_id bay)) != outsideOwner (s.get (BAY_OWNER.next_id bay)))

/-- The audit holds a segment of the bay. -/
def State.auditHolds (s : State) (bay : Nat) : Bool := match s.gran.audit.borrow with
  | some b => b.bay == bay
  | none => false

/-- A write of BAY_OWNER.go (R92, R94). -/
def State.bayGo (s : State) (bay : Nat) : State :=
  let next := s.get (BAY_OWNER.next_id bay)
  if bay == 60 || bay == 61 || bay == 63 || s.is (BAY_OWNER.in_group bay) || s.is (BAY_OWNER.busy bay) ||
    next == 0x0D || next == 0x3E || next == 0x3F then s.flag GRAN_EVENT.owner_ignored
  else
    let h : Handover := if s.auditHolds bay then .waiting (s.clears bay) next else .running (s.clears bay) next
    (s.flag (BAY_OWNER.busy bay)).modGran fun g => { g with handover := vmod (fun _ => h) g.handover bay }

/-- A hand-over of the bay to an owner, as the steward cores start it: next_id, clear, go. -/
def State.handTo (s : State) (bay owner : Nat) (clear : Bool) : State :=
  ((s.put (BAY_OWNER.next_id bay) owner).put (BAY_OWNER.clear bay) (b2n clear)).bayGo bay

/-- A bay's return to the firmware falls due (R48): it starts at once, or after the hand-over in progress (R612). -/
def State.returnBay (s : State) (bay : Nat) : State :=
  if s.is (BAY_OWNER.busy bay) then s.modGran fun g => { g with deferred := vmod (fun _ => true) g.deferred bay }
  else s.handTo bay 0x01 false

/-- BAY_GO (R92, R94). -/
def execBayGo (bay : Fin 64) (s : State) : Result := whileLive s fun s => .next (s.bayGo bay)

/-- HANDOVER_START (R94): a hand-over that waited for the audit begins once the segment is released. -/
def execHandoverStart (bay : Fin 64) (s : State) : Result := whileLive s fun s =>
  match vget .none s.gran.handover bay with
  | .waiting c o =>
    if s.auditHolds bay then .next s
    else .next (s.modGran fun g => { g with handover := vmod (fun _ => .running c o) g.handover bay })
  | _ => .next s

/-- The end of a running hand-over (R92): the bay is clear if it is cleared, and the owner changes. -/
def State.handoverEnds (s : State) (bay : Nat) : State :=
  match vget .none s.gran.handover bay with
  | .running c o =>
    let s := if c then s.bayClear bay else s
    let s := ((s.put (BAY_OWNER.owner_id bay) o).put (BAY_OWNER.busy bay) 0).flag GRAN_EVENT.handover_done
    let s := s.modGran fun g => { g with handover := vmod (fun _ => .none) g.handover bay
                                         rewrites := if c then g.rewrites.filter (fun x => x.1 != bay) else g.rewrites }
    if o == 0x08 || o == 0x09 then s else s.dropSnaps bay 1
  | _ => s

/-- DEFERRED_RETURN (R612): the return that waited starts once no hand-over of the bay runs. -/
def execDeferredReturn (bay : Fin 64) (s : State) : Result := whileLive s fun s =>
  if vget false s.gran.deferred bay && !s.is (BAY_OWNER.busy bay.val) then
    .next ((s.modGran fun g => { g with deferred := vmod (fun _ => false) g.deferred bay }).handTo bay 0x01 false)
  else .next s

/-- LENDABLE_CLEAR (R95, R106): lendable is written 0, which ends a borrow in its copy phase at once, stops a test, and
leaves a write-back alone. -/
def State.lendEnds (s : State) (bay : Nat) : State :=
  if !s.auditHolds bay || bay == 63 then s
  else if s.get (BAY_STATUS.phase bay) == 1 then s.auditAbandon bay
  else if s.get (BAY_STATUS.phase bay) == 2 then s.auditStopTest bay
  else s
def execLendableClear (bay : Fin 64) (s : State) : Result := whileLive s fun s =>
  .next ((s.put (BAY_OWNER.lendable bay) 0).lendEnds bay)

/-! ### Interleaved groups -/

/-- A member ID that R97 allows in a slot; 0 leaves it empty. -/
def memberOk (id : Nat) : Bool :=
  id == 0 || (decide (1 ≤ id) && decide (id ≤ 0x0C)) || (decide (0x10 ≤ id) && decide (id ≤ 0x1B))

/-- Every member of a GRP_MEMBERS value is allowed (R97, R99). -/
def membersOk (v : Nat) : Bool :=
  memberOk (bits v 0 6) && memberOk (bits v 6 6) && memberOk (bits v 12 6) && memberOk (bits v 18 6)

/-- A bay may become a member of group k (R97). -/
def State.bayJoins (s : State) (k bay : Nat) : Bool :=
  bay != 60 && bay != 61 && bay != 63 && !s.is (BAY_OWNER.busy bay) &&
    (!s.is (BAY_OWNER.in_group bay) || s.groupOf bay == some k) &&
    (s.get (BAY_OWNER.owner_id bay) == 0 || s.get (BAY_OWNER.owner_id bay) == 1 || s.get (BAY_OWNER.owner_id bay) == 3)

/-- The bays of group k. -/
def State.groupBays (s : State) (k : Nat) : List Nat :=
  (List.range (groupSize (s.get (GRP_CFG.size k)))).map (s.get (GRP_CFG.base_bay k) + ·)

/-- Group k may be formed (R97). -/
def State.groupForms (s : State) (k : Nat) : Bool :=
  s.get (GRP_CFG.base_bay k) % groupSize (s.get (GRP_CFG.size k)) == 0 && (s.groupBays k).all (s.bayJoins k) &&
    membersOk (s.word (GRP_MEMBERS k)).toNat

/-- GROUP_ENABLE (R97). -/
def execGroupEnable (group : Fin 16) (s : State) : Result := whileLive s fun s =>
  let k := group.val
  if s.is (GRP_CFG.enable k) then .next s
  else if s.groupForms k then
    let bays := s.groupBays k
    let s := (s.flag (GRP_CFG.enable k)).put (GRP_CFG.refused k) 0
    let s := s.modGran fun g => { g with leaving := vmod (fun l => l.filter fun n => !bays.contains n) g.leaving k }
    .next (s.each (s.groupBays k) fun s n => s.flag (BAY_OWNER.in_group n))
  else .next ((s.flag (GRP_CFG.refused k)).flag GRAN_EVENT.group_error)

/-- A write of GRP_MEMBERS (R99): while the group is enabled it takes effect at once, or is ignored whole. -/
def State.membersWrite (s : State) (k : Nat) (value : Word) : State :=
  let v := codeWrite false (regFields (GRP_MEMBERS k)) (s.word (GRP_MEMBERS k)) value
  if !s.is (GRP_CFG.enable k) then s.setWord (GRP_MEMBERS k) v
  else if membersOk value.toNat then (s.setWord (GRP_MEMBERS k) v).put (GRP_CFG.refused k) 0
  else (s.flag (GRP_CFG.refused k)).flag GRAN_EVENT.group_error

/-- GROUP_MEMBERS_WRITE (R99). -/
def execGroupMembersWrite (group : Fin 16) (value : Word) (s : State) : Result := whileLive s fun s => .next (s.membersWrite group value)

/-- GROUP_DISABLE (R99): no new grants to the group; its members leave later. -/
def execGroupDisable (group : Fin 16) (s : State) : Result := whileLive s fun s =>
  if s.is (GRP_CFG.enable group.val) then
    .next ((s.put (GRP_CFG.enable group) 0).modGran fun g =>
      { g with leaving := vmod (fun l => l ++ s.groupBays group) g.leaving group })
  else .next s

/-- GROUP_LEAVE (R99): the member bays leave, once the audit holds no segment of one. -/
def execGroupLeave (group : Fin 16) (s : State) : Result := whileLive s fun s =>
  let bays := vget [] s.gran.leaving group
  if bays.any s.auditHolds then .next s
  else
    let s := s.each bays fun s n => s.put (BAY_OWNER.in_group n) 0
    .next (s.modGran fun g => { g with leaving := vmod (fun _ => []) g.leaving group })

/-! ### The audit -/

/-- What the audit does with a segment (R105). -/
inductive Treatment where
  | borrow
  | scrub
  | mirror
  | inPlace
  | skip
  deriving DecidableEq, Repr

/-- The audit's treatment of a segment of a bay (R95, R105). A member of a group is treated as one, also where 0x00 owns it:
DEDUCED, log entry 66. -/
def State.treatment (s : State) (bay seg : Nat) : Treatment :=
  if bay == 60 || bay == 61 then .mirror
  else if !s.bayOn bay then .skip
  else if bay == 63 then if seg == s.gran.audit.slot then .skip else .inPlace
  else if s.is (BAY_OWNER.busy bay) || outsideOwner (s.get (BAY_OWNER.owner_id bay)) then .skip
  else match s.groupOf bay with
    | some k => if s.is (GRP_CFG.lendable k) then .borrow else .scrub
    | none =>
      if s.get (BAY_OWNER.owner_id bay) == 0 then .skip
      else if s.is (BAY_OWNER.lendable bay) then .borrow else .scrub

/-- Every word of a segment read by the audit, single-bit errors to be rewritten (R105). -/
def State.scrub (s : State) (bay seg : Nat) : State :=
  s.each ((List.range segWords).map (seg * segWords + ·)) fun s w => (s.granReadAt 0x0D bay w).2

/-- AUDIT_SEGMENT_START (R105): the audit visits the next segment. BAY_61 is scrubbed with BAY_60, whose reads take both
copies (R100). -/
def execAuditSegmentStart (s : State) : Result := whileLive s fun s =>
  if !s.is AUD_CFG.enable || s.is AUD_STATUS.active || !s.is GRAN_STATUS.init_done then .next s
  else
    let p := if s.gran.audit.fresh then 0 else (s.get AUD_STATUS.bay * 32 + s.get AUD_STATUS.segment + 1) % 2048
    let bay := p / 32
    let seg := p % 32
    let s := (s.put AUD_STATUS.bay bay).put AUD_STATUS.segment seg
    let s := s.modGran fun g => { g with audit := { g.audit with fresh := false } }
    match s.treatment bay seg with
    | .skip => .next s.auditVisited
    | .mirror => .next (if bay == 60 then (s.scrub 60 seg).auditVisited else s.auditVisited)
    | .scrub => .next (s.scrub bay seg).auditVisited
    | .inPlace =>
      .next (((s.flag AUD_STATUS.active).put (BAY_STATUS.phase 63) 2).modGran fun g =>
        { g with audit := { g.audit with borrow := some ⟨63, seg⟩ } })
    | .borrow =>
      .next ((((s.flag AUD_STATUS.active).flag (BAY_STATUS.borrowed bay)).put (BAY_STATUS.phase bay) 1).modGran fun g =>
        { g with audit := { g.audit with borrow := some ⟨bay, seg⟩ } })

/-- AUDIT_COPY_DONE (R106): every word of the segment has been read, its errors counted as for any read (R102, R103), its
stored bits stand in the shadow slot, and the test begins. -/
def execAuditCopyDone (s : State) : Result := whileLive s fun s =>
  match s.gran.audit.borrow with
  | some b =>
    if s.get (BAY_STATUS.phase b.bay) == 1 then
      let dst := 63 * bayWords + s.gran.audit.slot * segWords
      let src := b.bay * bayWords + b.seg * segWords
      let s := s.scrub b.bay b.seg
      .next ((s.put (BAY_STATUS.phase b.bay) 2).modGran fun g =>
        { g with words := sparseFill granDefault (fun a => sparseGet granDefault g.words (a - dst + src)) g.words dst segWords })
    else .next s
  | none => .next s

/-- A fault that the march found is recorded and reported (R108). -/
def State.auditFault (s : State) (bay w : Nat) : State :=
  ((((((s.put AUD_FAULT_ADDR.word w).put AUD_FAULT_ADDR.bay bay).flag AUD_FAULT_ADDR.valid).bump AUD_COUNT.faults).flag
    (BAY_STATUS.audit_fault bay)).flag GRAN_EVENT.audit_fault).emit (evAuditFault bay w)

/-- AUDIT_TEST_DONE (R106, R108): the march ends with every stored bit of the segment zero; each faulty word, named by
its place in the segment, is reported; write-back begins. A segment of BAY_63 tested in place is done. Of a test that was
stopped, the faults found until then are reported. -/
def execAuditTestDone (faulty : List (Fin 4096)) (s : State) : Result := whileLive s fun s =>
  match s.gran.audit.borrow with
  | some b =>
    if s.get (BAY_STATUS.phase b.bay) == 2 then
      let s := s.each faulty fun s w => s.auditFault b.bay (b.seg * segWords + w.val)
      let s := s.modGran fun g => { g with
        words := sparseFill granDefault (fun _ => 0) g.words (b.bay * bayWords + b.seg * segWords) segWords }
      if b.bay == 63 then .next (s.auditRelease 63).auditVisited
      else .next (s.put (BAY_STATUS.phase b.bay) 3)
    else if s.gran.audit.stopped then
      let s := s.each faulty fun s w => s.auditFault b.bay (b.seg * segWords + w.val)
      .next (s.modGran fun g => { g with audit := { g.audit with stopped := false } })
    else .next s
  | none => .next s

/-- AUDIT_WRITEBACK_DONE (R106): data and check bits of the shadow are copied back unchanged, and the segment is
released. -/
def execAuditWritebackDone (s : State) : Result := whileLive s fun s =>
  match s.gran.audit.borrow with
  | some b =>
    if s.get (BAY_STATUS.phase b.bay) == 3 && b.bay != 63 then
      let src := 63 * bayWords + s.gran.audit.slot * segWords
      let dst := b.bay * bayWords + b.seg * segWords
      let s := s.modGran fun g => { g with
        words := sparseFill granDefault (fun a => sparseGet granDefault g.words (a - dst + src)) g.words dst segWords }
      .next (s.auditRelease b.bay).auditVisited
    else .next s
  | none => .next s

/-- AUDIT_DISABLE (R105, AUD_CFG.enable): a borrowed segment finishes its write-back, then the audit stops. -/
def execAuditDisable (s : State) : Result := whileLive s fun s =>
  let s := s.put AUD_CFG.enable 0
  .next (s.modGran fun g => { g with audit := { g.audit with stopping := g.audit.borrow.isSome } })

end Sys2Proof.Machine
end

