-- ==== Sys2Proof/Machine/Requests.lean ====
section
/-! DEFINITION. What every request shares: the answers of R562, the checks of a payload (R560), the power-mode envelope
with promotion (R497 to R500, R561), the refusals of RETIRED (R516, R561), and chunked answers (R564). -/

namespace Sys2Proof.Machine

/-- The present power mode (R494), lifecycle state (R514) and debug state. -/
def State.mode (s : State) : Nat := s.get PWR_STATUS.mode
def State.lifecycle (s : State) : Nat := s.get SEC_STATE.lifecycle
def State.debugOpen (s : State) : Bool := s.get SEC_STATE.debug == 1
def State.frozen (s : State) : Bool := s.is SEC_STATE.frozen

def State.modPwr (s : State) (f : PwrState → PwrState) : State := { s with pwr := f s.pwr }
def State.modNav (s : State) (f : NavState → NavState) : State := { s with nav := f s.nav }
def State.modLtu (s : State) (f : LtuState → LtuState) : State := { s with ltu := f s.ltu }

/-- Blocking conditions (R552, R563). -/
def blkPfail : Nat := 1
def blkKernelRunning : Nat := 2
def blkSessions : Nat := 3
def blkLanes : Nat := 4
def blkChannels : Nat := 5
def blkDelegated : Nat := 6
def blkMode : Nat := 7
def blkLifecycle : Nat := 8
def blkOwned : Nat := 9
def blkNoKernel : Nat := 10
def blkKernelPresent : Nat := 11
def blkKernelState : Nat := 12
def blkRollback : Nat := 13
def blkLane : Nat := 14
def blkSinglePair : Nat := 15
def blkNoStore : Nat := 16
def blkNoOrbit : Nat := 17
def blkTimeUnc : Nat := 18
def blkNoMeasurement : Nat := 19

/-- The status and payload of a response (R562). -/
structure Answer where
  status  : Nat
  payload : List Byte
  deriving DecidableEq, Repr

def ansOk (p : List Byte) : Answer := ⟨0x00, p⟩
def ansLength (expected : Nat) : Answer := ⟨0x10, le 2 expected ++ le 2 0⟩
def ansArg (offset : Nat) : Answer := ⟨0x11, le 2 offset ++ le 2 0⟩
def ansPresence : Answer := ⟨0x21, []⟩
def ansLocked (remaining : Nat) : Answer := ⟨0x22, le 4 remaining⟩
def ansResource (limit inUse : Nat) : Answer := ⟨0x30, le 2 limit ++ le 2 inUse⟩
def ansBusy : Answer := ⟨0x31, []⟩
def ansCheck : Answer := ⟨0x40, []⟩
def ansSequence (expected : Nat) : Answer := ⟨0x41, le 4 expected⟩
def ansLate (cause : Nat) : Answer := ⟨0x50, le 1 cause ++ le 3 0⟩
def ansAborted (cause : Nat) : Answer := ⟨0x51, le 1 cause ++ le 3 0⟩
def ansFault (fault : Nat) : Answer := ⟨0x60, le 2 fault ++ le 2 0⟩

/-- REJECTED_STATE with its blocking condition (R552). -/
def State.ansState (s : State) (blocking : Nat) : Answer :=
  ⟨0x20, le 1 s.mode ++ le 1 s.lifecycle ++ le 1 blocking ++ le 1 0⟩

/-- A final response. -/
def State.answer (s : State) (q : OpenReq) (a : Answer) : State := s.respond q true a.status a.payload

/-- The response ACCEPTED, before a final one. -/
def State.accept (s : State) (q : OpenReq) : State := s.respond q false 0x01 []

/-- A final response to a request that is kept, if there is one. -/
def State.answerTo (s : State) (q : Option OpenReq) (a : Answer) : State := match q with
  | some q => s.answer q a
  | none => s

/-- The first fault of a list of checks. -/
def firstFault : List (Option Answer) → Option Answer
  | [] => none
  | some a :: _ => some a
  | none :: l => firstFault l

/-- The payload has one right length (R549 check 7). -/
def isLength (p : List Byte) (n : Nat) : Option Answer := if p.length = n then none else some (ansLength n)

/-- The payload has at least n bytes; no single length is right. -/
def hasLength (p : List Byte) (n : Nat) : Option Answer := if n ≤ p.length then none else some (ansLength 0)

/-- A condition on the field at an offset: BAD_ARG where it fails (R562). -/
def okArg (offset : Nat) (good : Bool) : Option Answer := if good then none else some (ansArg offset)

/-- A field named zero (R560). -/
def isZero (p : List Byte) (offset n : Nat) : Option Answer := okArg offset (fieldAt p offset n == 0)

/-- The nanoseconds of a time field are below 10^9 (R349, R560). -/
def okTime (p : List Byte) (offset : Nat) : Option Answer := okArg (offset + 8) (decide (fieldAt p (offset + 8) 4 < 1000000000))

/-- A request's class, opcode, and lowest power mode, 0 for "—" (R559, R561). -/
structure Kind where
  cls  : Cls
  op   : Nat
  mode : Nat
  deriving DecidableEq, Repr

/-- The request with what its responses carry. -/
def State.open (s : State) (k : Kind) (r : Req) : OpenReq := ⟨k.cls, r.seq, r.tag, k.op, s.host.runAs.getD s.host.epoch⟩

/-- A refusal of R499 is recorded. -/
def State.modeRefused (s : State) (target blocking : Nat) : State :=
  (((s.put PWR_REFUSE.target target).put PWR_REFUSE.blocking blocking).bump PWR_REFUSE.count).flag PWR_EVENT.refused

/-- Mode requests are refused: PFAIL_N is low (R499). A shutdown is one step of this model. -/
def State.powerFailing (s : State) : Bool := s.is PWR_STATUS.pfail

/-- A change of mode begins (R500). -/
def State.beginMove (s : State) (m : ModeMove) : State :=
  (s.flag PWR_STATUS.settling).modPwr fun p => { p with move := some m }

/-- Groups whose requests RETIRED answers: system, security, diagnostics (R561). -/
def retiredGroup (op : Nat) : Bool := op / 256 == 1 || op / 256 == 8 || op / 256 == 9

/-- A request that is valid in itself, in a device that may have to move to another mode first (R498, R561). -/
def State.enter (s : State) (k : Kind) (r : Req) (p : List Byte) (run : OpenReq → State → State) : State :=
  let q := s.open k r
  let d : Deferred := ⟨k.op, r.seq, r.tag, p, q.epoch⟩
  let wait (s : State) : State := s.modHost fun h => { h with deferred := h.deferred ++ [d] }
  if s.lifecycle == 4 && !retiredGroup k.op then s.answer q (s.ansState blkLifecycle)
  else if 4 < k.mode && s.pwr.move.isSome then wait s
  else if k.mode ≤ s.mode then run q s
  else if !s.is PWR_CFG.auto_promote then s.answer q (s.ansState blkMode)
  else if s.powerFailing then (s.modeRefused k.mode blkPfail).answer q (s.ansState blkPfail)
  else wait ((s.flag PWR_EVENT.promoted).beginMove ⟨k.mode, 1, none⟩)

/-- The firmware serves requests: the main domain runs, in WATCH or above, and is not frozen (R494, R496, R528). -/
def State.served (s : State) : Bool := s.mainLive && decide (4 ≤ s.mode) && decide (s.mode ≤ 7)

/-- The key by which a class-H command's journal entry is found again. -/
def OpenReq.key (q : OpenReq) : Nat := q.seq + q.tag * 2 ^ 16 + q.op * 2 ^ 48

/-- A request's effect; one of class H commits by a write to the mirrored pair (R40). -/
def State.effect (s : State) (k : Kind) (q : OpenReq) (run : OpenReq → State → State) : State :=
  if k.cls == .H then (run q s).commitH q.key else run q s

/-- A request: its own checks in order, then its mode, then its effect. -/
def State.serve (s : State) (k : Kind) (r : Req) (p : List Byte) (checks : List (Option Answer))
    (run : OpenReq → State → State) : State :=
  if !s.served then s
  else match firstFault checks with
    | some a => s.answer (s.open k r) a
    | none => s.enter k r p fun q s => s.effect k q run

/-- NO_RESOURCE whose numbers the spec does not give: free values (log entry 3). -/
def State.noRoom (s : State) (q : OpenReq) : State :=
  let a := s.freeVal
  let s := s.nextFree
  s.nextFree.answer q (ansResource a s.freeVal)

/-- Data sent in chunks of at most 1,000 bytes (R564); at most n of them. -/
def State.chunksFrom (s : State) (q : OpenReq) : Nat → Nat → List Byte → State
  | 0, off, l => s.respond q true 0 (le 4 off ++ l.take 1000)
  | n + 1, off, l =>
    if l.length ≤ 1000 then s.respond q true 0 (le 4 off ++ l)
    else (s.respond q false 0 (le 4 off ++ l.take 1000)).chunksFrom q n (off + 1000) (l.drop 1000)

def State.chunks (s : State) (q : OpenReq) (l : List Byte) : State := s.chunksFrom q (l.length / 1000) 0 l

/-- The i-th byte of a payload as a number. -/
def byteAt (p : List Byte) (i : Nat) : Nat := fieldAt p i 1

end Sys2Proof.Machine
end

