-- ==== Sys2Proof/Machine/LocalTime.lean ====
section
/-! DEFINITION. The local clock and its tick sources (R349 to R361), the time servo (R362 to R369), and the time relation
of the keep store (R392). -/

namespace Sys2Proof.Machine

/-! ### Records and registers -/

/-- A time record of registers (Registers of the local time unit). -/
def State.timeRec (s : State) (secLo secHi ns frac : Field) : Time :=
  mkTime (s.get secLo + s.get secHi * 2 ^ 32) (s.get ns) (s.get frac)
def State.putTimeRec (s : State) (secLo secHi ns frac : Field) (t : Time) : State :=
  (((s.put secLo (tSec t)).put secHi (tSec t / 2 ^ 32)).put ns (tNs t)).put frac (tFrac t)

/-- A signed difference added to a time; the clock has no value below zero. -/
def addTime (t : Time) (d : Int) : Time := ((t : Int) + d).toNat

/-- TIME_INC in units of local time (R350). -/
def State.timeInc (s : State) : Nat := s.get TIME_INC_INT.i * 2 ^ 32 + s.get TIME_INC_FRAC.f

/-- The nominal increment, and a value stored within 1,000 ppm of it (R351). -/
def nominalInc : Nat := 0x238E38E39
def limitInc (v : Nat) : Nat := clampNat (nominalInc - nominalInc / 1000) (nominalInc + nominalInc / 1000) v
def State.setInc (s : State) (v : Nat) : State :=
  let w := limitInc v
  (s.put TIME_INC_INT.i (w / 2 ^ 32)).put TIME_INC_FRAC.f w

/-! ### Ticks and markers -/

/-- The clock ticks from CK_FAB, or from REFCLK (R355). -/
def State.onFab (s : State) : Bool := s.get TIME_STATUS.tick_src == 0
def State.onRef (s : State) : Bool := s.get TIME_STATUS.tick_src == 1

/-- The increment of each tick of the present marker interval, the slew share among it (R351). -/
def State.incNow (s : State) : Nat := ((s.ltu.inc : Int) + s.ltu.slewNow / 375).toNat

/-- The increment of a REFCLK tick, and of an RTC tick (R355). -/
def State.incRef (s : State) : Nat := s.ltu.incLoss * 375 / 32
def State.incRtc (s : State) : Nat := s.get TIME_RTC_CAL.count * s.ltu.incLoss / 32768

/-- The increment of the present tick source. -/
def State.tickInc (s : State) : Nat := if s.onFab then s.incNow else if s.onRef then s.incRef else s.incRtc

/-- The length of the present marker interval. -/
def State.markLen (s : State) : Nat := (375 * (s.ltu.inc : Int) + s.ltu.slewNow).toNat

/-- The most that one marker interval may slew by (R353). -/
def State.slewCap (s : State) : Nat := 375 * (s.get TIME_CTRL.slew_max * s.timeInc / 1000000000)

/-- What an interval takes of a remaining offset. -/
def slewPart (cap : Nat) (rem : Int) : Int := clampInt (-(cap : Int)) cap rem

/-- TIME_SLEW reads the offset that remains; when none does, and no part waits to be written, the slew is done (R353, R409). -/
def State.showSlew (s : State) : State :=
  let s := s.putInt TIME_SLEW.offset (s.ltu.slewRem.tdiv 16777216)
  s.when (s.is TIME_STATUS.slewing && s.ltu.slewRem == 0 && s.net.parts == 0) fun s =>
    (s.put TIME_STATUS.slewing 0).flag TIME_EVENT.slew_done

/-- TIME_UNC at a time: it grows in holdover and in the RTC source, and never wraps (R363). -/
def State.uncNow (s : State) : Nat :=
  let rate := if s.get TIME_STATUS.source == 2 then max 10 s.ltu.growth
    else if s.get TIME_STATUS.source == 3 then s.get TIME_SRC_CFG.rtc_drift * 1000 else 0
  if s.ltu.uncBase == 0xFFFFFFFF then 0xFFFFFFFF
  else min 0xFFFFFFFF (s.ltu.uncBase + (s.ltu.now - s.ltu.uncAt) * rate / (10000000000 * nanosecond))
def State.showUnc (s : State) : State := s.put TIME_UNC.unc_ns s.uncNow

/-- TIME_UNC set by the servo. -/
def State.setUnc (s : State) (v : Nat) : State :=
  (s.put TIME_UNC.unc_ns (min v 0xFFFFFFFF)).modLtu fun u => { u with uncBase := min v 0xFFFFFFFF, uncAt := u.now }

/-! ### Marker intervals

The local time of markers and samples. An interval is 375 CK_FAB cycles and 3,000 converter samples; the sample with number
n is taken in the CK_FAB cycle n / 8, by sub-converter n % 8 (R56, R57, R115). -/

/-- The first instant of a grid t + n × period that is not before a time; period in units of local time. -/
def gridFrom (t period now : Nat) : Time := if now ≤ t then t else t + (now - t + period - 1) / period * period

/-- CK_FAB cycles in a marker interval, and converter samples (R56, R115). -/
def markCycles : Nat := 375
def markSamples : Nat := 3000

/-- The present marker is recorded where the clock's rate or scale is not as the last record says (R352). -/
def State.recordMark (s : State) : State :=
  let c := s.clk.cycle
  let t := s.ltu.markT
  let i := s.incNow
  match s.clk.marks with
  | m :: _ => if m.inc == i && m.time + (c - m.cycle) * i == t then s
    else s.modClk fun k => { k with marks := ⟨c, t, i⟩ :: k.marks }
  | [] => s.modClk fun k => { k with marks := [⟨c, t, i⟩] }

/-- One marker interval ends: the next has the increment of the registers, the walk's share, and its part of the slew
(R351, R353, R360). -/
def State.nextMarker (s : State) : State :=
  let t := s.ltu.markT + s.markLen
  let rem := s.ltu.slewRem - s.ltu.slewNow
  let inc := ((s.timeInc : Int) + s.ltu.walk).toNat
  let s := s.modLtu fun u => { u with
    markT := t, now := t, inc := inc, incReg := s.timeInc, slewRem := rem, slewNow := slewPart s.slewCap rem }
  (s.modClk fun c => { c with cycle := c.cycle + markCycles }).recordMark

/-- Marker intervals pass that are as long as the present one. -/
def State.sameMarkers (s : State) (n : Nat) : State :=
  let t := s.ltu.markT + n * s.markLen
  let s := s.modLtu fun u => { u with markT := t, now := t, slewRem := u.slewRem - n * u.slewNow }
  s.modClk fun c => { c with cycle := c.cycle + n * markCycles }

/-- The further intervals, of n, that are as long as the present one: while the slew takes the same part of each. -/
def State.steady (s : State) (n : Nat) : Nat :=
  let left := s.ltu.slewRem - s.ltu.slewNow
  if slewPart s.slewCap left == 0 && s.ltu.slewNow == 0 then n
  else if mag s.ltu.slewNow == s.slewCap && decide (0 < left * s.ltu.slewNow) then min n (mag left / s.slewCap) else 0

/-- n marker intervals of CK_FAB pass: a slew changes their length at most three times, so that the first number need not
be larger than four. -/
def State.intervals (s : State) : Nat → Nat → State
  | 0, n => s.sameMarkers n
  | _, 0 => s
  | f + 1, n + 1 =>
    let s := s.nextMarker
    let k := s.steady n
    (s.sameMarkers k).intervals f (n - k)

/-- The local time unit passes n markers of CK_FAB (R351 to R353). -/
def State.ltuMarkers (s : State) (n : Nat) : State := ((s.intervals 4 n).showSlew).showUnc

/-- n REFCLK edges pass while the clock ticks from REFCLK (R356). -/
def State.refTicks (s : State) (n : Nat) : State :=
  let t := s.ltu.refT + (n * s.incRef : Nat)
  (s.modLtu fun u => { u with refT := t, now := max u.now t.toNat, markT := max u.now t.toNat }).showUnc

/-- n RTC edges pass while the clock ticks from the RTC (R358): at each the larger of the held value and T_r + k × inc_rtc. -/
def State.rtcTicks (s : State) (n : Nat) : State :=
  (s.modLtu fun u => { u with rtcK := u.rtcK + n, now := max u.now (u.rtcT + (u.rtcK + n) * s.incRtc) }).showUnc

/-- The RTC counter, and a count that it shows. -/
def State.rtcCount (s : State) : Nat := s.get TIME_RTC_CNT_LO.cnt_lo + s.get TIME_RTC_CNT_HI.cnt_hi * 2 ^ 32
def State.setRtc (s : State) (count : Nat) : State :=
  if count ≤ s.rtcCount then s
  else (s.put TIME_RTC_CNT_LO.cnt_lo count).put TIME_RTC_CNT_HI.cnt_hi (count / 2 ^ 32)

/-- The RTC counter reaches a count: its edges tick the clock where it ticks from the RTC (R358). -/
def State.rtcTo (s : State) (count : Nat) : State :=
  let n := count - s.rtcCount
  (s.setRtc count).when (s.get TIME_STATUS.tick_src == 2 && s.mainLive) (·.rtcTicks n)

/-- The clock, ticking from REFCLK or the RTC, reaches a time: at the first tick at or after it. -/
def State.tickTo (s : State) (t : Time) : State :=
  if t ≤ s.ltu.now then s.showUnc
  else if s.onRef then s.refTicks (if s.incRef == 0 then 0 else ((t : Int) - s.ltu.refT + s.incRef - 1).toNat / s.incRef)
  else
    let n := if s.incRtc == 0 then 0 else (t - (s.ltu.rtcT + s.ltu.rtcK * s.incRtc) + s.incRtc - 1) / s.incRtc
    (s.setRtc (s.rtcCount + n)).rtcTicks n

/-- The value of the clock: that of its last tick (R350, R354). -/
def State.clockNow (s : State) : Time :=
  if s.onFab then s.ltu.markT + (s.ltu.now - s.ltu.markT) / max 1 s.incNow * s.incNow else s.ltu.now

/-- The present CK_FAB cycle, counted since reset, as the local clock says where in its marker interval the block is. -/
def State.cycleNow (s : State) : Nat :=
  if s.onFab then s.clk.cycle + min markCycles ((s.ltu.now - s.ltu.markT) / max 1 s.incNow) else s.clk.cycle

/-- The number of markers by which a request made now is 8 REFCLK periods old (R78, R160): the next one, or the one after
from the 25th edge of the interval on. -/
def State.markersFor (s : State) : Nat := if 32 * (s.cycleNow - s.clk.cycle) ≤ 24 * markCycles then 1 else 2

/-! ### Dating of lane words -/

/-- The marker record in force at an instant, given in 1/16 converter samples since cycle 0. -/
def State.markAt (s : State) (x : Int) : Mark :=
  match firstThat (fun m : Mark => decide ((128 * m.cycle : Nat) ≤ x)) s.clk.marks with
  | some m => m
  | none => s.clk.marks.getLast?.getD ⟨0, 0, nominalInc⟩

/-- The local time of an instant, given in 1/16 converter samples since cycle 0 (R352). -/
def State.dateOf (s : State) (x : Int) : Int :=
  let m := s.markAt x
  (m.time : Int) + (Config.apertureDelay : Nat) + (x - (128 * m.cycle : Nat)) * (m.inc : Nat) / 128

/-- The decimation D of a lane's configuration, 1 without one. -/
def State.laneD (s : State) (l : Nat) : Nat := match (s.lane l).cfg with
  | some c => max 1 (c.dA * c.dB)
  | none => 1

/-- The group delay G of word k of a lane, in 1/16 samples (R157). -/
def State.gdOf (s : State) (l k : Nat) : Nat :=
  match firstThat (fun e : Nat × Nat => decide (e.1 ≤ k)) (s.lane l).gds with
  | some e => e.2
  | none => s.get (LANE_GD.gd l)

/-- The instant that word k of a lane represents, in 1/16 converter samples since cycle 0: that of sample n_k − G (R157). -/
def State.wordAt (s : State) (l k : Nat) : Int :=
  (128 * (s.lane l).origin + 16 * ((k + 1) * s.laneD l - 1) : Nat) - (s.gdOf l k : Nat)

/-- The local time of word k of a lane (R157, R352). -/
def State.wordTime (s : State) (l k : Nat) : Int := s.dateOf (s.wordAt l k)

/-- The first instant, in 1/16 converter samples since cycle 0, dated at or after a time, by the marker records newest
first. -/
def instantAt (t : Int) (next : Option Nat) : List Mark → Int
  | [] => 0
  | m :: ms =>
    if (m.time : Int) ≤ t || ms.isEmpty then
      let x : Int := (128 * m.cycle : Nat) - (-((t - m.time) * 128) / (max 1 m.inc : Nat))
      match next with
      | some c => min x (128 * c : Nat)
      | none => x
    else instantAt t (some m.cycle) ms

/-- The first word at or after an instant, in 1/16 converter samples after the sample origin, by the group delays newest
first. -/
def wordFrom (x : Int) (d : Nat) : List (Nat × Nat) → Nat
  | [] => 0
  | (k0, gd) :: rest =>
    let k := (-(-(x + (gd : Nat) + 16) / (16 * d : Nat)) - 1).toNat
    if k0 ≤ k || rest.isEmpty then k else min k0 (wordFrom x d rest)

/-- The first word of a lane dated at or after a time (R174, R329). -/
def State.firstWord (s : State) (l : Nat) (t : Int) : Nat :=
  let x := instantAt (t - (Config.apertureDelay : Nat)) none s.clk.marks
  wordFrom (x - (128 * (s.lane l).origin : Nat)) (s.laneD l) (s.lane l).gds

/-- I and Q of a lane word, and its tags: settle, blank, overload (R156). -/
def wordI (w : BitVec 23) : Int := signed 10 (bits w.toNat 10 10)
def wordQ (w : BitVec 23) : Int := signed 10 (bits w.toNat 0 10)
def wordTags (w : BitVec 23) : Nat := bits w.toNat 20 3

/-- The number of lane words that have left on the lane bus since the sample origin (R156, R159). -/
def State.laneWords (s : State) (l : Nat) : Nat := (s.lane l).path.out.length

/-- Word k of a lane since its sample origin, once it has left on the lane bus. -/
def State.busWord (s : State) (l k : Nat) : Option (BitVec 23) :=
  let out := (s.lane l).path.out
  if k < out.length then out[out.length - 1 - k]? else none

/-- n words of a lane that have left on the lane bus, from word k on. -/
def State.datedFrom (s : State) (l k : Nat) : Nat → List LaneWord
  | 0 => []
  | n + 1 => match s.busWord l k with
    | some w => ⟨(s.lane l).origin, k, s.wordTime l k, w⟩ :: s.datedFrom l (k + 1) n
    | none => []

/-- The words of a lane dated at or after a time: of earlier sample origins, as far as they are kept, and since the present
one. -/
def State.wordsSince (s : State) (l : Nat) (t : Int) : List LaneWord :=
  let k := s.firstWord l t
  (s.lane l).gone.filter (fun w => decide (t ≤ w.time)) ++ s.datedFrom l k ((s.lane l).path.out.length - k)

/-- A lane's words dated at or after a time are kept beyond a new sample origin. -/
def State.keepGone (s : State) (l : Nat) (t : Int) : State := s.modLane l fun x => { x with gone := s.wordsSince l t }

/-! ### Words of a capture (R329, R338) -/

/-- The capture ends for every lane: the words dated before its end belong to it. -/
def State.captureEnds (s : State) : State := match s.snap.capture with
  | some c => s.modCapture fun r => match r.ends with
    | some _ => r
    | none => { r with ends := some (c.lanes.map fun l => ((s.lane l).origin, s.firstWord l (c.endTime r))) }
  | none => s

/-- A capture that runs and takes the condition is cut short now (R338); one whose length has passed ends without. -/
def State.cutCapture (s : State) (p : Capture → Bool) : State := match s.snap.capture with
  | some c =>
    if p c then (s.when s.capturing (·.modCapture fun r => { r with cut := some s.ltu.now })).captureEnds else s
  | none => s

/-- The local time from which on a capture may take words: 64 µs before t_start, or before now (R332). -/
def State.captureSince (s : State) : Int := match s.captureRun with
  | some r => (r.tStart : Int) - (64000 * nanosecond : Nat)
  | none => (s.ltu.now : Int) - (64000 * nanosecond : Nat)

/-- A word lies before a capture's end at its lane, given by the sample origin and the first word after the end. -/
def LaneWord.before (w : LaneWord) (e : Nat × Nat) : Bool := decide (w.origin < e.1) || (w.origin == e.1 && decide (w.k < e.2))

/-- The local time by which a code phase has passed a boundary: an excess in 2^-48 chip at fk per word (R222). -/
def State.backTime (s : State) (l fk : Nat) (excess : Int) : Int :=
  if fk == 0 then 0 else excess * s.laneD l * (s.incNow : Nat) / (8 * fk)

/-! ### Time sources -/

/-- degraded (R366). -/
def State.showDegraded (s : State) : State :=
  s.put TIME_STATUS.degraded (b2n (!s.onFab || s.get TIME_STATUS.source == 3 || s.ltu.waits))

/-- The source that the servo serves time from (R362). -/
def State.bestSource (s : State) : Nat :=
  let ref := s.is CLK_STATUS.ref_present
  if s.is TIME_SRC_CFG.gnss_en && ref && s.ltu.gnss && !s.is TIME_STATUS.spoof_hold then 0
  else if s.is TIME_SRC_CFG.ptp_en && ref && s.ltu.net then 1
  else if ref && s.ltu.ticked then 2
  else 3

/-- TIME_INC's mean over the last 60 s in which a source was valid, each value weighted with the time it held; the last
value if there are fewer (R363). -/
def meanInc (now : Time) (last : Nat) : List (Time × Nat) → Nat → Nat → Nat
  | [], sum, w => if w < 60 * second then last else sum / w
  | (t, v) :: rest, sum, w =>
    let len := min (now - t) (60 * second - w)
    if 60 * second ≤ w + len then (sum + len * v) / (60 * second) else meanInc t last rest (sum + len * v) (w + len)

/-- In holdover TIME_INC is held at its mean, and TIME_UNC grows at the servo's estimate (R363). -/
def State.holdInc (s : State) : State :=
  let s := s.setInc (meanInc s.ltu.now s.timeInc s.ltu.steered 0 0)
  s.modLtu fun u => { u with growth := Config.holdoverGrowth (u.now / second) }

/-- The source is chosen again; a change is latched and reported (R362). -/
def State.chooseSource (s : State) : State :=
  let old := s.get TIME_STATUS.source
  let new := s.bestSource
  let s := if old == new then s else
    let s := s.setUnc s.uncNow
    let s := (s.put TIME_STATUS.source new).flag TIME_EVENT.src_change
    let s := if new == 2 then s.holdInc else s
    s.emit (evSrcChange new old s.ltu.now)
  (s.when (decide (new < 2)) fun s => s.modLtu fun u => { u with waits := u.waits && old == new, fromGnss := new == 0 }).showDegraded

def State.modNet (s : State) (f : NetState → NetState) : State := { s with net := f s.net }

/-- The network port stops being qualified (R405): the measurements start afresh; where the network served the clock,
TIME_INC stays at its last value (R408). -/
def State.netUnqualify (s : State) : State :=
  let inc := s.timeInc
  let served := s.get TIME_STATUS.source == 1
  let s := if s.is NET_STATUS.qualified then (s.put NET_STATUS.qualified 0).flag NET_EVENT.unqualified else s
  let s := ((s.put NET_STATUS.meas_valid 0).put NET_STATUS.requalifying 0).modNet fun n => { n with
    used := [], streak := 0, count := 0, mpds := [], held := [], pred := none, requal := none, entered := false }
  let s := (s.modLtu fun u => { u with net := false }).chooseSource
  if served then s.setInc inc else s

/-- The real-time services report a discontinuity (R368); the port requalifies (R405, R409), and the next valid source is entered
whatever its error. -/
def State.discontinuity (s : State) (cause : Nat) : State :=
  let s := s.netUnqualify.modNet fun n => { n with parts := 0 }
  let s := (s.flag TIME_EVENT.discont).modLtu fun u => { u with
    reenter := true, tp := vmap (fun p => { p with discont := true }) u.tp }
  let s := s.modNav fun n => { n with discont := true }
  s.emit (evDiscontinuity cause s.ltu.now)

/-- A slew offset in units of 2^-8 ns is set; it takes effect at the next marker (R351, R353). -/
def State.setSlew (s : State) (off : Int) : State :=
  let was := s.is TIME_STATUS.slewing
  let s := s.putInt TIME_SLEW.offset off
  let s := s.modLtu fun u => { u with slewRem := off * 16777216 + (if s.onFab then u.slewNow else 0) }
  let s := s.put TIME_STATUS.slewing (b2n (off != 0))
  s.when (was && off == 0) (·.flag TIME_EVENT.slew_done)

/-- A step of Δ is armed (R367). -/
def State.armStep (s : State) (delta : Int) : State :=
  let at' := (s.ltu.now + 2000000 * nanosecond + second - 1) / second
  ((s.flag TIME_STEP_CTRL.pending).flag TIME_STATUS.step_pending).modLtu fun u =>
    { u with step := some ⟨u.now, at', delta⟩ }

/-- The armed step is withdrawn. -/
def State.cancelStep (s : State) : State :=
  ((s.put TIME_STEP_CTRL.pending 0).put TIME_STATUS.step_pending 0).modLtu fun u => { u with step := none }

/-- The servo writes the step registers and arms a step (R367). -/
def State.servoStep (s : State) (delta : Int) : State :=
  let d := delta / (nanosecond : Int)
  ((s.putInt TIME_STEP_SEC.step_sec (d / 1000000000)).put TIME_STEP_NS.step_ns (d % 1000000000).toNat).armStep (d * nanosecond)

/-- A source becomes valid with the error e, the local clock minus its time (R365). -/
def State.enterSource (s : State) (e : Int) : State :=
  let s := s.modLtu fun u => { u with reenter := false }
  if mag e ≤ s.get TIME_CTRL.step_threshold * nanosecond then s.setSlew (clampInt (-2147483648) 2147483647 (-e / 16777216))
  else s.servoStep (-e)

/-- The spoofing hold begins: GNSS is not valid (R364). -/
def State.spoofStart (s : State) : State :=
  ((s.flag TIME_STATUS.spoof_hold).modLtu fun u => { u with gnss := false, qual := 0 }).chooseSource

/-- The servo has steered: a new TIME_INC, and its history (R363). -/
def State.steer (s : State) : State :=
  let s := (s.setInc (Config.steeredInc s.free)).nextFree
  s.modLtu fun u => { u with steered := ((u.now, s.timeInc) :: u.steered).take 4096 }

/-! ### UTC (R369) -/

/-- Months since January 1970 of a day counted from 1970-01-01, in the Gregorian calendar. -/
def monthOfDay (day : Nat) : Nat :=
  let z := day + 719468
  let era := z / 146097
  let doe := z % 146097
  let yoe := (doe - doe / 1460 + doe / 36524 - doe / 146096) / 365
  let doy := doe - (365 * yoe + yoe / 4 - yoe / 100)
  let mp := (5 * doy + 2) / 153
  let y := yoe + era * 400 + (if mp < 10 then 0 else 1)
  let m := if mp < 10 then mp + 2 else mp - 10
  y * 12 + m - 1970 * 12

/-- The first day of a month counted from January 1970, in days from 1970-01-01. -/
def monthDay (m : Nat) : Nat :=
  let y := 1970 + m / 12 - (if m % 12 < 2 then 1 else 0)
  let yoe := y % 400
  y / 400 * 146097 + yoe * 365 + yoe / 4 - yoe / 100 + (153 * ((m + 10) % 12) + 2) / 5 - 719468

/-- The present UTC month, with an offset TAI − UTC. -/
def State.utcMonth (s : State) (offset : Int) : Nat := monthOfDay (((tSec s.ltu.now : Int) - offset) / 86400).toNat

/-- The UTC values taken from a source of a rank, 1 host, 2 network, 3 GNSS, unless a better one has given them; a leap
whose month has ended is discarded. -/
def State.takeUtc (s : State) (rank : Nat) (offset : Int) (leap month : Nat) : State :=
  if rank < s.ltu.utcRank then s
  else
    let ended := leap != 0 && decide (month < s.utcMonth offset)
    let leap := if ended then 0 else leap
    let s := ((s.putInt TIME_UTC.offset offset).put TIME_UTC.leap leap).flag TIME_UTC.valid
    let s := if leap == 0 then s else s.put TIME_UTC.leap_month month
    s.modLtu fun u => { u with utcRank := rank }

/-! ### Commands of the clock -/

/-- TIME_NOW_READ (R354). -/
def State.latchNow (s : State) : State :=
  s.putTimeRec TIME_NOW_SEC_LO.sec_lo TIME_NOW_SEC_HI.sec_hi TIME_NOW_NS.ns TIME_NOW_FRAC.frac s.clockNow
def execTimeNowRead (s : State) : Result := whileLive s fun s => .next s.latchNow

/-- SLEW_WRITE (R353). -/
def execSlewWrite (value : Word) (s : State) : Result := whileLive s fun s => .next (s.setSlew value.toInt)

/-- STEP_ARM (R367). -/
def execStepArm (s : State) : Result := whileLive s fun s =>
  .next (s.armStep (s.getInt TIME_STEP_SEC.step_sec * second + s.get TIME_STEP_NS.step_ns * nanosecond))

/-- STEP_CANCEL (R367). -/
def execStepCancel (s : State) : Result := whileLive s fun s => .next s.cancelStep

/-- The fire time of a trigger. -/
def State.trigTime (s : State) (j : Nat) : Time :=
  s.timeRec (TRIG_T_SEC_LO.sec_lo j) (TRIG_T_SEC_HI.sec_hi j) (TRIG_T_NS.ns j) (TRIG_T_FRAC.frac j)

def lateTrig (t : TrigState) : TrigState := { t with late := true }

/-- A forward change of the clock makes every trigger late whose fire time it passes (R374). -/
def State.passedTriggers (s : State) (old new : Time) : State :=
  let passed (j : Fin 32) : Bool := s.is (TRIG_CFG.en j) && decide (old < s.trigTime j) && decide (s.trigTime j ≤ new)
  s.modLtu fun u => { u with trig := Vector.ofFn fun j => if passed j then lateTrig u.trig[j] else u.trig[j] }

/-- TIME_SOLUTION (R362, R365): only a solution while the clock ticks from CK_FAB counts. One that steers the clock changes the
servo's class-H state (R39). -/
def execTimeSolution (solution : TimeSolution) (s : State) : Result := whileLive s fun s =>
  if !s.onFab || s.frozen then .next s
  else
    let s := match solution.utc with
      | some (offset, leap, month) => s.takeUtc 3 offset leap.val month
      | none => s
    let fix := solution.fixType.val
    let good := decide (solution.unc ≤ 100) && ((decide (1 ≤ fix) && decide (fix ≤ 7)) || fix == 9)
    let s := s.modLtu fun u => { u with solAt := u.now }
    if s.is TIME_STATUS.spoof_hold then .next s
    else
      let was := s.get TIME_STATUS.source
      let q := if good then min 15 (s.ltu.qual + 1) else 0
      let s := s.modLtu fun u => { u with
        qual := q, gnss := u.gnss || decide (max 1 (s.get TIME_SRC_CFG.qual_count) ≤ q) }
      let s := s.chooseSource
      if s.get TIME_STATUS.source != 0 then .next s
      else
        let s := ((s.modLtu fun u => { u with waits := false }).showDegraded).setUnc solution.unc
        let s := if was == 0 && !s.ltu.reenter then s.steer else s.enterSource solution.error
        .next (s.hstateSave s.stw.controlOn s.free)

/-! ### Tick sources -/

/-- The tick source changes (R355). -/
def State.tickFrom (s : State) (src : Nat) : State :=
  if s.get TIME_STATUS.tick_src == src then s
  else ((s.put TIME_STATUS.tick_src src).flag TIME_EVENT.tick_change).showDegraded

/-- The REFCLK edges that have passed since the last marker. -/
def State.edgesSince (s : State) : Nat := if s.incRef == 0 then 0 else min 31 ((s.ltu.now - s.ltu.markT) / s.incRef)

/-- The gates close at a loss of lock, n ticks after the last edge (R355, R356, R358, R393): the clock holds T_e + n × inc
and passes to REFCLK, or to the RTC when the reference is missing. The last RTC edge before lies at most one RTC period back, at a
free time (log entry 75). -/
def State.ltuLostLock (s : State) (missing : Bool) (n : Nat) : State :=
  let s := s.modLtu fun u => { u with incLoss := u.incReg, slewNow := 0, walk := 0, walkSize := 0 }
  let te := s.ltu.markT + s.edgesSince * s.incRef
  let s := (s.put TIME_TICK_INFO.last_n n).modLtu fun u => { u with
    te := te, refT := te, now := max u.now (te + n * u.incReg), rtcT := u.now - s.freeVal % (s.incRtc + 1), rtcK := 0 }
  let s := s.when missing State.nextFree
  let s := (s.cancelStep.put TIME_STATUS.walk_comp 0).tickFrom (if missing then 2 else 1)
  -- without the reference no GNSS or network source is valid, and the source qualifies afresh (R362)
  (s.when missing fun s => s.modLtu fun u => { u with gnss := false, qual := 0, net := false }).chooseSource

/-- A reference jump: the error is added at the edges after it when it lies within half a period, otherwise the clock is
discontinuous (R361). -/
def State.ltuJump (s : State) (error : Int) : State :=
  if mag error ≤ 5208 then
    s.modLtu fun u => { u with refT := u.refT + error * 5 * 2 ^ 31 / 1000 }
  else
    let s := (s.flag TIME_EVENT.jump_uncomp).modLtu fun u => { u with waits := true }
    (s.showDegraded).discontinuity 4

/-- The clock ticks from CK_FAB again, from a marker of local time t on (R357, R391). -/
def State.fabAgain (s : State) (t : Time) : State :=
  let s := s.modLtu fun u => { u with now := t, markT := t, inc := s.timeInc, incReg := s.timeInc, ticked := true, slewNow := slewPart s.slewCap u.slewRem }
  ((s.modClk fun c => { c with cycle := c.cycle + markCycles }).tickFrom 0).recordMark

/-- The gates open on REFCLK edge E (R357): the edge is ticked, and the clock passes to CK_FAB. -/
def State.ltuGates (s : State) : State :=
  let t := max s.ltu.now (s.ltu.refT + (s.incRef : Nat)).toNat
  (s.fabAgain t).chooseSource

/-- A walk of a signed size in TDC units starts, or its target moves (R360): the share per tick that cancels, to within one
unit, its change of the CK_FAB rate of 100 ppm (R65, R66; log entry 60), downward while a reference that came late is
removed. -/
def State.ltuWalk (s : State) (size : Int) : State :=
  let ppm : Int := if 0 < size then -100 else 100
  (s.flag TIME_STATUS.walk_comp).modLtu fun u => { u with walkSize := size, walk := -((s.timeInc : Int) * ppm / 1000000) }
def State.ltuWalkEnd (s : State) : State :=
  (s.put TIME_STATUS.walk_comp 0).modLtu fun u => { u with walkSize := 0, walk := 0 }

/-- The RTC edge next after a time, while the clock does not tick from the RTC: at most one RTC period later, at a free time (log
entry 75). -/
def State.edgeAfter (s : State) (t : Time) : Time := t + s.freeVal % (s.get TIME_RTC_CAL.count * s.ltu.incReg / 32768 + 1)

/-- The time relation written to the keep store at the RTC edge of a count (R392), whose local time is as given, or the clock's
while that ticks from the RTC. -/
def State.writeRelation (s : State) (rtc : Nat) (edge : Time) : State :=
  let s := (s.rtcTo rtc).showUnc
  let time := if s.get TIME_STATUS.tick_src == 2 then s.ltu.now else edge
  let inc := if s.onFab then s.get TIME_RTC_CAL.count * s.timeInc / 32768 else s.incRtc
  s.modLtu fun u => { u with
    relation := some ⟨time, s.rtcCount, inc, s.get TIME_UNC.unc_ns, s.get TIME_STATUS.source⟩ }

/-- The reload of the clock at the release of the main-domain reset (R392): the RTC's count is taken from the world. Time
grows less certain by one more second's drift after a reset without an orderly shutdown. -/
def State.reloadTime (s : State) (orderly : Bool) : State := match s.ltu.relation with
  | none => (s.modLtu fun u => { u with waits := true, ticked := false }).chooseSource
  | some r =>
    let elapsed := (s.rtcCount - r.count) * r.inc
    let t := r.time + elapsed
    let drift := s.get TIME_SRC_CFG.rtc_drift
    let grown := (elapsed / nanosecond + (if orderly then 0 else 1000000000)) * drift / 10000000
    let s := s.modLtu fun u => { u with now := t, markT := t, rtcT := t, rtcK := 0, refT := t, te := t, waits := true, ticked := false }
    let s := s.setUnc (if r.unc == 0xFFFFFFFF then r.unc else r.unc + grown)
    ((s.flag TIME_EVENT.keep_reload).chooseSource).discontinuity 3

/-- RTC_CAL_DONE (R358). -/
def execRtcCalDone (count : BitVec 30) (s : State) : Result := whileLive s fun s =>
  if s.is CLK_STATUS.locked then .next ((s.put TIME_RTC_CAL.count count.toNat).flag TIME_RTC_CAL.valid)
  else .next s

/-- RTC_HANDOVER (R359): the next RTC edge, with its count, is ticked, the first REFCLK edge adds half a period, and TIME_UNC
grows by as much, 13.02 ns taken as 13 (log entry 75). -/
def execRtcHandover (rtc : BitVec 48) (s : State) : Result := whileLive s fun s =>
  if s.get TIME_STATUS.tick_src != 2 || !s.is CLK_STATUS.ref_present then .next s
  else
    let s := s.rtcTo (max rtc.toNat (s.rtcCount + 1))
    let t := s.ltu.now + s.incRef / 2
    let s := (s.modLtu fun u => { u with now := t, markT := t, refT := t, te := t }).tickFrom 1
    let s := if s.ltu.uncBase == 0xFFFFFFFF then s else s.setUnc (s.uncNow + 13)
    .next s.chooseSource

end Sys2Proof.Machine
end

