-- ==== Sys2Proof/Machine/FrontEnd.lean ====
section
/-! DEFINITION. The GNSS front end: converter samples, start-up, gain control, overload, GNSS_BLANK, the antenna supervisor
and interleave calibration. -/

namespace Sys2Proof.Machine

/-- ADPLL-A is locked and its outputs run (CLK_STATUS.locked). -/
def State.locked (s : State) : Bool := s.is CLK_STATUS.locked

/-- bg_held shows that background updates are held, by FE_CAL_CTRL.hold or by a capture (R133). -/
def State.showBgHeld (s : State) : State :=
  s.put FE_CAL_STATUS.bg_held (b2n (s.is FE_CAL_CTRL.hold || s.capturing))

/-- The bias is switched on while gnss_en and bias_en are both 1 (R130). -/
def State.biasOn (s : State) : Bool := s.is FE_CTRL.gnss_en && s.is FE_CTRL.bias_en

/-- The antenna state changes: it is latched, and reported unless the bias was switched off (R130). -/
def State.antState (s : State) (st : Nat) : State :=
  if s.get FE_ANT_STATUS.state == st then s
  else
    let s := (s.put FE_ANT_STATUS.state st).flag FE_EVENT.ant_change
    let i := s.get FE_ANT_STATUS.current
    if st == 1 then s.emit (evAntOk i)
    else if st == 2 then s.emit (evAntOpen i)
    else if st == 3 then s.emit (evAntShort i)
    else s

/-- The bias switched off: state OFF (R130). -/
def State.antOff (s : State) : State :=
  (s.antState 0).modFe fun f => { f with okRun := 0, openRun := 0, shortOpen := false, decide1 := false }

/-! ### Converter samples -/

/-- The least number that a sample's value is limited by, and the record of what decides the samples from now on. -/
def State.feNow (s : State) (cycle : Nat) : FeSet :=
  { cycle := cycle, live := s.fe.chain == .released, mute := s.fe.commanded && s.is FE_CAL_STATUS.fg_running
    zero := s.is FE_CTRL.blank_zero, gain := s.get FE_GAIN.code, coef := s.fe.coef }

/-- What decides the samples is recorded from the present CK_FAB cycle on, where it changed. -/
def State.feRecord (s : State) : State :=
  let x := s.feNow s.cycleNow
  let same := match s.fe.sets with
    | e :: _ => { e with cycle := x.cycle } == x
    | [] => { ({} : FeSet) with cycle := x.cycle } == x
  if same then s else s.modFe fun f => { f with sets := x :: f.sets }

/-- What decided the samples of a CK_FAB cycle. -/
def State.feAt (s : State) (cycle : Nat) : FeSet := (firstThat (fun e : FeSet => decide (e.cycle ≤ cycle)) s.fe.sets).getD {}

/-- A CK_FAB cycle lies in a blank interval (R127). -/
def State.inBlank (s : State) (cycle : Nat) : Bool :=
  (s.fe.blanks.any fun x => decide (x.1 ≤ cycle) && decide (cycle < x.2)) ||
    (s.fe.blank == .active && decide (s.fe.blankFrom ≤ cycle)) ||
    (s.fe.blank == .post && decide (s.fe.blankFrom ≤ cycle) && decide (cycle < s.fe.blankEnd))

/-- A converter sample as the lanes take it: its value, and whether it is tagged blank (R128) or is a clip sample (R125). -/
structure Sample where
  x     : Int
  blank : Bool := false
  clip  : Bool := false
  deriving DecidableEq, Repr

/-- The codes −512 and +511, and samples taken under compression, are clip samples (R125). -/
def clipSample (x : Int) (compressed : Bool) : Bool := x == -512 || x == 511 || compressed

/-- Converter sample n, taken by sub-converter n % 8 in CK_FAB cycle n / 8 (R115), as the front end delivers it (R125, R128,
R131, R135). The value is free: the antenna's signal decides it under the gain and the sub-converter's coefficients (log entry
56). Without released samples a lane takes zeros (log entry 57). -/
def State.sampleAt (s : State) (n : Nat) : Sample :=
  let e := s.feAt (n / 8)
  if !e.live then { x := 0 }
  else if e.mute then { x := 0, blank := true }
  else
    let k := vget {} e.coef (n % 8)
    let x := (Config.adc n e.gain k.offset k.gain k.skew).toInt
    let b := s.inBlank (n / 8)
    { x := if b && e.zero then 0 else x, blank := b, clip := clipSample x (Config.compressed n) }

/-! ### The chain -/

/-- The GNSS chain is powered and muted (R135 step 1), in a mode that runs it (R496) and with ADPLL-A locked; without
coefficients, foreground calibration starts (R131). -/
def State.startChain (s : State) : State :=
  if s.is FE_CTRL.gnss_en && s.fe.chain == .off && s.locked && s.mode != 4 then
    let s := s.modFe fun f => { f with chain := .starting, commanded := false }
    if s.is FE_CAL_STATUS.coef_valid then s else s.flag FE_CAL_STATUS.fg_running
  else s

/-- GNSS_ENABLE (R131, R135): the chain starts once its conditions hold. -/
def execGnssEnable (s : State) : Result := whileLive s fun s => .next (s.flag FE_CTRL.gnss_en).startChain

/-- FG_CAL_START (R131): ignored while a calibration runs; with samples released the lanes take zero samples tagged blank. -/
def execFgCalStart (s : State) : Result := whileLive s fun s =>
  if s.is FE_CAL_STATUS.fg_running then .next s
  else .next ((s.flag FE_CAL_STATUS.fg_running).modFe fun f => { f with commanded := f.chain == .released }).feRecord

/-- Coefficients as a calibration sets them: free values (log entry 58). -/
def newCoef (k : Nat) : Vector SubCoef 8 :=
  Vector.ofFn fun i => { offset := Config.calOffset k i.val, gain := Config.calGain k i.val, skew := Config.calSkew k i.val }

/-- FG_CAL_DONE (R131): the coefficients are set. A chain that was switched off meanwhile keeps them (log entry 59). -/
def execFgCalDone (s : State) : Result := whileLive s fun s =>
  if s.is FE_CAL_STATUS.fg_running then
    let s := ((s.put FE_CAL_STATUS.fg_running 0).flag FE_CAL_STATUS.coef_valid).flag FE_EVENT.cal_done
    .next (s.modFe fun f => { f with coef := newCoef s.free, commanded := false }).nextFree.feRecord
  else .next s

/-- The code that the search tries: the middle of the codes still possible (R122). -/
def AgcSearch.trial (a : AgcSearch) : Nat := (a.low + a.high + 1) / 2

/-- SAMPLE_RELEASE (R135 step 4, R122): the LNA is unmuted, samples are released and the AGC acquires the level. Its first
window begins with them. -/
def execSampleRelease (s : State) : Result := whileLive s fun s =>
  if s.fe.chain == .starting && s.locked && s.is FE_CAL_STATUS.coef_valid && !s.is FE_CAL_STATUS.fg_running then
    let a : AgcSearch := {}
    let s := (s.put FE_GAIN.agc_settled 0).modFe fun f => { f with
      chain := .released, acq := some a, agcFrom := 8 * s.cycleNow
      nextCode := if s.get FE_CTRL.agc_mode == 0 then some a.trial else none }
    .next s.feRecord
  else .next s

/-- The chain stops at a CK_FAB cycle boundary, and the bias is switched off (R135). -/
def State.stopChain (s : State) : State :=
  ((s.put FE_CTRL.gnss_en 0).modFe fun f => { f with
    chain := .off, acq := none, nextCode := none, attack := false, commanded := false }).feRecord.antOff

/-- GNSS_DISABLE (R135). agc_settled stays until samples are released again, and a calibration that runs goes on (log entry
59). -/
def execGnssDisable (s : State) : Result := whileLive s fun s => .next s.stopChain

/-! ### Gain control -/

/-- What a window of the AGC measured: the samples counted, the sum of their squares, and the clip samples, outside blank
intervals (R121). -/
structure AgcWindow where
  counted : Nat := 0
  squares : Nat := 0
  clips   : Nat := 0
  deriving DecidableEq, Repr

/-- A window with one sample more (R121, R128). -/
def AgcWindow.take (w : AgcWindow) (x : Sample) : AgcWindow :=
  if x.blank then w
  else { counted := w.counted + 1, squares := w.squares + mag x.x ^ 2, clips := w.clips + b2n x.clip }

/-- The present window of 65,536 samples (R121). -/
def State.agcWindow (s : State) : AgcWindow :=
  (List.range 65536).foldl (fun w i => w.take (s.sampleAt (s.fe.agcFrom + i))) {}

/-- The rms level of a window in codes, rounded down (R121). -/
def AgcWindow.rms (w : AgcWindow) : Nat := Nat.sqrt (w.squares / max 1 w.counted)

/-- A window that makes a decision (R121). -/
def AgcWindow.valid (w : AgcWindow) : Bool := decide (16384 ≤ w.counted)

/-- 20 log10(rms / target) departs from 0 by more than hyst half decibels, upward or downward, exactly: (rms / target)^40 is
compared with 10^hyst, where rms² is the mean square (R121). -/
def AgcWindow.above (w : AgcWindow) (target hyst : Nat) : Bool :=
  decide (target ^ 40 * 10 ^ hyst * w.counted ^ 20 < w.squares ^ 20)
def AgcWindow.below (w : AgcWindow) (target hyst : Nat) : Bool :=
  decide (w.squares ^ 20 * 10 ^ hyst < target ^ 40 * w.counted ^ 20)

/-- The AGC asks for a code: it is limited to 0 to 80, and asking beyond is shown and latched (R121). -/
def State.agcAsk (s : State) (code : Int) : State :=
  let outside := decide (code < 0) || decide (80 < code)
  let s := (s.put FE_GAIN.at_limit (b2n outside)).when outside (·.flag FE_EVENT.agc_limit)
  s.modFe fun f => { f with nextCode := some (clampInt 0 80 code).toNat }

/-- The code that the next decision starts from: the one that waits for its marker, or the one in use. -/
def State.agcCode (s : State) : Nat := s.fe.nextCode.getD (s.get FE_GAIN.code)

/-- The decision of one window in automatic mode (R121, R123). -/
def State.agcDecide (s : State) (w : AgcWindow) : State :=
  let code : Int := s.agcCode
  if s.get FE_AGC_CFG.clip_thresh ≤ w.clips then
    (s.flag FE_EVENT.agc_fast).modFe (fun f => { f with attack := true }) |>.agcAsk (code - s.get FE_AGC_CFG.fast_step)
  else if s.capturing then s
  else if w.above (s.get FE_AGC_CFG.target_rms) (s.get FE_AGC_CFG.hyst) then s.agcAsk (code - 1)
  else if w.below (s.get FE_AGC_CFG.target_rms) (s.get FE_AGC_CFG.hyst) then s.agcAsk (code + 1)
  else s.put FE_GAIN.at_limit 0

/-- One step of the search (R122): the codes at or above the trial are dropped where the level lies above the target or the
window clips; a window that makes no decision drops none (log entry 6). -/
def AgcSearch.step (a : AgcSearch) (high : Bool) (w : AgcWindow) : AgcSearch :=
  if !w.valid then { a with done := a.done + 1 }
  else if high then { a with done := a.done + 1, high := max a.low (a.trial - 1) }
  else { a with done := a.done + 1, low := min a.trial a.high }

/-- The level of a window lies above the target: rms² exceeds target² (R122). -/
def State.agcHigh (s : State) (w : AgcWindow) : Bool :=
  decide (s.get FE_AGC_CFG.clip_thresh ≤ w.clips) || w.above (s.get FE_AGC_CFG.target_rms) 0

/-- The overload state after a window (R126): entering and leaving it are reported, by the byte entered of R581 (DEDUCED, log
entry 55). -/
def State.overloadWindow (s : State) (clips : Nat) : State :=
  if s.get FE_AGC_CFG.clip_thresh ≤ clips then
    let s := s.modFe fun f => { f with ovlRun := min (f.ovlRun + 1) 7, ovlClear := 0 }
    if !s.is FE_AGC_STATUS.overload && decide (s.get FE_AGC_CFG.ovl_windows ≤ s.fe.ovlRun) then
      ((s.flag FE_AGC_STATUS.overload).flag FE_EVENT.overload).emit (evOverload 0 1)
    else s
  else
    let s := s.modFe fun f => { f with ovlRun := 0, ovlClear := min (f.ovlClear + 1) 7 }
    if s.is FE_AGC_STATUS.overload && decide (4 ≤ s.fe.ovlClear) then
      ((s.put FE_AGC_STATUS.overload 0).flag FE_EVENT.overload_end).emit (evOverload 0 0)
    else s

/-- A window of the AGC ends with what it measured (R121, R122, R126); the next one follows at once. In manual and hold mode
the eight windows of R122 pass without a search, and then set agc_settled (log entry 59). -/
def State.agcWindowOver (s : State) (w : AgcWindow) : State :=
  let s := s.modFe fun f => { f with agcFrom := f.agcFrom + 65536 }
  let s := (s.put FE_AGC_STATUS.last_rms (min w.rms 1023)).put FE_AGC_STATUS.last_clips (min w.clips 0x3FFF)
  let s := (s.put FE_AGC_STATUS.window_valid (b2n w.valid)).overloadWindow w.clips
  let auto := s.get FE_CTRL.agc_mode == 0
  match s.fe.acq with
  | some a =>
    if a.done < 7 then
      let b := a.step (s.agcHigh w) w
      s.modFe fun f => { f with acq := some b, nextCode := if auto then some b.trial else f.nextCode }
    else
      let s := s.when (auto && w.valid) (·.agcDecide w)
      (s.flag FE_GAIN.agc_settled).modFe fun f => { f with acq := none }
  | none => s.when (auto && w.valid) (·.agcDecide w)

/-- The front end at an alignment marker: the gain code takes its new value (R120), and a fast attack inside a capture
is recorded with its marker (R123, R336). While a capture runs, a decision that is no fast attack is dropped (R123). -/
def State.feMarker (s : State) : State :=
  let mode := s.get FE_CTRL.agc_mode
  let held := s.capturing && !s.fe.attack
  let s := if mode == 1 then s.put FE_GAIN.code (s.get FE_GAIN.manual_code)
    else if mode == 0 && !held then s.put FE_GAIN.code s.agcCode else s
  let s := if s.capturing && s.fe.attack && mode == 0 then
      s.modCapture fun r => { r with attacks := r.attacks ++ [((s.clk.cycle - r.cycle) / markCycles, s.get FE_GAIN.code)] }
    else s
  (s.modFe fun f => { f with nextCode := none, attack := false }).feRecord

/-! ### GNSS_BLANK -/

/-- GNSS_BLANK is acted on: blank_en is 1 and ADPLL-A is locked (R128). -/
def State.blankLive (s : State) : Bool := s.is FE_CTRL.blank_en && s.locked

/-- The synchroniser shows the active level (R127). -/
def State.blankPin (s : State) : Bool := s.fe.pin != s.is FE_CTRL.blank_active_low

/-- The interval in progress ends before a cycle, and is recorded (R127). -/
def State.blankOver (s : State) (cycle : Nat) (next : BlankPhase) : State :=
  s.modFe fun f => { f with blank := next, blanks := (f.blankFrom, cycle) :: f.blanks }

/-- An interval begins at e_a, or continues the last one where they overlap (R127, R129): with the extensions, counted once. -/
def State.blankBegin (s : State) (ea : Nat) : State :=
  let first := ea - s.get FE_BLANK_CFG.pre
  match s.fe.blank with
  | .post =>
    if first < s.fe.blankEnd then s.modFe fun f => { f with blank := .active }
    else ((s.blankOver s.fe.blankEnd .active).bump FE_BLANK_COUNT.intervals).modFe fun f => { f with blankEa := ea, blankFrom := first }
  | .idle => match s.fe.blanks with
    | (a, b) :: rest =>
      if first < b then s.modFe fun f => { f with blank := .active, blankEa := ea, blankFrom := min a first, blanks := rest }
      else (s.bump FE_BLANK_COUNT.intervals).modFe fun f => { f with blank := .active, blankEa := ea, blankFrom := first }
    | [] => (s.bump FE_BLANK_COUNT.intervals).modFe fun f => { f with blank := .active, blankEa := ea, blankFrom := first }
  | _ => s

/-- The post-extension begins at e_d (R127); a pin that was ignored is acted on again (R129). -/
def State.blankRelease (s : State) (ed : Nat) : State := match s.fe.blank with
  | .active =>
    let p := s.get FE_BLANK_CFG.post
    if p == 0 then s.blankOver ed .idle else s.modFe fun f => { f with blank := .post, blankEnd := ed + p }
  | .ignoring => s.modFe fun f => { f with blank := .idle }
  | _ => s

/-- GNSS_BLANK loses its effect (R128): the interval in progress ends. -/
def State.blankStop (s : State) : State := match s.fe.blank with
  | .idle => s
  | .ignoring => s.modFe fun f => { f with blank := .idle }
  | .active => s.blankOver s.cycleNow .idle
  | .post => s.blankOver (min s.cycleNow s.fe.blankEnd) .idle

/-- The pin is looked at afresh after a change of what decides its effect (R127, R128): blank_en, blank_active_low, lock. -/
def State.blankLook (s : State) : State :=
  if !s.blankLive then s.blankStop
  else if s.blankPin then (if s.fe.blank == .ignoring then s else s.blankBegin s.cycleNow)
  else s.blankRelease s.cycleNow

/-- The synchroniser's output shows a level at the edge that begins a CK_FAB cycle (R127). -/
def State.blankLevel (s : State) (active : Bool) (cycle : Nat) : State :=
  let s := s.modFe fun f => { f with pin := active != s.is FE_CTRL.blank_active_low }
  if !s.blankLive then s
  else if active then (if s.fe.blank == .ignoring then s else s.blankBegin cycle) else s.blankRelease cycle

/-- The cycle at which the interval in progress has run for max_len × 100 µs since e_a (R129). -/
def State.blankLimit (s : State) : Nat := s.fe.blankEa + s.get FE_BLANK_CFG.max_len * 45000

/-- The interval has run for its longest time (R129): ended, counted and reported; the pin is then ignored until it has been
sampled inactive. -/
def State.blankCut (s : State) : State := match s.fe.blank with
  | .active =>
    (((s.blankOver s.blankLimit .ignoring).bump FE_BLANK_COUNT.stuck).flag FE_EVENT.blank_stuck).emit evBlankStuck
  | .post =>
    (((s.blankOver (min s.blankLimit s.fe.blankEnd) .idle).bump FE_BLANK_COUNT.stuck).flag FE_EVENT.blank_stuck).emit evBlankStuck
  | _ => s

/-! ### Antenna supervisor -/

/-- ANT_MEASURE (R130): a measurement of the bias current in units of 0.25 mA. -/
def execAntMeasure (current : Fin 401) (s : State) : Result := whileLive s fun s =>
  if !s.biasOn then .next s.antOff
  else if s.fe.shortOpen then .next s
  else
    let s := s.put FE_ANT_STATUS.current current
    let short := decide (4 * s.get FE_ANT_CFG.short_ma < current.val)
    let low := decide (current.val < s.get FE_ANT_CFG.open_ma)
    let now := s.fe.decide1
    let s := s.modFe fun f => { f with
      okRun := if short || low then 0 else min (f.okRun + 1) 3
      openRun := if low then min (f.openRun + 1) 3 else 0
      decide1 := false }
    if short then .next ((s.antState 3).modFe fun f => { f with shortOpen := true })
    else if low && (now || s.fe.openRun == 3) then .next (s.antState 2)
    else if !low && (now || s.fe.okRun == 3) then .next (s.antState 1)
    else .next s

/-- ANT_RETRY (R130): the switch closes again, and the next measurement decides the state. -/
def execAntRetry (s : State) : Result := whileLive s fun s =>
  if s.fe.shortOpen then
    .next (s.modFe fun f => { f with shortOpen := false, decide1 := true, okRun := 0, openRun := 0 })
  else .next s

/-- Coefficients after an update (R133): a free change of each, at most 50 fs of skew and 0.01 dB of gain (log entry 58). -/
def nextCoef (k : Nat) (v : Vector SubCoef 8) : Vector SubCoef 8 :=
  Vector.ofFn fun i =>
    { offset := v[i].offset + Config.calOffset k i.val
      gain := v[i].gain + clampInt (-100) 100 (Config.calGain k i.val)
      skew := v[i].skew + clampInt (-50) 50 (Config.calSkew k i.val) }

/-- Background calibration runs and its updates are not held (R133). -/
def State.bgLive (s : State) : Bool :=
  s.is FE_CAL_CTRL.bg_en && !(s.is FE_CAL_CTRL.hold || s.capturing) && s.fe.chain == .released && s.locked &&
    !s.is FE_CAL_STATUS.fg_running

/-- An update is applied at a marker, at most once per millisecond, 450,000 CK_FAB cycles (R133). -/
def State.bgUpdate (s : State) : State :=
  let due := match s.fe.bgAt with
    | some c => decide (c + 450000 ≤ s.clk.cycle)
    | none => true
  if s.bgLive && due then
    ((s.bump FE_CAL_STATUS.updates).modFe fun f => { f with coef := nextCoef s.free f.coef, bgAt := some s.clk.cycle }).nextFree.feRecord
  else s

end Sys2Proof.Machine
end

