-- ==== Sys2Proof/Machine/Lanes.lean ====
section
/-! DEFINITION. Band lanes: configurations, filters and fades, sample origins, notch modes and presets. What a lane computes
is in Datapath.lean. -/

namespace Sys2Proof.Machine

/-- The least k with n at most 2^k. -/
def ceilLog2 (n : Nat) : Nat := ((firstThat (fun k => decide (n ≤ 2 ^ k)) (List.range 64)).getD 64)

/-- The tap count and group delay in taps of a ROM response (R147). -/
def romTaps (i : Nat) : Nat :=
  if i == 0 then 1 else if i ≤ 5 then 63 else if i ≤ 28 then 127 else if i == 29 then 95 else if i == 30 then 127 else 63
def romDelay (i : Nat) : Nat :=
  if i == 0 then 0 else if i ≤ 5 then 31 else if i ≤ 28 then 63 else if i == 29 then 47 else if i == 30 then 63 else 31

/-- A filter code that names a filter (R146). -/
def filterValid (sel : Nat) : Bool := decide (sel ≤ 0x21)

/-- The tap count of a filter of a lane (R147, R148). -/
def State.filterTaps (s : State) (l sel : Nat) : Nat :=
  if sel < 0x20 then romTaps sel else s.get (LANE_BANK_CFG.taps l (sel - 0x20))

/-- The group delay of a filter of a lane, in 1/16 taps (R147, R148). -/
def State.filterDelay (s : State) (l sel : Nat) : Nat :=
  if sel < 0x20 then 16 * romDelay sel else s.get (LANE_BANK_CFG.gd l (sel - 0x20))

/-- The configuration that the double-buffered fields hold (R144). -/
def State.decFields (s : State) (l : Nat) : DecCfg :=
  { lA := s.get (LANE_DEC_A.l_a l), dA := s.get (LANE_DEC_A.d_a l), nA := s.get (LANE_DEC_A.n_a l) + 1
    lB := s.get (LANE_DEC_B.l_b l)
    dB := if s.get (LANE_DEC_B.d_b l) == 0 then 64 else s.get (LANE_DEC_B.d_b l)
    nB := s.get (LANE_DEC_B.n_b l) + 1 }

/-- The decimation D of a configuration. -/
def DecCfg.d (c : DecCfg) : Nat := c.dA * c.dB

/-- A valid lane configuration (R142). -/
def DecCfg.valid (c : DecCfg) : Bool :=
  decide (1 ≤ c.dA) && decide (c.dA ≤ 16) && decide (c.dA ≤ c.lA) && decide (c.lA ≤ 32) &&
    decide (1 ≤ c.dB) && decide (c.dB ≤ 64) && decide (1 ≤ c.lB) && decide (c.lB ≤ 255) && decide (36 ≤ c.d)

/-- The decimations of the running lanes other than l. -/
def State.runningDecims (s : State) (l : Nat) : List Nat :=
  (List.range 12).filterMap fun k =>
    if k != l && s.is (LANE_STATUS.running k) then (s.lane k).cfg.map DecCfg.d else none

/-- The sum of n / d over decimations d, rounded down. -/
def rateSum (n : Nat) (ds : List Nat) : Nat :=
  let p := ds.foldl (· * ·) 1
  ds.foldl (fun a d => a + n * (p / d)) 0 / p

/-- The sum of 1 / d is at most 1/9 (R143). -/
def aggregateOk (ds : List Nat) : Bool :=
  let p := ds.foldl (· * ·) 1
  decide (9 * ds.foldl (fun a d => a + p / d) 0 ≤ p)

/-- LANE_AGG shows the sum of the running lanes' rates in kS/s (R143). -/
def State.showAgg (s : State) : State := s.put LANE_AGG.rate_ksps (rateSum 3600000 (s.runningDecims 12))

/-- The group delay G in 1/16 converter samples (R157). -/
def State.groupDelay (s : State) (l : Nat) (c : DecCfg) (sel : Nat) : Nat :=
  8 * (c.nA * (c.lA - 1)) + 8 * (c.dA * (c.nB * (c.lB - 1))) + c.d * s.filterDelay l sel

/-- LANE_GD shows the group delay of the current filter, the outgoing one during a fade (R150, R157). -/
def State.showGd (s : State) (l : Nat) : State := match (s.lane l).cfg with
  | some c => s.put (LANE_GD.gd l) (s.groupDelay l c (s.get (LANE_FIR_STATUS.current l)))
  | none => s

/-- A filter is current, faded in, or pending on a lane (R148). -/
def State.filterInUse (s : State) (l sel : Nat) : Bool :=
  s.get (LANE_FIR_STATUS.current l) == sel ||
    (s.is (LANE_FIR_STATUS.fading l) && s.get (LANE_FIR_STATUS.target l) == sel) ||
    (s.is (LANE_FIR_STATUS.pending_valid l) && s.get (LANE_FIR_STATUS.pending l) == sel)

/-- The locked bits of the loadable banks (R148). -/
def State.showLocks (s : State) (l : Nat) : State :=
  (s.put (LANE_BANK_CFG.locked l 0) (b2n (s.filterInUse l 0x20))).put (LANE_BANK_CFG.locked l 1) (b2n (s.filterInUse l 0x21))

/-- F of a fade request, 16 to 4,096 (LANE_FIR_SEL.fade_len). -/
def fadeLength (f : Nat) : Nat := clampNat 16 4096 f

/-- A fade to a filter, requested, or started where `started` holds (R149, R150): its first word is the first that stage C
produces at least 4 CK_FAB cycles after the request. -/
def State.fadeTo (s : State) (l sel f : Nat) (started : Bool) : State :=
  let x : Fade := { len := f, ready := s.cycleNow + 4, done := if started then some 0 else none }
  ((s.put (LANE_FIR_STATUS.target l) sel).flag (LANE_FIR_STATUS.fading l)).modLane l fun y => { y with fade := some x }

/-- The pending request leaves its slot and its fade starts (R150, R162). -/
def State.startPendingFade (s : State) (l : Nat) : State :=
  if s.is (LANE_FIR_STATUS.pending_valid l) then
    ((s.put (LANE_FIR_STATUS.pending_valid l) 0).fadeTo l (s.get (LANE_FIR_STATUS.pending l)) (s.lane l).pendLen true)
  else s

/-- A fade ends: the filter being faded in is current (R149). -/
def State.fadeOver (s : State) (l : Nat) : State :=
  ((s.put (LANE_FIR_STATUS.current l) (s.get (LANE_FIR_STATUS.target l))).put (LANE_FIR_STATUS.fading l) 0).modLane l
    fun x => { x with fade := none }

/-- A filter request (R150). -/
def State.filterRequest (s : State) (l sel f : Nat) : State :=
  let f := fadeLength f
  if !filterValid sel then s.flag (LANE_EVENT.sel_ignored l)
  else if !s.is (LANE_STATUS.running l) then
    ((((s.put (LANE_FIR_STATUS.current l) sel).put (LANE_FIR_STATUS.fading l) 0).put (LANE_FIR_STATUS.pending_valid l) 0).modLane l
      fun x => { x with fade := none }).showGd l |>.showLocks l
  else if !s.is (LANE_FIR_STATUS.fading l) then
    if s.get (LANE_FIR_STATUS.current l) == sel then s.flag (LANE_EVENT.sel_ignored l)
    else (s.fadeTo l sel f false).showLocks l
  else if s.get (LANE_FIR_STATUS.target l) == sel then s.flag (LANE_EVENT.sel_ignored l)
  else
    let s := s.when (s.is (LANE_FIR_STATUS.pending_valid l)) (·.bump (LANE_COUNT.replaced l))
    (((s.put (LANE_FIR_STATUS.pending l) sel).flag (LANE_FIR_STATUS.pending_valid l)).modLane l
      fun x => { x with pendLen := f }).showLocks l

/-- The fill count of a sample origin (R161). -/
def State.fillCount (s : State) (l : Nat) (c : DecCfg) : Nat :=
  let cur := s.filterTaps l (s.get (LANE_FIR_STATUS.current l))
  let t := if s.is (LANE_FIR_STATUS.fading l) then max cur (s.filterTaps l (s.get (LANE_FIR_STATUS.target l))) else cur
  t - 1 + (c.nB * (c.lB - 1) + c.nA * (c.lA - 1) / c.dA) / c.dB

/-- TIME_ORIGIN records the local-clock time of a lane's sample origin (R160, R352). -/
def State.setOrigin (s : State) (l : Nat) (t : Time) : State :=
  (((s.put (TIME_ORIGIN_SEC_LO.sec_lo l) (tSec t)).put (TIME_ORIGIN_SEC_HI.sec_hi l) (tSec t / 2 ^ 32)).put
    (TIME_ORIGIN_NS.ns l) (tNs t)).put (TIME_ORIGIN_FRAC.frac l) (tFrac t)

/-- Why a sample origin is set: a lane start, a landed sync, or the opening of the gates (R160, R163). -/
inductive OriginKind where
  | start
  | sync
  | relock
  deriving DecidableEq, Repr

/-- The settings of a lane that its registers hold, from a sample on (R138, R166). -/
def State.laneSettings (s : State) (l first : Nat) : LaneSet :=
  { from_ := first, inc := (s.word (LANE_NCO_FREQ l)).toNat, aShift := s.get (LANE_SCALE.a_shift l)
    bShift := s.get (LANE_SCALE.b_shift l), cShift := s.get (LANE_SCALE.c_shift l), rShift := s.get (LANE_SCALE.r_shift l) }

/-- What a sample origin keeps of the winnower (R160): notch states clear, and a pulse window that runs ends with the delay. -/
def Winnower.restart (w : Winnower) : Winnower :=
  { w with notches := vmap (fun n => { n with x := (0, 0), y := (0, 0) }) w.notches, post := 0 }

/-- The cleared sections of a stage (R160). -/
def clearSecs (w n : Nat) : List (MovSec w) := List.replicate n {}

/-- A lane's state cleared at the marker of its new sample origin, under a configuration (R160). -/
def State.clearLane (s : State) (l : Nat) (c : DecCfg) : State :=
  let phase := s.word (LANE_NCO_PHASE l)
  let set := s.laneSettings l 0
  s.modLane l fun x => { x with
    cfg := some c, origin := s.clk.cycle, sets := [set], win := x.win.restart
    path := { phase := phase, secA := clearSecs 32 c.nA, secB := clearSecs 48 c.nB } }

/-- A lane start or sync at its marker (R144, R160 to R163): the buffered fields are checked and applied, the lane's
state is cleared, a fade is cut, and a new sample origin is set. A running lane whose check fails goes on undisturbed: no sync
or restart is flagged, and only its pending start is spent (log entry 59). -/
def State.laneOrigin (s : State) (l : Nat) (kind : OriginKind) : State :=
  let c := s.decFields l
  let starting := s.is (LANE_STATUS.start_pending l)
  let ran := s.is (LANE_STATUS.running l)
  let s := (s.put (LANE_STATUS.start_pending l) 0).modLane l fun x => { x with startIn := none }
  if !c.valid || !aggregateOk (c.d :: s.runningDecims l) then
    (s.flag (LANE_STATUS.cfg_error l)).flag (LANE_EVENT.cfg_refused l)
  else
    let s := (s.put (LANE_STATUS.cfg_error l) 0).flag (LANE_STATUS.running l)
    let s := s.when (starting || !ran || kind == .start) (·.flag (LANE_EVENT.started l))
    let s := s.when (kind == .sync) (·.flag (LANE_EVENT.sync l))
    let s := s.when (kind == .relock) (·.flag (LANE_EVENT.relock_restart l))
    let s := if s.is (LANE_FIR_STATUS.fading l) then ((s.fadeOver l).flag (LANE_EVENT.fade_cut l)).startPendingFade l else s
    let s := s.modLane l fun x => { x with ends := [] }
    let s := s.clearLane l c
    let fill := s.fillCount l c
    let s := ((s.put (LANE_FILL.fill l) fill).put (LANE_STATUS.settling l) (b2n (fill != 0))).setOrigin l (s.ltu.markT + Config.apertureDelay)
    let s := ((s.showGd l).showLocks l).showAgg
    s.modLane l fun x => { x with gds := [(0, s.get (LANE_GD.gd l))] }

/-- The configuration of a lane would be applied at an origin set now (R142, R143, R144). -/
def State.originOk (s : State) (l : Nat) : Bool :=
  (s.decFields l).valid && aggregateOk ((s.decFields l).d :: s.runningDecims l)

/-- A word of the lane carried the overload tag (R158): latched, and reported when the latch is set (R33, R581): DEDUCED, log
entry 55. -/
def State.laneOverload (s : State) (l : Nat) : State :=
  if s.is (LANE_EVENT.overload l) then s else (s.flag (LANE_EVENT.overload l)).emit (evOverload (0x10 + l) 1)

/-- A lane start is requested (R160, R163): it is due at the first marker at least 8 REFCLK periods later. -/
def State.laneStartAsk (s : State) (l : Nat) : State :=
  let n := s.markersFor
  (s.flag (LANE_STATUS.start_pending l)).modLane l fun x => { x with startIn := some n }

/-- LANE_ENABLE (R160, R163): a lane start is requested. -/
def State.laneEnable (s : State) (l : Nat) : State :=
  if s.is (LANE_CTRL.enable l) then s else (s.flag (LANE_CTRL.enable l)).laneStartAsk l
def execLaneEnable (lane : Fin 12) (s : State) : Result := whileLive s fun s => .next (s.laneEnable lane)

/-- LANE_RESTART (R160, R163): a lane start is requested while the lane runs. -/
def State.laneRestart (s : State) (l : Nat) : State :=
  if s.is (LANE_STATUS.running l) then s.laneStartAsk l else s
def execLaneRestart (lane : Fin 12) (s : State) : Result := whileLive s fun s => .next (s.laneRestart lane)

/-- FILTER_REQUEST (R149, R150). -/
def execFilterRequest (lane : Fin 12) (sel : Fin 64) (fadeLen : Fin 8192) (s : State) : Result := whileLive s fun s =>
  .next (s.filterRequest lane sel fadeLen)

/-- A write to a loadable bank (R148): discarded and counted while the bank is locked. -/
def State.bankWrite (s : State) (l b : Nat) (target : BankTarget) (value : Word) : State :=
  if s.filterInUse l (0x20 + b) then (s.bump (LANE_COUNT.bank_busy l)).flag (LANE_EVENT.bank_busy l)
  else match target with
    | .coef t => s.put (LANE_COEF.coef l b t.val) value.toNat
    | .config =>
      (s.put (LANE_BANK_CFG.taps l b) (clampNat 1 128 (bits value.toNat 0 8))).put (LANE_BANK_CFG.gd l b) (bits value.toNat 8 11)

/-- BANK_WRITE (R148). -/
def execBankWrite (lane : Fin 12) (bank : Fin 2) (target : BankTarget) (value : Word) (s : State) : Result := whileLive s fun s =>
  .next (s.bankWrite lane bank target value)

/-! ### Presets -/

/-- A lane preset: centre in kHz, D_A = L_A, D_B = L_B, and the ROM response (R165). -/
structure Preset where
  centre : Nat
  a      : Nat
  b      : Nat
  rom    : Nat
  deriving DecidableEq, Repr

/-- The presets of R165, by number. -/
def presetOf : Nat → Option Preset
  | 1 => some ⟨1575420, 15, 60, 23⟩
  | 2 => some ⟨1575420, 15, 12, 25⟩
  | 3 => some ⟨1561098, 15, 30, 23⟩
  | 4 => some ⟨1570815, 9, 10, 23⟩
  | 5 => some ⟨1601720, 15, 12, 22⟩
  | 6 => some ⟨1227600, 15, 60, 23⟩
  | 7 => some ⟨1245785, 15, 24, 25⟩
  | 8 => some ⟨1237860, 9, 10, 23⟩
  | 9 => some ⟨1176450, 9, 10, 23⟩
  | 10 => some ⟨1207140, 9, 10, 23⟩
  | 11 => some ⟨1191795, 3, 12, 23⟩
  | 12 => some ⟨1268520, 9, 10, 23⟩
  | 13 => some ⟨1278750, 15, 12, 23⟩
  | 14 => some ⟨1271080, 9, 10, 24⟩
  | _ => none

/-- inc = round(centre × 2^32 / 3.6 GHz) (R165). -/
def presetInc (p : Preset) : Nat := (2 * p.centre * 2 ^ 32 + 3600000) / 7200000

/-- c_shift = 19 + ceil(peak gain / 6.02) for the responses that presets name (R147, R165). -/
def presetCShift (p : Preset) : Nat := if p.rom ≤ 23 then 20 else 21

/-- The rate of a preset in kS/s. -/
def presetRate (p : Preset) : Nat := 3600000 / (p.a * p.b)

/-- The registers of a lane programmed with a preset (R165); the filter becomes current as a request without a lane
running, or by a fade of the shortest length. -/
def State.programPreset (s : State) (l : Nat) (p : Preset) : State :=
  let s := s.setWord (LANE_NCO_FREQ l) (BitVec.ofNat 32 (presetInc p))
  let s := ((s.put (LANE_DEC_A.l_a l) p.a).put (LANE_DEC_A.d_a l) p.a).put (LANE_DEC_A.n_a l) 3
  let s := ((s.put (LANE_DEC_B.l_b l) p.b).put (LANE_DEC_B.d_b l) p.b).put (LANE_DEC_B.n_b l) 3
  let s := (s.put (LANE_SCALE.a_shift l) (ceilLog2 (p.a ^ 4) - 4)).put (LANE_SCALE.b_shift l) (ceilLog2 (p.b ^ 4) - 2)
  (s.put (LANE_SCALE.c_shift l) (presetCShift p)).filterRequest l p.rom 16

end Sys2Proof.Machine
end

