-- ==== Sys2Proof/Machine/Datapath.lean ====
section
/-! DEFINITION. What a band lane computes (R136 to R159): the mixer and the NCO, the moving-sum stages A and B, the FIR of
stage C with its cross-fade, the winnower's notches, detector and pulse blanker, and the requantiser that forms the words of
the lane bus. -/

namespace Sys2Proof.Machine

/-! ### Values between stages -/

/-- A value limited to w bits in two's complement, and whether it was (R137). -/
def satW (w : Nat) (v : Int) : Int × Bool :=
  let r := clampInt (-((2 ^ (w - 1) : Nat) : Int)) ((2 ^ (w - 1) : Nat) - 1) v
  (r, r != v)

/-- A complex value limited to w bits: the tag that it carried, and a saturation (R137). -/
def CWord.sat (w : Nat) (i q : Int) (ovl : Bool) : CWord w :=
  let a := satW w i
  let b := satW w q
  { i := BitVec.ofInt w a.1, q := BitVec.ofInt w b.1, ovl := ovl || a.2 || b.2 }

/-- A stage's output: an arithmetic shift, truncating towards minus infinity, and a saturation (R137, R140). -/
def CWord.scale {w : Nat} (v : CWord w) (w' shift : Nat) : CWord w' :=
  CWord.sat w' (v.i.toInt / 2 ^ shift) (v.q.toInt / 2 ^ shift) v.ovl

/-! ### Mixer and NCO -/

/-- The mixer's cosine and sine of a phase (R138): round(1023 cos) and round(1023 sin) of its 14 upper bits. -/
def ncoCos (phase : BitVec 32) : Int := fixRound 1023 (cosTurn (phase.toNat / 2 ^ 18) 16384)
def ncoSin (phase : BitVec 32) : Int := fixRound 1023 (sinTurn (phase.toNat / 2 ^ 18) 16384)

/-- The mixer's output for a converter sample (R138). -/
def mix (x : Int) (phase : BitVec 32) : Int × Int := ((x * ncoCos phase) / 256, (x * -ncoSin phase) / 256)

/-! ### Moving sums -/

/-- A section takes a value (R140, R141): the sum of its last n inputs in registers that wrap. -/
def MovSec.push {w : Nat} (n : Nat) (x : CWord w) (m : MovSec w) : MovSec w :=
  let old : CWord w := if m.line.length < n then { i := 0, q := 0 } else m.line.getLast?.getD { i := 0, q := 0 }
  { line := (x :: m.line).take n, i := m.i + x.i - old.i, q := m.q + x.q - old.q }

/-- A section's output: an overload tag stays for the length of the section (R158). -/
def MovSec.value {w : Nat} (m : MovSec w) : CWord w := { i := m.i, q := m.q, ovl := m.line.any CWord.ovl }

/-- The sections of a stage in cascade take a value: the output of the last (R140). -/
def pushAll {w : Nat} (n : Nat) : CWord w → List (MovSec w) → CWord w × List (MovSec w)
  | x, [] => (x, [])
  | x, m :: ms =>
    let m := m.push n x
    let r := pushAll n m.value ms
    (r.1, m :: r.2)

/-- The lane takes one converter sample through the mixer and stages A and B (R136 to R141): stage B's output, where it gives
one. -/
def LanePath.sample (p : LanePath) (c : DecCfg) (set : LaneSet) (x : Sample) : LanePath × Option (CWord 18) :=
  let m := mix x.x p.phase
  let a := pushAll c.lA { i := BitVec.ofInt 32 m.1, q := BitVec.ofInt 32 m.2, ovl := x.clip } p.secA
  let p := { p with taken := p.taken + 1, phase := p.phase + BitVec.ofNat 32 set.inc, secA := a.2 }
  if p.taken % c.dA != 0 then (p, none)
  else
    let v := a.1.scale 16 set.aShift
    let b := pushAll c.lB { i := v.i.signExtend 48, q := v.q.signExtend 48, ovl := v.ovl } p.secB
    let p := { p with formedA := p.formedA + 1, secB := b.2 }
    if p.formedA % c.dB != 0 then (p, none) else (p, some (b.1.scale 18 set.bShift))

/-! ### Stage C -/

/-- The coefficients of a ROM response (R147): symmetric about its group delay, with the sum 131,072; all but the middle one
are free (log entry 61). -/
def romCoefs (i : Nat) : List Int :=
  let g := romDelay i
  let half := (List.range g).map fun t => Config.romCoef i t
  half ++ [131072 - 2 * half.foldl (· + ·) 0] ++ half.reverse

/-- The coefficients of a filter of a lane, h[0] first (R146 to R148): of a loadable bank the first T. -/
def State.firCoefs (s : State) (l sel : Nat) : List Int :=
  if sel < 0x20 then romCoefs sel
  else (List.range (s.filterTaps l sel)).map fun t => signed 20 (s.get (LANE_COEF.coef l (sel - 0x20) t))

/-- The sum of a filter over the delay line, the newest word first, and whether a word within its taps carries overload (R145,
R158). -/
def firSum : List Int → List (CWord 18) → Int × Int × Bool
  | h :: hs, v :: vs =>
    let r := firSum hs vs
    (h * v.i.toInt + r.1, h * v.q.toInt + r.2.1, v.ovl || r.2.2)
  | _, _ => (0, 0, false)

/-- The weight of the j-th word of a fade of F words (R149). -/
def fadeWeight (f j : Nat) : Nat := 65536 * min j f / f

/-- The blend of two sums (R149). -/
def blend (old new : Int) (w : Nat) : Int := old + (new - old) * (w : Int) / 65536

/-- Stage C's output for the words in its delay line, by the current filter and the j-th word of a fade (R145, R149). -/
def State.stageC (s : State) (l cShift : Nat) (line : List (CWord 18)) (j : Option Nat) : CWord 16 :=
  let old := firSum (s.firCoefs l (s.get (LANE_FIR_STATUS.current l))) line
  match (s.lane l).fade, j with
  | some f, some j =>
    let new := firSum (s.firCoefs l (s.get (LANE_FIR_STATUS.target l))) line
    let w := fadeWeight f.len j
    CWord.sat 16 (blend old.1 new.1 w / 2 ^ cShift) (blend old.2.1 new.2.1 w / 2 ^ cShift) (old.2.2 || new.2.2)
  | _, _ => CWord.sat 16 (old.1 / 2 ^ cShift) (old.2.1 / 2 ^ cShift) old.2.2

/-! ### The winnower's notches -/

/-- The bin of a notch frequency: units of rate / 2^24 against 256 bins (R152, R153). -/
def notchBin (freq : Nat) : Nat := (freq + 2 ^ 15) / 2 ^ 16 % 256

/-- The product of two complex numbers. -/
def cMul (a b : Int × Int) : Int × Int := (a.1 * b.1 - a.2 * b.2, a.1 * b.2 + a.2 * b.1)

/-- The squared magnitude of a complex number. -/
def cPow (a : Int × Int) : Nat := mag a.1 ^ 2 + mag a.2 ^ 2

/-- The new output of an engaged notch in 2^-16 units (R152): x − e x₁ + ρ e y₁, where e = e^(jθ), x₁ and y₁ are the last input
and output, and ρ = 1 − 2^(−k). -/
def notchSum (freq k : Nat) (x : Int × Int) (n : Notch) : Int × Int :=
  let e := (cosTurn freq (2 ^ 24), sinTurn freq (2 ^ 24))
  let a := cMul e n.x
  let b := cMul e n.y
  let part := fun (u v w : Int) =>
    u * 65536 - v * 65536 / (fixOne : Nat) + w * ((2 ^ k - 1 : Nat) : Int) / ((2 ^ k * fixOne : Nat) : Int)
  (part x.1 a.1 b.1, part x.2 a.2 b.2)

/-- A word passes an engaged notch (R152): the output is the filter's to within one code, by a free rounding (log entry 62). -/
def notchPass (freq k seed : Nat) (x : Int × Int) (n : Notch) : (Int × Int) × Bool × Notch :=
  let y := notchSum freq k x n
  let near := fun (v : Int) (i : Nat) => (v + 32768) / 65536 + clampInt (-1) 1 (Config.notchRound seed i)
  let a := satW 16 (near y.1 0)
  let b := satW 16 (near y.2 1)
  let out := (a.1, b.1)
  (out, a.2 || b.2, { n with
    x := x, y := y, removed := n.removed + cPow (x.1 - out.1, x.2 - out.2), passed := n.passed + cPow out })

/-- A word passes notch j of a lane (R151, R152): an engaged automatic notch tracks the interferer, except on words tagged
blank, and writes its estimate to LANE_NOTCH.freq; the loop's equations are not given (log entry 62). -/
def State.notchWord (s : State) (l j : Nat) (blank : Bool) (x : (Int × Int) × Bool) : State × (Int × Int) × Bool :=
  if s.is (LANE_WIN_CFG.bypass l) || !s.is (LANE_NOTCH.engaged l j) then (s, x)
  else
    let freq := s.get (LANE_NOTCH.freq l j)
    let n := vget {} (s.lane l).win.notches j
    let r := notchPass freq (s.get (LANE_WIN_CFG.rho_k l)) s.free x.1 n
    let track := s.get (LANE_NOTCH.mode l j) == 1 && !blank
    let bw := s.get (LANE_WIN_CFG.track_bw l)
    let m := if track then { r.2.2 with rate := Config.notchRate freq n.rate bw r.1 } else r.2.2
    let s := (s.modLane l fun y => { y with win := { y.win with notches := vmod (fun _ => m) y.win.notches j } }).nextFree
    let s := if track then s.put (LANE_NOTCH.freq l j) (Config.notchFreq freq n.rate bw r.1) else s
    (s, r.1, x.2 || r.2.1)

/-- A word passes the four notches in cascade (R151). -/
def State.notchWords (s : State) (l : Nat) (blank : Bool) (x : (Int × Int) × Bool) : State × (Int × Int) × Bool :=
  [0, 1, 2, 3].foldl (fun r j => r.1.notchWord l j blank r.2) (s, x)

/-! ### The pulse blanker -/

/-- The blanker's estimate of a word's magnitude (R154). -/
def pulseMag (i q : Int) : Nat := max (mag i) (mag q) + min (mag i) (mag q) / 2

/-- A magnitude exceeds pb_factor / 8 times the mean of the estimates kept; without any, it does not (R154). -/
def pulseOver (factor m : Nat) (kept : List Nat) : Bool :=
  decide (factor * kept.foldl (· + ·) 0 < 8 * m * kept.length)

/-- The first n words of a delay blanked. -/
def blankFirst : Nat → List WinWord → List WinWord
  | n + 1, w :: ws => { w with pulse := true } :: blankFirst n ws
  | _, ws => ws

/-- A word enters the 16-word delay behind the pulse blanker (R151, R154). -/
def State.pulseWord (s : State) (l : Nat) (w : WinWord) : State :=
  let x := s.lane l
  let on := s.is (LANE_PB_CFG.pb_en l) && !s.is (LANE_WIN_CFG.bypass l)
  let found := on && pulseOver (s.get (LANE_PB_CFG.pb_factor l)) (pulseMag w.i.toInt w.q.toInt) x.win.mags
  let pulse := found || (on && decide (0 < x.win.post))
  let before := if found then blankFirst (s.get (LANE_PB_CFG.pb_pre l)) x.path.delay else x.path.delay
  let post := if found then s.get (LANE_PB_CFG.pb_post l) else x.win.post - 1
  s.modLane l fun y => { y with
    path := { y.path with delay := { w with pulse := pulse } :: before }
    win := { y.win with post := post } }

/-! ### The requantiser and the lane bus -/

/-- The bits of a lane bus word (R156). -/
def busBits (i q : Int) (settle blank ovl : Bool) : BitVec 23 :=
  BitVec.ofNat 23 (unsigned 10 q + unsigned 10 i * 2 ^ 10 + b2n settle * 2 ^ 20 + b2n blank * 2 ^ 21 + b2n ovl * 2 ^ 22)

/-- The setting of a lane for a converter sample (R139, R166). -/
def LaneState.setAt (x : LaneState) (n : Nat) : LaneSet := (firstThat (fun e : LaneSet => decide (e.from_ ≤ n)) x.sets).getD {}

/-- The pulse blanker's books for a word that leaves the delay (R154): the estimate of a word that it has not blanked, and
pb_duty over the last 65,536 words. -/
def State.pulseCount (s : State) (l : Nat) (w : WinWord) : State :=
  let s := s.modLane l fun y => { y with win := { y.win with
    mags := if w.pulse then y.win.mags else (pulseMag w.i.toInt w.q.toInt :: y.win.mags).take 1024
    pulses := (w.pulse :: y.win.pulses).take 65536 } }
  s.put (LANE_STATUS.pb_duty l) (min 255 (((s.lane l).win.pulses.filter id).length / 256))

/-- The requantiser's window with a word (R155): at 65,536 words the rms of its 16-bit I and Q (log entry 63) and the number of
saturations are shown. -/
def State.rqCount (s : State) (l power sats : Nat) : State :=
  let w := (s.lane l).win
  if w.rqWords + 1 < 65536 then
    s.modLane l fun y => { y with win := { y.win with
      rqWords := y.win.rqWords + 1, rqPower := y.win.rqPower + power, rqSats := y.win.rqSats + sats } }
  else
    let s := (s.put (LANE_RQ_LEVEL.rms16 l) (Nat.sqrt ((w.rqPower + power) / 131072))).put (LANE_RQ_LEVEL.sat_count l)
      (min 0xFFFF (w.rqSats + sats))
    s.modLane l fun y => { y with win := { y.win with rqWords := 0, rqPower := 0, rqSats := 0 } }

/-- A word leaves the winnower's delay, and the lane, on the lane bus (R155, R156, R158, R159, R161). -/
def State.leaveWord (s : State) (l : Nat) (w : WinWord) : State :=
  let x := s.lane l
  let k := x.path.out.length
  let i := if w.pulse then 0 else w.i.toInt
  let q := if w.pulse then 0 else w.q.toInt
  let r := (x.setAt (k * s.laneD l)).rShift
  let a := satW 10 (i / 2 ^ r)
  let b := satW 10 (q / 2 ^ r)
  let ovl := w.ovl || a.2 || b.2
  let s := (s.pulseCount l w).rqCount l (cPow (i, q)) (b2n a.2 + b2n b.2)
  let s := s.modLane l fun y => { y with path := { y.path with out := busBits a.1 b.1 w.settle w.blank ovl :: y.path.out } }
  let s := if ovl then s.laneOverload l else s
  if s.get (LANE_FILL.fill l) ≤ k then s.put (LANE_STATUS.settling l) 0 else s

/-- The oldest word of the delay leaves once 16 words have followed it (R151). -/
def State.delayOut (s : State) (l : Nat) : State :=
  let d := (s.lane l).path.delay
  match d[16]? with
  | some w => (s.modLane l fun y => { y with path := { y.path with delay := y.path.delay.take 16 } }).leaveWord l w
  | none => s

/-! ### Words and samples -/

/-- The CK_FAB cycle, counted since reset, by which stage C has formed the word that ends with a sample: 72 cycles of the front
end (R116) and 48 of the lane (R159) after it was taken. -/
def LaneState.formedAt (x : LaneState) (sample : Nat) : Nat := (8 * x.origin + sample + 960 + 7) / 8

/-- The word of a fade that stage C forms next, where one runs or may start (R149, R150). -/
def LaneState.fadeWord (x : LaneState) (sample : Nat) : Option Nat := match x.fade with
  | none => none
  | some f => match f.done with
    | some j => some (j + 1)
    | none => if f.ready ≤ x.formedAt sample then some 1 else none

/-- A word enters the detector's block (R153): as zero where it carries the blank tag; a block of 4,096 words is then ready. -/
def Winnower.detect (w : Winnower) (v : CWord 16) (blank : Bool) : Winnower :=
  let b := (if blank then (0, 0) else (v.i, v.q)) :: w.block
  if b.length < 4096 then { w with block := b } else { w with block := [], ready := some b }

/-- A fade that has had its last word gives way to a pending request, whose first word comes next (R150). -/
def State.nextFade (s : State) (l : Nat) : State := match (s.lane l).fade with
  | some f =>
    if f.done == some f.len && s.is (LANE_FIR_STATUS.pending_valid l) then
      (((s.fadeOver l).startPendingFade l).showGd l).showLocks l
    else s
  | none => s

/-- The group delay in 1/16 samples of the word that stage C forms (R157): that of the filter faded in once its fade has had
its last word. -/
def State.formDelay (s : State) (l : Nat) : Nat :=
  let ended := match (s.lane l).fade with
    | some f => f.done == some f.len
    | none => false
  match (s.lane l).cfg with
  | some c => s.groupDelay l c (s.get (if ended then LANE_FIR_STATUS.target l else LANE_FIR_STATUS.current l))
  | none => 0

/-- A change of the group delay is recorded with the word from which on it holds (R157). -/
def LaneState.noteGd (x : LaneState) (k gd : Nat) : LaneState := match x.gds with
  | e :: _ => if e.2 == gd then x else { x with gds := (k, gd) :: x.gds }
  | [] => { x with gds := [(k, gd)] }

/-- A fade with its next word blended. -/
def Fade.step (f : Fade) (j : Option Nat) : Fade := { f with done := j.map (min f.len) }

/-- The ends to be shown, with that of a fade whose last word is word k (R149). -/
def LaneState.endsAt (x : LaneState) (k : Nat) (j : Option Nat) : List Nat := match x.fade with
  | some f => if j == some f.len then x.ends ++ [k] else x.ends
  | none => x.ends

/-- Stage B gave a word (R145, R149, R151, R158): stage C, the detector, the notches, the pulse blanker and the delay. -/
def State.laneWord (s : State) (l : Nat) (v : CWord 18) : State :=
  let s := s.nextFade l
  let x := s.lane l
  let k := x.path.formed
  let last := (k + 1) * s.laneD l - 1
  let line := (v :: x.path.line).take 128
  let j := x.fadeWord last
  let c := s.stageC l (x.setAt (k * s.laneD l)).cShift line j
  let g := s.formDelay l
  let gd := g / 16
  let blank := decide (gd ≤ last) && (s.sampleAt (8 * x.origin + last - gd)).blank
  let settle := decide (k < s.get (LANE_FILL.fill l))
  let s := s.modLane l fun y => { y.noteGd k g with
    path := { y.path with formed := k + 1, line := line }
    fade := y.fade.map (·.step j), ends := y.endsAt k j
    win := { y.win.detect c blank with notches := vmap (fun n => { n with wait := n.wait.map (· - 1) }) y.win.notches } }
  let r := s.notchWords l blank ((c.i.toInt, c.q.toInt), c.ovl)
  let w : WinWord := { i := BitVec.ofInt 16 r.2.1.1, q := BitVec.ofInt 16 r.2.1.2, settle := settle, blank := blank, ovl := r.2.2 }
  (r.1.pulseWord l w).delayOut l

/-- A lane takes its next converter sample (R136). -/
def State.laneStep (s : State) (l : Nat) : State :=
  let x := s.lane l
  match x.cfg with
  | none => s
  | some c =>
    let n := x.path.taken
    let r := x.path.sample c (x.setAt n) (s.sampleAt (8 * x.origin + n))
    let s := s.modLane l fun y => { y with path := r.1 }
    match r.2 with
    | some v => s.laneWord l v
    | none => s

/-- A lane takes n converter samples. -/
def State.laneSteps (s : State) (l : Nat) : Nat → State
  | 0 => s
  | n + 1 => (s.laneStep l).laneSteps l n

/-- The converter samples of a lane whose effect has left it by the present CK_FAB cycle: 72 cycles of the front end and 48 of
the lane lie behind each (R116, R159). -/
def State.samplesDue (s : State) (l : Nat) : Nat := 8 * s.cycleNow + 1 - 960 - 8 * (s.lane l).origin

/-- A running lane computes up to the present CK_FAB cycle. -/
def State.runLane (s : State) (l : Nat) : State :=
  if s.is (LANE_STATUS.running l) && s.locked then s.laneSteps l (s.samplesDue l - (s.lane l).path.taken) else s

/-- Every running lane computes up to the present CK_FAB cycle. -/
def State.runLanes (s : State) : State := s.each (List.range 12) State.runLane

/-- A change of LANE_NCO_FREQ or LANE_SCALE takes effect from the first converter sample of the next lane word: the first word
none of whose samples has reached the lane's input (R139, R166). -/
def State.laneSetNow (s : State) (l : Nat) : State :=
  let d := s.laneD l
  let n := 8 * s.cycleNow - 576 - 8 * (s.lane l).origin
  let set := s.laneSettings l ((n + d - 1) / d * d)
  s.modLane l fun x => { x with sets := set :: x.sets }

/-- NCO_FREQ_WRITE (R139). -/
def execNcoFreqWrite (lane : Fin 12) (inc : Word) (s : State) : Result := whileLive s fun s =>
  .next ((s.setWord (LANE_NCO_FREQ lane) inc).laneSetNow lane)

/-! ### The detector -/

/-- One bin of the 256-point transform of a segment, in 2^-60 units (R153): the sum of x e^(−j2πbn/256). -/
def dftBin (bin : Nat) : Nat → List (BitVec 16 × BitVec 16) → Int × Int
  | _, [] => (0, 0)
  | n, v :: vs =>
    let c := cosTurn (bin * n) 256
    let d := sinTurn (bin * n) 256
    let r := dftBin bin (n + 1) vs
    (v.1.toInt * c + v.2.toInt * d + r.1, v.2.toInt * c - v.1.toInt * d + r.2)

/-- The segments of 256 words of a block. -/
def segments : Nat → List (BitVec 16 × BitVec 16) → List (List (BitVec 16 × BitVec 16))
  | 0, _ => []
  | n + 1, b => b.take 256 :: segments n (b.drop 256)

/-- The power spectrum of a block over its 16 segments (R153). -/
def spectrum (block : List (BitVec 16 × BitVec 16)) : List Nat :=
  let segs := segments 16 block.reverse
  (List.range 256).map fun b => segs.foldl (fun a g => a + cPow (dftBin b 0 g)) 0

/-- Numbers in ascending order. -/
def insertNat (x : Nat) : List Nat → List Nat
  | [] => [x]
  | y :: ys => if y < x then y :: insertNat x ys else x :: y :: ys
def sortNats : List Nat → List Nat
  | [] => []
  | x :: xs => insertNat x (sortNats xs)

/-- The median bin of a spectrum: the 128th of 256 in ascending order (R153; log entry 62). -/
def medianBin (p : List Nat) : Nat := (sortNats p).getD 127 0

/-- Lines as bin and power in descending power; of equal ones the lower bin first. -/
def insertLine (x : Nat × Nat) : List (Nat × Nat) → List (Nat × Nat)
  | [] => [x]
  | y :: ys => if y.2 ≤ x.2 then x :: y :: ys else y :: insertLine x ys
def sortLines : List (Nat × Nat) → List (Nat × Nat)
  | [] => []
  | x :: xs => insertLine x (sortLines xs)

/-- The distance of two bins around the spectrum. -/
def binDistance (a b : Nat) : Nat := let d := (a + 256 - b) % 256; min d (256 - d)

/-- A bin lies more than 2 bins from every engaged notch of the lane (R153). -/
def State.binClear (s : State) (l bin : Nat) : Bool :=
  (List.range 4).all fun j => !s.is (LANE_NOTCH.engaged l j) || decide (2 < binDistance bin (notchBin (s.get (LANE_NOTCH.freq l j))))

def State.modNotch (s : State) (l j : Nat) (f : Notch → Notch) : State :=
  s.modLane l fun x => { x with win := { x.win with notches := vmod f x.win.notches j } }

/-- A notch of a lane. -/
def State.notch (s : State) (l j : Nat) : Notch := vget {} (s.lane l).win.notches j

/-- A notch takes a line: its tracker starts at the bin centre, and it engages 256 words later (R153). One that was engaged is
released for it. -/
def State.notchTake (s : State) (l j bin : Nat) : State :=
  let was := s.is (LANE_NOTCH.engaged l j)
  let s := ((s.put (LANE_NOTCH.freq l j) (bin * 2 ^ 16)).put (LANE_NOTCH.engaged l j) 0).when was (·.flag (LANE_EVENT.notch_change l))
  s.modNotch l j fun _ => { wait := some 256 }

/-- The J/N that LANE_WIN_STATUS shows for notch j. -/
def jnField (l j : Nat) : Field := ⟨LANE_WIN_STATUS l, 8 * j, 8⟩

/-- The weakest engaged automatic notch of a lane. -/
def State.weakestNotch (s : State) (l : Nat) : Option Nat :=
  (List.range 4).foldl (fun best j =>
    if s.get (LANE_NOTCH.mode l j) == 1 && s.is (LANE_NOTCH.engaged l j) then
      match best with
      | none => some j
      | some b => if s.get (jnField l j) < s.get (jnField l b) then some j else some b
    else best) none

/-- One line of a block, by its bin and its power, against the median bin's (R153). -/
def State.detectLine (s : State) (l median bin power : Nat) : State :=
  let free := firstThat (fun j => s.get (LANE_NOTCH.mode l j) == 1 && !s.is (LANE_NOTCH.engaged l j) &&
    (s.notch l j).wait.isNone) (List.range 4)
  match free with
  | some j => s.notchTake l j bin
  | none => match s.weakestNotch l with
    | some j => if dbAtLeast power median (s.get (jnField l j) + 6) then s.notchTake l j bin else s.bump (LANE_COUNT.unserved l)
    | none => s.bump (LANE_COUNT.unserved l)

/-- The J/N of an engaged notch over the block that ends (LANE_WIN_STATUS; log entry 62), and how many words it has been low for:
below j_thresh − 3 dB (R153). -/
def State.notchLevel (s : State) (l j : Nat) : State :=
  if s.is (LANE_NOTCH.engaged l j) then
    let n := s.notch l j
    let jn := dbFloor n.removed n.passed 255
    let low := decide (jn + 3 < s.get (LANE_WIN_CFG.j_thresh l))
    (s.put (jnField l j) jn).modNotch l j fun n => { n with removed := 0, passed := 0, low := if low then n.low + 4096 else 0 }
  else s

/-- A block of 4,096 words has ended (R153): every notch's J/N, and the lines, which are taken in descending power. -/
def State.detectBlock (s : State) (l : Nat) (block : List (BitVec 16 × BitVec 16)) : State :=
  let s := s.each (List.range 4) fun s j => s.notchLevel l j
  let p := spectrum block
  let m := medianBin p
  let found := (sortLines (p.zipIdx.map fun x => (x.2, x.1))).filter fun x =>
    dbAtLeast x.2 m (s.get (LANE_WIN_CFG.j_thresh l)) && decide (0 < x.2) && s.binClear l x.1
  let s := s.modLane l fun x => { x with win := { x.win with ready := none } }
  s.each found fun s x => s.detectLine l m x.1 x.2

/-- A notch that took a line engages (R153). -/
def State.notchEngage (s : State) (l j : Nat) : State :=
  ((s.flag (LANE_NOTCH.engaged l j)).flag (LANE_EVENT.notch_change l)).modNotch l j fun n => { n with wait := none }

/-- NOTCH_RELEASE (R153): an automatic notch whose J/N has stayed below j_thresh − 3 dB for `release` milliseconds disengages. -/
def State.notchIdle (s : State) (l j : Nat) : Bool :=
  s.get (LANE_NOTCH.mode l j) == 1 && s.is (LANE_NOTCH.engaged l j) &&
    decide (s.get (LANE_WIN_CFG.release l) * 3600000 ≤ (s.notch l j).low * s.laneD l)

/-- NOTCH_FREQ_WRITE (R152, LANE_NOTCH.freq): the tracker restarts from the value written. -/
def execNotchFreqWrite (lane : Fin 12) (notch : Fin 4) (freq : BitVec 24) (s : State) : Result := whileLive s fun s =>
  .next ((s.put (LANE_NOTCH.freq lane notch) freq.toNat).modNotch lane notch fun n => { n with rate := 0 })

/-- A write of a notch's mode (R152): a fixed notch is engaged, one that is off is not. -/
def State.notchMode (s : State) (l j mode : Nat) : State :=
  let m := if mode == 3 then 2 else mode
  let was := s.is (LANE_NOTCH.engaged l j)
  let s := s.put (LANE_NOTCH.mode l j) m
  if m == 2 then ((s.flag (LANE_NOTCH.engaged l j)).when (!was) (·.flag (LANE_EVENT.notch_change l))).modNotch l j
    fun n => { n with wait := none }
  else if m == 0 then ((s.put (LANE_NOTCH.engaged l j) 0).when was (·.flag (LANE_EVENT.notch_change l))).modNotch l j
    fun n => { n with wait := none }
  else s

end Sys2Proof.Machine
end

