-- ==== Sys2Proof/Machine/DspOps.lean ====
section
/-! DEFINITION. The DSP cores as other units meet them: raising an interrupt source (R282 to R285, R288), resetting and
holding a core (R241, R297), the dump queue (R225), and what becomes of a kernel (R296 to R298). -/

namespace Sys2Proof.Machine

def State.modDsp (s : State) (f : DspState → DspState) : State := { s with dsp := f s.dsp }
def State.core (s : State) (n : Nat) : DspCore := vget {} s.dsp.cores n
def State.modCore (s : State) (n : Nat) (f : DspCore → DspCore) : State :=
  s.modDsp fun d => { d with cores := vmod f d.cores n }
def State.modFile (s : State) (n : Nat) (f : DspFile → DspFile) : State := s.modCore n fun c => { c with file := f c.file }

/-- The kernel of open core n, for n from 12 to 15. -/
def State.kernel (s : State) (n : Nat) : Kernel := vget {} s.dsp.kernels (n - 12)
def State.modKernel (s : State) (n : Nat) (f : Kernel → Kernel) : State :=
  s.modDsp fun d => { d with kernels := vmod f d.kernels (n - 12) }

/-- DSP_12 to DSP_15 are the open cores. -/
def isOpenCore (n : Nat) : Bool := decide (12 ≤ n) && decide (n ≤ 15)

/-- The initiator ID of DSP_n (R247). -/
def dspId (n : Nat) : Nat := 0x10 + n

/-- CK_CORE is delivered to the cores: ADPLL-A is locked and its gates are open (R18, R72, R76, R240). -/
def State.coreClock (s : State) : Bool := s.locked && s.mainLive

/-- The condition of source 6: enough records in the dump queue, or enough unread words in the feed (R282). -/
def State.queueCondition (s : State) (n : Nat) : Bool :=
  if isOpenCore n then
    s.is (FEED_CFG.granted n) &&
      decide (s.get (FEED_CFG.thresh n) ≤ (s.get (FEED_WIDX.widx n) + 2048 - s.get (FEED_RIDX.ridx n)) % 2048)
  else decide (s.get (DQ_STATUS.thresh n) ≤ (s.core n).dumps.length)

/-- The registers of the I/O page of core n that a start of the core resets whole (R250, "I/O registers"). -/
def dspResetRegs (n : Nat) : List Nat :=
  [WIN_HI n 0, WIN_HI n 1, WIN_HI n 2, WIN_HI n 3, INT_PEND n, INT_MASK n, INT_STATUS n, INT_RET n, INT_SAVED_SR n,
   INT_FAULT_PC n, INT_FAULT_ADDR n, WDG_CTRL n, TRIG_LAST n, NOTIFY n, DOORBELL n, DQ_STATUS n, DQ_DATA n, UPD_DATA n,
   FEED_CFG n, FEED_WIDX n, FEED_RIDX n, FEED_WORD_LO n, FEED_WORD_HI n, FEED_STATUS n]

/-- A core reset (R241): registers, program counter, return stack and I/O registers take their Reset values; base and en
of the windows, the local memories, and the grant of a lane feed are kept (R250, R297; log entry 18). The core is left
held. -/
def State.coreReset (s : State) (n : Nat) : State :=
  let granted := s.get (FEED_CFG.granted n)
  let lane := s.get (FEED_CFG.lane n)
  let q := s.get (FEED_CFG.q n)
  let stopped := s.get (FEED_STATUS.lane_stopped n)
  let s := s.each (dspResetRegs n) fun s a => s.setWord a (regReset a)
  let s := s.each (List.range 4) fun s w => ((s.put (WIN_CFG.cls n w) 3).put (WIN_CFG.err n w) 0).put (WIN_CFG.busy n w) 0
  let s := (((s.put (FEED_CFG.granted n) granted).put (FEED_CFG.lane n) lane).put (FEED_CFG.q n) q).put (FEED_STATUS.lane_stopped n) stopped
  s.modCore n fun c => { feedNext := c.feedNext, wdg := s.cycleNow }

/-- The core is held: it fetches no more, and its posted writes complete (R288, R297). -/
def State.holdCore (s : State) (n : Nat) : State :=
  s.modCore n fun c => { c with running := false, stopping := false, halted := false, stall := none, behind := []
                                repeating := false, rep := none, skipTo := none, delay := 0, after := .goOn, doomed := none }

/-- The windows and bays of a kernel return (R298, R48): en is cleared at once, and each bay's hand-over to the firmware
starts. -/
def State.returnKernelBays (s : State) (n : Nat) : State :=
  let k := s.kernel n
  let s := s.each (List.range 4) fun s w => match vget none k.bays w with
    | some bay => (s.put (WIN_CFG.en n w) 0).returnBay bay
    | none => s
  s.modKernel n fun k => { k with bays := Vector.replicate 4 none }

/-- The lane feed of an open core is withdrawn (R297). -/
def State.withdrawFeed (s : State) (n : Nat) : State := s.put (FEED_CFG.granted n) 0

/-- Entry of a kernel to FAULTED (R288, R297). -/
def State.kernelFaulted (s : State) (n v pc : Nat) : State :=
  let s := s.emit (evKernelFault n v pc (s.kernel n).id)
  ((s.modKernel n fun k => { k with state := .faulted }).returnKernelBays n).withdrawFeed n

/-! ### Channels and their cores -/

/-- The number of running and pending channels whose loops core n runs (R234). -/
def State.coreChannels (s : State) (n : Nat) : List Nat :=
  ((s.shf.chans.map Prod.fst).filter fun c => s.get (SHF_CH_STATUS.state c) != 0 && s.get (SHF_CH_CFG.dsp c) == n)

/-- Firmware cores that run in the present mode (R496). -/
def State.coresOn (s : State) : Nat :=
  if s.get PWR_STATUS.mode == 4 then 2 else if s.get PWR_STATUS.mode == 5 then 4 else 12

/-- The core of the firmware cores that run, other than one excepted, with the fewest channels, the lowest number on a tie
(R234). -/
def State.leastCore (s : State) (except : Nat) : Nat :=
  ((List.range s.coresOn).filter (· != except)).foldl
    (fun b n => if (s.coreChannels n).length < (s.coreChannels b).length then n else b) (if except == 0 then 1 else 0)

/-- The control pair restarts a firmware core, reassigns the channels it ran, and reports (R288). The core's entry
address is the firmware's. -/
def State.firmwareFault (s : State) (n v pc : Nat) : State :=
  let cs := s.coreChannels n
  let s := s.each cs fun s c => s.put (SHF_CH_CFG.dsp c) (s.leastCore n)
  let entry := s.freeVal % 16384
  ((s.nextFree.coreReset n).modCore n fun c => { c with running := true, pc := entry }).emit (evDspFault n v pc cs.length)

/-- The bits of sr that a mov or ldi writes: z, n, c, v, ev, rot and ie (R243). -/
def srWritable : Nat := 0x31F

/-- A return that was not fetched does not take effect (R287, R288). -/
def DspCore.dropReturn (c : DspCore) : DspCore := match c.leaveAt with
  | some e => { c with pend := c.pend.filter fun w => !(w.target == .sr srWritable && w.land == e) }
  | none => c

/-- A double fault (R288, R289): the second fault is recorded, and the core is held. -/
def State.doubleFault (s : State) (n v pc addr : Nat) : State :=
  let s := ((s.put (INT_FAULT_PC.pc n) pc).put (INT_FAULT_PC.vector n) v).put (INT_FAULT_ADDR.addr n) addr
  let s := (s.modCore n DspCore.dropReturn).holdCore n
  if isOpenCore n then s.kernelFaulted n v pc else s.firmwareFault n v pc

/-! ### Interrupt sources -/

/-- A handler of a fault runs in a cycle, up to the one in which a reti's return is fetched (R287, R288): DEDUCED, log entry
54. -/
def State.faultHandler (s : State) (n cycle : Nat) : Bool :=
  s.is (INT_STATUS.active n) && decide (s.get (INT_STATUS.vector n) ≤ 5) &&
    match (s.core n).leaveAt with
    | some e => decide (cycle ≤ e)
    | none => true

/-- A halted core resumes without entry when a source 6 to 9 is pending with its mask bit set while sr.ie is 0 (R292). -/
def State.haltWake (s : State) (n : Nat) : State :=
  let c := s.core n
  if c.halted && !bit c.file.sr.toNat 9 && ((List.range 10).any fun v => decide (6 ≤ v) && (vget none c.raised v).isSome &&
    bit (s.get (INT_MASK.mask n)) (v - 6)) then s.modCore n fun c => { c with halted := false }
  else s

/-- A source that is raised already keeps what was recorded first. -/
def raisedOr (x : DspRaised) : Option DspRaised → Option DspRaised
  | some y => some y
  | none => some x

/-- The stages stand still for a cycle or more after cycle q, counted in fetch slots (R265): what is raised in q is pending
with the cycle that follows (R284). -/
def DspCore.noteStall (c : DspCore) (q : Nat) : DspCore :=
  { c with stalled := some q, raised := vmap (fun x => x.map fun r => if r.since == q + 2 then { r with since := q + 1 } else r) c.raised }

/-- The cycle, counted in fetch slots, from which a source raised in a cycle is pending (R284). -/
def DspCore.pendingFrom (c : DspCore) (cycle : Nat) : Nat := if c.stalled == some cycle then cycle + 1 else cycle + 2

/-- Source v of core n is raised by the instruction being executed, in a cycle counted in fetch slots: it is pending two
cycles later, or makes a double fault when the instruction is done (R284, R288). -/
def State.raiseAt (s : State) (n v cycle pc addr : Nat) : State :=
  if decide (v ≤ 5) && s.faultHandler n cycle then
    s.modCore n fun c => if c.doomed.isSome then c else { c with doomed := some (v, pc, addr) }
  else
    let s := s.modCore n fun c => { c with
      raised := vmod (raisedOr ⟨c.pendingFrom cycle, pc, addr⟩) c.raised v
      late := if v ≤ 5 then (c.late.filter fun p => decide (c.slot < p.2.since)) ++ [(v, ⟨cycle, pc, addr⟩)] else c.late }
    (s.put ⟨INT_PEND n, v, 1⟩ 1).haltWake n

/-- The double fault that an instruction made happens once the instruction is done (R288). -/
def State.settle (s : State) (n : Nat) : State := match (s.core n).doomed with
  | some (v, pc, addr) => s.doubleFault n v pc addr
  | none => s

/-- The next slot to be fetched: behind a stalled instruction, the one that follows those already fetched. -/
def DspCore.nextSlot (c : DspCore) : Nat := if c.stall.isSome then c.slot + 1 + c.behind.length else c.slot

/-- A source raised from outside the instruction stream: it is taken to have been raised two cycles before the next
fetch slot. -/
def State.raiseNow (s : State) (n v pc addr : Nat) : State :=
  let c := s.core n
  if decide (v ≤ 5) && s.faultHandler n c.slot then s.doubleFault n v pc addr
  else
    let s := s.modCore n fun c => { c with raised := vmod (raisedOr ⟨c.nextSlot, pc, addr⟩) c.raised v }
    (s.put ⟨INT_PEND n, v, 1⟩ 1).haltWake n

/-- A source raised with no address. -/
def State.dspRaise (s : State) (n v : Nat) : State := s.raiseNow n v 0 0

/-- A local-time trigger fires that is routed to a core: TRIG_LAST, and source 8 (R282). -/
def State.dspTrigger (s : State) (n j : Nat) : State :=
  let s := if (vget none (s.core n).raised 8).isSome then s.flag (TRIG_LAST.more n) else s
  (s.put (TRIG_LAST.trigger n) j).dspRaise n 8

/-- The condition of source 6 holds: it is raised (R282). -/
def State.queueRaise (s : State) (n : Nat) : State := if s.queueCondition n then s.dspRaise n 6 else s

/-! ### The dump queue -/

/-- The DQ registers show the queue: the records waiting, and the next word of the oldest (DQ_STATUS, DQ_DATA). -/
def State.showDumps (s : State) (n : Nat) : State :=
  let c := s.core n
  let s := (s.put (DQ_STATUS.count n) c.dumps.length).put (DQ_STATUS.full n) (b2n (decide (32 ≤ c.dumps.length)))
  s.put (DQ_DATA.word n) (match c.dumps with
    | r :: _ => r.getD c.dumpWord 0
    | [] => 0)

/-- A record enters the dump queue of a firmware core; none when 32 wait (R225). -/
def State.dumpPush (s : State) (n : Nat) (r : List Nat) : Option State :=
  if 32 ≤ (s.core n).dumps.length then none
  else
    let s := (s.modCore n fun c => { c with dumps := c.dumps ++ [r] }).showDumps n
    some (s.queueRaise n)

/-! ### The lane feed -/

/-- A feed takes a lane word (R299 to R301): 2^q words on is its next. A word tagged settle or blank enters the buffer as
zero. -/
def State.feedTake (s : State) (n : Nat) (w : BitVec 23) : State :=
  let i := s.get (FEED_WIDX.widx n)
  let s := s.modCore n fun c => { c with feedNext := (c.feedNext + 2 ^ s.get (FEED_CFG.q n)) % 2 ^ 40 }
  if !s.is (FEED_CFG.run n) then s
  else
    let s := s.when (bit w.toNat 22) (·.flag (FEED_STATUS.ovl_seen n))
    if (i + 1) % 2048 == s.get (FEED_RIDX.ridx n) then (s.bump (FEED_STATUS.drops n)).flag (FEED_STATUS.overrun n)
    else
      let v : Word20 := if bit w.toNat 20 || bit w.toNat 21 then 0 else w.setWidth 20
      let s := s.modCore n fun c => { c with feedBuf := sparseSet (fun _ => 0) c.feedBuf i v }
      (s.put (FEED_WIDX.widx n) ((i + 1) % 2048)).queueRaise n

/-- A feed takes the words that it has not taken of those that have left, k of them at most. -/
def State.feedUpTo (s : State) (n : Nat) : Nat → State
  | 0 => s
  | k + 1 => match s.busWord (s.get (FEED_CFG.lane n)) (s.core n).feedNext with
    | some w => (s.feedTake n w).feedUpTo n k
    | none => s

/-- A feed takes the words that have left on its lane's bus. -/
def State.feedDue (s : State) (n : Nat) : State :=
  if !s.is (FEED_CFG.granted n) || s.is (FEED_STATUS.lane_stopped n) then s
  else s.feedUpTo n (s.laneWords (s.get (FEED_CFG.lane n)))

end Sys2Proof.Machine
end

