-- ==== Sys2Proof/Machine/Thresher.lean ====
section
/-! DEFINITION. The thresher: jobs, passes and rounds, sums and held groups. What a block computes and the peak search are in
Rounds.lean. -/

namespace Sys2Proof.Machine

/-- Cells per block N of a signal code (R173); 0 for a code outside the table. -/
def sigN (c : Nat) : Nat :=
  if c == 0x01 || c == 0x03 || c == 0x10 || c == 0x12 || c == 0x15 || c == 0x16 then 2048
  else if c == 0x02 || c == 0x05 || c == 0x09 || c == 0x0A || c == 0x11 then 4096
  else if c == 0x04 || c == 0x06 || c == 0x07 || c == 0x0B || c == 0x0C || c == 0x0D || c == 0x13 || c == 0x17 then 20480
  else if c == 0x08 || c == 0x14 then 10240
  else if c == 0x0E || c == 0x0F then 1024
  else 0

/-- GLONASS signals. -/
def sigGlonass (c : Nat) : Bool := c == 0x0E || c == 0x0F

/-- Chips per millisecond of a signal's code (R173). -/
def sigChips (c : Nat) : Nat :=
  if sigN c == 20480 then 10230
  else if sigN c == 10240 then 5115
  else if c == 0x09 then 2046
  else if sigGlonass c then 511
  else 1023

/-- Code period of a signal in ms (R173). -/
def sigPeriod (c : Nat) : Nat :=
  if c == 0x02 || c == 0x0A || c == 0x11 then 10
  else if c == 0x03 || c == 0x12 then 20
  else if c == 0x05 || c == 0x14 then 4
  else 1

/-- Signals that allow circular mode (R170, R173). -/
def sigCircular (c : Nat) : Bool := c == 0x01 || c == 0x10 || c == 0x15 || c == 0x16

/-- A satellite that a signal allows (R177). -/
def satOk (signal sat : Nat) : Bool := if sigGlonass signal then decide (sat ≤ 13) else Config.prnOfSystem signal sat

/-- Quotient rounded up. -/
def ceilDiv (a b : Nat) : Nat := (a + b - 1) / b

/-- Tiles of a job per block (R172). -/
def jobTiles (signal mode w cells n : Nat) : Nat :=
  if mode == 0 then 2 * n + 1 else (2 * n + 1) * ceilDiv cells w * ceilDiv (sigN signal) (2048 - w)

/-- The decimation of the lane that a job names, none where the lane fails its check (R177): of a snapshot by its header, whose
lane list the job's lane counts (R197, R336, R337). -/
def State.jobDecim (s : State) (head : Option (List Byte)) (lane : Nat) : Option Nat := match head with
  | some h => if lane < fieldAt h 32 1 then some (fieldAt h (64 + 20 * lane + 2) 2) else none
  | none => if lane < 12 && s.is (LANE_STATUS.running lane) then (s.lane lane).cfg.map DecCfg.d else none

/-- The rate of a decimation is at least f_s = N kHz (R174). -/
def rateOk (d signal : Nat) : Bool := decide (d * sigN signal ≤ 3600000)

/-- The cause of a job's refusal at the latch, 0 for none (R177). -/
def State.jobCause (s : State) (head : Option (List Byte)) (limit j : Nat) : Nat :=
  let sig := s.get (THR_JOB_CFG.signal j)
  let mode := s.get (THR_JOB_CFG.mode j)
  let cells := s.get (THR_JOB_WIN.cells j)
  if sigN sig == 0 then 1
  else if !satOk sig (s.get (THR_JOB_CFG.sat j)) then 2
  else match s.jobDecim head (s.get (THR_JOB_CFG.lane j)) with
    | none => 3
    | some d =>
      if !rateOk d sig then 4
      else if mode == 0 && !sigCircular sig then 5
      else if cells == 0 || decide (sigN sig * sigPeriod sig < cells) || (mode == 0 && decide (2048 < cells)) then 6
      else if limit < jobTiles sig mode (64 * 2 ^ s.get (THR_JOB_CFG.w_sel j)) cells (s.get (THR_JOB_BINS.n j)) then 7
      else 0

/-- The job that a slot holds. -/
def State.jobOf (s : State) (j : Nat) : ThrJob :=
  let sig := s.get (THR_JOB_CFG.signal j)
  let mode := s.get (THR_JOB_CFG.mode j)
  let w := 64 * 2 ^ s.get (THR_JOB_CFG.w_sel j)
  let cells := s.get (THR_JOB_WIN.cells j)
  let n := s.get (THR_JOB_BINS.n j)
  { slot := j, lane := s.get (THR_JOB_CFG.lane j), signal := sig, sat := s.get (THR_JOB_CFG.sat j), mode := mode, w := w
    step := s.get (THR_JOB_CFG.step j), startCell := s.get (THR_JOB_CODE.start_cell j)
    startFrac := s.get (THR_JOB_CODE.start_frac j), cells := cells, centre := signed 32 (s.get (THR_JOB_DOP.centre j)), n := n
    tiles := jobTiles sig mode w cells n, round := 0, base := 0 }

/-- Cells that a job stores (R186). -/
def ThrJob.stored (j : ThrJob) : Nat := (2 * j.n + 1) * j.cells

/-- Jobs packed into rounds in ascending slot order (R180, R186): the round being filled, its tiles and its cells. -/
def packJobs (limit : Nat) : List ThrJob → Nat → Nat → Nat → List ThrJob
  | [], _, _, _ => []
  | j :: js, round, tiles, cells =>
    if tiles + j.tiles ≤ limit then
      { j with round := round, base := cells } :: packJobs limit js round (tiles + j.tiles) (cells + j.stored)
    else { j with round := round + 1, base := 0 } :: packJobs limit js (round + 1) j.tiles j.stored

/-- The tile limit per millisecond (R168). -/
def State.tileLimit (s : State) : Nat := 512 / 2 ^ s.get THR_CTRL.rate_div

/-- A granary group that a pass may use for its sums (R186). -/
def State.sumGroupOk (s : State) (k : Nat) : Bool :=
  s.is (GRP_CFG.enable k) && s.get (GRP_CFG.size k) == 2 && s.memberWrites k 0x08

/-- n bays from a first one on are the thresher's. -/
def State.thrOwns (s : State) (first n : Nat) : Bool :=
  (List.range n).all fun i => s.get (BAY_OWNER.owner_id ((first + i) % 64)) == 0x08

/-- The bytes of n 32-bit words that the thresher reads from a granary address on. -/
def State.thrBytes (s : State) (addr n : Nat) : List Byte × State :=
  let r := s.granReads 0x08 addr n
  ((r.1.map fun w => le 4 w.1).flatten, r.2)

/-- The header of the snapshot of an offline pass is read at the latch (R197): none where a bay of the snapshot is not the
thresher's. -/
def State.readHeader (s : State) (addr : Nat) : Option (List Byte) × State :=
  let first := bits addr 17 6
  if bit addr 25 || !s.thrOwns first 1 then (none, s)
  else
    let r := s.thrBytes addr 80
    (if r.2.thrOwns first (max 1 (fieldAt r.1 39 1)) then some r.1 else none, r.2)

/-- σ² of a job in 1/256, zero without a used block (R184, R185). -/
def ThrJob.noise (j : ThrJob) : Nat := if j.used == 0 then 0 else 256 * j.energy / j.used / 2 ^ j.pshift

/-- The RO fields of a job slot describe a job (THR_JOB_STATE, THR_JOB_NOISE, THR_JOB_BLK). -/
def State.showJob (s : State) (j : ThrJob) (state : Nat) : State :=
  let s := ((s.put (THR_JOB_STATE.state j.slot) state).put (THR_JOB_STATE.pshift j.slot) j.pshift).put
    (THR_JOB_STATE.overload j.slot) (b2n j.overload)
  let s := ((s.put (THR_JOB_STATE.sat_seen j.slot) (b2n j.satSeen)).put (THR_JOB_STATE.sum_error j.slot) (b2n j.sumError)).put
    (THR_JOB_STATE.round j.slot) j.round
  let s := s.put (THR_JOB_NOISE.sigma2 j.slot) j.noise
  (s.put (THR_JOB_BLK.used j.slot) j.used).put (THR_JOB_BLK.discarded j.slot) j.discarded

/-- The state code of a job (THR_JOB_STATE.state). -/
def jobCode (j : ThrJob) (started : Bool) : Nat := match j.ended with
  | some .done => 3
  | some .short => 4
  | some .laneLost => 5
  | some .aborted => 6
  | none => if started then 2 else 0

/-- The jobs of the running pass shown, but for slots that a later latch has taken (R200). -/
def State.showJobs (s : State) : State := match s.thr.running with
  | none => s
  | some p =>
    s.each (p.jobs.filter fun j => !p.hidden.contains j.slot) fun s j =>
      s.showJob j (jobCode j (decide (j.round < p.round) || (j.round == p.round && p.phase == .running)))

/-- THR_STATUS shows the running and the queued pass. -/
def State.showThr (s : State) : State :=
  let s := s.put THR_STATUS.queued (b2n s.thr.queued.isSome)
  match s.thr.running with
  | none => (((s.put THR_STATUS.state 0).put THR_STATUS.jobs 0).put THR_STATUS.round 0).put THR_STATUS.rounds 0
  | some p =>
    (((s.put THR_STATUS.state (match p.phase with
      | .waitStart => 1
      | .running => 2
      | .waitGroup => 3)).put THR_STATUS.jobs p.jobs.length).put THR_STATUS.round p.round).put THR_STATUS.rounds p.rounds

/-- The group that holds the sums of a round (R186). -/
def ThrPass.group (p : ThrPass) (round : Nat) : Nat := if p.dual && round % 2 == 1 then p.grpB else p.grpA

/-- A pass or its next round waits for its start, or for its sum group (R182, R186). -/
def State.passWaits (s : State) (p : ThrPass) : State :=
  let ph : RoundPhase := if vget false s.thr.held (p.group p.round) then .waitGroup else .waitStart
  (s.modThr fun t => { t with running := some { p with phase := ph, fired := none } }).showThr

/-- A pass is over: pass_done, and its request is answered OK (R183, R568). -/
def State.passOver (s : State) (p : ThrPass) : State :=
  let s := s.flag THR_EVENT.pass_done
  match p.req with
  | some r => if p.offline then s else s.respond r true 0 (le 1 p.jobs.length ++ le 3 0)
  | none => s

/-- A pass becomes the running pass (R179), whose first round starts at a marker at least 10 µs later, at its trigger, or at
once (R182); one without a job is over. -/
def State.startPass (s : State) (p : ThrPass) : State :=
  if p.jobs.isEmpty then ((s.modThr fun t => { t with running := none }).showThr).passOver p
  else s.passWaits { p with notBefore := s.ltu.now + 10000 * nanosecond }

/-- The queued pass runs, or the thresher is idle. -/
def State.nextPass (s : State) : State := match s.thr.queued with
  | some p => (s.modThr fun t => { t with queued := none }).startPass p
  | none => (s.modThr fun t => { t with running := none }).showThr

/-- A pass as the registers describe it, with the jobs that passed their checks (R179, R180). -/
def State.passOf (s : State) (head : Option (List Byte)) (jobs : List ThrJob) (req : Option OpenReq) : ThrPass :=
  { k := s.get THR_PASS_CFG.k, offline := head.isSome, header := s.get THR_OFFLINE.header_addr, head := head.getD []
    startMode := s.get THR_PASS_CFG.start_mode, trigger := s.get THR_PASS_CFG.trigger, grpA := s.get THR_PASS_CFG.grp_a
    grpB := s.get THR_PASS_CFG.grp_b, dual := s.is THR_PASS_CFG.dual, blankMax := s.get THR_PASS_CFG.blank_max
    limit := s.tileLimit, jobs := jobs, rounds := jobs.foldl (fun a j => max a (j.round + 1)) 0, req := req }

/-- The slots of a latch are cleared and show what its checks found (R177, R200). -/
def State.showLatch (s : State) (valid : List Nat) (cause : Nat → Nat) : State :=
  let s := s.each valid fun s j =>
    let s := ((s.setWord (THR_JOB_STATE j) 0).setWord (THR_JOB_NOISE j) 0).setWord (THR_JOB_BLK j) 0
    if cause j == 0 then s
    else (((s.put (THR_JOB_STATE.state j) 1).put (THR_JOB_STATE.cause j) (cause j)).flag THR_EVENT.job_refused).bump THR_COUNT.refused
  s.modThr fun t => { t with running := t.running.map fun p => { p with hidden := p.hidden ++ valid } }

/-- The latch of a pass (R177, R179, R180, R186, R197, R198), for a request or none. An offline pass needs a snapshot longer than
K whole milliseconds. -/
def State.latchPass (s : State) (req : Option OpenReq) : State :=
  if !s.is THR_CTRL.enable || s.thr.queued.isSome then s.flag THR_EVENT.start_ignored
  else
    let offline := s.is THR_PASS_CFG.source
    let r := if offline then s.readHeader (s.get THR_OFFLINE.header_addr) else (none, s)
    let s := r.2
    let short := match r.1 with
      | some h => decide (fieldAt h 12 4 / 1000 < s.get THR_PASS_CFG.k + 1)
      | none => offline
    if !s.sumGroupOk (s.get THR_PASS_CFG.grp_a) || (s.is THR_PASS_CFG.dual && !s.sumGroupOk (s.get THR_PASS_CFG.grp_b)) || short then
      s.flag THR_EVENT.cfg_error
    else
      let valid := (List.range 64).filter fun j => s.is (THR_JOB_CFG.valid j)
      let cause := fun j => s.jobCause r.1 s.tileLimit j
      let p := s.passOf r.1 (packJobs s.tileLimit ((valid.filter fun j => cause j == 0).map s.jobOf) 0 0 0) req
      let s := s.showLatch valid cause
      match s.thr.running with
      | none => s.startPass p
      | some _ => (s.modThr fun t => { t with queued := some p }).showThr

/-- PASS_LATCH (R179). -/
def execPassLatch (s : State) : Result := whileLive s fun s => .next (s.latchPass none)

/-- A pass ends without its results: its request is answered ABORTED, cause PASS_ABORTED (R563, R568), and a snapshot fix
that waits for it ends (R340). -/
def State.passFails (s : State) (p : Option ThrPass) : State := match p with
  | none => s
  | some p =>
    let s := if p.offline then s.modSnap fun n => { n with fixFor := none, fixPass := false } else s
    match p.req with
    | some r => s.respond r true 0x51 (le 1 8 ++ le 3 0)
    | none => s

/-- p of R184: σ² of the first used block lies in [4,096, 8,192). -/
def pshiftOf (energy : Nat) : Nat := (firstThat (fun p => decide (energy / 2 ^ p < 8192)) (List.range 32)).getD 31

/-- sat24 (R184). -/
def sat24 (v : Nat) : Nat := min v 0xFFFFFF

/-- A value added to the sum word that a read answered with; one that a read could not give counts as zero (R187). -/
def cellSum (addr v : Nat) (r : Nat × Bool × Bool × State) : Bool × State :=
  let bad := r.2.1 || r.2.2.1
  let w := r.2.2.2.granAccess 0x08 addr addr (some (((if bad then 0 else r.1) + v) % 2 ^ 40))
  (bad || w.2.2.1, w.2.2.2)

/-- One cell's value added to its sum word (R184, R187): the word is written first by the first used block. -/
def State.addCell (s : State) (group word v : Nat) (first : Bool) : Bool × State :=
  let addr := 2 ^ 25 + group * 2 ^ 21 + word
  if first then (s.granAccess 0x08 addr addr (some v)).2.2
  else cellSum addr v (s.granAccess 0x08 addr addr none)

/-- The values of a block added to the sum words from a group word on. -/
def State.addCells (s : State) (group : Nat) (first : Bool) : Nat → List Nat → Bool × State
  | _, [] => (false, s)
  | w, v :: vs =>
    let r := s.addCell group w v first
    let t := r.2.addCells group first (w + 1) vs
    (r.1 || t.1, t.2)

/-- A job of the round in progress ends; one without a used block leaves its sum words at zero (R184, R187). -/
def State.endJob (s : State) (p : ThrPass) (j : ThrJob) (e : JobEnd) : ThrJob × State :=
  if j.used == 0 && j.round == p.round && p.phase == .running then
    let a := s.addCells (p.group p.round) true j.base (List.replicate j.stored 0)
    ({ j with ended := some e, sumError := j.sumError || a.1 }, a.2.when a.1 (·.flag THR_EVENT.sum_error))
  else ({ j with ended := some e }, s)

/-- The jobs of a pass that satisfy a condition end, unless they have. -/
def State.endJobs (s : State) (p : ThrPass) (e : JobEnd) (which : ThrJob → Bool) : List ThrJob → List ThrJob × State
  | [] => ([], s)
  | j :: js =>
    let a := if j.ended.isNone && which j then s.endJob p j e else (j, s)
    let r := a.2.endJobs p e which js
    (a.1 :: r.1, r.2)

/-- The unended jobs of the running pass end as aborted, and its request is answered (R199). -/
def State.abortJobs (s : State) (p : ThrPass) : State :=
  let r := s.endJobs p .aborted (fun _ => true) p.jobs
  ((r.2.modThr fun t => { t with running := some { p with jobs := r.1 } }).showJobs).passFails (some p)

/-- PASS_ABORT (R199). -/
def execPassAbort (s : State) : Result := whileLive s fun s => match s.thr.running with
  | none => .next s
  | some p => .next (((s.abortJobs p).flag THR_EVENT.pass_done).flag THR_EVENT.aborted).nextPass

/-- THR_DISABLE (R199): as abort, and the queued pass is discarded. -/
def State.thrDisable (s : State) : State :=
  let s := s.put THR_CTRL.enable 0
  let s := s.passFails s.thr.queued
  let s := match s.thr.running with
    | none => s
    | some p => ((s.abortJobs p).flag THR_EVENT.pass_done).flag THR_EVENT.aborted
  (s.modThr fun t => { t with running := none, queued := none }).showThr
def execThrDisable (s : State) : Result := whileLive s fun s => .next s.thrDisable

/-- A group's held mark is released; a round that waits for it waits for its start from now on (R186). -/
def State.freeGroup (s : State) (g : Nat) : State :=
  if !vget false s.thr.held g then s
  else
    let s := s.modThr fun t => { t with held := vmod (fun _ => false) t.held g }
    match s.thr.running with
    | some p =>
      if p.phase == .waitGroup && p.group p.round == g then s.passWaits { p with notBefore := max p.notBefore s.ltu.now } else s
    | none => s

/-- FREE_A, FREE_B (R186). -/
def execFreeA (s : State) : Result := whileLive s fun s => .next (s.freeGroup (s.get THR_PASS_CFG.grp_a))
def execFreeB (s : State) : Result := whileLive s fun s => .next (s.freeGroup (s.get THR_PASS_CFG.grp_b))

/-- A trigger fires at a time: a first round that waits for it may start (R182, R186). -/
def State.thrTrigger (s : State) (j : Nat) (t : Time) : State := match s.thr.running with
  | some p =>
    if p.startMode == 1 && p.round == 0 && !p.offline && p.phase == .waitStart && p.trigger == j && p.fired.isNone then
      s.modThr fun x => { x with running := some { p with fired := some t } }
    else s
  | none => s

/-- The jobs on a lane end with the lane lost, where a condition on the job holds (R176, R199). -/
def State.thrLaneLost (s : State) (l : Nat) (p : ThrJob → Bool) : State := match s.thr.running with
  | some q =>
    if q.offline then s
    else
      let r := s.endJobs q .laneLost (fun j => j.lane == l && p j) q.jobs
      (r.2.modThr fun t => { t with running := some { q with jobs := r.1 } }).showJobs
  | none => s

/-- The length of a job sample interval 1 / f_s in units of local time, N samples to a millisecond (R169). -/
def cellTime (signal : Nat) : Nat := 1000000 * nanosecond / max 1 (sigN signal)

/-- The job samples of a block that a job's tiles need beyond it (R171). -/
def ThrJob.reach (j : ThrJob) : Nat := if j.mode == 0 then 0 else j.w - 1

/-- The end of block k of a round for a job, with the reach (R169, R171). -/
def ThrJob.blockEnd (j : ThrJob) (tR k : Nat) : Time := tR + (k + 1) * (1000000 * nanosecond) + j.reach * cellTime j.signal

/-- The end of the input of a round's blocks (R182). -/
def ThrPass.inputEnd (p : ThrPass) : Time :=
  (p.jobs.filter fun j => j.round == p.round).foldl (fun a j => max a (j.blockEnd p.tR (p.block - 1))) p.tR

/-- ROUND_DONE (R183, R186): once every job of the round has ended, the sums are complete. -/
def execRoundDone (s : State) : Result := whileLive s fun s => match s.thr.running with
  | none => .next s
  | some p =>
    let mine := p.jobs.filter fun j => j.round == p.round
    if p.phase != .running || !(mine.all fun j => j.ended.isSome) then .next s
    else
      let s := (((s.flag THR_EVENT.round_done).put THR_ROUND_INFO.round p.round).put THR_ROUND_INFO.group
        (b2n (p.dual && p.round % 2 == 1))).put THR_ROUND_INFO.tiles (mine.foldl (fun a j => a + j.tiles) 0)
      let s := s.modThr fun t => { t with
        held := vmod (fun _ => true) t.held (p.group p.round)
        toSearch := mine, group := p.group p.round, tR := p.tR, k := p.k
        results := if p.round == 0 then [] else t.results }
      let s := s.each (List.range 12) fun s n => s.dspRaise n 7
      if p.round + 1 == p.rounds then .next (s.passOver p).nextPass
      else .next (s.passWaits { p with round := p.round + 1, notBefore := p.inputEnd })

/-- Why a loss of lock or a freeze stops the thresher: both passes are discarded (R199). -/
def State.thrLostClock (s : State) : State :=
  let slots := ((s.thr.running.map fun p => p.jobs.map ThrJob.slot).getD []) ++
    ((s.thr.queued.map fun p => p.jobs.map ThrJob.slot).getD [])
  if slots.isEmpty then s
  else
    let s := (s.passFails s.thr.running).passFails s.thr.queued
    (s.modThr fun t => { t with running := none, queued := none, onClock := some slots }).showThr

/-- CK_CORE is delivered again: passes discarded at the loss read as aborted (R199). -/
def State.thrClock (s : State) : State := match s.thr.onClock with
  | some slots =>
    ((s.each slots fun s j => s.put (THR_JOB_STATE.state j) 6).flag THR_EVENT.aborted).modThr fun t => { t with onClock := none }
  | none => s

end Sys2Proof.Machine
end

