-- ==== Sys2Proof/Machine/Sheaves.lean ====
section
/-! DEFINITION. The sheaves: tracking channels, correlation of lane words, dumps, loop updates, and the lock indicators
that the firmware derives. -/

namespace Sys2Proof.Machine

def State.modShf (s : State) (f : ShfState → ShfState) : State := { s with shf := f s.shf }

/-- A channel as at reset. -/
def chanDefault (_ : Nat) : ShfChan := {}
def lockDefault (_ : Nat) : LockInfo := {}

def State.chan (s : State) (c : Nat) : ShfChan := sparseGet chanDefault s.shf.chans c
def State.setChan (s : State) (c : Nat) (x : ShfChan) : State :=
  s.modShf fun h => { h with chans := sparseSet chanDefault h.chans c x }
def State.lockOf (s : State) (c : Nat) : LockInfo := sparseGet lockDefault s.shf.locks c
def State.setLock (s : State) (c : Nat) (x : LockInfo) : State :=
  s.modShf fun h => { h with locks := sparseSet lockDefault h.locks c x }

/-- States of SHF_CH_STATUS. -/
def State.chanState (s : State) (c : Nat) : Nat := s.get (SHF_CH_STATUS.state c)

/-- The decimation D of the lane that a channel names; none where the lane does not run. -/
def State.chanDecim (s : State) (c : Nat) : Option Nat :=
  let l := s.get (SHF_CH_CFG.lane c)
  if l < 12 && s.is (LANE_STATUS.running l) then (s.lane l).cfg.map DecCfg.d else none

/-- The odd slot of a pair that is pending or running: it uses the NCOs of the slot below it (R214). -/
def State.pairOdd (s : State) (c : Nat) : Bool := c % 2 == 1 && (s.chan c).pair

/-- The slots that act with a channel: both of a pair (R214). -/
def State.pairSlots (s : State) (c : Nat) : List Nat :=
  if (s.chan c).pair then [c - c % 2, c - c % 2 + 1] else [c]

/-! ### The budget -/

/-- A sum of fractions as numerator and denominator. -/
def fracAdd (a b : Nat × Nat) : Nat × Nat := (a.1 * b.2 + b.1 * a.2, a.2 * b.2)

/-- The cost of a channel in kS/s as a fraction: its lane's rate times its sweep count (R204). -/
def State.chanCost (s : State) (c : Nat) : Nat × Nat := match s.chanDecim c with
  | some d => ((2 * s.get (SHF_CH_CFG.fan c) + 1) * 3600000, d)
  | none => (0, 1)

/-- The sum of the costs of a sheaf's pending and running channels, with further slots (R204). -/
def State.sheafCost (s : State) (h : Nat) (extra : List Nat) : Nat × Nat :=
  (List.range 8).foldl (fun a j =>
    if s.chanState (8 * h + j) != 0 || extra.contains (8 * h + j) then fracAdd a (s.chanCost (8 * h + j)) else a) (0, 1)

/-- A sum of costs within 900 Msps (R204). -/
def costOk (x : Nat × Nat) : Bool := decide (x.1 ≤ 900000 * x.2)

/-- SHF_LOAD of a sheaf, and SHF_ACTIVE (R204, R239). -/
def State.showSheaf (s : State) (h : Nat) : State :=
  let x := s.sheafCost h []
  let slots := (List.range 8).foldl (fun a j => a + b2n (s.chanState (8 * h + j) != 0) * 2 ^ j) 0
  let s := (s.put (SHF_LOAD.load_ksps h) (x.1 / x.2)).put (SHF_LOAD.slots h) slots
  s.put SHF_ACTIVE.running ((s.shf.chans.map Prod.fst).filter fun c => s.chanState c == 2).length

/-! ### Signals (R213) -/

/-- The primary code length of a signal: the chips of its chip rate in its primary period (R173, R209, R213). -/
def codeChips (g : Nat) : Nat := (if g == 0x18 then 10230 else sigChips g) * sigPeriod g

/-- The length of the secondary code on the taps' component, 0 for none (R213); which BeiDou satellites send D1 data is not
listed (log entry 9). -/
def secondaryLen (g sat : Nat) : Nat :=
  if g == 0x02 || g == 0x11 || g == 0x0A then 1800
  else if g == 0x04 || g == 0x13 || g == 0x17 then 20
  else if g == 0x05 then 25
  else if g == 0x06 || g == 0x07 || g == 0x08 || g == 0x0B || g == 0x18 then 100
  else if g == 0x09 || g == 0x0D then if Config.sendsD1 sat then 20 else 0
  else 0

/-- The subcarrier shape of a signal's data component (R213): BOC(1,1), CBOC in sum form, or none. -/
def dataShape (g : Nat) : Nat := if g == 0x02 || g == 0x11 || g == 0x0A then 1 else if g == 0x05 then 3 else 0

/-- The template of a channel's chips: of an AltBOC signal the even slot takes E5a-Q, and the odd slot E5b-Q (R214). -/
def slotSignal (g c : Nat) : Nat := if g == 0x18 then if c % 2 == 0 then 0x06 else 0x07 else g

/-! ### Starting -/

/-- The primary code length of a channel's chip source (R209, R212). -/
def State.codeLen (s : State) (c : Nat) : Nat :=
  if s.is (SHF_CH_CODE.code_ram c) then
    if s.get (SHF_CH_RAM.length c) == 0 then 65536 else s.get (SHF_CH_RAM.length c)
  else codeChips (s.get (SHF_CH_CODE.signal c))

/-- The signals whose template offers a data component (R213). -/
def sigData (g : Nat) : Bool :=
  g == 0x02 || g == 0x11 || g == 0x04 || g == 0x13 || g == 0x17 || g == 0x05 || g == 0x06 || g == 0x07 || g == 0x08 ||
    g == 0x0A || g == 0x0B

/-- The signal codes of R213. -/
def sigTracked (g : Nat) : Bool := decide (1 ≤ g) && decide (g ≤ 0x18)

/-- The source check of a start (R210, R215, R230, SHF_CH_CODEP). -/
def State.sourceOk (s : State) (c : Nat) : Bool :=
  let g := s.get (SHF_CH_CODE.signal c)
  let ram := s.is (SHF_CH_CODE.code_ram c)
  (if g == 0 then ram else sigTracked g && Config.hasTemplate g (s.get (SHF_CH_CODE.sat c))) &&
    decide (s.get (SHF_CH_CODE.sub_sel c) ≤ 7) && (!s.is (SHF_CH_CFG.s3_data c) || sigData g) &&
    decide (s.get (SHF_CH_CODEP.chip c) < s.codeLen c)

/-- Regions of a code RAM, as offset and length on a circle of 65,536 chips, that meet. -/
def ringsMeet (a la b lb : Nat) : Bool := decide ((b + 65536 - a) % 65536 < la) || decide ((a + 65536 - b) % 65536 < lb)

/-- The code RAM check of a start (R230), with the slots that start together. -/
def State.ramOk (s : State) (slots : List Nat) (c : Nat) : Bool :=
  !s.is (SHF_CH_CODE.code_ram c) ||
    (List.range 8).all fun j =>
      let k := c / 8 * 8 + j
      k == c || (s.chanState k == 0 && !slots.contains k) || !s.is (SHF_CH_CODE.code_ram k) ||
        (s.get (SHF_CH_RAM.offset k) == s.get (SHF_CH_RAM.offset c) && s.codeLen k == s.codeLen c) ||
        !ringsMeet (s.get (SHF_CH_RAM.offset k)) (s.codeLen k) (s.get (SHF_CH_RAM.offset c)) (s.codeLen c)

/-- F_c and F_k as the registers hold them (R206). -/
def State.regFc (s : State) (c : Nat) : Int := signed 48 (s.get (SHF_CH_CARF_LO.fc_lo c) + s.get (SHF_CH_CARF_HI.fc_hi c) * 2 ^ 32)
def State.regFk (s : State) (c : Nat) : Nat := s.get (SHF_CH_CODEF_LO.fk_lo c) + s.get (SHF_CH_CODEF_HI.fk_hi c) * 2 ^ 32

/-- The slots that a start is for: with pair = 1 an even slot's start is for both (R214). -/
def State.startSlots (s : State) (c : Nat) : List Nat :=
  if s.is (SHF_CH_CFG.pair c) && c % 2 == 0 then [c, c + 1] else [c]

/-- The cause of a start's refusal, 0 for none (R230): each check is made of both slots of a pair, but for the frequency, which
is the even slot's. -/
def State.startCause (s : State) (c : Nat) : Nat :=
  let slots := s.startSlots c
  if slots.any fun k => (s.chanDecim k).isNone then 1
  else if 2 ^ 47 < s.regFk c then 2
  else if !costOk (s.sheafCost (c / 8) slots) then 3
  else if s.is (SHF_CH_CFG.pair c) && (c % 2 == 1 || s.chanState (c + 1) != 0) then 4
  else if !slots.all s.sourceOk then 5
  else if !slots.all (s.ramOk slots) then 6
  else if slots.any fun k => decide (11 < s.get (SHF_CH_CFG.dsp k)) then 7
  else 0

/-- A lock state entered (R237). -/
def State.enterLock (s : State) (c lock : Nat) : State :=
  let x := s.lockOf c
  s.setLock c { x with lock := lock, since := s.ltu.now, within := 0 }

/-- A start of a channel is checked (R230): the cause, 0 when it is pending. A channel that is not idle refuses it and
goes on. -/
def State.chanStart (s : State) (c : Nat) : Nat × State :=
  if s.chanState c != 0 then (8, (s.put (SHF_CH_STATUS.cause c) 8).flag SHF_EVENT.start_refused)
  else
    let e := s.startCause c
    if e != 0 then (e, (s.put (SHF_CH_STATUS.cause c) e).flag SHF_EVENT.start_refused)
    else
      (0, (s.each (s.startSlots c) fun s k =>
        ((((s.put (SHF_CH_STATUS.state k) 1).put (SHF_CH_STATUS.cause k) 0).put (SHF_CH_STATUS.late_start k) 0).put
          (SHF_CH_STATUS.lane_lost k) 0).setChan k { inUse := true, pair := s.is (SHF_CH_CFG.pair c) }).showSheaf (c / 8))

/-- CHANNEL_START (R230). -/
def execChannelStart (channel : Fin 512) (s : State) : Result := whileLive s fun s => .next (s.chanStart channel).2

/-- The secondary code that a channel applies: its length, 0 for none (R211). -/
def State.secLen (s : State) (c : Nat) : Nat :=
  if s.is (SHF_CH_CFG.sec_en c) && !s.is (SHF_CH_CODE.code_ram c) then
    secondaryLen (s.get (SHF_CH_CODE.signal c)) (s.get (SHF_CH_CODE.sat c))
  else 0

/-- The modulus of the secondary index (R211). -/
def State.secMod (s : State) (c : Nat) : Nat := if s.secLen c == 0 then 2048 else s.secLen c

/-- The epoch that ends the first integration (R221): the first, or the first secondary-code epoch, after the epochs that the
code phase has passed. -/
def State.firstBound (s : State) (c sec0 passed : Nat) : Nat :=
  if s.is (SHF_CH_CFG.align c) then let n := s.secMod c; passed + (n - (sec0 + passed) % n) else passed + 1

/-- The working state of a channel whose NCO registers hold at word `start`, advanced to word `first` (R231). -/
def State.chanBegin (s : State) (c start first : Nat) : ShfChan :=
  let n : Nat := (first + 2 ^ 32 - start % 2 ^ 32) % 2 ^ 32
  let e := if s.pairOdd c then c - 1 else c
  let sec0 := s.get (SHF_CH_AUX.sec_index e) % s.secMod c
  let code : Nat := s.get (SHF_CH_CODEP.chip e) * 2 ^ 48 + s.get (SHF_CH_CODEP.frac e) * 2 ^ 36 + s.regFk e * n
  { inUse := true, pair := (s.chan c).pair, word := first
    car := (((s.get (SHF_CH_CARP.phase e) * 2 ^ 16 : Nat) : Int) + s.regFc e * (n : Int)) % 2 ^ 48
    code := (code : Int), sec0 := sec0, fc := s.regFc e, fk := s.regFk e
    bound := s.firstBound c sec0 (code / 2 ^ 48 / max 1 (s.codeLen c))
    sums := List.replicate (2 * s.get (SHF_CH_CFG.fan c) + 1) (List.replicate 18 0) }

/-- The blocks of a lane that a sheaf has begun to sweep, or that have left its loft, which keeps the last complete block and
the one that fills; where no running channel of the sheaf names the lane, every complete block has (R202, R231). -/
def State.blocksBegun (s : State) (h l : Nat) : Nat :=
  let full := s.laneWords l / 4096
  let users := ((List.range 8).map (8 * h + ·)).filter fun c => s.chanState c == 2 && s.get (SHF_CH_CFG.lane c) == l
  users.foldl (fun a c => if (s.chan c).swept then max a ((s.chan c).word / 4096) else a) (if users.isEmpty then full else full - 1)

/-- A pending channel starts (R231): at its start word, or late at the first word of the next block to be swept. -/
def State.chanRun (s : State) (c : Nat) : State :=
  let c := if s.pairOdd c then c - 1 else c
  let l := s.get (SHF_CH_CFG.lane c)
  let taken := s.laneWords l
  let begun := s.blocksBegun (c / 8) l
  let start := s.get (SHF_CH_START.start_word c)
  let ahead := (start + 2 ^ 32 - taken % 2 ^ 32) % 2 ^ 32
  -- the absolute word meant: ahead of the words that have left, or at most 2^31 back
  let absolute : Option Nat :=
    if ahead < 2 ^ 31 then some (taken + ahead)
    else if 2 ^ 32 - ahead ≤ taken then some (taken - (2 ^ 32 - ahead)) else none
  let late := match absolute with
    | some w => decide (w / 4096 < begun)
    | none => true
  let first := if late then 4096 * begun else absolute.getD 0
  let s := s.each (s.pairSlots c) fun s c =>
    let s := (s.put (SHF_CH_STATUS.state c) 2).setChan c (s.chanBegin c start first)
    let s := if late then (s.flag (SHF_CH_STATUS.late_start c)).flag SHF_EVENT.late_start else s
    s.enterLock c 1
  s.showSheaf (c / 8)

/-- The sheaves run (R201, SHF_CTRL.enable). -/
def State.sheavesRun (s : State) : Bool := s.locked && s.is SHF_CTRL.enable

/-- CHANNEL_RUN (R231). -/
def execChannelRun (channel : Fin 512) (s : State) : Result := whileLive s fun s =>
  if s.chanState channel == 1 && s.sheavesRun then .next (s.chanRun channel) else .next s

/-! ### Wipe-off and taps -/

/-- round(15 × cos(2π(m + 0.5) / 64)) over the first quarter (R218). -/
def cosQuarter : List Int := [15, 15, 15, 14, 14, 13, 12, 11, 10, 9, 8, 6, 5, 4, 2, 1]

/-- round(15 × cos(2π(m + 0.5) / 64)) for m from 0 to 63 (R218). -/
def cos15 (m : Nat) : Int :=
  if m < 16 then cosQuarter.getD m 0
  else if m < 32 then -cosQuarter.getD (31 - m) 0
  else if m < 48 then -cosQuarter.getD (m - 32) 0
  else cosQuarter.getD (63 - m) 0

/-- round(15 × sin(2π(m + 0.5) / 64)) (R218). -/
def sin15 (m : Nat) : Int := cos15 ((m + 48) % 64)

/-- sat6 of R218, and whether it limited. -/
def sat6 (v : Int) : Int × Nat := (clampInt (-32) 31 v, b2n (decide (v < -32) || decide (31 < v)))

/-- The wipe-off of a lane word by the phase of a sweep (R218): x_I, x_Q and the saturations. -/
def wipe (w shift : Nat) (theta : Int) : Int × Int × Nat :=
  let i := signed 10 (bits w 10 10)
  let q := signed 10 (bits w 0 10)
  let m := (theta / 2 ^ 42 % 64).toNat
  let a := sat6 ((i * cos15 m + q * sin15 m) / 2 ^ shift)
  let b := sat6 ((q * cos15 m - i * sin15 m) / 2 ^ shift)
  (a.1, b.1, a.2 + b.2)

/-- A chip of a channel's tracked code, as +1 or −1 (R209, R212). -/
def State.chip (s : State) (c i : Nat) : Int :=
  let one := if s.is (SHF_CH_CODE.code_ram c) then
      let k := (s.get (SHF_CH_RAM.offset c) + i) % 65536
      bit (s.get (SHF_CODE_RAM.chips (c / 8) (k / 32))) (k % 32)
    else Config.templateChip (slotSignal (s.get (SHF_CH_CODE.signal c)) c) (s.get (SHF_CH_CODE.sat c)) i
  if one then -1 else 1

/-- A pair of 3-bit table values, limited to −3 to +3 (R210). -/
def subValue (v : BitVec 3 × BitVec 3) : Int × Int := (clampInt (-3) 3 (signed 3 v.1.toNat), clampInt (-3) 3 (signed 3 v.2.toNat))

/-- The subcarrier at a chip and a phase (R210): shape 0 is +1, and shapes 1 to 5 are real. -/
def subAt (shape signal chip phase : Nat) : Int × Int :=
  if shape == 0 then (1, 0)
  else
    let v := subValue (Config.subcarrier shape signal chip phase)
    if shape ≤ 5 then (v.1, 0) else v

/-- The replica of a channel at a code position in 2^-48 chip, without the secondary chip (R210, R216). -/
def State.replica (s : State) (c : Nat) (pos : Int) : Int × Int :=
  let i := (pos / 2 ^ 48 % (s.codeLen c : Nat)).toNat
  let ph := (pos % 2 ^ 48 / 2 ^ 42).toNat
  let v := subAt (s.get (SHF_CH_CODE.sub_sel c)) (s.get (SHF_CH_CODE.signal c)) i ph
  (s.chip c i * v.1, s.chip c i * v.2)

/-- The replica of the data component, for S3 (R215). -/
def State.dataReplica (s : State) (c : Nat) (pos : Int) : Int × Int :=
  let g := s.get (SHF_CH_CODE.signal c)
  let i := (pos / 2 ^ 48 % (s.codeLen c : Nat)).toNat
  let ph := (pos % 2 ^ 48 / 2 ^ 42).toNat
  let x : Int := if Config.dataChip g (s.get (SHF_CH_CODE.sat c)) i then -1 else 1
  let v := subAt (dataShape g) g i ph
  (x * v.1, x * v.2)

/-- The secondary chip of R211 at a code position: 1 where no secondary code applies. -/
def State.secChip (s : State) (c : Nat) (x : ShfChan) : Int :=
  if s.secLen c == 0 then 1
  else
    let e := x.code / 2 ^ 48 / (s.codeLen c : Nat)
    let i := ((x.sec0 : Int) + e) % (s.secLen c : Nat)
    if Config.secondaryChip (slotSignal (s.get (SHF_CH_CODE.signal c)) c) (s.get (SHF_CH_CODE.sat c)) i.toNat then -1 else 1

/-- The offsets of the taps VE, E, P, L, VL, S0 to S3 in 1/64 chip (R216, R217). -/
def State.tapOffsets (s : State) (c : Nat) : List Int :=
  let sp : Int := (s.get (SHF_CH_TAPS.spacing c) : Nat)
  [-2 * sp, -sp, 0, sp, 2 * sp, s.getInt (SHF_CH_TAPS.s0 c), s.getInt (SHF_CH_TAPS.s1 c), s.getInt (SHF_CH_STROBE.s2 c),
   s.getInt (SHF_CH_STROBE.s3 c)]

/-- The replica values of the nine taps at a channel's code phase (R211, R215, R216). -/
def State.tapValues (s : State) (c : Nat) (x : ShfChan) : List (Int × Int) :=
  let sec := s.secChip c x
  let vs := (s.tapOffsets c).map fun d => let v := s.replica c (x.code - d * 2 ^ 42); (sec * v.1, sec * v.2)
  if s.is (SHF_CH_CFG.s3_data c) then vs.take 8 ++ [s.dataReplica c x.code] else vs

/-- The sums of one sweep with one word added to every tap (R214, R220). -/
def tapAdd (xi xq : Int) : List (Int × Int) → List Int → List Int
  | v :: vs, a :: b :: rest => (a + xi * v.1 + xq * v.2) :: (b + xq * v.1 - xi * v.2) :: tapAdd xi xq vs rest
  | _, sums => sums

/-- The phase of sweep m, numbered from 0, at the present word (R207). -/
def State.sweepPhase (s : State) (c : Nat) (x : ShfChan) (m : Nat) : Int :=
  let f : Int := ((x.sums.length - 1) / 2 : Nat)
  x.car + ((m : Int) - f) * (x.inBlock * (s.get (SHF_CH_AUX.fan_step c)) * 2 ^ 20 : Nat)

/-- Every sweep of the channel takes a word (R218, R220): the sums, and the saturations. -/
def State.sweepsAdd (s : State) (c : Nat) (x : ShfChan) (w : Nat) (vs : List (Int × Int)) :
    Nat → List (List Int) → List (List Int) × Nat
  | _, [] => ([], 0)
  | m, t :: ts =>
    let y := wipe w (s.get (SHF_CH_CFG.wipe_shift c)) (s.sweepPhase c x m)
    let r := s.sweepsAdd c x w vs (m + 1) ts
    (tapAdd y.1 y.2.1 vs t :: r.1, y.2.2 + r.2)

/-! ### Dumps -/

/-- sat20 of R223. -/
def sat20 (v : Int) : Int := clampInt (-524288) 524287 v

/-- The dump record of one sweep (R223, R224). -/
def State.dumpRecord (s : State) (c : Nat) (x : ShfChan) (final : Bool) (t : Nat) (m : Nat) (sums : List Int) : List Nat :=
  let shift := s.get (SHF_CH_CFG.dump_shift c)
  let vals := sums.map fun v => v / 2 ^ shift
  let sat := vals.any fun v => sat20 v != v
  let fan := (x.sums.length - 1) / 2
  let theta := s.sweepPhase c x m
  [c + b2n sat * 2 ^ 9 + b2n x.overload * 2 ^ 10 + b2n x.blank * 2 ^ 11 + b2n x.settle * 2 ^ 12 + b2n final * 2 ^ 13 +
     b2n x.upd * 2 ^ 14 + b2n (x.discont || x.gap) * 2 ^ 15 + shift * 2 ^ 16,
   bits x.count 0 20, bits x.count 20 5 + (m + 2 - fan) * 2 ^ 5 + x.integ % 4096 * 2 ^ 8,
   bits (tSec t) 0 20, bits (tNs t) 0 20, bits (tNs t) 20 10 + bits (tFrac t) 22 10 * 2 ^ 10,
   (theta / 2 ^ 28 % 2 ^ 20).toNat, unsigned 20 (theta / 2 ^ 48)] ++ vals.map fun v => unsigned 20 (sat20 v)

/-- The records of a dump's sweeps sent in ascending order of offset, with whether each was dropped: a full queue drops one,
and no dump goes to DSP_12 to DSP_15 (R225; log entry 73). -/
def State.sendDumps (s : State) (n : Nat) : List (List Nat) → List Bool × State
  | [] => ([], s)
  | r :: rs => match if n < 12 then s.dumpPush n r else none with
    | some s => let t := s.sendDumps n rs; (false :: t.1, t.2)
    | none => let t := ((s.bump SHF_COUNT.dump_drop).flag SHF_EVENT.dump_drop).sendDumps n rs; (true :: t.1, t.2)

/-- The present values of a channel in its NCO registers, as its most recent dump left them (R239). -/
def State.showNco (s : State) (c : Nat) (x : ShfChan) : State :=
  let chip := (x.code / 2 ^ 48 % (s.codeLen c : Nat)).toNat
  let e := x.code / 2 ^ 48 / (s.codeLen c : Nat)
  let s := (s.put (SHF_CH_CARF_LO.fc_lo c) (unsigned 48 x.fc)).put (SHF_CH_CARF_HI.fc_hi c) (unsigned 48 x.fc / 2 ^ 32)
  let s := (s.put (SHF_CH_CODEF_LO.fk_lo c) x.fk).put (SHF_CH_CODEF_HI.fk_hi c) (x.fk / 2 ^ 32)
  let s := s.put (SHF_CH_CARP.phase c) (x.car / 2 ^ 16 % 2 ^ 32).toNat
  let s := (s.put (SHF_CH_CODEP.chip c) chip).put (SHF_CH_CODEP.frac c) (x.code % 2 ^ 48 / 2 ^ 36).toNat
  s.put (SHF_CH_AUX.sec_index c) (((x.sec0 : Int) + e) % (s.secMod c : Nat)).toNat

/-! ### Lock indicators -/

/-- The C/N0 estimate in 0.01 dB-Hz over dumps, with the integration time in ns (R237): free where the formula has no value,
that is without noise or where the noise is not below the prompt power; 0 where it is negative (log entry 10). -/
def cn0Track (seed : Nat) (h : List DumpStat) (integNs : Nat) : Nat :=
  let p := h.foldl (fun a d => a + (d.pI * d.pI + d.pQ * d.pQ).toNat) 0
  let n := h.foldl (fun a d => a + d.s0) 0
  let den := n * integNs
  let num := (p - n) * 1000000000
  if den == 0 || decide (p ≤ n) then Config.freeValue seed % 2 ^ 16
  else if num < den then 0
  else centiBels num den 65534 + b2n (Config.roundUp seed)

/-- PLI compared with n tenths over the dumps of the last 100 ms: at least (R237). -/
def pliAtLeast (tenths : Int) (h : List DumpStat) : Bool :=
  let a := h.foldl (fun a d => a + d.pI * d.pI - d.pQ * d.pQ) 0
  let b := h.foldl (fun a d => a + d.pI * d.pI + d.pQ * d.pQ) 0
  decide (tenths * b ≤ 10 * a)

/-- The lock state after a dump (R237). -/
def nextLock (x : LockInfo) (within : Nat) (words : List Nat) (window : List DumpStat) : Nat :=
  if x.lock == 1 then if 10 ≤ within then 2 else 1
  else if x.lock == 2 then if pliAtLeast 8 window then 3 else 2
  else if x.lock == 3 then if !pliAtLeast 6 window then 2 else if Config.syncFound words then 4 else 3
  else if x.lock == 4 then if !pliAtLeast 6 window then 2 else 4
  else x.lock

/-- The lock indicators of a channel after a dump of sweep 0 at a time (R237). -/
def lockAfter (x : LockInfo) (seed drop : Nat) (words : List Nat) (t integNs : Nat) : LockInfo :=
  let v := fun i => signed 20 (words.getD i 0)
  let h := (x.hist ++ [⟨t, v 12, v 13, (v 18 * v 18 + v 19 * v 19).toNat⟩])
  let window := h.filter fun d => decide (t ≤ d.time + second / 10)
  let h50 := h.drop (h.length - 50)
  let keep := if window.length < h50.length then h50 else window
  let cn0 := cn0Track seed h50 integNs
  let within := if Config.freqClose words then min (x.within + 1) 10 else 0
  let low := if cn0 < drop then some (x.lowSince.getD t) else none
  let lock := match low with
    | some t0 => if t0 + second ≤ t then 5 else nextLock x within words window
    | none => if x.lock == 5 then 1 else nextLock x within words window
  { lock := lock, since := if lock == x.lock then x.since else t, hist := keep, within := if lock == x.lock then within else 0
    lowSince := low, cn0 := cn0, slips := x.slips + b2n ((x.lock == 3 || x.lock == 4) && lock == 2) }

/-- A dump of a channel at its present word (R221 to R225): the records leave, the sums clear, and the firmware's indicators
follow a dump that reached it. -/
def State.dump (s : State) (c : Nat) (final : Bool) (excess : Int) (x : ShfChan) : ShfChan × State :=
  let l := s.get (SHF_CH_CFG.lane c)
  let fan := (x.sums.length - 1) / 2
  let t := (s.wordTime l x.word - s.backTime l x.fk excess).toNat
  let recs := (x.sums.zipIdx.map fun p => s.dumpRecord c x final t p.2 p.1)
  let r := s.sendDumps (s.get (SHF_CH_CFG.dsp c)) recs
  let s := (r.2.put (SHF_CH_STATUS.wipe_sat c) (min x.wipeSat 255)).showNco c x
  let s := if r.1.getD fan true then s
    else (s.setLock c (lockAfter (s.lockOf c) s.free s.shf.drop (recs.getD fan []) t (x.count * s.laneD l * 10 / 36))).nextFree
  ({ x with sums := x.sums.map fun y => y.map fun _ => 0
            count := 0, integ := x.integ + 1, wipeSat := 0, overload := false, blank := false, settle := false
            upd := false, discont := false, gap := r.1.any id }, s)

/-! ### Loop updates -/

/-- The code phase has reached the present boundary (R221, R222). -/
def State.boundReached (s : State) (c : Nat) (x : ShfChan) : Bool :=
  decide ((x.bound * s.codeLen c * 2 ^ 48 : Nat) ≤ x.code)

/-- The boundary after the one reached: m epochs on, and beyond the present phase (R221). -/
def State.nextBound (s : State) (c : Nat) (x : ShfChan) : Nat :=
  let m := max 1 (s.get (SHF_CH_CFG.integ_len c))
  let e := (x.code / 2 ^ 48 / (s.codeLen c : Nat)).toNat
  if x.bound + m ≤ e then x.bound + ((e - x.bound) / m + 1) * m else x.bound + m

/-- An integration that reached its boundary ends with a dump (R221, R222). -/
def State.endIntegration (s : State) (c : Nat) (x : ShfChan) : ShfChan × State :=
  if s.boundReached c x then
    let r := s.dump c false (x.code - (x.bound * s.codeLen c * 2 ^ 48 : Nat)) x
    ({ r.1 with bound := s.nextBound c x }, r.2)
  else (x, s)

/-- The sums of the sweeps that a channel makes with a fan of width f, sweep 0 in the middle: a new sweep's begin at zero
(R207). -/
def fanSums (f : Nat) (sums : List (List Int)) : List (List Int) :=
  let g := (sums.length - 1) / 2
  let more := List.replicate (f - g) (List.replicate 18 (0 : Int))
  more ++ (sums.drop (g - f)).take (2 * min f g + 1) ++ more

/-- A waiting update applies at the present word (R207, R227, R228): steps first, then frequencies; a forward step
across a boundary ends the integration there with discont. fan_off acts at the next block. -/
def State.applyUpd (s : State) (c : Nat) (u : LoopUpd) (x : ShfChan) : ShfChan × State :=
  let x := { x with car := x.car + u.cstep * 2 ^ 28, code := x.code + u.kstep * 2 ^ 36 }
  let crossed := decide (0 < u.kstep) && s.boundReached c x
  let r := if crossed then s.endIntegration c { x with discont := true } else (x, s)
  let big := match u.fk with
    | some f => decide (2 ^ 47 < f)
    | none => false
  let s := if big then r.2.flag SHF_EVENT.clamp else r.2
  let x := { r.1 with fc := u.fc.getD x.fc, fk := min (u.fk.getD x.fk) (2 ^ 47), upd := true, waiting := none }
  (x, s)

/-- The fan of the next block (R207, R227): that of SHF_CH_CFG.fan, which a waiting fan_off sets to 0, and the cost with it. -/
def State.fanNow (s : State) (c : Nat) (x : ShfChan) : ShfChan × State :=
  let off := match x.waiting with
    | some u => u.fanOff
    | none => false
  let s := if off then (s.put (SHF_CH_CFG.fan c) 0).showSheaf (c / 8) else s
  ({ x with waiting := x.waiting.map fun u => { u with fanOff := false }
            sums := fanSums (s.get (SHF_CH_CFG.fan c)) x.sums }, s)

/-- The updates that apply at a boundary word, and at the first word of a block (R227). -/
def State.updAt (s : State) (c : Nat) (block : Bool) (x : ShfChan) : ShfChan × State := match x.waiting with
  | some u => if u.atBlock == block then s.applyUpd c u x else (x, s)
  | none => (x, s)

/-! ### Sweeps -/

/-- The channel uses one lane word (R218 to R221): an integration whose boundary has been reached ends first, then an
update that waits for it applies. -/
def State.sweepWord (s : State) (c : Nat) (w : Nat) (x : ShfChan) : ShfChan × State :=
  let ended := s.boundReached c x
  let r := s.endIntegration c x
  let r := if ended then r.2.updAt c false r.1 else r
  let s := r.2
  let x := r.1
  let settle := bit w 20
  let blank := bit w 21
  let x :=
    if settle || blank then { x with settle := x.settle || settle, blank := x.blank || blank }
    else
      let a := s.sweepsAdd c x w (s.tapValues c x) 0 x.sums
      { x with sums := a.1, wipeSat := x.wipeSat + a.2, count := x.count + 1 }
  let x := { x with overload := x.overload || bit w 22, word := x.word + 1, inBlock := x.inBlock + 1
                    car := x.car + x.fc, code := x.code + (x.fk : Int) }
  -- the sweep phase of a fan is taken from the block's first word, so the fan offset does not accumulate (R207)
  if x.count == 11000000 then s.dump c false 0 { x with discont := true } else (x, s)

/-- The words of a block, one after the other. -/
def State.sweepWords (s : State) (c : Nat) : List (BitVec 23) → ShfChan → ShfChan × State
  | [], x => (x, s)
  | w :: ws, x => let r := s.sweepWord c w.toNat x; r.2.sweepWords c ws r.1

/-- What happens to a channel at the first word of a block (R207, R227): its fan is that of the block, an integration whose
boundary has been reached ends, and the updates that wait for the boundary or the block apply. -/
def State.blockBegins (s : State) (c : Nat) (x : ShfChan) : ShfChan × State :=
  let r := s.fanNow c { x with inBlock := 0 }
  let ended := r.2.boundReached c r.1
  let r := r.2.endIntegration c r.1
  let r := if ended then r.2.updAt c false r.1 else r
  r.2.updAt c true r.1

/-- Every sweep of a channel over the words of one block that it uses (R202, R203, R207). -/
def State.sweepBlock (s : State) (c : Nat) (words : List (BitVec 23)) (x : ShfChan) : ShfChan × State :=
  let r := s.blockBegins c { x with swept := true }
  r.2.sweepWords c words r.1

/-- What a channel does from its working state, and after it the odd slot of its pair with the even slot's NCOs (R214). -/
def State.chanDoes (s : State) (c : Nat) (f : State → Nat → ShfChan → ShfChan × State) : State :=
  let x := s.chan c
  let r := f s c x
  let s := r.2.setChan c r.1
  if x.pair then
    let y := s.chan (c + 1)
    let t := f s (c + 1) { y with
      car := x.car, code := x.code, sec0 := x.sec0, fc := x.fc, fk := x.fk, word := x.word, waiting := x.waiting }
    t.2.setChan (c + 1) { t.1 with waiting := none }
  else s

/-- Words k to e − 1 of a lane, which have left on the lane bus: what the lofts of its sheaves hold of it (R202). -/
def State.loftWords (s : State) (l k e : Nat) : List (BitVec 23) :=
  let out := (s.lane l).path.out
  ((out.drop (out.length - e)).take (e - k)).reverse

/-- The words of its lane that a channel has complete blocks of (R202). -/
def State.blockEnd (s : State) (c : Nat) : Nat := ((s.chan c).word / 4096 + 1) * 4096

/-- The block that a running channel sweeps next is complete in its sheaf's loft. A pair's odd slot goes with the even one. -/
def State.blockReady (s : State) (c : Nat) : Bool :=
  s.chanState c == 2 && !s.pairOdd c && decide (s.blockEnd c ≤ s.laneWords (s.get (SHF_CH_CFG.lane c)))

/-- A sweep of a channel over its next block, with the odd slot of a pair (R203, R214). -/
def State.sweep (s : State) (c : Nat) : State :=
  let words := s.loftWords (s.get (SHF_CH_CFG.lane c)) (s.chan c).word (s.blockEnd c)
  s.chanDoes c fun s c x => s.sweepBlock c words x

/-- The order among the blocks ready in a loft (R203): by the CK_FAB cycle at which the lane's next block is complete, then by
lane. -/
def State.sweepKey (s : State) (c : Nat) : Nat :=
  let l := s.get (SHF_CH_CFG.lane c)
  (s.lane l).formedAt ((s.blockEnd c + 4096 + 16) * s.laneD l - 1) * 16 + l

/-- The channel that a sheaf sweeps next, in ascending slot order within a block (R203). -/
def State.sweepNext (s : State) (h : Nat) : Option Nat :=
  (((List.range 8).map (8 * h + ·)).filter s.blockReady).foldl (fun a c => match a with
    | some b => if s.sweepKey c < s.sweepKey b then some c else a
    | none => some c) none

/-- The sweeps that the channels of a sheaf have yet to make of complete blocks. -/
def State.sweepsDue (s : State) (h : Nat) : Nat :=
  (((List.range 8).map (8 * h + ·)).filter s.blockReady).foldl
    (fun a c => a + (s.laneWords (s.get (SHF_CH_CFG.lane c)) / 4096 - (s.chan c).word / 4096)) 0

/-- A sheaf sweeps in its order up to the next sweep of a channel, at most n sweeps. -/
def State.sweepTo (c : Nat) : Nat → State → State
  | 0, s => s
  | n + 1, s => match s.sweepNext (c / 8) with
    | none => s
    | some k => if k == c then s.sweep k else sweepTo c n (s.sweep k)

/-- A sheaf sweeps the blocks of a channel that are complete, at most n of them. -/
def State.sweepOut (c : Nat) : Nat → State → State
  | 0, s => s
  | n + 1, s => if s.blockReady c && s.sheavesRun then sweepOut c n (sweepTo c (s.sweepsDue (c / 8)) s) else s

/-- A channel's complete blocks have been swept: those that its sheaf has while it runs (R233). -/
def State.finishBlocks (s : State) (c : Nat) : State :=
  let e := c - (if s.pairOdd c then 1 else 0)
  State.sweepOut e (s.sweepsDue (e / 8)) s

/-! ### Ending -/

/-- A running channel ends with its partial integration as a final dump; a pending one is cancelled (R233, R238). -/
def State.chanEnd (s : State) (lost : Bool) (c : Nat) : State :=
  let st := s.chanState c
  if st == 0 then s
  else
    let x := s.chan c
    let s := if st == 2 then (s.dump c true 0 x).2 else s
    let s := if x.waiting.isSome then s.bump SHF_COUNT.upd_discard else s
    let s := if lost then ((s.flag (SHF_CH_STATUS.lane_lost c)).flag SHF_EVENT.lane_lost).emit
      (evChannel 4 (s.get (SHF_CH_CODE.signal c)) (s.get (SHF_CH_CODE.sat c)) c) else s
    let s := ((s.put (SHF_CH_STATUS.state c) 0).setChan c {}).setLock c {}
    s.showSheaf (c / 8)

/-- A channel's end, with the other slot of its pair: after the blocks that its sheaf has complete (R214, R233). -/
def State.chanLeave (s : State) (lost : Bool) (c : Nat) : State :=
  let s := s.finishBlocks c
  s.each (s.pairSlots c) fun s c => s.chanEnd lost c
def State.chanStop (s : State) (c : Nat) : State := s.chanLeave false c

/-- CHANNEL_STOP (R233). -/
def execChannelStop (channel : Fin 512) (s : State) : Result := whileLive s fun s => .next (s.chanStop channel)

/-- Every channel ends (SHF_CTRL.enable). -/
def State.shfDisable (s : State) : State := (s.each (s.shf.chans.map Prod.fst) State.chanStop).put SHF_CTRL.enable 0

/-- SHEAF_DISABLE (R239). -/
def execSheafDisable (s : State) : Result := whileLive s fun s => .next s.shfDisable

/-- The channels that name a lane, running or pending. -/
def State.laneChannels (s : State) (l : Nat) : List Nat :=
  (s.shf.chans.map Prod.fst).filter fun c => s.chanState c != 0 && s.get (SHF_CH_CFG.lane c) == l

/-- A lane stops: every channel on it ends (R233). -/
def State.shfLaneStop (s : State) (l : Nat) : State := s.each (s.laneChannels l) fun s c => s.chanLeave true c

/-- A start that is pending when its lane restarts is cancelled with cause LANE, for both slots of a pair (R214, R231). -/
def State.cancelStart (s : State) (c : Nat) : State :=
  s.each (s.pairSlots c) fun s c =>
    (((s.put (SHF_CH_STATUS.state c) 0).put (SHF_CH_STATUS.cause c) 1).setChan c {}).showSheaf (c / 8)

/-- A quotient rounded to the nearest integer. -/
def roundDiv (a : Int) (b : Nat) : Int := (2 * a + (b : Int)) / (2 * (b : Int))

/-- A gap in a channel's words is bridged (R232): the NCOs advance by the word periods elapsed between the time at
which the next word of the old origin was due and word 0 of the new one. -/
def State.bridge (s : State) (c l : Nat) (due : Int) : State :=
  let x := s.chan c
  let d := match (s.lane l).cfg with
    | some k => k.d
    | none => 1
  let n := roundDiv ((s.wordTime l 0 - due) * 8) (d * (max 1 s.incNow : Nat))
  s.setChan c { x with word := 0, inBlock := 0, swept := false, car := x.car + x.fc * n, code := x.code + (x.fk : Int) * n, gap := true }

/-- A lane's new sample origin, set by an operation, as the channels on it meet it (R231 to R233): the complete blocks of the
old origin are swept first. -/
def State.shfNewOrigin (s : State) (l : Nat) (op : State → State) : State :=
  let s := s.each (s.laneChannels l) State.finishBlocks
  let rate := (s.lane l).cfg.map DecCfg.d
  let cs := s.laneChannels l
  let due := cs.map fun c => (c, s.wordTime l (s.chan c).word)
  let s := op s
  let kept := s.is (LANE_STATUS.running l) && (s.lane l).cfg.map DecCfg.d == rate
  s.each due fun s p =>
    if s.chanState p.1 == 1 then s.cancelStart p.1
    else if kept then s.bridge p.1 l p.2
    else s.chanLeave true p.1

/-! ### Loop updates from the dump network -/

/-- The fields of a loop update record (R226). -/
def updFields (w : List Nat) : LoopUpd :=
  let v := fun i => w.getD i 0
  let h := v 0
  { atBlock := bit h 9
    fc := if bit h 10 then some (signed 48 (v 1 + v 2 * 2 ^ 20 + bits (v 3) 0 8 * 2 ^ 40)) else none
    fk := if bit h 11 then some (v 4 + v 5 * 2 ^ 20 + bits (v 6) 0 8 * 2 ^ 40) else none
    cstep := if bit h 12 then signed 20 (v 7) else 0
    kstep := if bit h 13 then signed 20 (v 8) else 0
    fanOff := bit h 14 }

/-- Two updates that wait together as one (R229). -/
def mergeUpd (a b : LoopUpd) : LoopUpd :=
  { atBlock := b.atBlock
    fc := match b.fc with
      | some f => some f
      | none => a.fc
    fk := match b.fk with
      | some f => some f
      | none => a.fk
    cstep := sat20 (a.cstep + b.cstep), kstep := sat20 (a.kstep + b.kstep), fanOff := a.fanOff || b.fanOff }

/-- LOOP_UPDATE (R226, R229): the oldest record on the dump network arrives at its sheaf. -/
def execLoopUpdate (s : State) : Result := whileLive s fun s => match s.shf.net with
  | [] => .next s
  | (core, w) :: rest => if !s.locked then .next s else
    let s := s.modShf fun h => { h with net := rest }
    let c := bits (w.getD 0 0) 0 9
    if s.chanState c != 2 || s.get (SHF_CH_CFG.dsp c) != core then .next (s.bump SHF_COUNT.upd_discard)
    else if s.pairOdd c then .next s
    else
      let x := s.chan c
      match x.waiting with
      | some u => .next ((s.bump SHF_COUNT.upd_merged).setChan c { x with waiting := some (mergeUpd u (updFields w)) })
      | none => .next (s.setChan c { x with waiting := some (updFields w) })

/-- LOOP_UPDATE_APPLY (R227): between two blocks, an update for the next block applies at its first word, and one for a
boundary when the next word is the first past it. -/
def execLoopUpdateApply (channel : Fin 512) (s : State) : Result := whileLive s fun s =>
  let c := channel.val
  if s.chanState c != 2 || s.pairOdd c || !s.sheavesRun then .next s
  else .next (s.chanDoes c fun s c x => s.blockBegins c x)

/-! ### The code RAM -/

/-- The chips of a code RAM word that a write may change: not those in a region that a running channel uses (R212). -/
def State.ramFree (s : State) (h k : Nat) : Bool :=
  (List.range 8).all fun j =>
    let c := 8 * h + j
    s.chanState c == 0 || !s.is (SHF_CH_CODE.code_ram c) ||
      decide (s.codeLen c ≤ (k + 65536 - s.get (SHF_CH_RAM.offset c)) % 65536)

/-- A write of a code RAM word (R212): chips of a region in use keep their values; such a write is counted. -/
def State.codeRamWrite (s : State) (h w : Nat) (v : Nat) : State :=
  let old := s.get (SHF_CODE_RAM.chips h w)
  let busy := (List.range 32).any fun i => !s.ramFree h (32 * w + i)
  let new := (List.range 32).foldl (fun a i => a + (if s.ramFree h (32 * w + i) then b2n (bit v i) else b2n (bit old i)) * 2 ^ i) 0
  let s := s.put (SHF_CODE_RAM.chips h w) new
  if busy then (s.bump SHF_COUNT.ram_busy).flag SHF_EVENT.ram_busy else s

/-- CODE_RAM_WRITE (R212). -/
def execCodeRamWrite (sheaf : Fin 64) (word : Fin 2048) (value : Word) (s : State) : Result := whileLive s fun s =>
  .next (s.codeRamWrite sheaf word value.toNat)

end Sys2Proof.Machine
end

