-- ==== Sys2Proof/Machine/LaneFlow.lean ====
section
/-! DEFINITION. Lane starts, stops and new sample origins with what hangs on a lane: channels, thresher jobs, captures and
feeds (R160 to R164, R176, R231 to R233, R301). -/

namespace Sys2Proof.Machine

/-- The open cores whose feed takes a lane (R299). -/
def State.feedsOn (s : State) (l : Nat) : List Nat :=
  [12, 13, 14, 15].filter fun n => s.is (FEED_CFG.granted n) && s.get (FEED_CFG.lane n) == l

/-- The feeds of a lane take the words that have left, before the lane stops or takes a new sample origin. -/
def State.feedsDue (s : State) (l : Nat) : State := s.each (s.feedsOn l) State.feedDue

/-- A feed meets a new sample origin: numbering restarts from word 0 (R301). -/
def State.feedOrigin (s : State) (l : Nat) : State :=
  s.each (s.feedsOn l) fun s n =>
    ((s.flag (FEED_STATUS.origin n)).put (FEED_STATUS.lane_stopped n) 0).modCore n fun c => { c with feedNext := 0 }

/-- A feed meets a stopped lane. -/
def State.feedStop (s : State) (l : Nat) : State := s.each (s.feedsOn l) fun s n => s.flag (FEED_STATUS.lane_stopped n)

/-- The output rate of a lane is below what a job needs (R176). -/
def State.belowRate (s : State) (l : Nat) (j : ThrJob) : Bool := match (s.lane l).cfg with
  | some c => !rateOk c.d j.signal
  | none => true

/-- The local time from which on the thresher may take words of live lanes: the block that its round is at, or its next round
(R174, R182). -/
def State.thrSince (s : State) : Int := match s.thr.running with
  | some p =>
    if p.phase == .running then p.tR + p.block * (1000000 * nanosecond) else min p.notBefore (p.fired.getD p.notBefore)
  | none => s.ltu.now

/-- A new sample origin of a lane, with everything on the lane (R160, R176, R231 to R233, R301). A lane whose configuration is
refused keeps its origin, or stays stopped, and nothing on it is disturbed (R144). -/
def State.newOrigin (s : State) (l : Nat) (kind : OriginKind) : State :=
  let s := s.runLane l
  if s.originOk l then
    let s := ((s.cutCapture fun c => c.lanes.contains l).keepGone l (min s.captureSince s.thrSince)).feedsDue l
    let s := s.shfNewOrigin l fun s => s.laneOrigin l kind
    (s.thrLaneLost l (s.belowRate l)).feedOrigin l
  else s.laneOrigin l kind

/-- A lane stops at the end of its word (R164): its channels and jobs end with the lane lost; a pending start is
cancelled. A captured lane ends its capture there. -/
def State.laneStop (s : State) (l : Nat) : State :=
  let s := ((s.put (LANE_CTRL.enable l) 0).put (LANE_STATUS.start_pending l) 0).answerTo (s.lane l).req (ansAborted 7)
  let s := (s.modLane l fun x => { x with req := none, startIn := none }).runLane l
  if s.is (LANE_STATUS.running l) then
    let s := (((s.feedsDue l).shfLaneStop l).thrLaneLost l (fun _ => true)).feedStop l
    let s := s.cutCapture fun c => c.lanes.contains l
    ((s.put (LANE_STATUS.running l) 0).put (LANE_STATUS.settling l) 0).showAgg
  else s

/-- The request that waits for a lane start is answered when it lands, or when the configuration was refused (R568). -/
def State.laneAnswer (s : State) (l : Nat) : State := match (s.lane l).req with
  | none => s
  | some q =>
    let s := s.modLane l fun x => { x with req := none }
    if s.is (LANE_STATUS.cfg_error l) then s.noRoom q
    else match (s.lane l).cfg with
      | some c => s.answer q (ansOk (le 4 (3600000 / c.d)))
      | none => s

/-- LANE_DISABLE (R164). -/
def execLaneDisable (lane : Fin 12) (s : State) : Result := whileLive s fun s => .next (s.laneStop lane)

/-- Every running and pending lane restarts on the marker at which the gates open (R163), or on which a sync lands
(R160), in ascending number. -/
def State.allOrigins (s : State) (kind : OriginKind) : State :=
  s.each (List.range 12) fun s l =>
    if s.is (LANE_STATUS.running l) || s.is (LANE_STATUS.start_pending l) then (s.newOrigin l kind).laneAnswer l else s

end Sys2Proof.Machine
end

