-- ==== Sys2Proof/Machine/Markers.lean ====
section
/-! DEFINITION. Alignment markers as every unit meets them (R57, R120, R160, R351), the commands that bring the clock to the
instant at which they happen, and the commands of the front end and the lanes that come at such an instant. -/

namespace Sys2Proof.Machine

/-! ### What comes due at a marker -/

/-- A lane sync lands on the present marker (R78, R160): it applies to every running and pending lane. -/
def State.syncLand (s : State) : State :=
  let s := ((s.flag CLK_EVENT.sync_landed).bump CLK_SYNC_COUNT.landed).modClk fun c => { c with sync := none }
  s.allOrigins .sync

/-- A pending lane start takes place at the present marker (R160). -/
def State.laneBegin (s : State) (l : Nat) : State := (s.newOrigin l .start).laneAnswer l

/-- What is due at the present marker and has not taken place takes place before another marker passes (log entry 64): a sync
(R78, R164), and lane starts. -/
def State.landDue (s : State) : State :=
  if !s.locked then s
  else
    let s := s.when (s.clk.sync == some 0) State.syncLand
    s.each (List.range 12) fun s l =>
      if (s.lane l).startIn == some 0 && s.is (LANE_STATUS.start_pending l) then s.laneBegin l else s

/-- The number of markers to the first at which something is due, none beyond n. -/
def State.nextDue (s : State) (n : Nat) : Nat :=
  let nearer := fun (a : Nat) (x : Option Nat) => match x with
    | some k => if 0 < k then min a k else a
    | none => a
  (List.range 12).foldl (fun a l => nearer a (s.lane l).startIn) (nearer n s.clk.sync)

/-! ### Passing markers -/

/-- n applications of a function. -/
def repeated {α : Type} (f : α → α) : Nat → α → α
  | 0, x => x
  | n + 1, x => repeated f n (f x)

/-- One step of the dither LFSR of 23 bits, polynomial x^23 + x^18 + 1 (R53). -/
def lfsrStep (v : Nat) : Nat := v * 2 % 2 ^ 23 + b2n (bit v 22 != bit v 17)

/-- The modulators of both synthesisers over n REFCLK periods (R53): with dither enabled the LFSR steps in each; the
modulator's word lengths are not given (log entry 65). -/
def State.modulate (s : State) (n : Nat) : State :=
  let a := s.is CLK_CTRL.dither_en
  let b := s.is CLKB_CTRL.dither_en
  s.modClk fun c => { c with
    lfsr := if a then repeated lfsrStep n c.lfsr else c.lfsr
    modState := repeated (fun m => Config.modulator m a c.lfsr) n c.modState
    bLfsr := if b then repeated lfsrStep n c.bLfsr else c.bLfsr
    bModState := repeated (fun m => Config.modulator m b c.bLfsr) n c.bModState }

/-- The clock root at n markers, at least one (R54, R57): the index advances, the loop bandwidth written takes effect, and what
is due comes nearer. -/
def State.rootMarkers (s : State) (n : Nat) : State :=
  let s := (s.put CLK_STATUS.marker_index (s.get CLK_STATUS.marker_index + n)).modulate (32 * n)
  let bw := s.get CLK_CTRL.bw_sel
  let s := s.modClk fun c => { c with bw := bw, sync := c.sync.map (· - n) }
  { s with lanes := vmap (fun x => { x with startIn := x.startIn.map (· - n) }) s.lanes }

/-- n markers pass, at least one, with nothing due before the last of them, where the front end has nothing for the first: the
clock root, the local clock, the front end and the lanes (R57, R120, R136, R351). -/
def State.evenMarkers (s : State) (n : Nat) : State := ((s.rootMarkers n).ltuMarkers n).feMarker.runLanes

/-- n markers pass, at least one, with nothing due before the last of them. What waits at the front end takes effect at the
first. -/
def State.plainMarkers (s : State) (n : Nat) : State := if n ≤ 1 then s.evenMarkers n else (s.evenMarkers 1).evenMarkers (n - 1)

/-- n markers pass, and what is due at those on the way takes place there: at most one sync and twelve lane starts. -/
def State.markersPass : Nat → State → Nat → State
  | _, s, 0 => s
  | 0, s, n => s.plainMarkers n
  | f + 1, s, n =>
    let s := s.landDue
    let k := s.nextDue n
    State.markersPass f (s.plainMarkers (min k n)) (n - min k n)
def State.passMarkers (s : State) (n : Nat) : State := State.markersPass 14 s n

/-! ### Bringing the clock to an instant -/

/-- The markers of CK_FAB whose local time is at or before a time. A slew changes the length of the intervals at most three
times. -/
def State.markersTo (s : State) (t : Time) : Nat → Nat
  | 0 => 0
  | f + 1 =>
    if t < s.ltu.markT + s.markLen then 0
    else
      let s1 := s.nextMarker
      let k := s1.steady ((t - s1.ltu.markT) / max 1 s1.markLen)
      let k := min k ((t - s1.ltu.markT) / max 1 s1.markLen)
      1 + k + (s1.sameMarkers k).markersTo t f

/-- The clock reaches a time: on CK_FAB the markers at or before it pass; otherwise ticks pass up to the first at or after it.
Time-driven commands bring the clock to the instant at which they happen. -/
def State.advanceTo (s : State) (t : Time) : State :=
  if s.onFab then (s.passMarkers (s.markersTo t 5)).modLtu fun u => { u with now := max u.now t }
  else s.tickTo t

/-- The clock reaches a CK_FAB cycle, counted since reset. -/
def State.toCycle (s : State) (c : Nat) : State :=
  if s.onFab then
    let s := s.passMarkers ((c - s.clk.cycle) / markCycles)
    s.modLtu fun u => { u with now := max u.now (u.markT + (c - s.clk.cycle) * s.incNow) }
  else s

/-- The present marker is reached: at its instant, or at the next one. -/
def State.toMarker (s : State) : State := if s.cycleNow == s.clk.cycle then s else s.passMarkers 1

/-! ### Commands of the markers -/

/-- ALIGNMENT_MARKER (R54, R57, R120, R351): a marker comes; while ADPLL-A is unlocked or frozen only the clock root, and the
local clock on REFCLK, meet it. -/
def execAlignmentMarker (s : State) : Result := whilePowered s fun s =>
  if !s.is CLK_STATUS.ref_present && !s.is CLK_STATUS.coasting then .next s
  else if s.locked && s.onFab && !s.frozen then .next (s.passMarkers 1)
  else
    let s := s.rootMarkers 1
    .next (if s.onRef && !s.frozen then s.refTicks 32 else s)

/-- SYNC_LANDED (R78, R160): at its marker, to which the clock is brought. -/
def execSyncLanded (s : State) : Result := whilePowered s fun s =>
  if s.frozen || !s.locked then .next s
  else match s.clk.sync with
    | none => .next s
    | some n =>
      let s := s.passMarkers n
      .next (if s.clk.sync == some 0 then s.syncLand else s)

/-- LANE_START (R160): at its marker, to which the clock is brought. -/
def execLaneStart (lane : Fin 12) (s : State) : Result := whileLive s fun s =>
  if s.is (LANE_STATUS.start_pending lane.val) && s.locked then
    let s := s.passMarkers ((s.lane lane).startIn.getD 0)
    .next (if s.is (LANE_STATUS.start_pending lane.val) then s.laneBegin lane else s)
  else .next s

/-- SLEW_DONE (R353): the marker intervals that the rest of the offset takes have passed. -/
def execSlewDone (s : State) : Result := whileLive s fun s =>
  if !s.is TIME_STATUS.slewing || !s.onFab || s.net.parts != 0 then .next s
  else
    let cap := max 1 s.slewCap
    .next (s.passMarkers (1 + (mag (s.ltu.slewRem - s.ltu.slewNow) + cap - 1) / cap))

/-- TIME_RELATION_WRITE (R392): at the RTC edge of a count, the first at or after the next whole second. -/
def execTimeRelationWrite (rtc : BitVec 48) (s : State) : Result := whileLive s fun s =>
  if s.frozen then .next s
  else if s.get TIME_STATUS.tick_src == 2 then .next (s.writeRelation rtc.toNat s.ltu.now)
  else
    let t := s.edgeAfter (gridFrom 0 second s.ltu.now)
    .next ((s.nextFree.advanceTo t).writeRelation rtc.toNat t)

/-- GNSS_LOSS_TIMEOUT (R362): loss_timeout after the last usable solution, to which the clock is brought. -/
def execGnssLossTimeout (s : State) : Result := whileLive s fun s =>
  if !s.ltu.gnss then .next s
  else
    let s := s.advanceTo (s.ltu.solAt + s.get TIME_SRC_CFG.loss_timeout * 100000000 * nanosecond)
    .next (s.modLtu fun u => { u with gnss := false, qual := 0 }).chooseSource

/-- SPOOF_HOLD_END (R364): spoof_hold seconds after spoof_suspect cleared, to which the clock is brought. -/
def execSpoofHoldEnd (s : State) : Result := whileLive s fun s =>
  if s.nav.detMask != 0 || !s.is TIME_STATUS.spoof_hold then .next s
  else
    let s := s.advanceTo (s.nav.clearAt + s.get TIME_SRC_CFG.spoof_hold * second)
    .next (s.put TIME_STATUS.spoof_hold 0).chooseSource

/-- LEAP_APPLY (R369): at 24:00:00 UTC of the last day of the month named, to which the clock is brought. -/
def execLeapApply (s : State) : Result := whileLive s fun s =>
  let leap := s.get TIME_UTC.leap
  if leap == 0 then .next s
  else
    let offset := s.getInt TIME_UTC.offset + (if leap == 1 then 1 else -1)
    let s := s.advanceTo (addTime (monthDay (s.get TIME_UTC.leap_month + 1) * 86400 * second) (offset * (second : Nat)))
    .next ((s.putInt TIME_UTC.offset offset).put TIME_UTC.leap 0)

/-- The number of marker intervals to the first marker at or after a time. -/
def State.intervalsTo (s : State) (t : Time) : Nat :=
  if t ≤ s.ltu.markT && s.ltu.now == s.ltu.markT then 0 else s.markersTo (t - 1) 5 + 1

/-- The first marker at or after a time: its local time, and the state at it; one that has passed stays past. -/
def State.markerFrom (s : State) (t : Time) : Time × State :=
  let m := (instantAt t none s.clk.marks + 47999) / 48000 * 48000
  if m ≤ (128 * s.clk.cycle : Nat) then ((s.dateOf m - (Config.apertureDelay : Nat)).toNat, s)
  else
    let s := s.passMarkers (s.intervalsTo t)
    (s.ltu.markT, s)

/-- STEP_APPLY (R367): at the first marker at or after S the clock takes its value plus Δ. -/
def execStepApply (s : State) : Result := whileLive s fun s => match s.ltu.step with
  | none => .next s
  | some p =>
    if !s.onFab || s.frozen then .next s
    else
      let s := s.passMarkers (s.intervalsTo (p.second * second))
      let old := s.ltu.now
      let new := addTime old p.delta
      let s := s.cutCapture fun _ => true
      let s := s.cancelStep.modLtu fun u => { u with
        now := new, markT := new, slewRem := 0, slewNow := 0
        resume := some (max (p.second * second) (addTime (p.second * second) p.delta))
        uncAt := addTime u.uncAt p.delta
        tp := vmap (fun t => { t with stepped := true, wrote := none }) u.tp }
      let s := s.recordMark
      let s := (((s.put TIME_SLEW.offset 0).put TIME_STATUS.slewing 0).flag TIME_EVENT.step_done).passedTriggers old new
      let d := p.delta / (nanosecond : Int)
      let s := s.emit (evStep (d / 1000000000) (d % 1000000000).toNat s.ltu.now)
      .next (s.discontinuity 1)

/-! ### Commands of the front end -/

/-- AGC_WINDOW_END (R121, R122, R126): at the end of the window's 65,536 samples, to which the clock is brought. -/
def execAgcWindowEnd (s : State) : Result := whileLive s fun s =>
  if s.fe.chain != .released || !s.locked then .next s
  else
    let s := s.toCycle ((s.fe.agcFrom + 65536) / 8)
    .next (s.agcWindowOver s.agcWindow)

/-- BLANK_ASSERT (R127): the synchroniser shows the active level, at the edge that begins the given CK_FAB cycle after the last
marker: e_a. -/
def execBlankAssert (cycle : Fin 375) (s : State) : Result := whileLive s fun s =>
  let c := s.clk.cycle + cycle
  .next ((s.toCycle c).blankLevel true c)

/-- BLANK_DEASSERT (R127, R129): the synchroniser shows the inactive level: e_d. -/
def execBlankDeassert (cycle : Fin 375) (s : State) : Result := whileLive s fun s =>
  let c := s.clk.cycle + cycle
  .next ((s.toCycle c).blankLevel false c)

/-- BLANK_POST_END (R127): the interval ends with its post-extension. -/
def execBlankPostEnd (s : State) : Result := whileLive s fun s =>
  if s.fe.blank == .post then
    let c := s.fe.blankEnd
    .next ((s.toCycle c).blankOver c .idle)
  else .next s

/-- BLANK_STUCK (R129): at the instant at which the interval has run for max_len × 100 µs. -/
def execBlankStuck (s : State) : Result := whileLive s fun s =>
  if s.fe.blank == .active || (s.fe.blank == .post && decide (s.blankLimit < s.fe.blankEnd)) then
    .next (s.toCycle s.blankLimit).blankCut
  else .next s

/-- BG_CAL_UPDATE (R133): at its marker an update is applied, unless updates are held. -/
def execBgCalUpdate (s : State) : Result := whileLive s fun s =>
  if s.bgLive then .next s.toMarker.bgUpdate else .next s

/-! ### Commands of the lanes -/

/-- A running lane reaches the CK_FAB cycle by which stage C has formed a word. -/
def State.toFormed (s : State) (l k : Nat) : State :=
  (s.toCycle ((s.lane l).formedAt ((k + 1) * s.laneD l - 1))).runLane l

/-- A running lane reaches the CK_FAB cycle at which a word has left on the lane bus: 16 words later (R159). -/
def State.toLeft (s : State) (l k : Nat) : State := s.toFormed l (k + 16)

/-- The word with which a requested fade starts, or the one that stage C forms next (R150). -/
def State.fadeFirst (s : State) (l : Nat) (f : Fade) : Nat :=
  let x := s.lane l
  match f.done with
  | some _ => x.path.formed
  | none => max x.path.formed (ceilDiv (8 * f.ready - 967 - 8 * x.origin + 1) (s.laneD l) - 1)

/-- FADE_START (R150): the first word of the requested fade is formed, by which the clock is brought. -/
def execFadeStart (lane : Fin 12) (s : State) : Result := whileLive s fun s => match (s.lane lane).fade with
  | some f =>
    if f.done.isNone && s.is (LANE_STATUS.running lane.val) && s.locked then .next (s.toFormed lane (s.fadeFirst lane f)) else .next s
  | none => .next s

/-- The end of a fade is shown (R149, R150): fade_done, and unless a pending request's fade has followed, the incoming filter
is current. -/
def State.fadeShown (s : State) (l : Nat) : State :=
  let s := (s.flag (LANE_EVENT.fade_done l)).modLane l fun x => { x with ends := x.ends.drop 1 }
  match (s.lane l).fade with
  | some f => if f.done == some f.len then ((s.fadeOver l).showGd l).showLocks l else s
  | none => s

/-- The last word of the fade that ends next, if one runs (R149). -/
def State.fadeLast (s : State) (l : Nat) : Option Nat := match (s.lane l).ends with
  | k :: _ => some k
  | [] => match (s.lane l).fade with
    | some f => some (s.fadeFirst l f + (f.len - f.done.getD 0) - 1)
    | none => none

/-- FADE_END (R149, R150): the last word of a fade leaves on the lane bus, to which instant the clock is brought. -/
def execFadeEnd (lane : Fin 12) (s : State) : Result := whileLive s fun s =>
  if !s.is (LANE_STATUS.running lane.val) || !s.locked then .next s
  else match s.fadeLast lane with
    | some k => .next ((s.toLeft lane k).fadeShown lane)
    | none => .next s

/-- NOTCH_DETECT (R153): at the end of the detector's block, to which the clock is brought. -/
def execNotchDetect (lane : Fin 12) (s : State) : Result := whileLive s fun s =>
  if !s.is (LANE_STATUS.running lane.val) || !s.locked then .next s
  else
    let w := (s.lane lane).win
    let s := if w.ready.isSome then s else s.toFormed lane ((s.lane lane).path.formed + (4095 - w.block.length))
    match (s.lane lane).win.ready with
    | some b => .next (s.detectBlock lane b)
    | none => .next s

/-- NOTCH_ENGAGE (R153): 256 words after the notch took a line, to which instant the clock is brought. -/
def execNotchEngage (lane : Fin 12) (notch : Fin 4) (s : State) : Result := whileLive s fun s =>
  match (s.notch lane notch).wait with
  | none => .next s
  | some n =>
    if !s.is (LANE_STATUS.running lane.val) || !s.locked then .next s
    else
      let s := if n == 0 then s else s.toFormed lane ((s.lane lane).path.formed + (n - 1))
      .next (s.notchEngage lane notch)

/-- NOTCH_RELEASE (R153). -/
def execNotchRelease (lane : Fin 12) (notch : Fin 4) (s : State) : Result := whileLive s fun s =>
  if s.notchIdle lane notch && s.locked then
    .next ((s.put (LANE_NOTCH.engaged lane notch) 0).flag (LANE_EVENT.notch_change lane))
  else .next s

end Sys2Proof.Machine
end

