-- ==== Sys2Proof/Machine/Nav.lean ====
section
/-! DEFINITION. The navigation engine: position reports with their flags and signature (R306 to R320), corrections
(R317), OSNMA state (R322), detectors (R324, R325) and declared positions (R326). -/

namespace Sys2Proof.Machine

/-- n bytes of a number, the most significant first (R309). -/
def be (n v : Nat) : List Byte := (le n v).reverse

/-- The report period in force: R41 limits it to 100 ms in single-pair operation. -/
def State.reportPeriod (s : State) : Nat :=
  if s.is STW_STATUS.single_pair then max 100 s.nav.period else s.nav.period

/-- The next grid instant at which a report is due (R306, R308): not before the present, so that none lies in an interval that a
step skipped, and after the last time of validity used. A period below one second divides it. -/
def State.nextReport (s : State) : Time :=
  gridFrom 0 (s.reportPeriod * 1000000 * nanosecond) (match s.nav.lastTov with
    | some t => max s.ltu.now (t + 1)
    | none => s.ltu.now)

/-- A millimetre field (R310). -/
def mmField : Option Nat → Nat
  | none => 0xFFFFFFFF
  | some v => if v < 0xFFFFFFFE then v else 0xFFFFFFFE

/-- Longitude in its range: +180° is written as −180° (R310). -/
def lonField (v : Int) : Int := if v == 1800000000000 then -1800000000000 else v

/-- What a report says beside its flags, number and signature (R309). -/
structure ReportBody where
  tov      : Time
  lat      : Int
  lon      : Int
  height   : Int
  velN     : Int
  velE     : Int
  velD     : Int
  hUnc     : Option Nat
  vUnc     : Option Nat
  hpl      : Option Nat
  vpl      : Option Nat
  fixType  : Nat
  svUsed   : Nat
  sigUsed  : Nat
  sysMask  : Nat
  bandMask : Nat
  deriving DecidableEq, Repr

/-- hpl and vpl bound the error (R319). -/
def ReportBody.plValid (b : ReportBody) : Bool :=
  b.hpl.isSome && b.vpl.isSome && b.fixType != 0 && b.fixType != 8 && b.fixType != 9

/-- integrity_alert (R320). -/
def State.integrityAlert (s : State) (b : ReportBody) : Bool :=
  let hSet := s.nav.hal != 0xFFFFFFFF
  let vSet := s.nav.val != 0xFFFFFFFF
  (hSet && decide (s.nav.hal ≤ mmField b.hpl)) || (vSet && decide (s.nav.val ≤ mmField b.vpl)) ||
    ((hSet || vSet) && !b.plValid)

/-- A time is absent or more than a number of seconds before a report's time of validity (R317). -/
def tooOld (t : Option Time) (tov limit : Nat) : Bool := match t with
  | none => true
  | some t => decide (t + limit * second < tov)

/-- The SSR sources that are enabled are all too old (R317). -/
def State.ssrOld (s : State) (tov : Time) : Bool :=
  (!bit s.nav.corrEn 1 || tooOld s.nav.ssrTime tov 120) && (!bit s.nav.corrEn 2 || tooOld s.nav.hasTime tov 120)

/-- corr_stale (R312, R317). -/
def State.corrStale (s : State) (tov : Time) : Bool :=
  (bit s.nav.corrEn 0 && tooOld s.nav.rtkTime tov 30) ||
    ((bit s.nav.corrEn 1 || bit s.nav.corrEn 2) && s.ssrOld tov)

/-! ### Fix types (R311, R316, R327) -/

/-- RTK corrections are applied: enabled, not too old, and usable (R316, R317). -/
def State.usesRtk (s : State) (v : NavSolution) (tov : Time) : Bool :=
  v.rtk && bit s.nav.corrEn 0 && !tooOld s.nav.rtkTime tov 30

/-- SSR corrections can be applied. -/
def State.usesSsr (s : State) (v : NavSolution) (tov : Time) : Bool := v.ssr && !s.ssrOld tov

/-- Since when h_unc has stayed at or below 100 mm, at a report (R311). -/
def State.fineFrom (s : State) (v : NavSolution) (tov : Time) : Option Time := match v.hUnc with
  | some h => if v.bands != 0 && decide (h ≤ 100) then some (s.nav.fineSince.getD tov) else none
  | none => none

/-- h_unc has stayed at or below 100 mm for 30 s (R311). -/
def State.converged (s : State) (v : NavSolution) (tov : Time) : Bool := match s.fineFrom v tov with
  | some t => decide (t + 30 * second ≤ tov)
  | none => false

/-- The fix type of a computed report: RTK first, then SSR, then SBAS, and otherwise standalone (R311, R316); RTK restarts at
float and SSR at converging (R317, R327). -/
def State.fixType (s : State) (v : NavSolution) (tov : Time) : Nat :=
  if v.bands == 0 then 0
  else if s.usesRtk v tov then if v.fixed && !s.nav.rtkStart then 7 else 6
  else if s.usesSsr v tov then if s.converged v tov then 5 else 4
  else if v.sbas && bit s.nav.corrEn 3 then 3
  else v.bands.val

/-- What the next report's fix type rests on: the time of fine fixes, and whether RTK restarts. -/
def State.trackFix (s : State) (v : NavSolution) (tov : Time) : State :=
  let fine := s.fineFrom v tov
  let start := v.bands == 0 || (s.nav.rtkStart && !s.usesRtk v tov)
  s.modNav fun n => { n with fineSince := fine, rtkStart := start }

/-- The osnma field (R322). -/
def State.osnmaState (s : State) (v : NavSolution) (tov : Time) : Nat :=
  if !s.nav.osnmaEn || s.sec.osnma.isNone || !v.galileo then 0
  else if !tooOld s.nav.osnmaBad tov 10 then 3
  else if v.galAuth then 2
  else 1

/-- The flags of a report (R312). -/
def State.reportFlags (s : State) (v : NavSolution) (b : ReportBody) : Nat :=
  b2n (s.nav.detMask != 0) + 2 * s.osnmaState v b.tov + 8 * b2n (s.get TIME_STATUS.source == 2) +
    16 * b2n (s.is SEC_SEAL_STATUS.broken) + 32 * b2n s.nav.discont + 64 * b2n (s.integrityAlert b) +
    128 * b2n b.plValid + 256 * b2n (v.overload || s.is FE_AGC_STATUS.overload) +
    512 * b2n (s.is STW_STATUS.single_pair) + 1024 * b2n (b.fixType == 9) + 2048 * b2n (s.is TIME_STATUS.degraded) +
    4096 * b2n (s.lifecycle == 3 || s.debugOpen) + 8192 * b2n (s.corrStale b.tov) + 65536 * (s.nav.detMask % 256)

/-- Bytes 0 to 79 of a report (R309). -/
def reportHead (b : ReportBody) (seq flags : Nat) : List Byte :=
  timeBytes b.tov ++ le 4 seq ++ le 8 (unsigned 64 b.lat) ++ le 8 (unsigned 64 (lonField b.lon)) ++
    le 4 (unsigned 32 b.height) ++ le 4 (unsigned 32 b.velN) ++ le 4 (unsigned 32 b.velE) ++ le 4 (unsigned 32 b.velD) ++
    le 4 (mmField b.hUnc) ++ le 4 (mmField b.vUnc) ++
    le 4 (if b.plValid then mmField b.hpl else 0xFFFFFFFF) ++ le 4 (if b.plValid then mmField b.vpl else 0xFFFFFFFF) ++
    le 1 b.fixType ++ le 1 b.svUsed ++ le 1 b.sigUsed ++ le 1 1 ++ le 2 b.sysMask ++ le 2 b.bandMask ++ le 4 flags

/-- A report with its signature over bytes 0 to 79 and 144 to 147, and its CRC-32C (R315). -/
def signReport (head : List Byte) : List Byte :=
  let key := le 4 Config.positionKeyId.toNat
  let sig := Config.positionSign (Config.sha256 (head ++ key))
  let body := head ++ be 32 sig.1.toNat ++ be 32 sig.2.toNat ++ key
  body ++ le 4 (crc32c body)

/-- The device holds a position key and may use it: reports are signed from PROVISIONED on, and not in RETIRED (R315,
R516). -/
def State.reportsMade (s : State) : Bool := s.lifecycle != 0 && s.lifecycle != 4

/-- The class-B ring has no room for an event. -/
def State.fullForB (s : State) (e : Event) : Bool :=
  let r := vget {} s.host.rsps 2
  s.ringsOpen && (!r.held.isEmpty || (s.produce .B ⟨true, false, r.evSeq, e.code, 0, 0, e.data⟩).isNone)

/-- A report is numbered, signed and sent, or dropped and counted (R307, R314). -/
def State.sendReport (s : State) (v : NavSolution) (b : ReportBody) : State :=
  let seq := s.nav.seq
  let s := if seq % 65536 == 0 then s.modNav fun n => { n with seqNv := (seq + 65536) % 2 ^ 32 } else s
  let e := evPosReport (signReport (reportHead b seq (s.reportFlags v b)))
  let s := s.when (s.fullForB e) (·.tally 0 1)
  (s.emit e).modNav fun n => { n with seq := (seq + 1) % 2 ^ 32, discont := false }

/-- The body of a computed report of a fix type, by the phase of R327. -/
def State.solutionBody (s : State) (v : NavSolution) (tov : Time) (fixType : Nat) : ReportBody :=
  if fixType == 0 then
    let p := s.nav.lastFix.getD (0, 0, 0)
    { tov := tov, lat := p.1, lon := p.2.1, height := p.2.2, velN := 0, velE := 0, velD := 0, hUnc := none, vUnc := none
      hpl := none, vpl := none, fixType := 0, svUsed := v.svUsed.toNat, sigUsed := v.sigUsed.toNat
      sysMask := v.sysMask.toNat, bandMask := v.bandMask.toNat }
  else
    { tov := tov, lat := v.lat, lon := v.lon, height := v.height, velN := v.velN, velE := v.velE, velD := v.velD
      hUnc := v.hUnc, vUnc := v.vUnc, hpl := v.hpl, vpl := v.vpl, fixType := fixType, svUsed := v.svUsed.toNat
      sigUsed := v.sigUsed.toNat, sysMask := v.sysMask.toNat, bandMask := v.bandMask.toNat }

/-- The body of a report while a declaration holds (R326). -/
def declaredBody (d : Declared) (b : ReportBody) : ReportBody :=
  { b with lat := d.lat, lon := d.lon, height := d.height, hUnc := some d.hUnc, vUnc := some d.vUnc, fixType := 9 }

/-! ### Detectors (R324) -/

/-- The gain code and the C/N0 of the signals that are tracked, at a report. -/
def State.powerNow (s : State) (tov : Time) : PowerSample :=
  let l := s.shf.locks.filter fun p => decide (2 ≤ p.2.lock) && decide (p.2.lock ≤ 4) && s.chanState p.1 == 2
  ⟨tov, s.get FE_GAIN.code, (l.map fun p => p.2.cn0).sum, l.length⟩

/-- Between two reports the gain code fell by at least 12 codes while the mean C/N0 rose by at least 3 dB. -/
def PowerSample.suspect (old new : PowerSample) : Bool :=
  decide (new.gain + 12 ≤ old.gain) && old.count != 0 && new.count != 0 &&
    decide (old.sum * new.count + 300 * old.count * new.count ≤ new.sum * old.count)

/-- The reports of the last 10 s that POWER looks back on. -/
def State.powerPast (s : State) (tov : Time) : List PowerSample := s.nav.power.filter fun p => decide (tov ≤ p.time + 10 * second)

/-- The detectors whose condition holds at an epoch, with OSNMA's (R323, R324). -/
def State.detectors (s : State) (v : NavSolution) (tov : Time) : Nat :=
  let d := v.detected
  let apart (n : Nat) (p : Nat × Nat) : Bool := decide (n * p.2 < p.1)
  b2n ((s.powerPast tov).any fun p => p.suspect (s.powerNow tov)) + 2 * b2n (decide (3 ≤ d.shape)) +
    4 * b2n (d.motion.any (apart 5)) + 8 * b2n (v.galFailed && s.nav.osnmaEn) + 16 * b2n (d.bands.any (fun x => decide (30000 < x))) +
    32 * b2n d.peak + 64 * b2n (s.is NET_STATUS.qualified && d.time.any (apart 10)) +
    128 * b2n (d.orbit.any (fun x => decide (1000000 < x)))

/-- The detectors at an epoch: a bit is set while its condition holds, and stays (R325); a rise of the mask from zero is
reported (R325, R348). -/
def State.detect (s : State) (v : NavSolution) (tov : Time) : State :=
  let bad := v.galFailed && s.nav.osnmaEn
  let holds := s.detectors v tov
  let old := s.nav.detMask
  let power := s.powerPast tov ++ [s.powerNow tov]
  let s := s.modNav fun n => { n with
    power := power
    detMask := n.detMask ||| holds
    detLast := Vector.ofFn fun i => if bit holds i then tov else n.detLast[i]
    osnmaBad := if bad then some tov else n.osnmaBad }
  s.when (old == 0 && s.nav.detMask != 0) fun s => (s.emit (evSpoofSuspect s.nav.detMask tov)).spoofStart

/-- The comparison of a declared position with the computed one (R326). Without a computed position there is none. -/
def State.compareDeclared (s : State) (v : NavSolution) (tov : Time) : State := match s.nav.declared, v.hUnc with
  | some d, some h =>
    if v.bands != 0 && decide (3 * (d.hUnc + h) < v.apart) then
      let since := d.apart.getD tov
      if since + 10 * second ≤ tov then (s.modNav fun n => { n with declared := none }).emit (evDeclaredRejected v.apart)
      else s.modNav fun n => { n with declared := some { d with apart := some since } }
    else s.modNav fun n => { n with declared := some { d with apart := none } }
  | some d, none => s.modNav fun n => { n with declared := some { d with apart := none } }
  | none, _ => s

/-- Satellites excluded at the epoch are counted and reported (R318). -/
def State.exclusions (s : State) (v : NavSolution) : State :=
  s.each v.excluded fun s x => (s.tally 13 1).emit (evSatExcluded x.1 x.2.1 x.2.2)

/-- Broadcast data decoded are held, the newest of each satellite and kind (R304, R340). -/
def State.hold (s : State) (l : List Decoded) : State := s.each l fun s d => s.modNav fun n => { n with
  orbit := n.orbit || d.kind != 2
  data := n.data.filter (fun x => !(x.system == d.system && x.sat == d.sat && x.kind == d.kind)) ++
    [⟨d.system, d.sat, d.kind, s.ltu.now, d.nbits, d.bits⟩] }

/-- What the engine decoded since the last epoch is held, with the age of E6-B's corrections (R316, R317). -/
def State.decoded (s : State) (v : NavSolution) : State :=
  (s.hold v.decoded).when v.e6b fun s => s.modNav fun n => { n with hasTime := some s.ltu.now }

/-- A report with a time of validity is formed, signed and sent. -/
def State.report (s : State) (v : NavSolution) (tov : Time) : State :=
  let s := ((s.exclusions v).detect v tov).compareDeclared v tov
  let fix := s.fixType v tov
  let b := s.solutionBody v tov fix
  let b := match s.nav.declared with
    | some d => declaredBody d b
    | none => b
  ((s.trackFix v tov).sendReport v b).modNav fun n => { n with
    lastTov := some tov
    lastFix := if fix == 0 then n.lastFix else some (v.lat, v.lon, v.height) }

/-- REPORT_EPOCH (R306 to R308): at the next grid instant at which a report is due, to which the clock is brought. -/
def execReportEpoch (solution : NavSolution) (s : State) : Result := whileLive s fun s =>
  if decide (s.mode < 5) || s.frozen then .next s
  else if s.nav.period == 0 || !s.reportsMade then .next (s.decoded solution)
  else
    let tov := s.nextReport
    .next (((s.advanceTo tov).decoded solution).report solution tov)

/-- DETECTOR_EXPIRY (R325): 10 s after the condition last held, to which the clock is brought, the bit clears. -/
def execDetectorExpiry (detector : Fin 8) (s : State) : Result := whileLive s fun s =>
  if !bit s.nav.detMask detector then .next s
  else
    let s := (s.advanceTo ((vget 0 s.nav.detLast detector) + 10 * second)).modNav fun n => { n with
      detMask := n.detMask - 2 ^ detector.val }
    .next (s.when (s.nav.detMask == 0) fun s => s.modNav fun n => { n with clearAt := s.ltu.now })

/-! ### RTCM frames -/

/-- CRC-24Q of bytes (R317), with the generator of RTCM 10403.3. -/
def crc24q (l : List Byte) : Nat := crcF 24 0x864CFB 0 l

/-- What a message of RTCM frames holds (R317): its frames as type and payload, or why it is rejected. -/
inductive Rtcm where
  | frames (l : List (Nat × List Byte))
  | short
  | badCrc
  deriving DecidableEq, Repr

/-- The message type of a frame's payload: its first 12 bits. -/
def rtcmType (p : List Byte) : Nat := byteAt p 0 * 16 + byteAt p 1 / 16

/-- The frames of a message: preamble 0xD3, six zero bits, a length of 10 bits, the payload and the CRC. A failed CRC
rejects the whole message; at most n frames. -/
def rtcmFrames : Nat → List Byte → Rtcm
  | _, [] => .frames []
  | 0, _ => .short
  | n + 1, l =>
    if l.length < 6 then .short
    else if byteAt l 0 != 0xD3 then .badCrc
    else
      let len := byteAt l 1 % 4 * 256 + byteAt l 2
      if l.length < len + 6 then .short
      else
        let body := l.take (len + 3)
        let crc := byteAt l (len + 3) * 65536 + byteAt l (len + 4) * 256 + byteAt l (len + 5)
        match rtcmFrames n (l.drop (len + 6)) with
        | .frames fs => if crc24q body == crc then .frames ((rtcmType (body.drop 3), body.drop 3) :: fs) else .badCrc
        | .short => if crc24q body == crc then .short else .badCrc
        | .badCrc => .badCrc

/-- Message types of R316: RTK, with the MSM observation sets, and SSR. -/
def isMsm (t : Nat) : Bool :=
  (decide (1074 ≤ t) && decide (t ≤ 1077)) || (decide (1084 ≤ t) && decide (t ≤ 1087)) ||
    (decide (1094 ≤ t) && decide (t ≤ 1097)) || (decide (1114 ≤ t) && decide (t ≤ 1117)) ||
    (decide (1124 ≤ t) && decide (t ≤ 1127))
def isStation (t : Nat) : Bool := t == 1005 || t == 1006
def isRtk (t : Nat) : Bool := isMsm t || isStation t || t == 1033 || t == 1230
def isSsr (t : Nat) : Bool := (decide (1057 ≤ t) && decide (t ≤ 1068)) || (decide (1240 ≤ t) && decide (t ≤ 1263))
/-- An SSR message with orbits, clocks or both, by its place among the six messages of its system (R317). -/
def isOrbitClock (t : Nat) : Bool :=
  let i := if t < 1240 then (t - 1057) % 6 else (t - 1240) % 6
  isSsr t && (i == 0 || i == 1 || i == 3)
def isOrbit (t : Nat) : Bool := t == 1019 || t == 1020 || t == 1041 || t == 1042 || t == 1044 || t == 1045 || t == 1046

/-- A reference station's number and position, in a message 1005 or 1006 of RTCM 10403.3 (R317): PRESUMED, log entry 80. -/
def stationKey (p : List Byte) : Nat × Nat × Nat × Nat :=
  let v := fieldAt ((p.take 19).reverse) 0 19
  (v / 2 ^ 128 % 2 ^ 12, v / 2 ^ 80 % 2 ^ 38, v / 2 ^ 40 % 2 ^ 38, v % 2 ^ 38)

/-- A correction frame taken: the age of RTK counts from an MSM set and the age of SSR from orbits or clocks, dated at receipt;
the reference station is kept, and another one restarts the solution at float (R317). -/
def State.takeFrame (s : State) (f : Nat × List Byte) : State := s.modNav fun n => { n with
  rtkTime := if isMsm f.1 then some s.ltu.now else n.rtkTime
  ssrTime := if isOrbitClock f.1 then some s.ltu.now else n.ssrTime
  rtkStart := n.rtkStart || (isStation f.1 && n.station.any fun p => stationKey p != stationKey f.2)
  station := if isStation f.1 then some f.2 else n.station }

/-- A message of RTCM frames of accepted types (R317): frames of other types are ignored and counted. -/
def State.takeRtcm (s : State) (q : OpenReq) (p : List Byte) (good : Nat → Bool) (use : State → Nat × List Byte → State) :
    State := match rtcmFrames p.length p with
  | .short => s.answer q (ansLength 0)
  | .badCrc => (s.tally 9 1).answer q ansCheck
  | .frames fs =>
    let mine := fs.filter fun f => good f.1
    let s := s.tally 8 (fs.length - mine.length)
    (s.each mine use).answer q (ansOk (le 2 mine.length ++ le 2 0))

/-- CORRECTIONS (0x0208, R317). -/
def execCorrections (r : Req) (p : List Byte) (s : State) : Result :=
  .next (s.serve ⟨.B, 0x0208, 5⟩ r p [hasLength p 1] fun q s =>
    s.takeRtcm q p (fun t => isRtk t || isSsr t) State.takeFrame)

/-- NAV_AIDING (0x0207): orbit data are held. -/
def execNavAiding (r : Req) (p : List Byte) (s : State) : Result :=
  .next (s.serve ⟨.B, 0x0207, 5⟩ r p [hasLength p 1] fun q s =>
    s.takeRtcm q p isOrbit fun s _ => s.modNav fun n => { n with orbit := true })

end Sys2Proof.Machine
end

