-- ==== Sys2Proof/Machine/Sweeps.lean ====
section
/-! DEFINITION. Commands of the sheaves that come at an instant, to which they bring the clock: the end of a sweep (R203) and
the end of a lost channel (R237). -/

namespace Sys2Proof.Machine

/-- The block that a running channel sweeps next has left on the lane bus, by which the clock is brought: a new sample origin on
the way has the channel sweep a block of the new one. -/
def State.toBlock (c : Nat) : Nat → State → State
  | 0, s => s
  | n + 1, s =>
    let l := s.get (SHF_CH_CFG.lane c)
    if s.blockReady c || s.chanState c != 2 || !s.is (LANE_STATUS.running l) then s else toBlock c n (s.toLeft l (s.blockEnd c - 1))

/-- SWEEP_END (R203): a sweep of a channel over one block ends; the sheaf makes the sweeps that come before it in its order first.
The sweeps of a pair's odd slot follow those of its even slot and use the even slot's NCOs, so they end with them (R214). -/
def execSweepEnd (channel : Fin 512) (s : State) : Result := whileLive s fun s =>
  let c := channel.val
  if s.chanState c != 2 || s.pairOdd c || !s.sheavesRun then .next s
  else
    let s := State.toBlock c 4 s
    .next (if s.blockReady c && s.sheavesRun then State.sweepTo c (s.sweepsDue (c / 8)) s else s)

/-- LOST_TIMEOUT (R237): a channel that has been in LOST for 1 s, to which instant the clock is brought, ends, and its loss is
reported. -/
def execLostTimeout (channel : Fin 512) (s : State) : Result := whileLive s fun s =>
  let c := channel.val
  let lost (s : State) : Bool := s.chanState c == 2 && (s.lockOf c).lock == 5
  if lost s then
    let s := s.advanceTo ((s.lockOf c).since + second)
    .next (if lost s then (s.chanStop c).emit (evChannel 3 (s.get (SHF_CH_CODE.signal c)) (s.get (SHF_CH_CODE.sat c)) c) else s)
  else .next s

end Sys2Proof.Machine
end

