-- ==== Sys2Proof/Machine/Rounds.lean ====
section
/-! DEFINITION. The rounds of the thresher: what a block computes from live lane words or a snapshot's samples (R167, R169 to
R175, R184, R185, R197), the starts of rounds (R182), and the peak search with its result records (R193 to R196). -/

namespace Sys2Proof.Machine

/-! ### Signals (R173) -/

/-- Signals searched with a BOC(1,1) replica. -/
def sigBoc (c : Nat) : Bool := c == 0x02 || c == 0x05 || c == 0x0A || c == 0x11

/-- The carrier frequency of a signal in Hz, with a GLONASS satellite's channel plus 7 (R165, R173). -/
def sigCarrier (c sat : Nat) : Nat :=
  if c == 0x0E then 1598062500 + sat * 562500
  else if c == 0x0F then 1242937500 + sat * 437500
  else if c == 0x03 || c == 0x12 then 1227600000
  else if c == 0x04 || c == 0x06 || c == 0x0B || c == 0x13 || c == 0x15 || c == 0x17 then 1176450000
  else if c == 0x07 || c == 0x0C then 1207140000
  else if c == 0x08 || c == 0x14 then 1278750000
  else if c == 0x09 then 1561098000
  else if c == 0x0D then 1268520000
  else 1575420000

/-- The cells of one code period. -/
def sigCells (c : Nat) : Nat := sigN c * sigPeriod c

/-! ### The input of a job -/

/-- A word of a job's input: its local time, I and Q, and its tags (R174, R197). -/
structure JobWord where
  time : Int
  i    : Int
  q    : Int
  tags : Nat
  deriving DecidableEq, Repr

/-- A lane word as input. -/
def LaneWord.asInput (w : LaneWord) : JobWord := ⟨w.time, wordI w.bits, wordQ w.bits, wordTags w.bits⟩

/-- The value of a sample's two-bit component: its sign and magnitude bits (R332). -/
def twoBit (v : Nat) : Int := if v == 0 then 1 else if v == 1 then 3 else if v == 2 then -1 else -3

/-- I and Q of a sample of a snapshot's word (R333). -/
def sampleOf (quant word j : Nat) : Int × Int :=
  if quant == 1 then (signed 4 (bits word (8 * j + 4) 4), signed 4 (bits word (8 * j) 4))
  else (twoBit (bits word (4 * j + 2) 2), twoBit (bits word (4 * j) 2))

/-- The tags of sample n of a lane in a snapshot, by its tag list of two words an entry (R334). -/
def tagsOf (pos n : Nat) : List (Nat × Bool) → Nat
  | a :: b :: rest =>
    let first := bits a.1 0 23
    if bits a.1 23 4 == pos && decide (first ≤ n) && decide (n < first + bits b.1 0 23) then bits a.1 27 3 else tagsOf pos n rest
  | _ => 0

/-- The samples of a lane of a snapshot from sample n on, by the words that hold them from the one with sample n on; a sample lies
D / 3.6 GHz after the one before (R197). -/
def snapSamples (quant pos : Nat) (tags : List (Nat × Bool)) (t0 : Int) (d : Nat) (words : List (Nat × Bool)) : Nat → Nat → List JobWord
  | _, 0 => []
  | n, m + 1 =>
    let per := if quant == 1 then 5 else 10
    let v := sampleOf quant ((words.headD (0, false)).1) (n % per)
    ⟨t0 + (n * d * (10 * 2 ^ 32) / 36 : Nat), v.1, v.2, tagsOf pos n tags⟩ ::
      snapSamples quant pos tags t0 d (if (n + 1) % per == 0 then words.drop 1 else words) (n + 1) m

/-- The samples of a job's lane in a snapshot dated within an interval, which the thresher reads with the tag list (R197). -/
def State.snapInput (s : State) (p : ThrPass) (lane : Nat) (from_ till : Int) : List JobWord × State :=
  let e := 64 + 20 * lane
  let quant := fieldAt p.head 6 2 % 2
  let per := if quant == 1 then 5 else 10
  let d := max 1 (fieldAt p.head (e + 2) 2)
  let count := fieldAt p.head (e + 16) 4
  let t0 : Int := (mkTime (fieldAt p.head 16 8) (fieldAt p.head 24 4) (fieldAt p.head 28 4) + fieldAt p.head (e + 8) 4 * 65536 : Nat)
  -- the first sample at or after an instant
  let at' := fun (t : Int) => min count (-(-((t - t0) * 36) / (d * (10 * 2 ^ 32) : Nat))).toNat
  let n := at' from_
  let m := at' till - n
  let tags := s.granReads 0x08 (p.header + 80) (2 * fieldAt p.head 36 2)
  let words := tags.2.granReads 0x08 (p.header + fieldAt p.head (e + 12) 4 + n / per) (if m == 0 then 0 else (n + m - 1) / per - n / per + 1)
  (snapSamples quant lane tags.1 t0 d words.1 n m, words.2)

/-- The input of a job in the block that its round is at, with the reach into the next (R169, R171, R175). -/
def State.jobInput (s : State) (p : ThrPass) (j : ThrJob) : List JobWord × State :=
  let from_ : Int := (p.tR + p.block * (1000000 * nanosecond) : Nat)
  let till : Int := (j.blockEnd p.tR p.block : Nat)
  if p.offline then s.snapInput p j.lane from_ till
  else (((s.wordsSince j.lane from_).filter fun w => decide (w.time < till)).map LaneWord.asInput, s)

/-- LANE_NCO_FREQ.inc of a job's lane, or of its entry in the header (R172, R337). -/
def State.jobInc (s : State) (p : ThrPass) (j : ThrJob) : Nat :=
  if p.offline then fieldAt p.head (64 + 20 * j.lane + 4) 4 else s.get (LANE_NCO_FREQ.inc j.lane)

/-! ### Job samples (R174) -/

/-- The Doppler hypothesis f_b of a bin in 1/64 Hz (R172). -/
def ThrJob.bin (j : ThrJob) (b : Nat) : Int := j.centre + ((b : Int) - (j.n : Nat)) * (if j.step == 1 then 16000 else 32000)

/-- The frequency f_carrier + f_b − f_lane by which a bin's words are mixed, in 2^-32 Hz (R172). -/
def ThrJob.mixFreq (j : ThrJob) (inc b : Nat) : Int :=
  ((sigCarrier j.signal j.sat : Nat) : Int) * 2 ^ 32 + j.bin b * 2 ^ 26 - (inc * 3600000000 : Nat)

/-- A word mixed by a frequency since T_r, in 2^-60 of a lane code; one tagged blank as zero (R174, R175). -/
def mixWord (freq tR : Int) (w : JobWord) : Int × Int :=
  if bit w.tags 1 then (0, 0)
  else
    let turn := (freq * (w.time - tR) / (second : Nat) % 2 ^ 32).toNat
    let c := cosTurn turn (2 ^ 32)
    let d := sinTurn turn (2 ^ 32)
    (w.i * c + w.q * d, w.q * c - w.i * d)

/-- The words of n job sample intervals from a time on, each with those dated within it (R174). -/
def intervalsOf (words : List JobWord) (per : Nat) : Nat → Int → List (List JobWord)
  | 0, _ => []
  | n + 1, t => (words.filter fun w => decide (t ≤ w.time) && decide (w.time < t + per)) :: intervalsOf words per n (t + per)

/-- The mean of mixed words. -/
def meanMixed (freq tR : Int) (l : List JobWord) : Int × Int :=
  let v := l.map (mixWord freq tR)
  ((v.foldl (fun a x => a + x.1) 0) / (max 1 l.length : Nat), (v.foldl (fun a x => a + x.2) 0) / (max 1 l.length : Nat))

/-- The rms of a component over samples. -/
def rmsOf (l : List Int) : Nat := Nat.sqrt (l.foldl (fun a v => a + mag v ^ 2) 0 / max 1 l.length)

/-- The quantiser's step for samples (R174): the rms of each component lies between 2 and 4 steps, and where is open (log entry
71). -/
def stepFor (seed : Nat) (l : List (Int × Int)) : Nat :=
  let i := rmsOf (l.map Prod.fst)
  let q := rmsOf (l.map Prod.snd)
  max 1 (clampNat ((max i q + 3) / 4) (min i q / 2) (Config.quantStep seed))

/-- A component in the quantiser's four bits (R174). -/
def quantise (step : Nat) (v : Int) : Int :=
  clampInt (-8) 7 (v / (step : Nat) + b2n (Config.quantUp (v % (step : Nat)).toNat step))

/-! ### Correlation (R167, R170 to R172) -/

/-- The code start of a job in 1/256 cell. -/
def ThrJob.start (j : ThrJob) : Nat := 256 * j.startCell + j.startFrac

/-- The replica of a bin at job sample n of the round, for cell i of the window: a signal of that code phase at T_r, whose chip
rate is scaled by 1 + f_b / f_carrier (R172, R173). -/
def ThrJob.replica (j : ThrJob) (b i n : Nat) : Int :=
  let fc := 64 * sigCarrier j.signal j.sat
  let num := ((j.start + 256 * i) * fc + 256 * n * ((fc : Int) + j.bin b).toNat) * sigChips j.signal
  let den := 256 * max 1 (sigN j.signal) * fc
  let sub : Int := if sigBoc j.signal && 2 * num / den % 2 == 1 then -1 else 1
  clampInt (-1) 1 (Config.searchChip j.signal j.sat (num / den % (sigChips j.signal * sigPeriod j.signal))) * sub

/-- The job samples by which a cell's replica is shifted within the block: none in circular mode, and in linear mode the lag of
its cell in its group, the last cell of a group at lag 0 (R171; log entry 71). -/
def ThrJob.lag (j : ThrJob) (i : Nat) : Nat := if j.mode == 0 then 0 else j.w - 1 - i % j.w

/-- C of a cell: the sum over N samples of the block from the cell's lag on, each by the replica (R167, R170, R171, R184). -/
def ThrJob.correlate (j : ThrJob) (block b i : Nat) (x : List (Int × Int)) : Int × Int :=
  let nn := sigN j.signal
  let first := block * nn + j.lag i
  ((x.drop (j.lag i)).take nn).zipIdx.foldl (fun a v =>
    let r := j.replica b i (first + v.2)
    (a.1 + v.1.1 * r, a.2 + v.1.2 * r)) (0, 0)

/-- The quantised job samples of a bin. -/
def ThrJob.samples (j : ThrJob) (step : Nat) (tR : Int) (inc b : Nat) (parts : List (List JobWord)) : List (Int × Int) :=
  (parts.map (meanMixed (j.mixFreq inc b) tR)).map fun v => (quantise step v.1, quantise step v.2)

/-- |C|² of every cell of a job, bin by bin (R167, R186). -/
def ThrJob.powers (j : ThrJob) (block step : Nat) (tR : Int) (inc : Nat) (parts : List (List JobWord)) : List Nat :=
  ((List.range (2 * j.n + 1)).map fun b =>
    let x := j.samples step tR inc b parts
    (List.range j.cells).map fun i => cPow (j.correlate block b i x)).flatten

/-! ### Blocks -/

/-- The block of a job is discarded (R175). -/
def blockDiscarded (blankMax : Nat) (parts : List (List JobWord)) : Bool :=
  let words := parts.flatten
  parts.any List.isEmpty || words.any (fun w => bit w.tags 0) ||
    decide (blankMax * words.length < 16 * (words.filter fun w => bit w.tags 1).length)

/-- A used block of a job, by its sample intervals (R174, R184, R185, R187): the first one sets the quantiser's step and p. The
noise estimate takes the samples of the centre bin. -/
def State.usedBlock (s : State) (p : ThrPass) (j : ThrJob) (parts : List (List JobWord)) : ThrJob × State :=
  let inc := s.jobInc p j
  let nn := sigN j.signal
  let raw := (parts.take nn).map (meanMixed (j.mixFreq inc j.n) p.tR)
  let step := if j.used == 0 then stepFor s.free raw else j.quant
  let energy := ((j.samples step p.tR inc j.n (parts.take nn)).map cPow).foldl (· + ·) 0
  let ps := if j.used == 0 then pshiftOf energy else j.pshift
  let vals := (j.powers p.block step p.tR inc parts).map (· / 2 ^ ps)
  let a := s.nextFree.addCells (p.group p.round) (j.used == 0) j.base (vals.map sat24)
  ({ j with used := j.used + 1, quant := step, pshift := ps, energy := j.energy + energy
            overload := j.overload || parts.flatten.any (fun w => bit w.tags 2)
            satSeen := j.satSeen || vals.any (fun v => decide (0xFFFFFF ≤ v)), sumError := j.sumError || a.1 },
    a.2.when a.1 (·.flag THR_EVENT.sum_error))

/-- One block of one job (R175, R176, R184, R185). -/
def State.jobBlock (s : State) (p : ThrPass) (j : ThrJob) : ThrJob × State :=
  let x := s.jobInput p j
  let parts := intervalsOf x.1 (cellTime j.signal) (sigN j.signal + j.reach) (p.tR + p.block * (1000000 * nanosecond) : Nat)
  let r : ThrJob × State :=
    if blockDiscarded p.blankMax parts then
      ({ j with discarded := min (j.discarded + 1) 2047 }, (x.2.bump THR_COUNT.discards).flag THR_EVENT.discard)
    else x.2.usedBlock p j parts
  if r.1.used == p.k then ({ r.1 with ended := some .done }, r.2)
  else if p.block + 1 == 2 * p.k then r.2.endJob p r.1 .short
  else r

/-- Every running job of the round takes its block. -/
def State.roundBlocks (s : State) (p : ThrPass) : List ThrJob → List ThrJob × State
  | [] => ([], s)
  | j :: js =>
    let a := if j.round == p.round && j.ended.isNone then s.jobBlock p j else (j, s)
    let r := a.2.roundBlocks p js
    (a.1 :: r.1, r.2)

/-- The last word that the present block of a live round needs has left on the lane bus. -/
def State.blockDrain (s : State) (p : ThrPass) : State :=
  if p.offline then s
  else s.each (p.jobs.filter fun j => j.round == p.round && j.ended.isNone) fun s j =>
    let e := s.firstWord j.lane (j.blockEnd p.tR p.block : Nat)
    if s.is (LANE_STATUS.running j.lane) && s.locked && e != 0 then s.toLeft j.lane (e - 1) else s

/-- The pass whose round runs. -/
def State.roundRuns (s : State) : Option ThrPass := s.thr.running.bind fun p => if p.phase == .running then some p else none

/-- BLOCK_END (R169, R175, R176, R184): a block of the round ends, for every job of the round that has not ended; the clock is
brought to where the last word that it needs has left on the lane bus. -/
def execBlockEnd (s : State) : Result := whileLive s fun s => match s.roundRuns with
  | none => .next s
  | some p =>
    let s := s.blockDrain p
    match s.roundRuns with
    | none => .next s
    | some p =>
      if p.jobs.all fun j => j.round != p.round || j.ended.isSome then .next s
      else
        let r := s.roundBlocks p p.jobs
        .next (r.2.modThr fun t => { t with running := some { p with jobs := r.1, block := p.block + 1 } }).showJobs

/-! ### Round starts (R182) -/

/-- T_r of the round that waits, and the state at it: the start time in the snapshot's header, the firing of the trigger, or the
first marker at or after the time that R182 and R186 name. -/
def State.roundTime (s : State) (p : ThrPass) : Option (Time × State) :=
  if p.offline then some (mkTime (fieldAt p.head 16 8) (fieldAt p.head 24 4) (fieldAt p.head 28 4), s)
  else if p.startMode == 1 && p.round == 0 then p.fired.map fun t => (t, s)
  else some (s.markerFrom p.notBefore)

/-- ROUND_START (R182): the clock is brought to the round's marker. -/
def execRoundStart (s : State) : Result := whileLive s fun s => match s.thr.running with
  | none => .next s
  | some p =>
    if p.phase != .waitStart || !s.locked || !s.onFab then .next s
    else match s.roundTime p with
      | none => .next s
      | some (t, s) =>
        let s := (((s.put THR_T0_SEC_LO.sec_lo (tSec t)).put THR_T0_SEC_HI.sec_hi (tSec t / 2 ^ 32)).put THR_T0_NS.ns (tNs t)).put
          THR_T0_FRAC.frac (tFrac t)
        .next (s.modThr fun x => { x with running := x.running.map fun p => { p with phase := .running, tR := t, block := 0 } }).showThr.showJobs

/-! ### Peak search (R193 to R196) -/

/-- The ID under which the peak search reads a group: that of a DSP core that is a member, otherwise the thresher's (log entry
72). -/
def State.searchReader (s : State) (k : Nat) : Nat :=
  (firstThat (fun m => decide (0x10 ≤ m) && decide (m ≤ 0x1B))
    [s.get (GRP_MEMBERS.member0 k), s.get (GRP_MEMBERS.member1 k), s.get (GRP_MEMBERS.member2 k), s.get (GRP_MEMBERS.member3 k)]).getD 0x08

/-- The sums of a job's cells, read for the peak search; one with an error, or refused, as zero (log entry 72). -/
def State.readSums (s : State) (j : ThrJob) : List Nat × State :=
  let r := s.granReads (s.searchReader s.thr.group) (2 ^ 25 + s.thr.group * 2 ^ 21 + j.base) j.stored
  (r.1.map fun v => if v.2 then 0 else v.1, r.2)

/-- The largest value of a list at a place that satisfies a test, with its place: the first of equal ones (R194 steps 1, 2). -/
def bestCell (ok : Nat → Bool) : Nat → List Nat → Option (Nat × Nat)
  | _, [] => none
  | i, v :: vs => match bestCell ok (i + 1) vs with
    | none => if ok i then some (v, i) else none
    | some b => if ok i && decide (b.1 ≤ v) then some (v, i) else some b

/-- The exclusion zone's half-width in cells: 2 for BPSK codes, 3 for BOC replicas (R194). -/
def zoneCells (signal : Nat) : Nat := if sigBoc signal then 3 else 2

/-- The distance of two cells of a window around the code period (R188). -/
def cellDistance (signal a b : Nat) : Nat :=
  let d := if a ≤ b then b - a else a - b
  min d (sigCells signal - d)

/-- A cell outside the exclusion zone of the peak (R194). -/
def outsideZone (j : ThrJob) (peak i : Nat) : Bool :=
  let db := if peak / j.cells ≤ i / j.cells then i / j.cells - peak / j.cells else peak / j.cells - i / j.cells
  decide (1 < db) || decide (zoneCells j.signal < cellDistance j.signal (peak % j.cells) (i % j.cells))

/-- A number rounded down or, by a free choice, up, where the spec states no rounding (log entry 8). -/
def roundFree (seed : Nat) (num : Int) (den : Nat) : Int :=
  num / (max 1 den : Nat) + b2n (num % (max 1 den : Nat) != 0 && Config.roundUp seed)

/-- The vertex of the parabola through three sums at −1, 0 and 1, in 1/m of the spacing (R194 step 3). -/
def vertex (seed m a b c : Nat) : Int :=
  let den := 2 * (2 * b - a - c)
  roundFree seed (((c : Int) - a) * m) den

/-- The neighbours of a cell within its bin, which lie around the period where the window is the whole of it. -/
def ThrJob.beside (j : ThrJob) (i : Nat) : Option (Nat × Nat) :=
  if 0 < i && decide (i + 1 < j.cells) then some (i - 1, i + 1)
  else if j.cells == sigCells j.signal && decide (2 < j.cells) then some ((i + j.cells - 1) % j.cells, (i + 1) % j.cells)
  else none

/-- A sum's code phase in 1/256 cell from the start of the period, and whether it was interpolated (R194 step 3). -/
def ThrJob.peakCode (j : ThrJob) (seed : Nat) (sums : List Nat) (peak : Nat) : Nat × Bool :=
  let i := peak % j.cells
  let b := peak / j.cells * j.cells
  let off := match j.beside i with
    | some (x, y) => if sums.getD (b + x) 0 + sums.getD (b + y) 0 < 2 * sums.getD peak 0
        then some (vertex seed 256 (sums.getD (b + x) 0) (sums.getD peak 0) (sums.getD (b + y) 0)) else none
    | none => none
  ((((j.start + 256 * i : Nat) : Int) + off.getD 0) % (256 * max 1 (sigCells j.signal) : Nat) |>.toNat, off.isSome)

/-- A sum's Doppler in 1/64 Hz, and whether it was interpolated (R194 step 3). -/
def ThrJob.peakDoppler (j : ThrJob) (seed : Nat) (sums : List Nat) (peak : Nat) : Int × Bool :=
  let b := peak / j.cells
  let off := if 0 < b && decide (b < 2 * j.n) &&
      decide (sums.getD (peak - j.cells) 0 + sums.getD (peak + j.cells) 0 < 2 * sums.getD peak 0)
    then some (vertex seed (if j.step == 1 then 16000 else 32000) (sums.getD (peak - j.cells) 0) (sums.getD peak 0)
      (sums.getD (peak + j.cells) 0)) else none
  (j.bin b + off.getD 0, off.isSome)

/-- Partial sums of x^i / i! from 1 on, x given as a quotient, by m terms in 2^-256: of the first k terms, and of all. -/
def gammaSums (num den k : Nat) : Nat → Nat → Nat → Nat × Nat
  | 0, _, _ => (0, 0)
  | m + 1, i, term =>
    let r := gammaSums num den k m (i + 1) (term * num / (den * (i + 1)))
    (r.1 + (if i < k then term else 0), r.2 + term)

/-- The upper tail at x of the gamma distribution of shape k, e^−x times the sum of its first k terms, is at most p / q (R193). -/
def tailAtMost (num den k q : Nat) : Bool :=
  let r := gammaSums num den k (3 * (num / max 1 den) + k + 64) 0 (2 ^ 256)
  decide (r.1 * q ≤ r.2)

/-- A sum is at least γ × σ² (R193), given σ² in 1/256: the upper tail at S / σ² is at most P_cell = 10^−e / (c × (2n + 1)). -/
def ThrJob.detects (j : ThrJob) (pjob sum : Nat) : Bool :=
  if j.used == 0 || j.noise == 0 then true else tailAtMost (256 * sum) j.noise j.used (10 ^ pjob * (j.cells * (2 * j.n + 1)))

/-- The C/N0 estimate in 0.01 dB-Hz (R195), none where the logarithm is not of a number of at least 1. -/
def ThrJob.cn0 (j : ThrJob) (seed sum : Nat) : Option Nat :=
  let den := j.used * j.noise
  let num := 1000 * (256 * sum - den)
  if den == 0 || decide (num < den) then none
  else some (centiBels num den 65534 + b2n (Config.roundUp seed))

/-- The outcome of a job (R194 step 4). -/
def ThrJob.outcome (j : ThrJob) (pjob s1 s2 : Nat) : Nat :=
  if j.ended == some .laneLost then 4
  else if j.ended == some .aborted then 5
  else if j.sumError then 6
  else if !j.detects pjob s1 then 0
  else if 8 * s1 ≤ 10 * s2 then 2
  else if j.ended == some .short then 3
  else 1

/-- The 48 bytes of a result record (R196). -/
def ThrResult.bytes (x : ThrResult) : List Byte :=
  le 1 x.slot ++ le 1 x.signal ++ le 1 x.sat ++ le 1 x.outcome ++ le 4 x.codePhase ++ le 4 (unsigned 32 x.doppler) ++
    le 4 x.peakRatio ++ le 2 x.second ++ le 2 x.cn0 ++ timeBytes x.tR ++ le 2 x.used ++ le 2 x.discarded ++ le 4 x.noise ++
    le 1 x.pshift ++ le 1 x.flags ++ le 2 x.round

/-- The result record of a job (R193 to R196), whose sums are read. A ratio that the record cannot hold, or has no divisor, and
a logarithm without a value are free values. -/
def State.searchJob (s : State) (j : ThrJob) : ThrResult × State :=
  let free := fun k => Config.freeValue (s.free + k)
  let r := s.readSums j
  let s1 := (bestCell (fun _ => true) 0 r.1).getD (0, 0)
  let s2 := (bestCell (outsideZone j s1.2) 0 r.1).getD (0, 0)
  let code := j.peakCode s.free r.1 s1.2
  let dop := j.peakDoppler (s.free + 1) r.1 s1.2
  let outcome := j.outcome s.thr.pjob s1.1 s2.1
  ({ slot := j.slot, signal := j.signal, sat := j.sat, outcome := outcome, codePhase := code.1, doppler := dop.1
     peakRatio := if j.noise == 0 || decide (2 ^ 32 ≤ s1.1 * 65536 / j.noise) then free 0 % 2 ^ 32 else s1.1 * 65536 / j.noise
     second := if s1.1 ≤ s2.1 then free 1 % 65536 else s2.1 * 65536 / s1.1
     cn0 := if outcome == 1 || outcome == 3 then (j.cn0 (s.free + 2) s1.1).getD (free 2 % 65536) else 0
     tR := s.thr.tR, used := j.used, discarded := j.discarded, noise := j.noise, pshift := j.pshift
     flags := b2n j.overload + 2 * b2n j.satSeen + 4 * b2n dop.2 + 8 * b2n code.2, round := j.round }, r.2.nextFree.nextFree.nextFree)

/-- The result records of the round done last are written, one for each job (R196). -/
def State.searchRound (s : State) : List ThrJob → State
  | [] => s
  | j :: js =>
    let r := s.searchJob j
    (r.2.modThr fun t => { t with results := t.results ++ [r.1.bytes] }).searchRound js

end Sys2Proof.Machine
end

