-- ==== Sys2Proof/Machine/Windows.lean ====
section
/-! DEFINITION. The windows that the firmware derives from its aiding for a search (R188 to R192). Quantities of the navigation
engine that the spec does not give as numbers are free values of Config (log entry 15). -/

namespace Sys2Proof.Machine

/-- The speed of light in m/s. -/
def lightSpeed : Nat := 299792458

/-- A job of a search before it is written into the job table: its code start in 1/256 cell, cells, centre in 1/64 Hz and n, and
w_sel in linear mode. -/
structure PlanJob where
  signal : Nat
  sat    : Nat
  start  : Nat
  cells  : Nat
  centre : Int
  n      : Nat
  wSel   : Option Nat
  deriving DecidableEq, Repr

/-- The orbit data in force for a satellite: 0 none, 1 an ephemeris within its validity, 2 an almanac or an ephemeris up to 4 h
beyond it (R190, R191). -/
def State.orbitData (s : State) (signal sat : Nat) : Nat := if s.nav.orbit then Config.orbitData signal sat s.free % 3 else 0

/-- ε_o in mm and ε_o′ in mm/s, 900 m/s without orbit data (R190, R191). -/
def orbitError (orbit : Nat) : Nat := if orbit == 1 then 10000 else 5000000
def orbitRate (orbit : Nat) : Nat := if orbit == 0 then 900000 else if orbit == 1 then 10 else 2000

/-- ε_p in mm and ε_v in mm/s: of the aiding that the host gave, otherwise of the engine's own position. -/
def State.posUnc (s : State) : Nat := match s.nav.aiding with
  | some p => fieldAt p 20 4
  | none => Config.posUnc s.free
def State.velUnc (s : State) : Nat := match s.nav.aiding with
  | some p => fieldAt p 24 4
  | none => Config.velUnc s.free

/-- ε_d in ppb: with drift aiding its own, otherwise the declared tolerance of REFCLK, or 50 ppm (R190). -/
def State.driftUnc (s : State) : Nat := (Config.driftUnc s.free).getD (if s.nav.refTol == 0 then 50000 else s.nav.refTol)

/-- The half-width of the code window in cells, ceil(H_c / Δc), from ε_t in ns, ε_p and ε_o in mm (R188). -/
def codeHalf (signal epsT epsP epsO : Nat) : Nat :=
  ceilDiv ((epsT * lightSpeed + (epsP + epsO) * 1000000) * sigN signal) (1000000 * lightSpeed)

/-- The code window of a search: its start in 1/256 cell and its cells; the whole period where it reaches that, or without orbit
data or a time (R188, R190). -/
def State.codeWindow (s : State) (signal sat : Nat) : Nat × Nat :=
  let orbit := s.orbitData signal sat
  let all := sigCells signal
  let period := sigPeriod signal * (1000000 * nanosecond)
  let at' := (roundFree s.free (Config.signalTime signal sat s.free % period * 256 * all : Nat) period).toNat
  let h := codeHalf signal s.uncNow s.posUnc (orbitError orbit)
  if orbit == 0 || s.uncNow == 0xFFFFFFFF || decide (all ≤ 2 * h + 1) then (0, all)
  else ((at' + 256 * all - 256 * h) % (256 * all), 2 * h + 1)

/-- The predicted Doppler f̂ in 1/64 Hz (R189, R190). -/
def State.searchCentre (s : State) (signal sat : Nat) : Int :=
  let rate : Int := if s.orbitData signal sat == 0 then 0 else Config.rangeRate signal sat s.free
  roundFree (s.free + 1) (-(64 * sigCarrier signal sat : Nat) * (rate * 1000000000 + Config.driftError s.free * (lightSpeed : Nat)))
    (1000000000000 * lightSpeed)

/-- n of a half-width H_D given as a quotient in Hz, with bins of 500 Hz: max(0, ceil(H_D / Δf − 1/2)) (R189). -/
def binsFor (num den : Nat) : Nat := if 2 * num ≤ 500 * den then 0 else ceilDiv (2 * num - 500 * den) (1000 * den)

/-- H_D in Hz as a quotient, from ε_d in ppb, ε_v + ε_o′ in mm/s and ε_p in mm: Ω = 2.1 × 10^-4 s^-1 (R189). -/
def dopplerHalf (carrier epsD epsV epsP : Nat) : Nat × Nat :=
  (carrier * (epsD * lightSpeed + (epsV * 100000 + epsP * 21) * 10), 1000000000 * lightSpeed)

/-- n of a search's Doppler window (R189, R190). -/
def State.searchBins (s : State) (signal sat : Nat) : Nat :=
  let h := dopplerHalf (sigCarrier signal sat) s.driftUnc (s.velUnc + orbitRate (s.orbitData signal sat)) s.posUnc
  binsFor h.1 h.2

/-- The smallest w_sel with the least tiles for a window in linear mode (R188). -/
def leastW (signal cells : Nat) : Nat :=
  (List.range 5).foldl (fun b w => if jobTiles signal 1 (64 * 2 ^ w) cells 0 < jobTiles signal 1 (64 * 2 ^ b) cells 0 then w else b) 0

/-- The widths of m jobs of adjacent bins that cover a number of bins (R192): odd, at most two apart, the wider ones first. -/
def splitWidths (bins m : Nat) : List Nat :=
  let total := if bins % 2 == m % 2 then bins else bins + 1
  let a := if total / max 1 m % 2 == 1 then total / max 1 m else total / max 1 m - 1
  (List.range m).map fun i => if i < (total - m * a) / 2 then a + 2 else a

/-- The jobs of adjacent bins, from the doubled lowest bin in 1/64 Hz on: a job's centre lies in the middle of its bins (R192). -/
def splitJobs (j : PlanJob) : Int → List Nat → List PlanJob
  | _, [] => []
  | low, w :: ws => { j with centre := (low + ((w - 1) * 32000 : Nat)) / 2, n := w / 2 } :: splitJobs j (low + (2 * w * 32000 : Nat)) ws

/-- The jobs of consecutive groups of a window that one bin cannot hold, `per` groups each (R192). -/
def splitCode (j : PlanJob) (per w : Nat) : Nat → List PlanJob
  | 0 => []
  | f + 1 =>
    if j.cells ≤ per * w || per == 0 then [j]
    else { j with cells := per * w } ::
      splitCode { j with start := (j.start + 256 * (per * w)) % (256 * max 1 (sigCells j.signal)), cells := j.cells - per * w } per w f

/-- A window covered by the smallest number of jobs within 127 bins each side and a tile limit (R192): the whole set is centred on
the job's centre. -/
def PlanJob.split (j : PlanJob) (limit : Nat) : List PlanJob :=
  let w := 64 * 2 ^ j.wSel.getD 0
  let one := jobTiles j.signal (b2n j.wSel.isSome) w j.cells 0
  let widest := if one ≤ limit then min 255 ((limit / max 1 one + 1) / 2 * 2 - 1) else 1
  let widths := splitWidths (2 * j.n + 1) (ceilDiv (2 * j.n + 1) widest)
  let total := widths.foldl (· + ·) 0
  let jobs := splitJobs j (2 * j.centre - ((total - 1) * 32000 : Nat)) widths
  if one ≤ limit then jobs
  else
    let tiles := ceilDiv (sigN j.signal) (2048 - w)
    (jobs.map fun x => splitCode x (limit / max 1 tiles) w 64).flatten

/-- The jobs of a search for one satellite (R188 to R192). -/
def State.searchFor (s : State) (signal sat : Nat) : List PlanJob :=
  let win := s.codeWindow signal sat
  let j : PlanJob :=
    { signal := signal, sat := sat, start := win.1, cells := win.2, centre := s.searchCentre signal sat
      n := s.searchBins signal sat, wSel := if sigCircular signal then none else some (leastW signal win.2) }
  j.split s.tileLimit

/-- The jobs of a search. -/
def State.searchPlan (s : State) (l : List (Nat × Nat)) : List PlanJob := (l.map fun x => s.searchFor x.1 x.2).flatten

/-- The records of one split window taken together (R192): the one of largest peak_ratio, and whether the window is ambiguous,
two of its records meeting the threshold more than 2Δf = 1,000 Hz apart. -/
def windowRecord (l : List (List Byte)) : Option (List Byte) × Bool :=
  let met := l.filter fun x => decide (1 ≤ byteAt x 3) && decide (byteAt x 3 ≤ 3)
  (l.foldl (fun best x => match best with
      | some b => if fieldAt b 12 4 < fieldAt x 12 4 then some x else some b
      | none => some x) none,
    met.any fun a => met.any fun b => decide (64000 < mag (sfieldAt a 8 4 - sfieldAt b 8 4)))

end Sys2Proof.Machine
end

