-- ==== Sys2Proof/Machine/Gnss.lean ====
section
/-! DEFINITION. The GNSS messages (R568, R569): lanes, channels and their admission (R234 to R236), searches, reports and
aiding; and what the diagnostics group shows of channels and searches (R578). -/

namespace Sys2Proof.Machine

/-! ### Lanes -/

/-- The signals of a preset (R165), by the codes of R173 and R213. -/
def presetSignals : Nat → List Nat
  | 1 => [0x01, 0x10, 0x16]
  | 2 => [0x01, 0x02, 0x05, 0x0A, 0x10, 0x11, 0x16]
  | 3 => [0x09]
  | 4 => [0x01, 0x02, 0x05, 0x09, 0x0A, 0x10, 0x11, 0x16]
  | 5 => [0x0E]
  | 6 => [0x03, 0x12]
  | 7 => [0x0F]
  | 8 => [0x03, 0x0F, 0x12]
  | 9 => [0x04, 0x06, 0x0B, 0x13, 0x15, 0x17]
  | 10 => [0x07, 0x0C]
  | 11 => [0x04, 0x06, 0x07, 0x0B, 0x0C, 0x13, 0x15, 0x17, 0x18]
  | 12 => [0x0D]
  | 13 => [0x08, 0x14]
  | 14 => [0x08, 0x0D, 0x14]
  | _ => []

/-- A running lane carries a preset: its oscillator and its decimations are the preset's. -/
def State.carries (s : State) (l k : Nat) : Bool := match presetOf k, (s.lane l).cfg with
  | some p, some c => s.get (LANE_NCO_FREQ.inc l) == presetInc p && c.dA == p.a && c.dB == p.b
  | _, _ => false

/-- The lowest-numbered running lane whose passband holds a signal. -/
def State.laneFor (s : State) (sig : Nat) : Option Nat :=
  firstThat (fun l => s.is (LANE_STATUS.running l) && (List.range 15).any fun k => (presetSignals k).contains sig && s.carries l k)
    (List.range 12)

/-- Lanes that run or are to start. -/
def State.lanesUsed (s : State) : List Nat :=
  (List.range 12).filter fun l => s.is (LANE_STATUS.running l) || s.is (LANE_STATUS.start_pending l)

/-- LANE_SET (0x0201): preset 0 stops the lane; a fourth lane needs TRACK; OK when the lane start lands. -/
def execLaneSet (r : Req) (p : List Byte) (s : State) : Result :=
  let l := byteAt p 0
  let mode := if byteAt p 1 != 0 && decide (3 ≤ (s.lanesUsed.filter (· != l)).length) then 6 else 5
  .next (s.serve ⟨.A, 0x0201, mode⟩ r p
    [isLength p 4, okArg 0 (decide (l < 12)), okArg 1 (decide (byteAt p 1 ≤ 14)), isZero p 2 2] fun q s =>
    match presetOf (byteAt p 1) with
    | none => (s.laneStop l).answer q (ansOk (le 4 0))
    | some x =>
      let others := (s.lanesUsed.filter (· != l)).filterMap fun k =>
        if s.is (LANE_STATUS.running k) then (s.lane k).cfg.map DecCfg.d else some (s.decFields k).d
      if !aggregateOk (x.a * x.b :: others) then s.noRoom q
      else
        let s := ((s.answerTo (s.lane l).req (ansAborted 6)).programPreset l x).modLane l fun y => { y with req := some q }
        if s.is (LANE_STATUS.running l) then s.laneRestart l else s.laneEnable l)

/-! ### Channels -/

/-- sub_sel of a signal's taps (R213). -/
def subSel (sig : Nat) : Nat :=
  if sig == 0x02 || sig == 0x11 then 2 else if sig == 0x05 then 4 else if sig == 0x18 then 6 else if sig == 0x0A then 5 else 0

/-- The integration of a request suits its signal (R235): at most 100 ms, and with align a divisor or a multiple of the
secondary code. -/
def okIntegration (sig sat m : Nat) (align : Bool) : Bool :=
  let n := secondaryLen sig sat
  decide (m * sigPeriod sig ≤ 100) && (!align || n == 0 || (m != 0 && (n % m == 0 || m % n == 0)))

/-- Sheaves of the present mode (R496). -/
def State.sheavesOn (s : State) : Nat := if s.mode == 5 then 8 else 64

/-- The core for a new channel (R234): the one with the fewest channels, none when all run 48. -/
def State.coreFor (s : State) : Option Nat :=
  let best := (List.range s.coresOn).foldl
    (fun b n => if (s.coreChannels n).length < (s.coreChannels b).length then n else b) 0
  if (s.coreChannels best).length < 48 then some best else none

/-- A slot for a channel of a cost in a sheaf: free, and an aligned pair for AltBOC (R234). -/
def State.slotIn (s : State) (pair : Bool) (cost : Nat × Nat) (h : Nat) : Option Nat :=
  let free (c : Nat) : Bool := s.chanState c == 0
  let all := if pair then fracAdd cost cost else cost
  if !costOk (fracAdd (s.sheafCost h []) all) then none
  else firstThat (fun c => free c && (!pair || (c % 2 == 0 && free (c + 1)))) ((List.range 8).map (8 * h + ·))

/-- The slot for a new channel: the lowest-numbered sheaf that takes it (R234). -/
def State.slotFor (s : State) (pair : Bool) (cost : Nat × Nat) : Option Nat :=
  (List.range s.sheavesOn).foldl (fun a h => match a with
    | some c => some c
    | none => s.slotIn pair cost h) none

/-- The cost of a channel on a lane, without a fan. -/
def State.laneCost (s : State) (l : Nat) : Nat × Nat := match (s.lane l).cfg with
  | some c => (3600000, c.d)
  | none => (0, 1)

/-- The Doppler, in 1/64 Hz, with which a channel starts (R192, R196): that of the last pass's record of largest peak_ratio for
its signal and satellite, unless nothing was detected or the window is ambiguous. -/
def State.foundDoppler (s : State) (sig sat : Nat) : Option Int :=
  match windowRecord (s.thr.results.filter fun x => byteAt x 1 == sig && byteAt x 2 == sat) with
  | (some x, false) => if 1 ≤ byteAt x 3 && byteAt x 3 ≤ 3 then some (sfieldAt x 8 4) else none
  | _ => none

/-- F_c and F_k, rounded down, of a carrier in Hz with a Doppler in 1/64 Hz on a lane of decimation d and oscillator inc (R138,
R206). -/
def carrierWord (d inc carrier : Nat) (dop : Int) : Int :=
  (2 ^ 48 * d : Nat) * ((64 * carrier : Nat) + dop) / 230400000000 - (d * inc * 2 ^ 16 : Nat)
def codeWord (d chips carrier : Nat) (dop : Int) : Nat :=
  ((2 ^ 48 * d * (1000 * chips) : Nat) * ((64 * carrier : Nat) + dop) / (64 * carrier * 3600000000 : Nat)).toNat

/-- The channel's registers as the firmware sets them for an admission: the strobe taps lie as R217 says, and the frequencies are
those of the search that found the signal; where there is none they come from predictions, as the phases do, which the spec does
not give as numbers (free values, log entries 3 and 73). -/
def State.programChannel (s : State) (c lane core sig sat m : Nat) (align s3 : Bool) (prio : Nat) : State :=
  let pair := sig == 0x18
  let s := ((s.put (SHF_CH_CFG.lane c) lane).put (SHF_CH_CFG.dsp c) core).put (SHF_CH_CFG.pair c) (b2n pair)
  let s := ((s.put (SHF_CH_CFG.fan c) 0).put (SHF_CH_CFG.integ_len c) m).put (SHF_CH_CFG.align c) (b2n align)
  let s := ((s.put (SHF_CH_CFG.s3_data c) (b2n s3)).put (SHF_CH_CFG.prio c) prio).put (SHF_CH_CODE.signal c) sig
  let s := ((s.put (SHF_CH_CODE.sat c) sat).put (SHF_CH_CODE.code_ram c) 0).put (SHF_CH_CODE.sub_sel c) (subSel sig)
  let found := s.foundDoppler sig sat
  let carrier := sigCarrier sig sat
  let fc := match found with
    | some dop => unsigned 48 (carrierWord (s.laneD lane) (s.get (LANE_NCO_FREQ.inc lane)) carrier dop + b2n (Config.roundUp s.free))
    | none => s.freeVal
  let s := ((s.put (SHF_CH_CARF_LO.fc_lo c) fc).put (SHF_CH_CARF_HI.fc_hi c) (fc / 2 ^ 32)).nextFree
  let fk := match found with
    | some dop => min (2 ^ 47) (codeWord (s.laneD lane) (sigChips sig) carrier dop + b2n (Config.roundUp s.free))
    | none => s.freeVal % 2 ^ 47
  let s := ((s.put (SHF_CH_CODEF_LO.fk_lo c) fk).put (SHF_CH_CODEF_HI.fk_hi c) (fk / 2 ^ 32)).nextFree
  let s := (s.put (SHF_CH_CARP.phase c) s.freeVal).nextFree
  let s := (s.put (SHF_CH_CODEP.chip c) (s.freeVal % codeChips sig)).nextFree
  let s := (s.put (SHF_CH_CODEP.frac c) s.freeVal).nextFree
  let s := (s.putInt (SHF_CH_TAPS.s0 c) (-128)).putInt (SHF_CH_TAPS.s1 c) 16
  let s := (s.putInt (SHF_CH_STROBE.s2 c) 32).putInt (SHF_CH_STROBE.s3 c) 64
  s.put (SHF_CH_START.start_word c) (s.laneWords lane)

/-- A channel is set up and started, and its admission reported (R236); with an AltBOC pair the odd slot takes its own
shape. -/
def State.admitTo (s : State) (c lane core sig sat m : Nat) (align s3 : Bool) : State :=
  let prio := vget 0 s.nav.prio sig
  let s := s.programChannel c lane core sig sat m align s3 prio
  let s := if sig == 0x18 then
      (((s.programChannel (c + 1) lane core sig sat m align s3 prio).put (SHF_CH_CFG.pair (c + 1)) 0).put
        (SHF_CH_CODE.sub_sel (c + 1)) 7)
    else s
  (s.chanStart c).2.emit (evChannel 1 sig sat c)

/-- Whether running channel a is evicted before b (R236): lower priority, then lower C/N0, then higher number. -/
def State.evictFirst (s : State) (a b : Nat) : Bool :=
  let pa := s.get (SHF_CH_CFG.prio a)
  let pb := s.get (SHF_CH_CFG.prio b)
  let ca := (s.lockOf a).cn0
  let cb := (s.lockOf b).cn0
  decide (pa < pb) || (pa == pb && (decide (ca < cb) || (ca == cb && decide (b < a))))

/-- The channel to evict for a request of a priority: one of lower priority whose removal makes room (R235, R236). -/
def State.victim (s : State) (prio : Nat) (pair : Bool) (cost : Nat × Nat) : Option Nat :=
  let cs := (s.shf.chans.map Prod.fst).filter fun c => s.chanState c == 2 && !s.pairOdd c &&
    decide (s.get (SHF_CH_CFG.prio c) < prio) && ((s.chanStop c).slotFor pair cost).isSome && (s.chanStop c).coreFor.isSome
  cs.foldl (fun a c => match a with
    | none => some c
    | some b => if s.evictFirst c b then some c else some b) none

/-- How a channel request ends (R235). -/
inductive Admission where
  | admitted (c : Nat)
  | refused
  deriving DecidableEq, Repr

/-- A channel request whose signal, satellite and integration are good (R235, R236). -/
def State.request (s : State) (sig sat m : Nat) (align s3 : Bool) (lane : Nat) : Admission × State :=
  let pair := sig == 0x18
  let cost := s.laneCost lane
  match s.slotFor pair cost, s.coreFor with
  | some c, some n => (.admitted c, s.admitTo c lane n sig sat m align s3)
  | _, _ =>
    match if s.nav.preempt then s.victim (vget 0 s.nav.prio sig) pair cost else none with
    | none => (.refused, s.tally 6 1)
    | some v =>
      let g := s.get (SHF_CH_CODE.signal v)
      let h := s.get (SHF_CH_CODE.sat v)
      let s := ((s.chanStop v).tally 7 1).emit (evChannel 2 g h v)
      match s.slotFor pair cost, s.coreFor with
      | some c, some n => (.admitted c, s.admitTo c lane n sig sat m align s3)
      | _, _ => (.refused, s.tally 6 1)

/-- A channel request that names a satellite, admitted or refused with its event only (R569). -/
def State.requestSat (s : State) (sig m : Nat) (align s3 : Bool) (lane : Nat) (a : Nat × Nat × State) (sat : Nat) :
    Nat × Nat × State :=
  let s := a.2.2
  let top := if s.mode == 5 then 64 else 512
  if !Config.hasTemplate sig sat || !okIntegration sig sat m align || decide (top ≤ s.get SHF_ACTIVE.running)
  then (a.1, a.2.1 + 1, s.tally 6 1)
  else match s.request sig sat m align s3 lane with
    | (.admitted _, s) => (a.1 + 1, a.2.1, s)
    | (.refused, s) => (a.1, a.2.1 + 1, s)

/-- SIGNAL_ADD (0x0202, R235, R569): a 65th channel needs TRACK. -/
def execSignalAdd (r : Req) (p : List Byte) (s : State) : Result :=
  let sig := byteAt p 0
  let sat := byteAt p 1
  let m := byteAt p 2
  let align := bit (byteAt p 3) 0
  let s3 := bit (byteAt p 3) 1
  let used := (s.shf.chans.map Prod.fst).filter fun c => s.chanState c != 0
  let mode := if 64 ≤ used.length then 6 else 5
  .next (s.serve ⟨.A, 0x0202, mode⟩ r p
    [isLength p 4, okArg 0 (sigTracked sig && (s.laneFor sig).isSome), okArg 1 (sat == 0 || Config.hasTemplate sig sat),
      okArg 2 (sat == 0 || okIntegration sig sat m align), okArg 3 (decide (byteAt p 3 < 4))] fun q s =>
    let lane := (s.laneFor sig).getD 0
    if sat == 0 then
      let a := (Config.predicted sig (tSec s.ltu.now)).foldl (s.requestSat sig m align s3 lane) (0, 0, s.accept q)
      a.2.2.answer q (ansOk (le 2 a.1 ++ le 2 a.2.1))
    else match s.request sig sat m align s3 lane with
      | (.admitted c, s) => s.answer q (ansOk (le 2 c ++ le 2 0))
      | (.refused, s) => s.answer q (ansResource 512 used.length))

/-- SIGNAL_DROP (0x0203). -/
def execSignalDrop (r : Req) (p : List Byte) (s : State) : Result :=
  let sig := byteAt p 0
  let sat := byteAt p 1
  .next (s.serve ⟨.A, 0x0203, 5⟩ r p [isLength p 4, okArg 0 (sigTracked sig), isZero p 2 2] fun q s =>
    let cs := (s.shf.chans.map Prod.fst).filter fun c => s.chanState c != 0 && !s.pairOdd c &&
      s.get (SHF_CH_CODE.signal c) == sig && (sat == 0 || s.get (SHF_CH_CODE.sat c) == sat)
    (s.each cs fun s c => s.chanStop c).answer q (ansOk (le 2 cs.length ++ le 2 0)))

/-- CHANNEL_POLICY (0x0204, R569): at once, and in every running channel. -/
def execChannelPolicy (r : Req) (p : List Byte) (s : State) : Result :=
  let bad := firstThat (fun i => decide (7 < byteAt p (4 + i))) (List.range 24)
  .next (s.serve ⟨.A, 0x0204, 0⟩ r p
    [isLength p 28, okArg 0 (decide (byteAt p 0 < 2)), isZero p 1 1, okArg (4 + bad.getD 0) bad.isNone] fun q s =>
    let s := s.modNav fun n => { n with
      preempt := byteAt p 0 == 1, prio := Vector.ofFn fun i => if i.val = 0 then 0 else byteAt p (3 + i.val) }
    let s := s.modShf fun x => { x with drop := fieldAt p 2 2 }
    let s := s.each (s.shf.chans.map Prod.fst) fun s c =>
      s.put (SHF_CH_CFG.prio c) (vget 0 s.nav.prio (s.get (SHF_CH_CODE.signal c)))
    s.answer q (ansOk []))

/-! ### Reports and aiding -/

/-- The periods of R306. -/
def okReportPeriod (ms : Nat) : Bool :=
  ms == 0 || ms == 10 || ms == 20 || ms == 50 || ms == 100 || ms == 200 || ms == 500 ||
    (ms % 1000 == 0 && decide (1000 ≤ ms) && decide (ms ≤ 3600000))

/-- REPORT_CFG (0x0205). -/
def execReportCfg (r : Req) (p : List Byte) (s : State) : Result :=
  let ms := fieldAt p 0 4
  .next (s.serve ⟨.A, 0x0205, 5⟩ r p
    [isLength p 16, okArg 0 (okReportPeriod ms), okArg 12 (decide (5 ≤ byteAt p 12) && decide (byteAt p 12 ≤ 9)),
      okArg 13 (decide (byteAt p 13 < 16)), okArg 14 (decide (byteAt p 14 < 2)), isZero p 15 1] fun q s =>
    if s.is STW_STATUS.single_pair && ms != 0 && decide (ms < 100) then s.answer q (s.ansState blkSinglePair)
    else (s.modNav fun n => { n with
      period := ms, hal := fieldAt p 4 4, val := fieldAt p 8 4, pirExp := byteAt p 12, corrEn := byteAt p 13
      osnmaEn := byteAt p 14 == 1 }).answer q (ansOk []))

/-- A latitude and a longitude in their ranges (R310). -/
def okLat (v : Int) : Bool := decide (-900000000000 ≤ v) && decide (v ≤ 900000000000)
def okLon (v : Int) : Bool := decide (-1800000000000 ≤ v) && decide (v ≤ 1800000000000)

/-- AIDING (0x0206). -/
def execAiding (r : Req) (p : List Byte) (s : State) : Result :=
  .next (s.serve ⟨.A, 0x0206, 5⟩ r p
    [isLength p 32, okArg 0 (okLat (sfieldAt p 0 8)), okArg 8 (okLon (sfieldAt p 8 8))] fun q s =>
    (s.modNav fun n => { n with aiding := some p, refTol := fieldAt p 28 4 }).answer q (ansOk []))

/-- DECLARE (0x020A, R326). -/
def execDeclare (r : Req) (p : List Byte) (s : State) : Result :=
  .next (s.serve ⟨.A, 0x020A, 5⟩ r p
    [isLength p 32, okArg 0 (okLat (sfieldAt p 0 8)), okArg 8 (okLon (sfieldAt p 8 8)), okArg 28 (decide (byteAt p 28 < 2)),
      isZero p 29 3] fun q s =>
    let d : Declared := ⟨sfieldAt p 0 8, sfieldAt p 8 8, sfieldAt p 16 4, fieldAt p 20 4, fieldAt p 24 4, none⟩
    (s.modNav fun n => { n with declared := if byteAt p 28 == 1 then none else some d }).answer q (ansOk []))

/-- NAV_DATA_GET (0x020B). -/
def execNavDataGet (r : Req) (p : List Byte) (s : State) : Result :=
  let d := firstThat (fun x => x.system == byteAt p 0 && x.sat == byteAt p 1 && x.kind == byteAt p 2) s.nav.data
  .next (s.serve ⟨.C, 0x020B, 5⟩ r p
    [isLength p 4, okArg 0 (decide (byteAt p 0 < 7)), okArg 2 (decide (byteAt p 2 < 3)), isZero p 3 1, okArg 0 d.isSome] fun q s =>
    match d with
    | some d => s.chunks q (timeBytes d.time ++ le 2 d.nbits ++ le 2 0 ++ d.bits)
    | none => s)

/-! ### Searches -/

/-- The signals and satellites of SEARCH. -/
def searchList (p : List Byte) : List (Nat × Nat) := (List.range (byteAt p 4)).map fun i => (byteAt p (8 + 2 * i), byteAt p (9 + 2 * i))

/-- A job written into a slot of the job table (R188 to R192). -/
def State.writeJob (s : State) (j : Nat) (x : PlanJob) : State :=
  let lane := (s.laneFor x.signal).getD 15
  let s := ((s.flag (THR_JOB_CFG.valid j)).put (THR_JOB_CFG.lane j) lane).put (THR_JOB_CFG.signal j) x.signal
  let s := ((s.put (THR_JOB_CFG.sat j) x.sat).put (THR_JOB_CODE.start_cell j) (x.start / 256)).put (THR_JOB_CODE.start_frac j) x.start
  let s := ((s.put (THR_JOB_WIN.cells j) x.cells).putInt (THR_JOB_DOP.centre j) x.centre).put (THR_JOB_BINS.n j) x.n
  ((s.put (THR_JOB_CFG.mode j) (b2n x.wSel.isSome)).put (THR_JOB_CFG.w_sel j) (x.wSel.getD 0)).put (THR_JOB_CFG.step j) 0

/-- Jobs written into the slots from j on. -/
def State.writeJobs (s : State) : Nat → List PlanJob → State
  | _, [] => s
  | j, x :: xs => (s.writeJob j x).writeJobs (j + 1) xs

/-- SEARCH (0x0209, R178, R199): the job table is written and a live pass latched, answered at pass_done; a search marked
full rate needs HARVEST. A search of more than 64 jobs is refused, and its jobs are counted (log entry 15). -/
def execSearch (r : Req) (p : List Byte) (s : State) : Result :=
  .next (s.serve ⟨.A, 0x0209, if bit (byteAt p 0) 0 then 7 else 5⟩ r p
    [hasLength p 8, okArg 0 (decide (byteAt p 0 < 2)), okArg 1 (decide (2 ≤ byteAt p 1) && decide (byteAt p 1 ≤ 9)),
      okArg 4 (decide (1 ≤ byteAt p 4) && decide (byteAt p 4 ≤ 64)), isZero p 5 3, isLength p (8 + 2 * byteAt p 4)] fun q s =>
    let plan := s.searchPlan (searchList p)
    if !s.is THR_CTRL.enable || s.thr.queued.isSome then (s.flag THR_EVENT.start_ignored).answer q ansBusy
    else if 64 < plan.length then (s.tally 5 plan.length).answer q (ansResource 64 plan.length)
    else
      let s := s.each (List.range 64) fun s j => s.put (THR_JOB_CFG.valid j) 0
      let s := (s.nextFree.modThr fun t => { t with pjob := byteAt p 1 }).writeJobs 0 plan
      let s := (((s.accept q).put THR_PASS_CFG.k (clampNat 1 1024 (fieldAt p 2 2))).put THR_PASS_CFG.source 0).put THR_PASS_CFG.start_mode 0
      let before := s.is THR_EVENT.cfg_error
      let s := (s.put THR_EVENT.cfg_error 0).latchPass (some q)
      if s.is THR_EVENT.cfg_error then s.answer q (ansAborted 8) else s.put THR_EVENT.cfg_error (b2n before))

/-! ### Diagnostics of channels and searches (R578) -/

/-- SIGNAL_STATUS (0x0902): every pending or running channel. -/
def execSignalStatus (r : Req) (p : List Byte) (s : State) : Result :=
  .next (s.serve ⟨.C, 0x0902, 5⟩ r p [isLength p 0] fun q s =>
    s.chunks q (((s.shf.chans.map Prod.fst).filter fun c => s.chanState c != 0).map fun c =>
      let x := s.lockOf c
      le 1 (s.get (SHF_CH_CODE.signal c)) ++ le 1 (s.get (SHF_CH_CODE.sat c)) ++ le 1 x.lock ++ le 1 0 ++ le 2 x.cn0 ++
        le 2 0 ++ le 4 (min 0xFFFFFFFF ((s.ltu.now - x.since) / (1000000 * nanosecond)))).flatten)

/-- ACQ_SUMMARY (0x0903): the result records of the last pass (R304, R569). -/
def execAcqSummary (r : Req) (p : List Byte) (s : State) : Result :=
  .next (s.serve ⟨.C, 0x0903, 5⟩ r p [isLength p 0] fun q s =>
    s.chunks q (s.thr.results.map fun x =>
      (x.drop 1).take 3 ++ le 1 0 ++ (x.drop 18).take 2 ++ le 2 0 ++ (x.drop 20).take 16).flatten)

end Sys2Proof.Machine
end

