-- ==== Sys2Proof/Machine/Network.lean ====
section
/-! DEFINITION. Network time: the port and its frames (R395 to R400), roles and the best master (R401 to R404),
qualification and the servo's policies (R405 to R410), asymmetry (R411), and the network messages (R572). -/

namespace Sys2Proof.Machine

/-- The port runs: enabled, its link up, in a mode and at a time at which it runs (R395, R496). -/
def State.netRuns (s : State) : Bool :=
  s.is NET_CTRL.enable && s.is NET_STATUS.link && decide (5 ≤ s.mode) && decide (s.mode ≤ 7) && !s.frozen

/-- IEEE 802.1AS is the profile in use. -/
def State.gptp (s : State) : Bool := s.is NET_CTRL.profile

/-- The domain of the port (R400). -/
def State.netDomain (s : State) : Nat := if s.gptp then 0 else s.get NET_CTRL.domain

/-- The port's state changes. -/
def State.portState (s : State) (v : Nat) : State :=
  if s.get NET_STATUS.port_state == v then s else (s.put NET_STATUS.port_state v).flag NET_EVENT.state_change
def State.isMaster (s : State) : Bool := s.get NET_STATUS.port_state == 6
def State.isSlave (s : State) : Bool := s.get NET_STATUS.port_state == 8 || s.get NET_STATUS.port_state == 9

/-- A frame is discarded and counted (R396, R400). -/
def State.netDiscard (s : State) : State := s.bump NET_COUNT.rx_discard

/-- FRAME_RX (R396). -/
def execFrameRx (s : State) : Result := whileLive s fun s => .next (if s.netRuns then s.netDiscard else s)

/-! ### Datasets and the best master -/

/-- clockAccuracy of TIME_UNC (R402). -/
def clockAccuracy (unc : Nat) : Nat :=
  if unc ≤ 25 then 0x20 else if unc ≤ 100 then 0x21 else if unc ≤ 250 then 0x22 else if unc ≤ 1000 then 0x23
  else if unc ≤ 2500 then 0x24 else if unc ≤ 10000 then 0x25 else if unc ≤ 25000 then 0x26
  else if unc ≤ 100000 then 0x27 else if unc ≤ 250000 then 0x28 else if unc ≤ 1000000 then 0x29 else 0xFE

/-- Announced clockClass and offsetScaledLogVariance (R402). A holdover follows GNSS when a source has been valid. -/
def State.ownQuality (s : State) : Nat × Nat :=
  let src := s.get TIME_STATUS.source
  if s.get NET_CTRL.role == 1 then (255, 0xFFFF)
  else if src == 0 then (6, 0x4E5D)
  else if src == 2 && s.ltu.fromGnss then
    if s.uncNow ≤ 10 * s.get NET_DATASET.hold_limit then (7, 0xFFFF) else (187, 0xFFFF)
  else (248, 0xFFFF)

/-- Announced timeSource (R402). -/
def State.timeSource (s : State) : Nat :=
  let q := s.ownQuality.1
  if q == 6 || q == 7 then 0x20 else if q == 248 && s.get TIME_STATUS.source == 1 then 0x40 else 0xA0

/-- The device's own dataset (R402). -/
def State.ownDataset (s : State) : Master :=
  let q := s.ownQuality
  { identity := Config.clockIdentity.toNat, port := 1, clockClass := q.1, accuracy := clockAccuracy s.uncNow, variance := q.2
    prio1 := s.get NET_DATASET.priority1, prio2 := s.get NET_DATASET.priority2, gm := Config.clockIdentity.toNat
    steps := 0, last := s.ltu.now, before := none }

/-- NET_STATUS.clock_class shows the class announced. -/
def State.showClass (s : State) : State := s.put NET_STATUS.clock_class s.ownQuality.1

/-- The lexicographic order of two lists. -/
def listLess : List Nat → List Nat → Bool
  | x :: xs, y :: ys => decide (x < y) || (x == y && listLess xs ys)
  | _, _ => false

/-- Dataset a is better than b: the comparison of the default BMCA, by priority1, class, accuracy, variance, priority2
and identity of the grandmaster, and by stepsRemoved and the sender's identity for one grandmaster. -/
def betterMaster (a b : Master) : Bool :=
  if a.gm == b.gm then decide (a.steps < b.steps) || (a.steps == b.steps && decide (a.identity < b.identity))
  else
    let key (m : Master) : List Nat := [m.prio1, m.clockClass, m.accuracy, m.variance, m.prio2, m.gm]
    listLess (key a) (key b)

/-- One announce interval in units of local time: 2^log_announce seconds. -/
def State.announceLen (s : State) : Nat := 2 ^ min 4 (s.get NET_INTERVALS.log_announce) * second

/-- An entry is qualified for the BMCA: two Announces within four announce intervals (R404). -/
def State.fmQualified (s : State) (m : Master) : Bool := match m.before with
  | some t => decide (m.last - t ≤ 4 * s.announceLen) && decide (m.steps < 255)
  | none => false

/-- NET_FM of an entry. -/
def State.showFm (s : State) (k : Nat) : State := match vget none s.net.masters k with
  | none => s.setWord (NET_FM k) 0
  | some m =>
    let s := ((s.flag (NET_FM.valid k)).put (NET_FM.selected k) (b2n (s.net.sel == some k))).put (NET_FM.qualified k) (b2n (s.fmQualified m))
    ((s.put (NET_FM.clock_class k) m.clockClass).put (NET_FM.priority1 k) m.prio1).put (NET_FM.steps_removed k) (min 255 m.steps)
def State.showFms (s : State) : State :=
  (s.each (List.range 8) fun s k => s.showFm k).put NET_STATUS.fm_sel (s.net.sel.getD 0)

/-- The selected master changes or is lost (R405, R408). -/
def State.selectMaster (s : State) (k : Option Nat) : State :=
  if s.net.sel == k then s
  else
    let s := (s.flag NET_EVENT.master_change).netUnqualify
    (s.modNet fun n => { n with
      sel := k, sync := none, exchange := none, delayReq := none, parts := 0, mpd := if s.gptp then n.mpd else none }).showFms

/-- The best qualified entry. -/
def State.bestForeign (s : State) : Option Nat :=
  (List.range 8).foldl (fun a k => match vget none s.net.masters k with
    | none => a
    | some m =>
      if !s.fmQualified m then a
      else match a with
        | none => some k
        | some b => match vget none s.net.masters b with
          | some mb => if betterMaster m mb then some k else a
          | none => some k) none

/-- The port's state decision (R401, R403): slave of the best foreign master where it is better than the own dataset,
otherwise master, unless the role forbids it. -/
def State.bmca (s : State) : State :=
  let role := s.get NET_CTRL.role
  let foreign := if role == 2 then none else s.bestForeign
  let follow := match foreign with
    | some k => match vget none s.net.masters k with
      | some m => if role == 1 || betterMaster m s.ownDataset then some k else none
      | none => none
    | none => none
  let s := match follow with
    | some k =>
      let same := s.net.sel == some k && s.isSlave
      let s := s.selectMaster (some k)
      if same then s else s.portState 8
    | none => (s.selectMaster none).portState (if role == 1 then 4 else 6)
  (s.put NET_STATUS.grandmaster (b2n s.isMaster)).showClass.showFms

/-- BMCA (R403). -/
def execBmca (s : State) : Result := whileLive s fun s => .next (if s.netRuns then s.bmca else s)

/-- The port restarts in LISTENING, unqualified, and a selected master is lost (R405, R413). A slew continues (R412). -/
def State.netRestart (s : State) : State :=
  let s := s.when s.net.sel.isSome (·.flag NET_EVENT.master_change)
  let s := s.netUnqualify.modNet fun n => { n with
    masters := Vector.replicate 8 none, sel := none, sync := none, delayReq := none, exchange := none, pdReq := none
    pdResp := none, pdLast := none, mpd := none }
  let s := ((s.put NET_STATUS.grandmaster 0).put NET_STATUS.as_capable 0).showFms
  s.portState (if !s.is NET_CTRL.enable then 3 else if s.is NET_STATUS.link then 4 else 2)

/-- The port is unpowered below LITE (R496): its registers and its state are lost, but for what the non-volatile store and the
host's settings keep. -/
def State.netOff (s : State) : State :=
  let s := (s.put NET_CTRL.enable 0).netRestart
  let s := { s with regs := sparseKeep (fun a => a / 0x1000000 != 9) s.regs }
  (s.modNet fun n => { asymNv := n.asymNv, lat100 := n.lat100, lat1000 := n.lat1000, fmAt := n.fmAt }).put NET_ASYM.correction s.net.asymNv

/-- LINK_CHANGE (R395): mbit is 0, 1 or 2 for 10, 100 or 1000 Mbit/s; an unsupported mode counts as link down. -/
def execLinkChange (up : Bool) (mbit : Fin 3) (full : Bool) (s : State) : Result := whileLive s fun s =>
  let link := up && full && mbit.val != 0
  let was := s.is NET_STATUS.link
  let speed := b2n (mbit.val == 2)
  if s.mode == 4 then .next s
  else if link == was && (!link || s.get NET_STATUS.speed == speed) then
    .next (if up && !link then s.flag NET_EVENT.link_change else s)
  else
    let s := (s.flag NET_EVENT.link_change).put NET_STATUS.link (b2n link)
    let s := if link then s.put NET_STATUS.speed speed else s
    let lat := if speed == 1 then s.net.lat1000 else s.net.lat100
    let s := if link then (s.put NET_LAT.tx_lat lat.1).put NET_LAT.rx_lat lat.2 else s
    .next s.netRestart

/-- An entry is refreshed or made by an Announce (R404). -/
def announced (a : Announce) (now : Time) (before : Option Time) : Master :=
  { identity := a.identity.toNat, port := a.port.toNat, clockClass := a.clockClass.toNat, accuracy := a.accuracy.toNat
    variance := a.variance.toNat, prio1 := a.prio1.toNat, prio2 := a.prio2.toNat, gm := a.gm.toNat, steps := a.steps.toNat
    last := now, before := before }

/-- UTC values of the selected master's Announce (R369): a leap named by the network takes effect in the present month. -/
def State.netUtc (s : State) (a : Announce) : State :=
  if !a.utcValid then s
  else
    let off := signed 16 a.utcOffset.toNat
    s.takeUtc 2 off (if a.leap61 then 1 else if a.leap59 then 2 else 0) (s.utcMonth off)

/-- A ninth master is refused; the event is sent at most once in 10 s (R404). -/
def State.fmRefuse (s : State) (a : Announce) : State :=
  let s := (s.bump NET_COUNT.fm_refused).flag NET_EVENT.fm_refused
  let soon := match s.net.fmAt with
    | some t => decide (s.ltu.now < t + 10 * second)
    | none => false
  if soon then s
  else (s.emit (evForeignMaster a.identity.toNat a.port.toNat)).modNet fun n => { n with fmAt := some s.ltu.now }

/-- ANNOUNCE_RX (R404). -/
def execAnnounceRx (msg : Announce) (s : State) : Result := whileLive s fun s =>
  if !s.netRuns then .next s
  else if msg.domain.toNat != s.netDomain then .next s.netDiscard
  else
    let mine (k : Nat) : Bool := match vget none s.net.masters k with
      | some m => m.identity == msg.identity.toNat && m.port == msg.port.toNat
      | none => false
    match firstThat mine (List.range 8), firstThat (fun k => (vget none s.net.masters k).isNone) (List.range 8) with
    | some k, _ =>
      let s := s.modNet fun n => { n with masters := vmod (fun m => some (announced msg s.ltu.now (m.map Master.last))) n.masters k }
      .next (if s.net.sel == some k then (s.netUtc msg).showFms else s.showFms)
    | none, some k =>
      .next (s.modNet fun n => { n with masters := vmod (fun _ => some (announced msg s.ltu.now none)) n.masters k }).showFms
    | none, none => .next (s.fmRefuse msg)

/-- The entry expires; the selected master is lost. -/
def State.masterExpires (s : State) (k : Nat) : State :=
  let was := s.net.sel == some k
  let s := s.modNet fun n => { n with masters := vmod (fun _ => none) n.masters k }
  if was then ((s.selectMaster none).portState 4).showFms else s.showFms

/-- ANNOUNCE_TIMEOUT (R404, R405): announceReceiptTimeout intervals after the last Announce, to which the clock is brought. -/
def execAnnounceTimeout (entry : Fin 8) (s : State) : Result := whileLive s fun s =>
  match s.netRuns, vget none s.net.masters entry with
  | true, some m => .next ((s.advanceTo (m.last + s.get NET_INTERVALS.announce_timeout * s.announceLen)).masterExpires entry)
  | _, _ => .next s

/-! ### Measurements and the servo -/

/-- Sum, spread and median of offsets. -/
def sumInt (l : List Int) : Int := l.foldl (· + ·) 0
def meanInt (l : List Int) : Int := if l.isEmpty then 0 else sumInt l / l.length
def spread (l : List Int) : Int := match l with
  | [] => 0
  | x :: xs => xs.foldl max x - xs.foldl min x
def insertInt (x : Int) : List Int → List Int
  | [] => [x]
  | y :: ys => if x ≤ y then x :: y :: ys else y :: insertInt x ys
def medianInt (l : List Int) : Int :=
  let m := l.foldl (fun a x => insertInt x a) []
  ((m.drop ((l.length - 1) / 2)).headD 0 + (m.drop (l.length / 2)).headD 0) / 2

/-- 100 ns in units of local time. -/
def hundredNs : Int := (100 * nanosecond : Nat)

/-- A value in the registers' 2^-8 ns. -/
def toQ8 (x : Int) : Int := x / 16777216
def holdInt32 (x : Int) : Int := clampInt (-2147483648) 2147483647 x

/-- An offset e is entered by slew, in parts where it exceeds TIME_SLEW's range (R408, R409). -/
def State.slewWhole (s : State) (e : Int) : State :=
  let total := -(toQ8 e)
  let first := clampInt (-2147483647) 2147483647 total
  (s.setSlew first).modNet fun n => { n with parts := total - first }

/-- The markers until the remaining slew is less than 4,194,304 ns (R353, R409). -/
def State.partMarkers (s : State) : Nat :=
  let low := 4194304 * nanosecond
  if mag s.ltu.slewRem < low then 0 else (mag s.ltu.slewRem - low) / max 1 s.slewCap + 1

/-- SLEW_PART (R409): when the remainder falls below 4,194,304 ns, to which the clock is brought. -/
def execSlewPart (s : State) : Result := whileLive s fun s =>
  let s := s.when (s.net.parts != 0 && s.onFab) (fun s => s.passMarkers s.partMarkers)
  let left := s.getInt TIME_SLEW.offset
  if s.net.parts == 0 || 4194304 * 256 ≤ mag left then .next s
  else
    let next := clampInt (-2147483647) 2147483647 (left + s.net.parts)
    .next ((s.setSlew next).modNet fun n => { n with parts := left + n.parts - next })

/-- WY2210 refuses an offset (R408): its level joins the prediction, and the clock's phase is kept. -/
def State.refuseOffset (s : State) (o : Int) : State :=
  let s := (s.flag NET_STATUS.offset_refused).flag NET_EVENT.jump_refused
  (s.modNet fun n => { n with refused := o, pred := some o }).emit (evJumpRefused (holdInt32 (toQ8 o)))

/-- The network's offset is entered where the network has become the time source (R365, R408, R410): `first` is set when
no source has been valid since power-up or the last event of R368. -/
def State.enterNet (s : State) (o : Int) (first : Bool) : State :=
  let s := s.modNet fun n => { n with entered := true }
  if first then s.enterSource o
  else if s.get NET_CTRL.policy == 0 then s.slewWhole o
  else if mag o ≤ s.get TIME_CTRL.step_threshold * nanosecond then s.setSlew (-(toQ8 o))
  else s.refuseOffset o

/-- The port becomes qualified (R405), and the network may become the time source, with an offset o. -/
def State.netQualify (s : State) (o : Int) : State :=
  let first := s.ltu.reenter
  let was := s.get TIME_STATUS.source
  let s := ((s.flag NET_STATUS.qualified).flag NET_EVENT.qualified).put NET_STATUS.requalifying 0
  let s := s.modNet fun n => { n with count := 0 }
  let s := (s.modLtu fun u => { u with net := true }).chooseSource
  if s.get TIME_STATUS.source == 1 && was != 1 then s.enterNet o first else s

/-- The asymmetry measured while GNSS is the source (R411). -/
def State.asymMeasure (s : State) : State :=
  if s.get TIME_STATUS.source != 0 || !s.is NET_STATUS.qualified || s.net.count < 64 then s
  else
    let v := holdInt32 (toQ8 (meanInt (s.net.used.take 64)))
    let s := (s.putInt NET_ASYM_MEAS.asym v).flag NET_STATUS.meas_valid
    if mag (v - s.net.asymLast) ≤ 50 * 256 then s
    else ((s.flag NET_EVENT.asym_meas).emit (evAsymMeasured v)).modNet fun n => { n with asymLast := v }

/-- A measurement is used (R405, R406): it joins the prediction; eight in a row within 100 ns qualify the port; the servo
steers while the network is the time source. -/
def State.useOffset (s : State) (o mpd : Int) : State :=
  let s := s.modNet fun n => { n with
    pred := some o, held := [], used := (o :: n.used).take 64, streak := n.streak + 1, count := n.count + 1
    mpds := (mpd :: n.mpds).take 8 }
  let s := if s.is NET_STATUS.qualified then
      if s.get TIME_STATUS.source == 1 then
        let s := if s.net.entered then s.steer else s.enterNet o s.ltu.reenter
        let u := s.freeVal
        (s.setUnc (u % 2 ^ 32)).nextFree
      else s.modNet fun n => { n with entered := false }
    else if s.get NET_STATUS.port_state == 9 && decide (8 ≤ s.net.streak) && decide (spread (s.net.used.take 8) ≤ hundredNs) &&
      (!s.gptp || s.is NET_STATUS.as_capable) then s.netQualify o
    else s
  s.asymMeasure

/-- A step in the network's time is detected (R407, R408). The requalification of NATIVE is that of a network which is the
time source; otherwise the port qualifies again under R405. -/
def State.stepDetected (s : State) (o : Int) : State :=
  let served := s.get TIME_STATUS.source == 1
  let held := s.net.held
  let dO := meanInt (held.map Prod.fst) - s.net.pred.getD 0
  let dP := meanInt (held.map Prod.snd) - meanInt s.net.mpds
  let s := (s.flag NET_EVENT.step_detected).bump NET_COUNT.steps
  let s := if mag dO ≤ 2 * mag dP then
      (s.flag NET_EVENT.asym_suspect).emit (evAsymSuspect (holdInt32 (toQ8 dO)) (holdInt32 (toQ8 dP))) else s
  if s.get NET_CTRL.policy == 0 then
    let s := s.netUnqualify.modNet fun n => { n with parts := 0 }
    if served then (s.flag NET_STATUS.requalifying).modNet fun n => { n with requal := some [] } else s
  else (s.refuseOffset o).modNet fun n => { n with held := [], parts := 0 }

/-- A measurement of a NATIVE requalification (R408): sixteen offsets within 100 ns are accepted by their median. -/
def State.requalify (s : State) (o mpd : Int) (l : List Int) : State :=
  let l := (o :: l).take 16
  let s := s.modNet fun n => { n with requal := some l }
  if l.length == 16 && decide (spread l ≤ hundredNs) then
    let e := medianInt l
    let s := s.modNet fun n => { n with requal := none, pred := some o, used := [], mpds := [mpd] }
    s.netQualify e
  else s

/-- A measurement of offset and mean path delay (R406, R407). -/
def State.measured (s : State) (o mpd : Int) : State :=
  let s := (s.putInt NET_OFFSET.offset (holdInt32 (toQ8 o))).put NET_MPD.mpd (min 0xFFFFFFFF (max 0 (toQ8 mpd)).toNat)
  let s := (if s.get NET_STATUS.port_state == 8 then s.portState 9 else s).modNet fun n => { n with usedAt := s.ltu.now }
  match s.net.requal with
  | some l => s.requalify o mpd l
  | none => match s.net.pred with
    | none => s.useOffset o mpd
    | some p =>
      if mag (o - p) ≤ s.get TIME_CTRL.step_threshold * nanosecond then s.useOffset o mpd
      else
        let same := match s.net.held with
          | (x, _) :: _ => decide (0 < o - p) == decide (0 < x - p)
          | [] => true
        let s := (s.bump NET_COUNT.outliers).modNet fun n => { n with
          held := if same then n.held ++ [(o, mpd)] else [(o, mpd)], streak := 0 }
        if s.net.held.length == 3 then s.stepDetected o else s

/-- A correctionField in units of local time, and the latencies of R397. -/
def corrUnits (c : Int) : Int := c * 65536
def State.rxTime (s : State) (ball : Time) : Int := (ball : Int) - s.get NET_LAT.rx_lat * 268435456
def State.txTime (s : State) (ball : Time) : Int := (ball : Int) + s.get NET_LAT.tx_lat * 268435456

/-- The asymmetry correction a in units of local time (R406). -/
def State.asymUnits (s : State) : Int := s.getInt NET_ASYM.correction * 16777216

/-- A Sync with its precise origin time, corrected: a measurement is formed (R406). -/
def State.syncDone (s : State) (t1 t2 : Int) : State :=
  if s.gptp then match s.net.mpd with
    | some d => s.measured (t2 - t1 - d - s.asymUnits) d
    | none => s
  else match s.net.exchange with
    | some (t3, t4) =>
      let mpd := ((t2 - t1) + (t4 - t3)) / 2
      (s.modNet fun n => { n with mpd := some mpd }).measured (((t2 - t1) - (t4 - t3)) / 2 - s.asymUnits) mpd
    | none => s

/-- The message comes from the selected master while the port follows it. -/
def State.fromMaster (s : State) (identity : Nat) : Bool := match s.net.sel with
  | some k => match vget none s.net.masters k with
    | some m => m.identity == identity && s.isSlave
    | none => false
  | none => false

/-- SYNC_RX (R406): at its ingress time, to which the clock is brought. -/
def execSyncRx (msg : EventMsg) (s : State) : Result := whileLive s fun s =>
  if !s.netRuns then .next s
  else if msg.domain.toNat != s.netDomain then .next s.netDiscard
  else if !s.fromMaster msg.identity.toNat || !s.onFab then .next s
  else
    let s := s.advanceTo msg.ball
    let t2 := s.rxTime msg.ball - corrUnits msg.corr
    if msg.twoStep then .next (s.modNet fun n => { n with sync := some (msg.identity.toNat, msg.seq.toNat, t2.toNat, 0) })
    else .next (s.syncDone msg.origin t2)

/-- FOLLOW_UP_RX (R399). -/
def execFollowUpRx (msg : GeneralMsg) (s : State) : Result := whileLive s fun s =>
  if !s.netRuns then .next s
  else if msg.domain.toNat != s.netDomain then .next s.netDiscard
  else match s.net.sync with
    | some (id, seq, t2, _) =>
      if id == msg.identity.toNat && seq == msg.seq.toNat && s.fromMaster id then
        .next ((s.modNet fun n => { n with sync := none }).syncDone ((msg.time : Int) + corrUnits msg.corr) t2)
      else .next s
    | none => .next s

/-- A message leaves: the low 48 bits of the seconds, the nanoseconds, and the fraction in correctionField (R399). -/
def State.netSend (s : State) (kind seq : Nat) (t : Time) (followUp : Bool) (d : Option Master) : State :=
  s.modNet fun n => { n with
    tx := some ⟨kind, seq, mkTime (tSec t % 2 ^ 48) (tNs t) 0, tFrac t / 65536, followUp, d,
      if d.isSome then s.timeSource else 0, if d.isSome then s.word TIME_UTC else 0⟩ }

/-- The port may send event messages and Announces (R398). -/
def State.netSends (s : State) : Bool := s.netRuns && s.onFab

/-- SYNC_TX (R399): at its egress time, to which the clock is brought. -/
def execSyncTx (ball : Time) (s : State) : Result := whileLive s fun s =>
  if !s.netSends || !s.isMaster then .next s
  else
    let s := s.advanceTo ball
    let s := s.netSend 0x0 s.net.seqSync (s.txTime ball).toNat (!s.is NET_CTRL.one_step) none
    .next (s.modNet fun n => { n with seqSync := (n.seqSync + 1) % 65536 })

/-- ANNOUNCE_TX (R402). -/
def execAnnounceTx (s : State) : Result := whileLive s fun s =>
  if !s.netSends || !s.isMaster then .next s
  else
    let s := s.showClass
    let s := s.netSend 0xB s.net.seqAnn s.ltu.now false (some s.ownDataset)
    .next (s.modNet fun n => { n with seqAnn := (n.seqAnn + 1) % 65536 })

/-- DELAY_REQ_TX (R400): at its egress time, to which the clock is brought. -/
def execDelayReqTx (ball : Time) (s : State) : Result := whileLive s fun s =>
  if !s.netSends || !s.isSlave || s.gptp then .next s
  else
    let s := s.advanceTo ball
    let t3 := (s.txTime ball).toNat
    let s := s.netSend 0x1 s.net.seqReq t3 false none
    .next (s.modNet fun n => { n with seqReq := (n.seqReq + 1) % 65536, delayReq := some t3 })

/-- DELAY_RESP_RX (R406): the exchange is complete. -/
def execDelayRespRx (msg : GeneralMsg) (s : State) : Result := whileLive s fun s =>
  if !s.netRuns then .next s
  else if msg.domain.toNat != s.netDomain then .next s.netDiscard
  else match s.net.delayReq with
    | some t3 =>
      if s.fromMaster msg.identity.toNat && (msg.seq.toNat + 1) % 65536 == s.net.seqReq && !s.gptp then
        .next (s.modNet fun n => { n with delayReq := none, exchange := some (t3, (msg.time : Int) - corrUnits msg.corr) })
      else .next s
    | none => .next s

/-- DELAY_REQ_RX (R400): as master the port answers with Delay_Resp. -/
def execDelayReqRx (msg : EventMsg) (s : State) : Result := whileLive s fun s =>
  if !s.netRuns then .next s
  else if msg.domain.toNat != s.netDomain then .next s.netDiscard
  else if !s.isMaster || s.gptp || !s.onFab then .next s
  else .next ((s.advanceTo msg.ball).netSend 0x9 msg.seq.toNat (s.rxTime msg.ball).toNat false none)

/-- PDELAY_REQ_RX (R399, R400): a one-step answer carries the turnaround time in correctionField, a free value, since the answer's
egress time is the port's own. -/
def execPdelayReqRx (msg : EventMsg) (s : State) : Result := whileLive s fun s =>
  if !s.netSends || !s.gptp then .next s
  else if msg.domain.toNat != s.netDomain then .next s.netDiscard
  else
    let s := s.advanceTo msg.ball
    let one := s.is NET_CTRL.one_step
    let turn := s.freeVal % 2 ^ 48
    let s := s.netSend 0x3 msg.seq.toNat (s.rxTime msg.ball).toNat (!one) none
    .next (if one then (s.modNet fun n => { n with tx := n.tx.map fun m => { m with corr := turn } }).nextFree else s)

/-- PDELAY_REQ_TX (R400): at its egress time, to which the clock is brought. -/
def execPdelayReqTx (ball : Time) (s : State) : Result := whileLive s fun s =>
  if !s.netSends || !s.gptp then .next s
  else
    let s := s.advanceTo ball
    let t1 := (s.txTime ball).toNat
    let s := s.netSend 0x2 s.net.seqPd t1 false none
    .next (s.modNet fun n => { n with
      seqPd := (n.seqPd + 1) % 65536, pdReq := some t1, pdResp := none })

/-- A peer-delay measurement (R400, R406): t1 and t4 on the local clock, t2 and t3 on the neighbour's, scaled by the ratio
of the two rates since the last exchange; asCapable below 800 ns. -/
def State.peerDelay (s : State) (t1 t2 t3 t4 : Int) : State :=
  let num := match s.net.pdLast with
    | some (t3', _) => t3 - t3'
    | none => 1
  let den := match s.net.pdLast with
    | some (_, t4') => t4 - t4'
    | none => 1
  let d := if num ≤ 0 || den ≤ 0 then ((t4 - t1) - (t3 - t2)) / 2 else ((t4 - t1) * num / den - (t3 - t2)) / 2
  let s := s.modNet fun n => { n with mpd := some d, pdLast := some (t3, t4), pdReq := none, pdResp := none }
  let s := s.put NET_MPD.mpd (min 0xFFFFFFFF (max 0 (toQ8 d)).toNat)
  s.put NET_STATUS.as_capable (b2n (decide (d < 8 * hundredNs)))

/-- PDELAY_RESP_RX (R406): the message's timestamp is t2; a one-step answer carries the turnaround in correctionField. -/
def execPdelayRespRx (msg : EventMsg) (s : State) : Result := whileLive s fun s =>
  if !s.netRuns || !s.gptp then .next s
  else if msg.domain.toNat != s.netDomain then .next s.netDiscard
  else match s.net.pdReq with
    | some t1 =>
      if !s.onFab || (msg.seq.toNat + 1) % 65536 != s.net.seqPd then .next s
      else
        let s := s.advanceTo msg.ball
        let t4 := s.rxTime msg.ball
        if msg.twoStep then .next (s.modNet fun n => { n with pdResp := some ((msg.origin : Int) + corrUnits msg.corr, t4) })
        else .next (s.peerDelay t1 msg.origin ((msg.origin : Int) + corrUnits msg.corr) t4)
    | none => .next s

/-- PDELAY_RESP_FOLLOW_UP_RX (R399): the message's timestamp is t3. -/
def execPdelayRespFollowUpRx (msg : GeneralMsg) (s : State) : Result := whileLive s fun s =>
  if !s.netRuns || !s.gptp then .next s
  else if msg.domain.toNat != s.netDomain then .next s.netDiscard
  else match s.net.pdReq, s.net.pdResp with
    | some t1, some (t2, t4) =>
      if (msg.seq.toNat + 1) % 65536 != s.net.seqPd then .next s
      else .next (s.peerDelay t1 t2 ((msg.time : Int) + corrUnits msg.corr) t4)
    | _, _ => .next s

/-- One sync interval in units of local time: 2^log_sync seconds. -/
def State.syncLen (s : State) : Nat :=
  let k := clampInt (-5) 1 (signed 4 (s.get NET_INTERVALS.log_sync))
  if k < 0 then second / 2 ^ mag k else second * 2 ^ k.toNat

/-- SYNC_TIMEOUT (R405): sync_timeout sync intervals after the last usable Sync, to which the clock is brought. -/
def execSyncTimeout (s : State) : Result := whileLive s fun s =>
  .next (if s.is NET_STATUS.qualified && s.netRuns then
    (s.advanceTo (s.net.usedAt + s.get NET_INTERVALS.sync_timeout * s.syncLen)).netUnqualify else s)

/-! ### Messages (R572, R413) -/

/-- NET_CFG (0x0501): a change of profile, transport, domain or intervals restarts the port. -/
def execNetCfg (r : Req) (p : List Byte) (s : State) : Result :=
  let f := byteAt p 0
  let sync := sfieldAt p 2 1
  let delay := sfieldAt p 4 1
  .next (s.serve ⟨.A, 0x0501, 5⟩ r p
    [isLength p 16, okArg 0 (decide (f < 128) && decide (f / 2 % 4 < 3)), okArg 1 (decide (byteAt p 1 < 128)),
      okArg 2 (decide (-5 ≤ sync) && decide (sync ≤ 1)), okArg 3 (decide (byteAt p 3 ≤ 4)),
      okArg 4 (decide (-5 ≤ delay) && decide (delay ≤ 5)), okArg 5 (decide (2 ≤ byteAt p 5) && decide (byteAt p 5 ≤ 10)),
      okArg 6 (decide (2 ≤ byteAt p 6) && decide (byteAt p 6 ≤ 15)), isZero p 9 1] fun q s =>
    let oldCtrl := (s.is NET_CTRL.enable, s.is NET_CTRL.profile, s.is NET_CTRL.transport, s.get NET_CTRL.domain)
    let oldInt := s.word NET_INTERVALS
    let s := ((s.put NET_CTRL.enable f).put NET_CTRL.role (f / 2)).put NET_CTRL.profile (f / 8)
    let s := ((s.put NET_CTRL.transport (f / 16)).put NET_CTRL.one_step (f / 32)).put NET_CTRL.policy (f / 64)
    let s := ((s.put NET_CTRL.domain (byteAt p 1)).put NET_INTERVALS.log_sync (byteAt p 2)).put NET_INTERVALS.log_announce (byteAt p 3)
    let s := ((s.put NET_INTERVALS.log_delay (byteAt p 4)).put NET_INTERVALS.announce_timeout (byteAt p 5)).put
      NET_INTERVALS.sync_timeout (byteAt p 6)
    let s := ((s.put NET_DATASET.priority1 (byteAt p 7)).put NET_DATASET.priority2 (byteAt p 8)).put
      NET_DATASET.hold_limit (max 1 (fieldAt p 10 2))
    let s := s.modNet fun n => { n with ipv4 := fieldAt p 12 4 }
    let new := (s.is NET_CTRL.enable, s.is NET_CTRL.profile, s.is NET_CTRL.transport, s.get NET_CTRL.domain)
    let s := if oldCtrl == new && oldInt == s.word NET_INTERVALS then s else s.netRestart
    s.showClass.answer q (ansOk []))

/-- NET_LAT (0x0502, R397): stored, and in force at the next link-up. -/
def execNetLat (r : Req) (p : List Byte) (s : State) : Result :=
  .next (s.serve ⟨.A, 0x0502, 0⟩ r p [isLength p 8] fun q s =>
    (s.modNet fun n => { n with lat100 := (fieldAt p 0 2, fieldAt p 2 2), lat1000 := (fieldAt p 4 2, fieldAt p 6 2) }).answer q
      (ansOk []))

/-- A new correction (R408, R412): the change of offset that it causes is slewed and is no step; held measurements are
discarded, and the offsets already used have it applied (R411). -/
def State.setAsym (s : State) (v : Int) : State :=
  let old := s.getInt NET_ASYM.correction
  let d := (v - old) * 16777216
  let s := (s.putInt NET_ASYM.correction v).modNet fun n => { n with
    held := [], pred := n.pred.map (· - d), used := n.used.map (· - d), requal := n.requal.map (·.map (· - d)) }
  if s.get TIME_STATUS.source == 1 && d != 0 then s.slewWhole (-d) else s

/-- NET_ASYM (0x0503, R411). -/
def execNetAsym (r : Req) (p : List Byte) (s : State) : Result :=
  .next (s.serve ⟨.A, 0x0503, 0⟩ r p [isLength p 8, okArg 4 (decide (byteAt p 4 < 4)), isZero p 5 3] fun q s =>
    let add := bit (byteAt p 4) 0
    if add && !s.is NET_STATUS.meas_valid then s.answer q (s.ansState blkNoMeasurement)
    else
      let v := if add then holdInt32 (s.getInt NET_ASYM.correction + s.getInt NET_ASYM_MEAS.asym) else sfieldAt p 0 4
      let s := s.setAsym v
      let s := if bit (byteAt p 4) 1 then s.modNet fun n => { n with asymNv := unsigned 32 v } else s
      s.answer q (ansOk (le 4 (unsigned 32 v))))

/-- realign (R408): under WY2210 the refusal clears, and a step of the refused offset is armed. -/
def State.realign (s : State) : State :=
  if s.get NET_CTRL.policy == 1 && s.is NET_STATUS.offset_refused then
    (s.put NET_STATUS.offset_refused 0).servoStep (-s.net.refused)
  else s

/-- NET_REALIGN (0x0504). -/
def execNetRealign (r : Req) (p : List Byte) (s : State) : Result :=
  .next (s.serve ⟨.A, 0x0504, 5⟩ r p [isLength p 0] fun q s => s.realign.answer q (ansOk []))

/-- NET_INFO (0x0505). -/
def execNetInfo (r : Req) (p : List Byte) (s : State) : Result :=
  .next (s.serve ⟨.C, 0x0505, 0⟩ r p [isLength p 0] fun q s =>
    let entry (k : Nat) : List Byte := match vget none s.net.masters k with
      | some m => le 1 1 ++ le 1 (bits (s.word (NET_FM k)).toNat 0 8) ++ le 8 m.identity ++ le 2 m.port ++ le 1 m.clockClass ++
          le 1 m.accuracy ++ le 2 m.variance ++ le 1 m.prio1 ++ le 1 m.prio2 ++ le 2 m.steps
      | none => le 20 0
    s.answer q (ansOk (le 4 (s.word NET_STATUS).toNat ++ le 4 (s.get NET_OFFSET.offset) ++ le 4 (s.get NET_MPD.mpd) ++
      le 4 (s.get NET_ASYM_MEAS.asym) ++ ((List.range 8).map entry).flatten)))

end Sys2Proof.Machine
end

