-- ==== Sys2Proof/Machine/RadioOps.lean ====
section
/-! DEFINITION. The access radio: options and times of frames (R414, R415, R422), transmit power (R433), air time (R434),
the regulatory store (R435 to R437), coexistence (R438), radio states (R417 to R419), and what ends an activity. -/

namespace Sys2Proof.Machine

def State.modUwb (s : State) (f : UwbState → UwbState) : State := { s with uwb := f s.uwb }

/-! ### Options and times -/

/-- The phy block of R573 at an offset of a payload. -/
def phyAt (p : List Byte) (o : Nat) : Phy :=
  { channel := byteAt p o, mode := byteAt p (o + 1), code := byteAt p (o + 2), sfd := byteAt p (o + 3), psr := fieldAt p (o + 4) 2
    rate := byteAt p (o + 6), fcs := byteAt p (o + 7), stsCfg := byteAt p (o + 8), stsSegs := byteAt p (o + 9), stsLen := byteAt p (o + 10) }

/-- A number of a list. -/
def among (v : Nat) (l : List Nat) : Bool := l.any (· == v)

/-- A number in a range. -/
def within (lo hi v : Nat) : Bool := decide (lo ≤ v) && decide (v ≤ hi)

/-- BAD_ARG for a phy block whose options R414 does not support. -/
def okPhy (p : List Byte) (o : Nat) : Option Answer :=
  let y := phyAt p o
  let bprf := y.mode == 0
  firstFault [okArg o (among y.channel [5, 9]), okArg (o + 1) (decide (y.mode ≤ 2)),
    okArg (o + 2) (if bprf then within 9 24 y.code else within 25 32 y.code),
    okArg (o + 3) (if bprf then among y.sfd [0, 2] else within 1 4 y.sfd),
    okArg (o + 4) (among y.psr [16, 24, 32, 48, 64, 96, 128, 256] || (bprf && y.psr == 1024)),
    okArg (o + 6) (if bprf then y.rate == 0 else decide (y.rate ≤ 3)),
    okArg (o + 7) (y.fcs == 2 || (!bprf && y.fcs == 4)),
    okArg (o + 8) (decide (y.stsCfg ≤ 3)),
    okArg (o + 9) (y.stsCfg == 0 || if bprf then y.stsSegs == 1 else within 1 4 y.stsSegs),
    okArg (o + 10) (y.stsCfg == 0 || if bprf then y.stsLen == 1 else decide (y.stsLen ≤ 3)),
    isZero p (o + 11) 1]

/-- The length of a PSDU with its FCS (R414). -/
def Phy.fits (y : Phy) (len : Nat) : Bool := within 2 (if y.mode == 0 then 127 else 1000) (len + y.fcs)

/-- Symbols of an SFD (R414). -/
def Phy.sfdSymbols (y : Phy) : Nat := if y.mode == 0 then 8 else 2 ^ (y.sfd + 1)

/-- T_SHR in units of local time: 1,017.63 ns or 729.17 ns for each symbol (R415). -/
def Phy.shr (y : Phy) : Nat :=
  (y.psr + y.sfdSymbols) * (if y.code ≤ 24 then 101763 else 72917) * nanosecond / 100

/-- The air of a frame from its RMARKER to its last pulse. -/
def Phy.tail (y : Phy) (len : Nat) : Nat :=
  Config.frameTail [y.channel, y.mode, y.code, y.sfd, y.psr, y.rate, y.fcs, y.stsCfg, y.stsSegs, y.stsLen] len

/-- The index of a channel: 0 for channel 5, 1 for channel 9. -/
def chanIdx (ch : Nat) : Nat := b2n (ch == 9)

/-- The REFCLK increment formed from the increment in force (R355, R422). -/
def State.refInc (s : State) : Nat := max 1 (s.incNow * 375 / 32)

/-- A number of marks in units of local time (R422). -/
def State.marks (s : State) (n : Nat) : Nat := n * s.refInc / 1664

/-- An interval of local time in marks, rounded to the nearest (R422, R444). -/
def State.toMarks (s : State) (d : Int) : Int := (2 * d * 1664 + s.refInc) / (2 * (s.refInc : Int))

/-- The first chip-clock edge at or after a local time (R425): 13 edges from one REFCLK edge to the next, one of them
with the last marker (R82). -/
def State.chipEdge (s : State) (t : Time) : Time :=
  let n := ((t - s.ltu.markT) * 13 + s.refInc - 1) / s.refInc
  max t (s.ltu.markT + (n * s.refInc + 12) / 13)

/-- The local time of a mark: of its REFCLK edge, and its chips and fraction, by the increment in force at the marker before it
(R352, R356, R422). -/
def State.markTime (s : State) (k : RadioMark) : Time :=
  let x : Int := (1500 * k.edge : Nat)
  let m := s.markAt x
  let inc := m.inc * 375 / 32
  ((m.time : Int) + (x - (128 * m.cycle : Nat)) * inc / 1500).toNat + (128 * k.chip.val + k.frac.toNat) * inc / 1664

/-- The antenna delays of a channel in units of local time (R424). -/
def State.txDelay (s : State) (ch : Nat) : Nat := s.marks (vget (0, 0) s.uwb.delays (chanIdx ch)).1
def State.rxDelay (s : State) (ch : Nat) : Nat := s.marks (vget (0, 0) s.uwb.delays (chanIdx ch)).2

def microsecond : Nat := 1000 * nanosecond

/-- The commit instant of an activity (R426, R429); an immediate one takes the first that the state allows. -/
def State.commitOf (s : State) (a : RadioAct) : Time := match a.time with
  | none => s.ltu.now
  | some t => t - a.phy.shr - (if a.tx then 2 else 3) * microsecond

/-- When an activity ends at the latest; none for an immediate window, which has no close (R429). -/
def State.endOf (s : State) (a : RadioAct) : Option Time :=
  if a.tx then some (match a.time with
    | some t => t + a.phy.tail a.psdu.length
    | none => s.ltu.now + 2 * microsecond + a.phy.shr + a.phy.tail a.psdu.length)
  else a.close

/-- Two activities overlap between commit and end, or on different channels leave less than the gap of R421. -/
def State.overlap (s : State) (a b : RadioAct) : Bool :=
  let gap (y : RadioAct) := if a.phy.channel == b.phy.channel then 0 else (if y.tx then 27 else 28) * microsecond
  let before (x y : RadioAct) : Bool := match s.endOf x with
    | some t => decide (t + gap y ≤ s.commitOf y)
    | none => false
  !(before a b) && !(before b a)

/-- The activities that are committed or wait. -/
def State.allActs (s : State) : List RadioAct := (match s.uwb.live with
  | some l => [l.act]
  | none => []) ++ s.uwb.acts

/-- The activity of the earliest commit instant. -/
def State.earliest (s : State) (l : List RadioAct) : Option RadioAct := l.foldl (fun best a => match best with
  | none => some a
  | some b => if s.commitOf a < s.commitOf b then some a else some b) none

/-- The waiting activity of the earliest commit instant. -/
def State.nextAct (s : State) : Option RadioAct := s.earliest s.uwb.acts

/-! ### Power -/

/-- The applied code, the clip and at_max of R433; no code means POWER_FLOOR. Densities and gain are in 0.25 dB. -/
structure PowerSet where
  code  : Option Nat
  clip  : Nat
  atMax : Bool
  comp  : Int
  deriving DecidableEq, Repr

def setPower (request gain eirp peak factor comp : Int) : PowerSet :=
  let k := clampInt 0 120 (request - gain + 272) + comp
  let top := (if eirp ≤ peak - factor then eirp else peak - factor) - gain + 272 + comp
  let k' := if top < k then top else k
  let clip := (k - k').toNat
  if k' < 0 then ⟨none, clip, false, comp⟩
  else if 120 < k' then ⟨some 120, clip, true, comp⟩ else ⟨some k'.toNat, clip, false, comp⟩

/-! ### The regulatory store -/

/-- A copy that is valid (R435). -/
def storeValid (c : List Byte) : Bool :=
  c.length == 40 && fieldAt c 0 4 == 0x47525957 && fieldAt c 4 2 == 1 && fieldAt c 36 4 == crc32c (c.take 36)

/-- The copy in force: the valid one of the higher generation (R435). -/
def State.regStore (s : State) : Option (List Byte) :=
  let a := s.uwb.store[0]
  let b := s.uwb.store[1]
  if storeValid a && storeValid b then some (if fieldAt a 32 4 < fieldAt b 32 4 then b else a)
  else if storeValid a then some a else if storeValid b then some b else none

/-- UWB_STATUS shows the store and the lock. -/
def State.showStore (s : State) : State :=
  (s.put UWB_STATUS.store_valid (b2n s.regStore.isSome)).put UWB_STATUS.market_locked (b2n s.sec.marketFuse)

/-- A new copy written over the older one (R435). -/
def State.writeStore (s : State) (head : List Byte) : State :=
  let gen := (match s.regStore with
    | some c => fieldAt c 32 4 + 1
    | none => 1) % 2 ^ 32
  let body := head ++ le 4 gen
  let a := s.uwb.store[0]
  let b := s.uwb.store[1]
  let i := if !storeValid a then 0 else if !storeValid b then 1 else if fieldAt a 32 4 < fieldAt b 32 4 then 0 else 1
  (s.modUwb fun u => { u with store := vmod (fun _ => body ++ le 4 (crc32c body)) u.store i }).showStore

/-- Every field of the new content is equal or tighter (R436). -/
def tighter (old new : List Byte) : Bool :=
  fieldAt new 6 2 &&& fieldAt old 6 2 == fieldAt new 6 2 &&
    ([8, 10, 12, 14].all fun o => decide (sfieldAt new o 2 ≤ sfieldAt old o 2)) &&
    decide (sfieldAt old 16 2 ≤ sfieldAt new 16 2) && decide (fieldAt new 20 4 ≤ fieldAt old 20 4) &&
    decide (fieldAt new 24 4 ≤ fieldAt old 24 4) && fieldAt new 28 4 == fieldAt old 28 4

/-- Transmission on a channel is barred (R437), and in RETIRED altogether (R516). -/
def State.barred (s : State) (ch : Nat) : Bool := match s.regStore with
  | none => true
  | some c => s.lifecycle == 4 || (s.lifecycle == 2 && !s.sec.marketFuse) || !bit (fieldAt c 6 2) (chanIdx ch)

/-- REG_STORE_ERROR is reported where no copy is valid (R437). -/
def State.reportStore (s : State) : State := s.when s.regStore.isNone (·.emit evRegStoreError)

/-! ### Air time -/

/-- The air already radiated in a window, in units of local time. -/
def airIn (l : List OnAir) (lo hi : Time) : Nat :=
  l.foldl (fun n a => n + (min a.stop hi - max a.start lo)) 0

/-- A frame that ends at a time would exceed neither limit (R434). -/
def State.airAllows (s : State) (c : List Byte) (start stop : Time) : Bool :=
  decide (airIn s.uwb.air (stop - second) stop + (stop - start) ≤ fieldAt c 20 4 * microsecond) &&
    decide (airIn s.uwb.air (stop - 3600 * second) stop + (stop - start) ≤ fieldAt c 24 4 * (1000 * microsecond))

/-- UWB_AIRTIME and UWB_AIRTIME_H report the sums for the present instant (R434). -/
def State.showAir (s : State) : State :=
  let t := s.ltu.now
  (s.put UWB_AIRTIME.used_1s (airIn s.uwb.air (t - second) t / microsecond)).put UWB_AIRTIME_H.used_1h
    (airIn s.uwb.air (t - 3600 * second) t / (1000 * microsecond))

/-- Air that has been radiated is charged; what lies more than an hour back is forgotten. -/
def State.charge (s : State) (start stop : Time) : State :=
  (s.modUwb fun u => { u with
    air := (u.air.filter fun a => decide (stop < a.stop + 3600 * second)) ++ [⟨start, stop⟩] }).showAir

/-! ### States of the radio -/

def State.radioState (s : State) : Nat := s.get UWB_STATUS.state

/-- ADPLL-B stops. -/
def State.bStop (s : State) : State :=
  ((s.put CLKB_CTRL.enable 0).put CLKB_STATUS.locked 0).modClk fun c => { c with bPhase := .off, bInTol := 0 }

/-- ADPLL-B starts its lock sequence on a channel (R83); the chip clock is gated until it locks (R84). -/
def State.bStart (s : State) (ch : Nat) : State :=
  (((s.flag CLKB_CTRL.enable).put CLKB_CTRL.channel ch).put CLKB_STATUS.locked 0).modClk fun c =>
    { c with bPhase := .acquiring, bInTol := 0 }

/-- The level of UWB_BAND_SEL: low while ADPLL-B is set to channel 5, high for channel 9 (R119). -/
def State.uwbBandSel (s : State) : Bool := s.is CLKB_CTRL.channel

/-- ADPLL-B is locked on a channel. -/
def State.bLockedOn (s : State) (ch : Nat) : Bool :=
  s.is CLKB_STATUS.locked && s.get CLKB_STATUS.active_channel == ch

/-- The radio enters SLEEP, IDLE, STANDBY or RX. STANDBY and RX need ADPLL-B, without which the radio is in IDLE. -/
def State.radioTo (s : State) (st : Nat) : State :=
  if st == 0 || st == 1 then s.bStop.put UWB_STATUS.state st
  else if !s.is CLKB_STATUS.locked then s.put UWB_STATUS.state 1
  else s.put UWB_STATUS.state (if st == 3 then 4 else 2)

/-- A request would begin less than 5 µs after COEX_REQ is released for an activity that ends at a time (R438). -/
def State.merges (s : State) (stop : Time) (a : RadioAct) : Bool :=
  decide (s.commitOf a < stop + s.get UWB_COEX_CFG.lead_us * microsecond + 6 * microsecond)

/-- An activity, and those of a list that run merged with it, at most n (R438). -/
def State.mergedRun (s : State) (a : RadioAct) (rest : List RadioAct) : Nat → List RadioAct
  | 0 => [a]
  | n + 1 => match s.endOf a, s.earliest rest with
    | some t, some b => if s.merges t b then a :: s.mergedRun b (rest.erase b) n else [a]
    | _, _ => [a]

/-- COEX_REQ is released within 1 µs of the end of an activity, unless the next request would begin less than 5 µs later
(R438). -/
def State.coexRelease (s : State) : State :=
  let merged := match s.nextAct with
    | some a => s.merges s.ltu.now a
    | none => false
  if s.is UWB_COEX_CFG.en && merged then s else s.modUwb fun u => { u with coexReq := false, coexPri := false }

/-- The committed activity is over: the radio enters its return state (R419). -/
def State.radioIdle (s : State) (st : Nat) : State :=
  ((s.modUwb fun u => { u with live := none, trsw := false }).radioTo st).coexRelease

/-! ### Sessions -/

def State.session (s : State) (h : Nat) : Option Session := firstThat (fun x => x.handle == h) s.uwb.sessions
def State.sessionById (s : State) (id : Nat) : Option Session := firstThat (fun x => x.id == id) s.uwb.sessions
def State.modSession (s : State) (h : Nat) (f : Session → Session) : State :=
  s.modUwb fun u => { u with sessions := u.sessions.map fun x => if x.handle == h then f x else x }
def State.modRound (s : State) (h : Nat) (f : Round → Round) : State := s.modSession h fun x => { x with round := x.round.map f }

/-- UWB_STATUS.sessions shows the sessions held. -/
def State.showSessions (s : State) : State := s.put UWB_STATUS.sessions s.uwb.sessions.length

/-- A status other than OK is kept for a round, the first one. -/
def Round.mark (r : Round) (status : Nat) : Round := { r with status := if r.status == 0 then status else r.status }

/-! ### The end of an activity -/

def stOk : Nat := 0x00
def stLocked : Nat := 0x22
def stBusy : Nat := 0x31
def stCheck : Nat := 0x40
def stLate : Nat := 0x50
def stAborted : Nat := 0x51

/-- Causes of R563. -/
def causePll : Nat := 1
def causeCoex : Nat := 2
def causeAir : Nat := 3
def causeFloor : Nat := 4
def causeStopped : Nat := 7

/-- The events and counts of an activity that ended with LATE or ABORTED (UWB_EVENT, UWB_COUNT). -/
def State.radioNote (s : State) (status : Nat) : State :=
  if status == stLate then (s.flag UWB_EVENT.late).bump UWB_COUNT.late
  else s.when (status == stAborted) (·.flag UWB_EVENT.aborted)

/-- An activity ends without effect: its request is answered; its round keeps the status, ABORTED for LOCKED, which a ranging
result does not have (R445). -/
def State.endAct (s : State) (a : RadioAct) (status cause : Nat) : State :=
  let s := s.radioNote status
  let s := match a.session, a.slot with
    | some h, some _ => s.modRound h (·.mark (if status == stLocked then stAborted else status))
    | _, _ => s
  s.answerTo a.req ⟨status, if status == stLocked then le 4 0 else le 1 cause ++ le 3 0⟩

/-- The committed activity is stopped now: a transmission's air so far is charged (R428), and the radio enters a state. -/
def State.cutLive (s : State) (cause st : Nat) : State := match s.uwb.live with
  | none => s
  | some l =>
    let s := if l.act.tx && decide (l.start < s.ltu.now) then s.charge l.start (min l.stop s.ltu.now) else s
    let s := s.radioIdle st
    if l.act.listen then s else s.endAct l.act stAborted cause

/-- ADPLL-A or ADPLL-B loses lock, or FREEZE_N is asserted (R428, R447). -/
def State.radioLostClock (s : State) : State := s.cutLive causePll 1

/-- Every activity of a session ends with ABORTED, cause STOPPED. -/
def State.stopActs (s : State) (p : RadioAct → Bool) : State :=
  let mine := s.uwb.acts.filter p
  let s := match s.uwb.live with
    | some l => s.when (p l.act) (·.cutLive causeStopped l.act.ret)
    | none => s
  let heard := s.uwb.heard.filter fun x => p x.1
  let s := s.modUwb fun u => { u with
    acts := u.acts.filter (fun a => !p a)
    heard := u.heard.filter (fun x => !p x.1) }
  (s.each mine fun s a => s.endAct a stAborted causeStopped).each heard fun s x => s.endAct x.1 stAborted causeStopped

/-- A session is removed, its key zeroised, and its deletion answered (R440, R441). -/
def State.dropSession (s : State) (h : Nat) : State :=
  let req := (s.session h).bind (·.deletion)
  let s := s.stopActs fun a => a.session == some h
  ((s.modUwb fun u => { u with sessions := u.sessions.filter fun x => x.handle != h }).showSessions).answerTo req (ansOk [])

/-- Every session is deleted at once (R441, R447, R513). -/
def State.dropSessions (s : State) : State := s.each (s.uwb.sessions.map (·.handle)) State.dropSession

end Sys2Proof.Machine
end

