-- ==== Sys2Proof/Machine/Radio.lean ====
section
/-! DEFINITION. The access radio at work: raising its state, commits, frames, calibration, COEX_GNT, listening, and the
rounds of its sessions (R417 to R447). -/

namespace Sys2Proof.Machine

/-- The radio's functions run: not frozen, not in reset, and out of SLEEP by leave of UWB_CTRL.enable. -/
def State.radioOn (s : State) : Bool := !s.frozen && s.is UWB_CTRL.enable && decide (4 ≤ s.mode)

/-- The clock that radio events need (R423). -/
def State.radioClock (s : State) : Bool := s.locked && s.onFab

/-! ### Calibration -/

def State.calibrated (s : State) (ch : Nat) : Bool := s.is (if ch == 9 then UWB_STATUS.cal_ch9 else UWB_STATUS.cal_ch5)

/-- The present channel (UWB_STATUS.channel). -/
def State.radioChannel (s : State) : Nat := if s.is UWB_STATUS.channel then 9 else 5

/-- CAL begins on a channel and returns to a state (R417, R420). -/
def State.calBegin (s : State) (ch back : Nat) : State :=
  ((s.bStop.put UWB_STATUS.channel (chanIdx ch)).put UWB_STATUS.state 5).modUwb fun u => { u with cal := some ⟨ch, back⟩, calAsk := none }

/-- The channel changes, and ADPLL-B starts on it (R418, R421). -/
def State.tune (s : State) (ch : Nat) : State :=
  let s := s.put UWB_STATUS.channel (chanIdx ch)
  (s.bStart (chanIdx ch)).put UWB_STATUS.state (if s.radioState == 2 then 2 else 1)

/-- The channel of the next activity, or in WATCH of the listen schedule. -/
def State.nextChannel (s : State) : Option Nat := match s.nextAct with
  | some a => some a.phy.channel
  | none => if s.mode == 4 then s.uwb.listen.map (·.channel) else none

/-- STATE_RAISE (R419): the state is raised in time for the next activity: to STANDBY on its channel, with CAL first where
the channel is not calibrated (R418). -/
def execStateRaise (s : State) : Result := whileLive s fun s => match s.nextChannel with
  | none => .next s
  | some ch =>
    if !s.radioOn || s.uwb.live.isSome || decide (3 ≤ s.radioState) then .next s
    else if !s.calibrated ch then .next (s.calBegin ch 2)
    else if s.bLockedOn (chanIdx ch) then .next (s.put UWB_STATUS.state 2)
    else .next (s.tune ch)

/-- TEMP_CAL_DUE (R420): the die temperature has moved by at least cal_temp since the channel's last calibration. -/
def execTempCalDue (temp : BitVec 8) (s : State) : Result := whileLive s fun s =>
  let ch := s.radioChannel
  let moved := mag (temp.toInt - vget 0 s.uwb.calTemp (chanIdx ch))
  if s.frozen || !s.calibrated ch || decide (moved < s.get UWB_CTRL.cal_temp) || s.is UWB_STATUS.cal_due then .next s
  else .next ((s.flag UWB_STATUS.cal_due).modUwb fun u => { u with calDueAt := s.ltu.now })

/-- CAL_START (R420): a commanded calibration starts when no activity runs. A deferred one starts in IDLE or STANDBY with
no commit within 150 µs, or, when it has stood for 1 s, at the next end of an activity; the activities whose commits
fall within CAL are then missed with LATE. -/
def execCalStart (s : State) : Result := whileLive s fun s =>
  let st := s.radioState
  if !s.radioOn || s.uwb.live.isSome || decide (3 ≤ st) then .next s
  else match s.uwb.calAsk with
    | some ch => .next (s.calBegin ch st)
    | none =>
      let soon (us : Nat) : RadioAct → Bool := fun a => decide (s.commitOf a < s.ltu.now + us * microsecond)
      if !s.is UWB_STATUS.cal_due || st == 0 then .next s
      else if !s.uwb.acts.any (soon 150) then .next (s.calBegin s.radioChannel st)
      else if s.ltu.now < s.uwb.calDueAt + second then .next s
      else
        let missed := s.uwb.acts.filter (soon 120)
        let s := s.modUwb fun u => { u with acts := u.acts.filter fun a => !soon 120 a }
        .next ((s.each missed fun s a => s.endAct a stLate 0).calBegin s.radioChannel st)

/-- CAL_DONE (R418, R420): the channel is calibrated, and the radio returns to the state it left, with ADPLL-B relocked
where that is STANDBY. -/
def execCalDone (temp : BitVec 8) (s : State) : Result := whileLive s fun s => match s.uwb.cal with
  | none => .next s
  | some c =>
    let s := (s.flag (if c.channel == 9 then UWB_STATUS.cal_ch9 else UWB_STATUS.cal_ch5)).flag CLKB_STATUS.cal_done
    let s := (s.put UWB_STATUS.cal_due 0).flag UWB_EVENT.cal_done
    let reqs := s.uwb.calReqs
    let s := s.modUwb fun u => { u with
      cal := none, calReqs := [], calTemp := vmod (fun _ => temp.toInt) u.calTemp (chanIdx c.channel) }
    let s := if c.back == 2 then (s.put UWB_STATUS.state 1).tune c.channel else s.radioTo c.back
    .next (s.each reqs fun s q => s.answer q (ansOk []))

/-! ### ADPLL-B -/

/-- ADPLL-B locked: a radio in IDLE is in STANDBY (R417). -/
def State.radioLocked (s : State) : State := s.when (s.radioState == 1) (·.put UWB_STATUS.state 2)

/-- ADPLL-B loses lock (R83): b_unlock, and the frame in progress ends (R428). -/
def State.bLost (s : State) : State :=
  if s.clk.bPhase != .locked then s
  else
    let s := (s.flag CLK_EVENT.b_unlock).put CLKB_STATUS.locked 0
    let s := s.modClk fun c => { c with bPhase := .acquiring, bInTol := 0 }
    let s := s.when (s.uwb.live.isSome) State.radioLostClock
    if s.radioState == 1 || s.radioState == 2 then (s.flag CLKB_CTRL.enable).modClk fun c => { c with bPhase := .acquiring } else s

/-- CLKB_ENABLE (R83). -/
def execClkbEnable (s : State) : Result := whileLive s fun s =>
  if s.clk.bPhase != .off then .next s else .next (s.bStart (s.get CLKB_CTRL.channel))

/-- CLKB_CHANNEL_WRITE (R83, R119): while enabled, lock is lost and the lock sequence starts on the channel written, be it the
present one. -/
def execClkbChannelWrite (channel : Bool) (s : State) : Result := whileLive s fun s =>
  let on := s.is CLKB_CTRL.enable
  let s := if on then s.bLost else s
  if on then .next (s.bStart (b2n channel)) else .next (s.put CLKB_CTRL.channel (b2n channel))

/-- B_FREQ_ACQUIRED (R83): with the frequency that the loop demands in ppm above the channel's; the DCO never exceeds it
by more than 2.5 % (R81). -/
def execBFreqAcquired (demand : BitVec 16) (s : State) : Result := whileLive s fun s =>
  if s.clk.bPhase != .acquiring || !s.is CLK_STATUS.ref_present || s.frozen then .next s
  else
    let s := s.when (decide (25000 < demand.toInt)) (·.flag CLK_EVENT.ceiling_hit)
    .next (s.modClk fun c => { c with bPhase := .counting, bInTol := 0 })

/-- B_LOCK_WINDOW_END (R81, R83): a count within 3,328 ± 1 is in tolerance; two in a row declare lock, and the LFSR is loaded
from the seed; one out of tolerance loses it. The DCO is held 2.5 % above the channel's frequency. -/
def execBLockWindowEnd (count : BitVec 12) (demand : BitVec 16) (s : State) : Result := whileLive s fun s =>
  let s := s.when (s.clk.bPhase != .off && decide (25000 < demand.toInt)) (·.flag CLK_EVENT.ceiling_hit)
  let good := decide (3327 ≤ count.toNat) && decide (count.toNat ≤ 3329)
  let s' := s.put CLKB_STATUS.last_count count.toNat
  match s.clk.bPhase with
  | .counting =>
    if !good then .next (s'.modClk fun c => { c with bInTol := 0 })
    else if s.clk.bInTol == 0 then .next (s'.modClk fun c => { c with bInTol := 1 })
    else
      let seed := s.get CLKB_DITHER.seed
      let s := (s'.flag CLKB_STATUS.locked).put CLKB_STATUS.active_channel (s.get CLKB_CTRL.channel)
      .next ((s.flag CLK_EVENT.b_lock).modClk fun c => { c with
        bPhase := .locked, bInTol := 0, bSeed := seed, bLfsr := seed, bModState := 0 }).radioLocked
  | .locked => if good then .next s' else .next s'.bLost
  | .off => .next s
  | .acquiring => .next s

/-! ### Rounds -/

/-- Slots of a session's round, in order: whether the device transmits in each (R442). -/
def Session.slots (x : Session) : List (Nat × Bool) :=
  let own := x.role == 0
  if x.method == 1 then [(0, own), (1, !own)] else if x.method == 2 then [(0, own), (1, !own), (2, own)] else []

/-- The RMARKER time of slot s of round r (R442). -/
def Session.slotTime (x : Session) (r i : Nat) : Time := x.t0 + (r * x.period + i * x.slotUs) * microsecond

/-- The activities of a round (R442). -/
def State.roundActs (s : State) (x : Session) (r : Nat) : List RadioAct := x.slots.map fun p =>
  let t := x.slotTime r p.1
  let psdu := ((firstThat (fun y => y.1 == p.1) x.psdus).map (·.2)).getD []
  { tx := p.2, session := some x.handle, tag := 0, phy := x.phy, power := Config.sessionPower.toInt
    ret := s.get UWB_CTRL.ret_default, time := some (if p.2 then t else t - x.guard * microsecond)
    close := if p.2 then none else some (t + x.guard * microsecond)
    psdu := if p.2 then psdu else [], req := none, slot := some p.1, listen := false }

/-- A session that an activity yields to: of higher priority, or of equal priority and created earlier; a host command
without a session is not displaced (R443). -/
def State.yields (s : State) (h : Nat) (other : RadioAct) : Bool := match other.session with
  | none => true
  | some o =>
    let order := s.uwb.sessions.map (·.handle)
    match s.session h, s.session o with
    | some x, some y =>
      decide (x.prio < y.prio) ||
        (x.prio == y.prio && decide ((order.takeWhile (· != o)).length < (order.takeWhile (· != h)).length))
    | _, _ => true

/-- A session's present round is missed: its waiting activities are dropped, and its result carries BUSY (R443). -/
def State.missRound (s : State) (h : Nat) : State :=
  ((s.modUwb fun u => { u with acts := u.acts.filter fun a => !(a.session == some h && a.slot.isSome) }).modRound h
    (·.mark stBusy)).tally 14 1

/-- The next round of an ACTIVE session, not before round r, whose first commit has not passed (R442); it is missed, or
others are, where activities collide (R443). Rounds passed over are counted as missed. -/
def State.planRound (s : State) (h r : Nat) : State := match s.session h with
  | none => s
  | some x =>
    if x.slots.isEmpty then s
    else
      let first := ((s.roundActs x 0).map s.commitOf).headD 0
      let per := max 1 (x.period * microsecond)
      let past := (s.ltu.now - first + per - 1) / per
      let n := max r past
      let s := s.tally 14 (n - r)
      let mine := s.roundActs x n
      let s := s.modSession h fun y => { y with round := some { r := n } }
      let rivals := s.allActs.filter fun a => a.session != some h && mine.any fun b => s.overlap a b
      if rivals.any (s.yields h) then (s.modRound h (·.mark stBusy)).tally 14 1
      else
        let s := s.each rivals fun s a => match a.session, a.slot with
          | some o, some _ => s.missRound o
          | _, _ => s.modUwb fun u => { u with acts := u.acts.filter (· != a) }
        s.modUwb fun u => { u with acts := u.acts ++ mine }

/-- A round still has activities that wait, run, or whose first path is sought. -/
def State.roundBusy (s : State) (h : Nat) : Bool :=
  let mine (a : RadioAct) : Bool := a.session == some h && a.slot.isSome
  s.uwb.acts.any mine || s.uwb.heard.any (fun x => mine x.1) || match s.uwb.live with
    | some l => mine l.act
    | none => false

/-- The device's round and reply intervals in marks, as the slots done so far give them (R444). -/
def State.ownIntervals (s : State) (x : Session) (r : Round) : Option Int × Option Int :=
  let at' (i : Nat) : Option Time := (firstThat (fun p => p.1 == i) r.times).map (·.2)
  let diff (i j : Nat) : Option Int := match at' i, at' j with
    | some a, some b => some (s.toMarks ((b : Int) - a))
    | _, _ => none
  if x.role == 0 then (diff 0 1, diff 1 2) else (diff 1 2, diff 0 1)

/-- A ratio of integers to the nearest integer. -/
def nearest (n d : Int) : Int := (2 * n + d) / (2 * d)

/-- The distance in millimetres of a time of flight of n / d marks (R422, R444): a mark is 1 / (128 × 499.2 MHz). -/
def flightMm (n d : Int) : Int := nearest (n * 299792458000) (d * 63897600000)

/-- The distance of a round from its own and its remote intervals (R444), where the spec states one: a responder of
SS-TWR has no cfo of a received Response. -/
def distanceOf (x : Session) (r : Round) (own : Option Int × Option Int) (remote : Nat × Nat) : Option Int :=
  let rr : Int := remote.1
  let rd : Int := remote.2
  match x.method, own.1, own.2 with
  | 2, some a, some d =>
    let (ra, da, rb, db) := if x.role == 0 then (a, d, rr, rd) else (rr, rd, a, d)
    if ra + rb + da + db == 0 then none else some (flightMm (ra * rb - da * db) (ra + rb + da + db))
  | 1, some a, _ => if x.role == 0 then some (flightMm (a * 1000000000 - rd * (1000000000 - r.cfo)) 2000000000) else none
  | _, _, _ => none

/-- A distance that the spec does not state: that of a responder's SS-TWR round, and one whose intervals sum to 0. -/
def distanceOpen (x : Session) (own : Option Int × Option Int) : Bool :=
  (x.method == 1 && x.role == 1 && own.2.isSome) || (x.method == 2 && own.1.isSome && own.2.isSome)

/-- Bytes 0 to 47 of a ranging result (R445). -/
def State.resultHead (s : State) (x : Session) (r : Round) (status : Nat) (byHost : Bool) (mm : Option Int) (sigma : Nat) : List Byte :=
  let own := s.ownIntervals x r
  let t := ((firstThat (fun p => p.1 == 0) r.times).map (·.2)).getD (x.slotTime r.r 0)
  let flags := b2n (x.phy.stsCfg == 0) + 2 * b2n byHost + 4 * b2n r.clipped + 8 * b2n (s.is TIME_STATUS.degraded) +
    16 * b2n (s.is SEC_SEAL_STATUS.broken) + 32 * b2n (s.lifecycle == 3 || s.debugOpen)
  le 4 x.id ++ le 4 r.r ++ le 1 status ++ le 1 x.method ++ le 2 flags ++
    le 4 (match mm with
      | some v => unsigned 32 v
      | none => 0x80000000) ++
    le 2 sigma ++ le 2 r.fpPower ++ timeBytes t ++ le 4 (unsigned 32 (own.1.getD 0)) ++ le 4 (unsigned 32 (own.2.getD 0)) ++
    le 4 r.posSeq

/-- A result signed over bytes 0 to 47 and 112 to 115 (R445). -/
def signResult (head : List Byte) : List Byte :=
  let key := le 4 Config.positionKeyId.toNat
  let sig := Config.positionSign (Config.sha256 (head ++ key))
  head ++ be 32 sig.1.toNat ++ be 32 sig.2.toNat ++ key

/-- The result of a round is sent (R445), unless its session is being deleted. The estimate of σ is the device's own, a
free value. -/
def State.roundResult (s : State) (x : Session) (r : Round) (late : Bool) : State :=
  let own := s.ownIntervals x r
  let inPsdu := if decide (x.insertOff + 8 ≤ r.lastPsdu.length) then
    some (fieldAt r.lastPsdu x.insertOff 4, fieldAt r.lastPsdu (x.insertOff + 4) 4) else none
  let remote := if x.remoteSrc then inPsdu else r.remote
  let status := if r.status != 0 then r.status else if late || remote.isNone then stLate else 0
  let able := status == 0 && !r.spoiled
  let mm := if able then distanceOf x r own (remote.getD (0, 0)) else none
  let guess := able && mm.isNone && distanceOpen x own
  let free := signed 32 s.freeVal
  let s := if guess then s.nextFree else s
  let mm := if guess then some free else mm
  let sigma := if mm.isSome then s.freeVal else 0
  let s := if mm.isSome then s.nextFree else s
  let head := s.resultHead x r status (!x.remoteSrc && r.remote.isSome) mm sigma
  if x.deletion.isSome then s
  else s.emit (evRangeResult (if x.sign && s.reportsMade then signResult head else head))

/-- What follows a round: the deletion or the stop of its session, or its next round. -/
def State.afterRound (s : State) (x : Session) (r : Nat) : State :=
  if x.deletion.isSome then s.dropSession x.handle
  else if x.stopping then s.modSession x.handle fun y => { y with state := .stopped, stopping := false, round := none }
  else (s.modSession x.handle fun y => { y with round := none }).planRound x.handle (r + 1)

/-- RANGING_ROUND_END (R444, R445): the round's activities are over. Without remote intervals from the host the result
waits for them up to the round timeout. -/
def execRangingRoundEnd (handle : Fin 16) (s : State) : Result := whileLive s fun s => match s.session handle with
  | none => .next s
  | some x => match x.round with
    | none => .next s
    | some r =>
      if s.roundBusy handle || s.frozen then .next s
      else
        let wait := r.status == 0 && !x.remoteSrc && r.remote.isNone && x.deletion.isNone
        let s := if wait then s.modSession handle fun y =>
            { y with waiting := y.waiting ++ [{ r with deadline := s.ltu.now + x.timeout * 1000 * microsecond }] }
          else s.roundResult x r false
        .next (s.afterRound x r.r)

/-- ROUND_TIMEOUT (R444): the oldest round that waits ends with LATE and no distance. -/
def execRoundTimeout (handle : Fin 16) (s : State) : Result := whileLive s fun s => match s.session handle with
  | none => .next s
  | some x => match x.waiting with
    | [] => .next s
    | r :: rest =>
      let s := (s.advanceTo r.deadline).modSession handle fun y => { y with waiting := rest }
      .next (s.roundResult x r true)

/-! ### Commits -/

/-- The first of the reasons for which an activity does not start at its commit (R423, R426, R427, R429, R437, R439). -/
def State.commitBar (s : State) (a : RadioAct) : Option (Nat × Nat) :=
  let mode := s.get UWB_COEX_CFG.gnt_mode
  let asks := (mode == 1 && a.tx) || mode == 2 || mode == 3
  if a.tx && s.barred a.phy.channel then some (stLocked, 0)
  else if !s.bLockedOn (chanIdx a.phy.channel) || !(s.radioState == 2 || s.radioState == 4) then some (stLate, causePll)
  else if !s.radioClock then some (stAborted, causePll)
  else if asks && !s.is UWB_STATUS.gnt then some (stAborted, causeCoex)
  else none

/-- The PSDU sent in a slot: with the insert option a Final or Response carries the device's own intervals, those up to
its RMARKER (R442, R574). The interval that the spec does not fix, of a Response, is a free value. -/
def State.slotPsdu (s : State) (x : Session) (r : Round) (slot : Nat) (edge : Time) (psdu : List Byte) : List Byte :=
  let own := s.ownIntervals x { r with times := r.times ++ [(slot, edge)] }
  let a := match own.1 with
    | some v => unsigned 32 v
    | none => s.freeVal
  if x.insert && slot != 0 then
    psdu.take x.insertOff ++ ((le 4 a ++ le 4 (unsigned 32 (own.2.getD 0))).take (psdu.length - x.insertOff)) ++
      psdu.drop (x.insertOff + 8)
  else psdu

/-- The V counter of a session advances for each packet sent or expected (R441). -/
def State.nextSts (s : State) (a : RadioAct) : State := match a.session with
  | some h => s.when (a.phy.stsCfg != 0) (·.modSession h fun x => { x with v := (x.v + 1) % 2 ^ 128 })
  | none => s

/-- The PSDUs of a round are fixed at its first commit, with the number of the last report signed before slot 0. -/
def State.fixRound (s : State) (h : Nat) : State := match s.session h with
  | some x => s.modRound h fun r => match r.psdus with
    | some _ => r
    | none => { r with psdus := some x.psdus, posSeq := (s.nav.seq + 2 ^ 32 - 1) % 2 ^ 32 }
  | none => s

/-- A transmission at its commit: the rest of the checks, the power, and the frame (R425 to R434). -/
def State.transmit (s : State) (a : RadioAct) (temp supply : Nat) : State := match s.regStore with
  | none => s.endAct a stLocked 0
  | some c =>
    let ch := chanIdx a.phy.channel
    let air := a.time.getD (s.ltu.now + 2 * microsecond + a.phy.shr)
    let delay := s.txDelay a.phy.channel
    let mark := s.chipEdge (air - delay) + delay
    let start := air - a.phy.shr
    let a := match a.session, a.slot with
      | some h, some i => match s.session h with
        | some x => match x.round with
          | some r =>
            let psdu := match r.psdus with
              | some l => ((firstThat (fun y => y.1 == i) l).map (·.2)).getD []
              | none => a.psdu
            { a with psdu := s.slotPsdu x r i mark psdu }
          | none => a
        | none => a
      | _, _ => a
    let stop := mark + a.phy.tail a.psdu.length
    if !s.airAllows c start stop then (s.flag UWB_EVENT.airtime).endAct a stAborted causeAir
    else
      let comp := clampInt (-16) 16 (Config.comp (signed 8 temp) supply)
      let p := setPower a.power (sfieldAt c 16 2) (sfieldAt c (8 + 2 * ch) 2) (sfieldAt c (12 + 2 * ch) 2) (Config.peakFactor a.phy.mode) comp
      let s := s.when (p.clip != 0) (·.flag UWB_EVENT.clipped)
      match p.code with
      | none => s.endAct a stAborted causeFloor
      | some k =>
        let s := s.when (p.clip != 0) (·.bump UWB_COUNT.clipped)
        let s := s.setWord UWB_PWR_STATUS (BitVec.ofNat 32 (k + 128 * b2n p.atMax + 256 * min 255 p.clip + 65536 * unsigned 8 comp + 16777216 * (temp % 256)))
        let s := (s.put UWB_STATUS.state 3).nextSts a
        let s := match a.session, a.slot with
          | some h, some _ => s.when (p.clip != 0) (·.modRound h fun r => { r with clipped := true })
          | _, _ => s
        s.modUwb fun u => { u with live := some ⟨a, start, mark, stop, k, p.clip, p.atMax⟩, trsw := true }

/-- A receive window at its commit (R429). -/
def State.receive (s : State) (a : RadioAct) : State :=
  let opens := a.time.getD s.ltu.now
  ((s.put UWB_STATUS.state 4).nextSts a).modUwb fun u => { u with live := some ⟨a, opens, opens, opens, 0, 0, false⟩ }

/-- ACTIVITY_COMMIT (R426): the die temperature in °C and the supply in mV are sampled. An immediate activity is not
committed before the state allows it. -/
def execActivityCommit (temp : BitVec 8) (supply : BitVec 16) (s : State) : Result := whileLive s fun s => match s.nextAct with
  | none => .next s
  | some a =>
    let ready := s.bLockedOn (chanIdx a.phy.channel) && (s.radioState == 2 || s.radioState == 4)
    if s.uwb.live.isSome || s.frozen || (a.time.isNone && !ready) then .next s
    else
      let s := (s.advanceTo (s.commitOf a)).modUwb fun u => { u with acts := u.acts.erase a }
      let s := match a.session, a.slot with
        | some h, some _ => s.fixRound h
        | _, _ => s
      match s.commitBar a with
      | some (status, cause) =>
        let s := s.when (status == stLocked) State.reportStore
        let s := s.when (cause == causeCoex) fun s => (s.flag UWB_EVENT.coex_denied).bump UWB_COUNT.coex_denied
        .next (s.endAct a status cause).coexRelease
      | none =>
        let s := if a.tx then s.transmit a temp.toNat supply.toNat else s.receive a
        .next (s.when s.uwb.live.isNone State.coexRelease)

/-- TX_END (R419): the frame's last pulse; its air is charged, its completion sent, its round keeps its time. -/
def execTxEnd (s : State) : Result := whileLive s fun s => match s.uwb.live with
  | none => .next s
  | some l =>
    if !l.act.tx then .next s
    else
      let s := ((s.advanceTo l.stop).charge l.start l.stop).radioIdle l.act.ret
      let s := match l.act.session, l.act.slot with
        | some h, some i => s.modRound h fun r => { r with times := r.times ++ [(i, l.mark)] }
        | _, _ => s
      .next (s.answerTo l.act.req (ansOk (timeBytes l.mark ++ le 1 l.code ++ le 1 (min 255 l.clip) ++ le 1 (b2n l.atMax) ++ le 1 0 ++
        le 4 ((l.stop - l.start) / microsecond))))

/-! ### Reception -/

/-- A receive record (R431); without a frame only the session, the tag and the status. -/
def recordOf (id tag status flags : Nat) (t : Time) (fp rx quality diff cfo : Nat) (psdu : List Byte) : List Byte :=
  le 4 id ++ le 4 tag ++ le 1 status ++ le 1 flags ++ le 2 psdu.length ++ timeBytes t ++ le 2 fp ++ le 2 rx ++ le 2 quality ++
    le 2 diff ++ le 4 cfo ++ psdu

/-- The session_id of an activity (R431). -/
def State.sessionId (s : State) (a : RadioAct) : Nat :=
  ((a.session.bind s.session).map (·.id)).getD 0xFFFFFFFF

/-- A frame matches the pattern of the listen schedule under its mask (R446). -/
def Listen.accepts (l : Listen) (psdu : List Byte) : Bool :=
  decide (8 ≤ psdu.length) && ((psdu.take 8).zip (l.pattern.zip l.mask)).all fun x => (x.1 ^^^ x.2.1) &&& x.2.2 == 0

/-- The baseband writes a frame's channel impulse response into the first bay that it owns (R430). -/
def State.keepImpulse (s : State) : State :=
  match firstThat (fun b => s.get (BAY_OWNER.owner_id b) == 0x0B && s.bayOn b) (List.range 64) with
  | none => s
  | some b => s.nextFree.each ((Config.impulse s.free).take bayWords).zipIdx fun s x => s.granWriteAt b x.2 x.1

/-- A reception ends without a frame (R429, R446): with LATE, unless it was the listen schedule's. -/
def State.windowOver (s : State) (l : RadioLive) : State :=
  let s := s.radioIdle l.act.ret
  if l.act.listen then s
  else
    let s := s.radioNote stLate
    let s := match l.act.session, l.act.slot with
      | some h, some _ => s.modRound h (·.mark stLate)
      | _, _ => s
    s.answerTo l.act.req ⟨stLate, recordOf (s.sessionId l.act) l.act.tag stLate (16 * b2n (l.act.phy.stsCfg == 0)) 0 0 0 0 0 0 []⟩

/-- RX_FRAME (R429, R446): a frame ends. One outside the window is discarded and counted: one before it leaves the window open, one
that began before t_close with its RMARKER beyond ends the activity, and one that began later is no longer the activity's. The
last pulse comes a PSDU's air after the RMARKER. -/
def execRxFrame (frame : RadioFrame) (s : State) : Result := whileLive s fun s =>
  if s.radioState != 4 || s.frozen then .next s
  else
    let rmarker := s.markTime frame.rmarker
    let s := match s.uwb.live with
      | none => s.advanceTo rmarker
      | some l => s.advanceTo (rmarker + l.act.phy.tail frame.psdu.length)
    let s := s.keepImpulse
    let drop : State := (s.flag UWB_EVENT.out_window).modUwb fun u => { u with outside := u.outside + 1 }
    match s.uwb.live with
    | none => .next drop
    | some l =>
      let t := rmarker - s.rxDelay l.act.phy.channel
      let past := match l.act.close with
        | some c => decide (c ≤ t)
        | none => false
      let begun := match l.act.close with
        | some c => decide (t < c + l.act.phy.shr)
        | none => false
      let wanted := !l.act.listen || (frame.fcsOk && match s.uwb.listen with
        | some x => x.accepts frame.psdu
        | none => false)
      if t < l.start then .next drop
      else if past then .next (if begun then drop.windowOver l else drop)
      else if !wanted then .next s
      else .next ((s.modUwb fun u => { u with heard := u.heard ++ [(l.act, frame)] }).radioIdle l.act.ret)

/-- RX_WINDOW_CLOSE (R429): no frame has begun by t_close, and the activity ends with LATE. -/
def execRxWindowClose (s : State) : Result := whileLive s fun s => match s.uwb.live with
  | none => .next s
  | some l => match l.act.tx, l.act.close with
    | false, some c => .next ((s.advanceTo c).windowOver l)
    | _, _ => .next s

/-- FIRST_PATH_DONE (R430, R431): the receive record, with its flags. -/
def execFirstPathDone (path : FirstPath) (s : State) : Result := whileLive s fun s => match s.uwb.heard with
  | [] => .next s
  | (a, f) :: rest =>
    let s := s.modUwb fun u => { u with heard := rest }
    let sp0 := a.phy.stsCfg == 0
    let limits := ((a.session.bind s.session).map fun x => (x.stsMin, x.fpTol)).getD (154, 64)
    let stsOk := !sp0 && decide (limits.1 ≤ path.quality.toNat)
    let agree := !sp0 && decide (mag path.diff.toInt ≤ limits.2)
    let t := s.markTime path.time - s.rxDelay a.phy.channel
    let status := if f.fcsOk then stOk else stCheck
    let flags := b2n f.fcsOk + 2 * b2n stsOk + 4 * b2n agree + 8 * b2n f.overload + 16 * b2n sp0
    let spoiled := !sp0 && !(stsOk && agree)
    let s := s.when spoiled (·.flag UWB_EVENT.sts_fail)
    let record := recordOf (s.sessionId a) a.tag status flags t path.power.toNat f.rxPower.toNat (if sp0 then 0 else path.quality.toNat)
      (if sp0 then 0 else path.diff.toNat) path.cfo.toNat f.psdu
    if a.listen then .next (s.emit (evWakeFrame record))
    else match a.session, a.slot with
      | some h, some i => .next (s.modRound h fun r => { (if f.fcsOk then r else r.mark stCheck) with
          times := r.times ++ [(i, t)], spoiled := r.spoiled || spoiled, fpPower := path.power.toNat, cfo := path.cfo.toInt, lastPsdu := f.psdu })
      | _, _ => .next (s.answerTo a.req ⟨status, record⟩)

/-- LISTEN_WINDOW (R446): in WATCH a window of the listen schedule opens, a whole number of periods after the one before. -/
def execListenWindow (s : State) : Result := whileLive s fun s => match s.uwb.listen with
  | none => .next s
  | some l =>
    if !s.radioOn || s.mode != 4 || s.uwb.live.isSome || s.radioState == 5 || !s.radioClock || !s.bLockedOn (chanIdx l.channel) then .next s
    else
      let y : Phy := ⟨l.channel, if l.code ≤ 24 then 0 else 1, l.code, 0, 0, 0, 2, l.stsCfg, 1, 1⟩
      let s := match s.uwb.nextWindow with
        | some t => s.advanceTo (gridFrom t (l.period * 1000 * microsecond) s.ltu.now)
        | none => s
      let now := s.ltu.now
      let s := s.modUwb fun u => { u with nextWindow := some (now + l.period * 1000 * microsecond) }
      let a : RadioAct := ⟨false, none, 0, y, 0, s.get UWB_CTRL.ret_default, some now, some (now + l.window * 100 * microsecond), [], none, none, true⟩
      .next (s.receive a)

/-! ### Coexistence -/

/-- COEX_REQ_ASSERT (R438): lead_us before the next commit; COEX_PRI is high when any activity of the merged run belongs
to a session of priority pri_thresh or more. -/
def execCoexReqAssert (s : State) : Result := whileLive s fun s => match s.nextAct with
  | none => .next s
  | some a =>
    if !s.is UWB_COEX_CFG.en || s.frozen then .next s
    else
      let high := (s.mergedRun a (s.uwb.acts.erase a) s.uwb.acts.length).any fun b => match b.session.bind s.session with
        | some x => decide (s.get UWB_COEX_CFG.pri_thresh ≤ x.prio)
        | none => false
      let s := s.advanceTo (s.commitOf a - s.get UWB_COEX_CFG.lead_us * microsecond)
      .next (s.modUwb fun u => { u with coexPri := high || (u.coexReq && u.coexPri), coexReq := true })

/-- UWB_STATUS.gnt shows COEX_GNT by its active level (R439). -/
def State.showGnt (s : State) : State := s.put UWB_STATUS.gnt (b2n (s.uwb.gntPin != s.is UWB_COEX_CFG.gnt_active_low))

/-- GNT_CHANGE (R439): a grant withdrawn while an activity that asks for it is in progress sets gnt_lost. -/
def execGntChange (level : Bool) (s : State) : Result :=
  if !s.mainLive then .next (s.modUwb fun u => { u with gntPin := level })
  else
  let s := (s.modUwb fun u => { u with gntPin := level }).showGnt
  let mode := s.get UWB_COEX_CFG.gnt_mode
  let asks := match s.uwb.live with
    | some l => (mode == 1 && l.act.tx) || mode == 2 || mode == 3
    | none => false
  .next (s.when (asks && !s.is UWB_STATUS.gnt) (·.flag UWB_EVENT.gnt_lost))

end Sys2Proof.Machine
end

