-- ==== Sys2Proof/Machine/RadioMsgs.lean ====
section
/-! DEFINITION. The messages of the access radio (R573, R574): defaults, commands, sessions, the regulatory store, antenna
delays and the listen schedule. -/

namespace Sys2Proof.Machine

/-- UWB_CFG (0x0601): values out of range are stored as UWB_CTRL and UWB_COEX_CFG state. Without leave to run, a radio at
rest sleeps. -/
def execUwbCfg (r : Req) (p : List Byte) (s : State) : Result :=
  .next (s.serve ⟨.A, 0x0601, 4⟩ r p [isLength p 8, okArg 0 (decide (byteAt p 0 ≤ 1)), isZero p 5 3] fun q s =>
    let coex := byteAt p 3
    let s := (s.put UWB_CTRL.enable (byteAt p 0)).put UWB_CTRL.ret_default (min 2 (byteAt p 1))
    let s := s.put UWB_CTRL.cal_temp (clampNat 1 31 (byteAt p 2))
    let s := (s.put UWB_COEX_CFG.en coex).put UWB_COEX_CFG.gnt_mode (min 2 (bits coex 1 2))
    let s := (s.put UWB_COEX_CFG.gnt_active_low (bits coex 3 1)).put UWB_COEX_CFG.pri_thresh (bits coex 4 3)
    let s := (s.put UWB_COEX_CFG.lead_us (byteAt p 4)).showGnt
    let s := if byteAt p 0 == 0 && s.uwb.live.isNone && s.uwb.cal.isNone then s.radioTo 0 else s
    s.answer q (ansOk []))

/-- UWB_CAL (0x0602): CAL of a channel is asked for (R420); OK follows its end. -/
def execUwbCal (r : Req) (p : List Byte) (s : State) : Result :=
  .next (s.serve ⟨.A, 0x0602, 5⟩ r p [isLength p 4, okArg 0 (among (byteAt p 0) [5, 9]), isZero p 1 3] fun q s =>
    (s.accept q).modUwb fun u => { u with calAsk := some (byteAt p 0), calReqs := u.calReqs ++ [q] })

/-- Bytes written into a buffer of a total length at an offset; what it did not hold is zero. -/
def patch (old : List Byte) (total off : Nat) (data : List Byte) : List Byte :=
  let l := (old ++ List.replicate (total - old.length) 0).take total
  l.take off ++ data ++ l.drop (off + data.length)

/-- UWB_PSDU (0x0603). -/
def execUwbPsdu (r : Req) (p : List Byte) (s : State) : Result :=
  let total := fieldAt p 2 2
  let off := fieldAt p 4 2
  .next (s.serve ⟨.A, 0x0603, 5⟩ r p [hasLength p 8, okArg 0 (decide (byteAt p 0 ≤ 3)), isZero p 1 1,
      okArg 2 (decide (total ≤ 998)), okArg 4 (decide (off + (p.length - 8) ≤ total)), isZero p 6 2] fun q s =>
    (s.modUwb fun u => { u with buffers := vmod (fun b => patch b total off (p.drop 8)) u.buffers (byteAt p 0) }).answer q (ansOk []))

/-- A return state named by a command: 0 to 2 by the codes of UWB_CTRL.ret_default, 3 for RX, 255 for none, which takes
ret_default (R419). -/
def okRet (p : List Byte) (o : Nat) : Option Answer := okArg o (among (byteAt p o) [0, 1, 2, 3, 255])
def State.retOf (s : State) (v : Nat) : Nat := if v == 255 then s.get UWB_CTRL.ret_default else v

/-- The session that a command names exists; a frame with an STS needs one (R425). -/
def State.okSession (s : State) (p : List Byte) (stsCfg : Nat) : Option Answer :=
  let id := fieldAt p 0 4
  okArg 0 (if id == 0xFFFFFFFF then stsCfg == 0 else (s.sessionById id).isSome)

/-- The handle of the session that a command names. -/
def State.sessionOf (s : State) (p : List Byte) : Option Nat := (s.sessionById (fieldAt p 0 4)).map (·.handle)

/-- An activity that a host command asks for: BUSY where another overlaps it, LATE where its commit has passed, else it
waits for its commit (R427, R429). -/
def State.queueAct (s : State) (q : OpenReq) (a : RadioAct) : State :=
  if s.allActs.any (s.overlap a) then s.answer q ansBusy
  else if a.time.isSome && decide (s.commitOf a < s.ltu.now) then (s.radioNote stLate).answer q (ansLate 0)
  else
    let s := s.when (a.time.isSome || !a.tx) (·.accept q)
    s.modUwb fun u => { u with acts := u.acts ++ [a] }

/-- UWB_TX (0x0604, R427). -/
def execUwbTx (r : Req) (p : List Byte) (s : State) : Result :=
  let flags := byteAt p 23
  let buffered := bit flags 1
  let len := fieldAt p 40 2
  let buf := vget [] s.uwb.buffers (bits flags 2 2)
  let y := phyAt p 8
  let immediate := bit flags 0
  .next (s.serve ⟨.A, 0x0604, 5⟩ r p [hasLength p 44, isLength p (if buffered then 44 else 44 + len), okPhy p 8,
      s.okSession p y.stsCfg, okRet p 22, if immediate then none else okTime p 24,
      okArg 40 (y.fits len && (!buffered || decide (len ≤ buf.length)) && (buffered || decide (len ≤ 960))), isZero p 42 2] fun q s =>
    if s.barred y.channel then s.reportStore.answer q (ansLocked 0)
    else
      let psdu := if buffered then buf.take len else p.drop 44
      s.queueAct q ⟨true, s.sessionOf p, fieldAt p 4 4, y, sfieldAt p 20 2, s.retOf (byteAt p 22),
        if immediate then none else some (timeAt p 24), none, psdu, some q, none, false⟩)

/-- UWB_RX (0x0605, R429). -/
def execUwbRx (r : Req) (p : List Byte) (s : State) : Result :=
  let immediate := bit (byteAt p 21) 0
  let y := phyAt p 8
  .next (s.serve ⟨.A, 0x0605, 5⟩ r p [isLength p 56, okPhy p 8, s.okSession p y.stsCfg, okRet p 20, isZero p 22 2,
      if immediate then none else okTime p 24, if immediate then none else okTime p 40,
      okArg 40 (immediate || decide (timeAt p 24 < timeAt p 40))] fun q s =>
    s.queueAct q ⟨false, s.sessionOf p, fieldAt p 4 4, y, 0, s.retOf (byteAt p 20),
      if immediate then none else some (timeAt p 24), if immediate then none else some (timeAt p 40), [], some q, none, false⟩)

/-- UWB_STOP (0x0606): the host's activities of a tag end with ABORTED, cause STOPPED. -/
def execUwbStop (r : Req) (p : List Byte) (s : State) : Result :=
  .next (s.serve ⟨.A, 0x0606, 5⟩ r p [isLength p 4] fun q s =>
    (s.stopActs fun a => a.req.isSome && a.tag == fieldAt p 0 4).answer q (ansOk []))

/-! ### Sessions -/

/-- The parameters of SESSION_CREATE in their ranges (R414, R442, R444, R574); 0 selects the default of a parameter that
has one. -/
def State.sessionArgs (s : State) (p : List Byte) : Option Answer := firstFault [
  isLength p 76, okArg 0 ((s.sessionById (fieldAt p 0 4)).isNone && fieldAt p 0 4 != 0xFFFFFFFF),
  okArg 4 (within 1 3 (byteAt p 4)), okArg 5 (decide (byteAt p 5 ≤ 1)), okArg 6 (decide (byteAt p 6 ≤ 7)),
  okPhy p 8, okArg 60 (within 1000 10000000 (fieldAt p 60 4)), okArg 64 (within 250 10000 (fieldAt p 64 2)),
  okArg 66 (within 1 100 (byteAt p 66)), isZero p 67 1, okArg 70 (decide (fieldAt p 70 2 ≤ 1000))]

/-- The outcome of R440 before the power mode: LOCKED, CHECK_ERROR or NO_RESOURCE. -/
def State.sessionBar (s : State) (p : List Byte) : Option Answer :=
  let sends := byteAt p 4 != 3
  match s.sec.transportKey with
  | none => some (ansLocked 0)
  | some k =>
    if sends && s.barred (phyAt p 8).channel then some (ansLocked 0)
    else if (Config.keyUnwrap k ((p.drop 20).take 24)).isNone then some ansCheck
    else if 16 ≤ s.uwb.sessions.length then some (ansResource 16 s.uwb.sessions.length)
    else none

/-- The session that SESSION_CREATE describes. -/
def State.newSession (s : State) (p : List Byte) : Session :=
  let flags := byteAt p 7
  let handle := (firstThat (fun h => (s.session h).isNone) (List.range 16)).getD 0
  let orElse (v d : Nat) : Nat := if v == 0 then d else v
  { id := fieldAt p 0 4, handle := handle, method := byteAt p 4, role := byteAt p 5, prio := byteAt p 6
    sign := bit flags 0, insert := bit flags 1, remoteSrc := bit flags 2, phy := phyAt p 8
    key := (s.sec.transportKey.bind fun k => Config.keyUnwrap k ((p.drop 20).take 24)).getD []
    v := fieldAt p 44 16, period := fieldAt p 60 4, slotUs := fieldAt p 64 2, guard := byteAt p 66, insertOff := fieldAt p 68 2
    timeout := orElse (fieldAt p 70 2) 50, stsMin := orElse (fieldAt p 72 2) 154, fpTol := orElse (fieldAt p 74 2) 64 }

/-- SESSION_CREATE (0x0607, R440). The rows of R440 come before the power mode; a refusal has no other effect than its
count. -/
def execSessionCreate (r : Req) (p : List Byte) (s : State) : Result :=
  if !s.served then .next s else
  let k : Kind := ⟨.A, 0x0607, 5⟩
  let bar := if s.lifecycle == 4 then none else s.sessionBar p
  match s.sessionArgs p, bar with
  | some a, _ => .next (s.answer (s.open k r) a)
  | none, some a =>
    let s := s.when (a.status == 0x22 && s.sec.transportKey.isSome) State.reportStore
    let s := s.when (a.status == 0x30) fun s => (s.bump UWB_COUNT.refused).flag UWB_EVENT.session_refused
    .next (s.answer (s.open k r) a)
  | none, none => .next (s.enter k r p fun q s =>
      let x := s.newSession p
      ((s.modUwb fun u => { u with sessions := u.sessions ++ [x] }).showSessions).answer q (ansOk (le 1 x.handle ++ le 3 0)))

/-- The session of a request, by the session_id at its start. -/
def State.okId (s : State) (p : List Byte) : Option Answer := okArg 0 (s.sessionById (fieldAt p 0 4)).isSome

/-- SESSION_START (0x0608, R442). -/
def execSessionStart (r : Req) (p : List Byte) (s : State) : Result :=
  .next (s.serve ⟨.A, 0x0608, 5⟩ r p [isLength p 24, s.okId p, isZero p 4 4, okTime p 8] fun q s =>
    match s.sessionById (fieldAt p 0 4) with
    | none => s.answer q (ansArg 0)
    | some x =>
      if x.state == .active then s.answer q (s.ansState blkSessions)
      else
        let s := s.modSession x.handle fun y => { y with state := .active, t0 := timeAt p 8, stopping := false, waiting := [] }
        (s.planRound x.handle 0).answer q (ansOk []))

/-- The present round has been committed. -/
def Session.begun (x : Session) : Bool := match x.round with
  | some r => r.psdus.isSome
  | none => false

/-- The activities of a session's round that wait are dropped. -/
def State.dropRound (s : State) (h : Nat) : State :=
  (s.modUwb fun u => { u with acts := u.acts.filter fun a => !(a.session == some h && a.slot.isSome) }).modSession h
    fun x => { x with round := none }

/-- SESSION_STOP (0x0609): at the end of the present round. -/
def execSessionStop (r : Req) (p : List Byte) (s : State) : Result :=
  .next (s.serve ⟨.A, 0x0609, 5⟩ r p [isLength p 4, s.okId p] fun q s =>
    match s.sessionById (fieldAt p 0 4) with
    | none => s.answer q (ansArg 0)
    | some x =>
      if x.state != .active then s.answer q (ansOk [])
      else if x.begun then (s.modSession x.handle fun y => { y with stopping := true }).answer q (ansOk [])
      else ((s.dropRound x.handle).modSession x.handle fun y => { y with state := .stopped }).answer q (ansOk []))

/-- SESSION_DELETE (0x060A): after a committed round, whose result is discarded (R582); at once otherwise. -/
def execSessionDelete (r : Req) (p : List Byte) (s : State) : Result :=
  .next (s.serve ⟨.A, 0x060A, 0⟩ r p [isLength p 4, s.okId p] fun q s =>
    match s.sessionById (fieldAt p 0 4) with
    | none => s.answer q (ansArg 0)
    | some x =>
      let s := (s.accept q).modSession x.handle fun y => { y with deletion := some q }
      if x.begun then s else s.dropSession x.handle)

/-- SESSION_PSDU (0x060B): used from the next round whose commit has not passed. -/
def execSessionPsdu (r : Req) (p : List Byte) (s : State) : Result :=
  let len := fieldAt p 6 2
  .next (s.serve ⟨.A, 0x060B, 5⟩ r p [hasLength p 8, isLength p (8 + len), s.okId p, isZero p 5 1] fun q s =>
    match s.sessionById (fieldAt p 0 4) with
    | none => s.answer q (ansArg 0)
    | some x =>
      let slot := byteAt p 4
      if !(x.slots.any fun y => y.1 == slot && y.2) then s.answer q (ansArg 4)
      else if !x.phy.fits len then s.answer q (ansArg 6)
      else (s.modSession x.handle fun y => { y with psdus := y.psdus.filter (fun z => z.1 != slot) ++ [(slot, p.drop 8)] }).answer q (ansOk []))

/-- REMOTE_INTERVALS (0x060C, R444): for the present round or one that waits; LATE after the round timeout. -/
def execRemoteIntervals (r : Req) (p : List Byte) (s : State) : Result :=
  let n := fieldAt p 4 4
  let given := some (fieldAt p 8 4, fieldAt p 12 4)
  .next (s.serve ⟨.A, 0x060C, 5⟩ r p [isLength p 16, s.okId p] fun q s =>
    match s.sessionById (fieldAt p 0 4) with
    | none => s.answer q (ansArg 0)
    | some x =>
      match firstThat (fun y => y.r == n) x.waiting with
      | some w =>
        if w.deadline < s.ltu.now then s.answer q (ansLate 0)
        else
          let s := s.modSession x.handle fun y => { y with waiting := y.waiting.filter fun z => z.r != n }
          (s.answer q (ansOk [])).roundResult x { w with remote := given } false
      | none =>
        let now := (x.round.map (·.r)).getD 0
        if x.round.isSome && now == n then (s.modRound x.handle fun y => { y with remote := given }).answer q (ansOk [])
        else if x.round.isSome && decide (now < n) then s.answer q (ansArg 4)
        else s.answer q (ansLate 0))

/-! ### The regulatory store and the antenna -/

/-- A session on a channel that is barred now stops with LOCKED: its waiting activities end, a committed one goes on, and a
round that has begun keeps its result (R447). -/
def State.lockSession (s : State) (x : Session) : State :=
  let mine (a : RadioAct) : Bool := a.session == some x.handle
  let waiting := s.uwb.acts.filter mine
  let s := s.modUwb fun u => { u with acts := u.acts.filter fun a => !mine a }
  let s := s.each waiting fun s a => s.endAct a stLocked 0
  if x.begun then s.modSession x.handle fun y => { y with stopping := true }
  else s.modSession x.handle fun y => { y with state := .stopped, round := none }

/-- REG_WRITE (0x060D, R436). -/
def execRegWrite (r : Req) (p : List Byte) (s : State) : Result :=
  .next (s.serve ⟨.A, 0x060D, 0⟩ r p [isLength p 32, okArg 0 (fieldAt p 0 4 == 0x47525957), okArg 4 (fieldAt p 4 2 == 1),
      okArg 6 (decide (fieldAt p 6 2 ≤ 3))] fun q s =>
    let write (s : State) : State :=
      let s := s.writeStore p
      -- sessions on a channel now cleared stop with LOCKED (R447)
      let s := s.each (s.uwb.sessions.filter fun x => x.state == .active && s.barred x.phy.channel) State.lockSession
      s.answer q (ansOk (le 4 (fieldAt (s.regStore.getD []) 32 4)))
    if s.sec.marketFuse then
      match s.regStore with
      | some c => if tighter c p then write s else s.answer q (ansLocked 0)
      | none => s.answer q (ansLocked 0)
    else if s.lifecycle == 2 || s.lifecycle == 4 then s.answer q (s.ansState blkLifecycle)
    else write s)

/-- REG_READ (0x060E). -/
def execRegReadRegulatory (r : Req) (p : List Byte) (s : State) : Result :=
  .next (s.serve ⟨.C, 0x060E, 0⟩ r p [isLength p 0] fun q s => match s.regStore with
    | some c => s.answer q (ansOk c)
    | none => s.answer q (s.ansState blkNoStore))

/-- ANT_DELAY (0x060F, R424). -/
def execAntDelay (r : Req) (p : List Byte) (s : State) : Result :=
  .next (s.serve ⟨.A, 0x060F, 0⟩ r p [isLength p 12, okArg 0 (among (byteAt p 0) [5, 9]), isZero p 1 3] fun q s =>
    if s.lifecycle == 2 || s.lifecycle == 4 then s.answer q (s.ansState blkLifecycle)
    else (s.modUwb fun u => { u with
      delays := vmod (fun _ => (fieldAt p 4 4, fieldAt p 8 4)) u.delays (chanIdx (byteAt p 0)) }).answer q (ansOk []))

/-- LISTEN_CFG (0x0610, R446). -/
def execListenCfg (r : Req) (p : List Byte) (s : State) : Result :=
  .next (s.serve ⟨.A, 0x0610, 4⟩ r p [isLength p 24, okArg 0 (among (byteAt p 0) [5, 9]), okArg 1 (within 9 32 (byteAt p 1)),
      okArg 2 (among (byteAt p 2) [0, 3]), isZero p 3 1, okArg 4 (within 2 100 (fieldAt p 4 2)),
      okArg 6 (within 20 2000 (fieldAt p 6 2))] fun q s =>
    (s.modUwb fun u => { u with listen := some ⟨byteAt p 0, byteAt p 1, byteAt p 2, fieldAt p 4 2, fieldAt p 6 2,
      (p.drop 8).take 8, (p.drop 16).take 8⟩, nextWindow := none }).answer q (ansOk []))

end Sys2Proof.Machine
end

