-- ==== Sys2Proof/Machine/Triggers.lean ====
section
/-! DEFINITION. Triggers (R370 to R374, R607) and captures (R375 to R380), with their messages (R571). -/

namespace Sys2Proof.Machine

def State.trigger (s : State) (j : Nat) : TrigState := vget {} s.ltu.trig j
def State.modTrig (s : State) (j : Nat) (f : TrigState → TrigState) : State :=
  s.modLtu fun u => { u with trig := vmod f u.trig j }
def State.setTrigTime (s : State) (j : Nat) (t : Time) : State :=
  s.putTimeRec (TRIG_T_SEC_LO.sec_lo j) (TRIG_T_SEC_HI.sec_hi j) (TRIG_T_NS.ns j) (TRIG_T_FRAC.frac j) t

/-- A trigger is armed (R371, R374): a one-shot whose fire time has passed is late; a periodic one takes the first
instant of its grid. -/
def State.armTrigger (s : State) (j : Nat) : State :=
  let t := s.trigTime j
  let per := (s.trigger j).per * nanosecond
  let s := (s.flag (TRIG_CFG.en j)).modTrig j fun x => { x with late := false }
  if per == 0 then s.modTrig j fun x => { x with late := decide (t < s.ltu.now) }
  else s.setTrigTime j (gridFrom t per s.ltu.now)

/-- TRIGGER_ENABLE (R371). -/
def execTriggerEnable (trigger : Fin 32) (s : State) : Result := whileLive s fun s =>
  if s.is (TRIG_CFG.en trigger) then .next s else .next (s.armTrigger trigger)

/-- An edge is placed at a local time: the tick at or before it, and round((t' − T) × 64 / inc) (R382). -/
def State.place (s : State) (t : Time) : Placed :=
  let inc := max 1 s.incNow
  let n := (t - s.ltu.markT) / inc
  let tick := s.ltu.markT + n * inc
  let tap := (2 * (t - tick) * 64 + inc) / (2 * inc)
  if tap == 64 then ⟨tick + inc, 0⟩ else ⟨tick, tap⟩

/-- The triggers whose outputs are active on a pin, in ascending number. -/
def State.activeOn (s : State) (p : Nat) : List Nat :=
  (List.range 32).filter fun j => (s.trigger j).active && s.get (TRIG_CFG.out_pin j) == p

/-- The levels of the TRIG_OUT pins (R373). -/
def State.showPins (s : State) : State :=
  let rest : Vector Bool 4 := Vector.ofFn fun p => match s.activeOn p with
    | [] => s.ltu.pinRest[p]
    | j :: _ => s.is (TRIG_CFG.out_low j)
  let level : Vector Bool 4 := Vector.ofFn fun p => if (s.activeOn p).isEmpty then rest[p] else !rest[p]
  s.modLtu fun u => { u with pinRest := rest, pin := level }

/-- An instant at which R367 suppresses outputs: a step is pending, and the instant lies in [t_arm, S]. -/
def State.stepExcludes (s : State) (t : Time) : Bool := match s.ltu.step with
  | some p => decide (p.tArm ≤ t) && decide (t ≤ p.second * second)
  | none => false

/-- A firing reaches a DSP core, or is dropped and counted when the core has no clock or is held (R372, R374, R607). -/
def State.fireCore (s : State) (j n : Nat) : State :=
  if s.coreClock && (s.core n).running then s.dspTrigger n j else s.bump (TRIG_ROUTE.skipped j)

/-- A firing of an armed capture's trigger gives its t_start (R329); one while the capture runs is ignored and counted (R348). -/
def State.fireCapture (s : State) (j : Nat) (t : Time) : State := match s.snap.capture with
  | some c =>
    if c.trigger != j then s
    else if c.run.isSome then s.tally 12 1
    else s.modSnap fun n => { n with capture := some { c with fired := some (c.fired.getD t) } }
  | none => s

/-- A firing goes to its targets (R372): DSP cores, the host, the thresher pass, and the capture, that name the trigger. -/
def State.fireTargets (s : State) (j : Nat) (t : Time) (late : Bool) : State :=
  let s := s.each ((List.range 16).filter fun n => bit (s.get (TRIG_ROUTE.dsp j)) n) fun s n => s.fireCore j n
  let s := s.when (s.is (TRIG_ROUTE.host j)) (·.emitAt t (evTrigger j (b2n late) (s.get (TRIG_ROUTE.skipped j))))
  (s.thrTrigger j t).fireCapture j t

/-- The output of a firing that is not late (R373). -/
def State.fireOutput (s : State) (j : Nat) (t : Time) : State :=
  if s.is (TRIG_CFG.out_en j) && !s.stepExcludes t then
    (s.modTrig j fun x => { x with active := true, lead := some (s.place t) }).showPins
  else s

/-- TRIGGER_FIRE (R371, R374). -/
def execTriggerFire (trigger : Fin 32) (s : State) : Result := whileLive s fun s =>
  let j := trigger.val
  if !s.is (TRIG_CFG.en j) || s.frozen then .next s
  else
    let tf := s.trigTime j
    let late := (s.trigger j).late || !s.onFab
    let s := s.advanceTo (if late then max tf (s.clockNow + s.tickInc) else tf)
    let t := if late then s.ltu.now else tf
    let per := (s.trigger j).per * nanosecond
    let s := ((s.flag (TRIG_CFG.fired j)).modTrig j fun x => { x with late := false }).put (TRIG_T_NS.late j) (b2n late)
    let s := if late then (s.flag (TRIG_CFG.late j)).flag TIME_EVENT.trig_late else s
    let next := if late then gridFrom (tf + per) per (t + 1) else tf + per
    let s := if per == 0 then s.put (TRIG_CFG.en j) 0
      else (s.setTrigTime j next).bumpBy (TRIG_ROUTE.skipped j) (if late then (next - tf) / per - 1 else 0)
    let s := s.fireTargets j t late
    .next (if late then s else s.fireOutput j t)

/-- TRIG_OUT_END (R373): the trailing edge, width_ticks later at the same tap, to which the clock is brought. -/
def execTrigOutEnd (trigger : Fin 32) (s : State) : Result := whileLive s fun s =>
  let j := trigger.val
  if !(s.trigger j).active then .next s
  else
    let width := max 1 (s.get (TRIG_CFG.width_ticks j)) * s.incNow
    let s := match (s.trigger j).lead with
      | some e => s.advanceTo (e.tick + width)
      | none => s
    .next (s.modTrig j fun x => { x with active := false, trail := x.lead.map fun e => ⟨e.tick + width, e.tap⟩ }).showPins

/-- Whether a trigger serves a unit (R607): a thresher pass, a capture, or an open core. -/
def State.trigServes (s : State) (j : Nat) : Bool :=
  let names (p : Option ThrPass) : Bool := match p with
    | some p => p.startMode == 1 && p.trigger == j
    | none => false
  let cap := match s.snap.capture with
    | some c => c.trigger == j
    | none => false
  names s.thr.running || names s.thr.queued || cap ||
    (List.range 4).any fun k => bit (vget ({} : Kernel) s.dsp.kernels k).triggers j

/-! ### Captures -/

/-- The edges that a channel selects (CAP_CFG.edge): 0 is stored as 1. -/
def State.capSelects (s : State) (i : Nat) (rising : Bool) : Bool :=
  let e := s.get (CAP_CFG.edge i)
  if rising then e != 2 else e == 2 || e == 3

/-- The captured time of an edge, and whether it is coarse (R377). -/
def State.capTime (s : State) (tick tap : Nat) : Time :=
  if s.onFab then s.ltu.markT + tick * s.incNow + tap * s.incNow / 128 else s.ltu.now

/-- The window of a channel holds a time (R378, R10). -/
def State.capInside (s : State) (i : Nat) (t : Time) : Bool :=
  !s.is (CAP_CFG.win_en i) ||
    (decide (s.timeRec (CAP_OPEN_SEC_LO.sec_lo i) (CAP_OPEN_SEC_HI.sec_hi i) (CAP_OPEN_NS.ns i) (CAP_OPEN_FRAC.frac i) ≤ t) &&
      decide (t < s.timeRec (CAP_CLOSE_SEC_LO.sec_lo i) (CAP_CLOSE_SEC_HI.sec_hi i) (CAP_CLOSE_NS.ns i) (CAP_CLOSE_FRAC.frac i)))

/-- A capture is kept, or counted as not kept (R378 to R380). -/
def State.capture (s : State) (i : Nat) (rising : Bool) (t : Time) : State :=
  if !s.capInside i t then s.bump (CAP_STATUS.outside i)
  else if s.is (CAP_STATUS.valid i) then
    ((s.flag (CAP_STATUS.overrun i)).bump (CAP_STATUS.missed i)).flag TIME_EVENT.cap_overrun
  else
    let coarse := !s.onFab
    let s := s.putTimeRec (CAP_RESULT_SEC_LO.sec_lo i) (CAP_RESULT_SEC_HI.sec_hi i) (CAP_RESULT_NS.ns i) (CAP_RESULT_FRAC.frac i) t
    let s := ((s.put (CAP_RESULT_NS.coarse i) (b2n coarse)).flag (CAP_STATUS.valid i)).put (CAP_STATUS.rising i) (b2n rising)
    s.when (s.is (CAP_CFG.host_irq i)) (·.emitAt t (evCapture i (b2n rising) (b2n coarse)))

/-- CAPTURE_EDGE (R375 to R380): an edge on the channel's source, in the present marker interval, or before the next tick of
another source, to which the clock is brought; `close` says that it was missed because it came too soon after another. -/
def execCaptureEdge (channel : Fin 16) (rising : Bool) (tick : Fin 375) (tap : Fin 128) (close : Bool) (s : State) : Result := whileLive s fun s =>
  let i := channel.val
  if !s.is (CAP_CFG.en i) || s.frozen || decide (0x15 ≤ s.get (CAP_CFG.src i)) || !s.capSelects i rising then .next s
  else if close then .next (s.bump (CAP_STATUS.missed i))
  else
    let s := s.advanceTo (if s.onFab then s.ltu.markT + tick.val * s.incNow else s.ltu.now + 1)
    let t := s.capTime tick tap
    .next (s.capture i rising t)

/-- CAP_RESULT_READ (R379): the read that completes the sequence clears valid. -/
def State.capRead (s : State) (i : Nat) : State :=
  (s.put (CAP_STATUS.valid i) 0).modLtu fun u => { u with capSq := vmod (fun _ => false) u.capSq i }
def execCapResultRead (channel : Fin 16) (s : State) : Result := whileLive s fun s => .next (s.capRead channel)

/-- CAP_OVERRUN_CLEAR (R379). -/
def State.capClear (s : State) (i : Nat) : State := (s.put (CAP_STATUS.overrun i) 0).put (CAP_STATUS.missed i) 0
def execCapOverrunClear (channel : Fin 16) (s : State) : Result := whileLive s fun s => .next (s.capClear channel)

/-! ### Messages (R571) -/

/-- The trigger of a request is open to the host (R370), and serves no unit (R607). -/
def State.hostTrigger (s : State) (p : List Byte) : Bool := decide (byteAt p 0 < 24)

/-- A period of R371: 0, or 1 µs to 2^40 − 1 ns. -/
def okPeriod (v : Nat) : Bool := v == 0 || (decide (1000 ≤ v) && decide (v < 2 ^ 40))

/-- TRIG_ARM (0x0404): any earlier arming is replaced. -/
def execTrigArm (r : Req) (p : List Byte) (s : State) : Result :=
  .next (s.serve ⟨.H, 0x0404, 4⟩ r p
    [isLength p 28, okArg 0 (s.hostTrigger p), okArg 1 (decide (byteAt p 1 < 32)), okTime p 4,
      okArg 20 (okPeriod (fieldAt p 20 8))] fun q s =>
    let j := byteAt p 0
    let route := byteAt p 1
    if s.trigServes j then s.answer q ansBusy
    else
      let s := ((s.put (TRIG_CFG.en j) 0).put (TRIG_ROUTE.host j) route).put (TRIG_CFG.out_en j) (route / 2)
      let s := (s.put (TRIG_CFG.out_pin j) (route / 4)).put (TRIG_CFG.out_low j) (route / 16)
      let s := (s.put (TRIG_CFG.width_ticks j) (max 1 (fieldAt p 2 2))).setTrigTime j (timeAt p 4)
      let per := fieldAt p 20 8
      let s := (s.put (TRIG_PER_LO.per_lo j) per).put (TRIG_PER_HI.per_hi j) (per / 2 ^ 32)
      ((s.modTrig j fun x => { x with per := per }).armTrigger j).answer q (ansOk []))

/-- TRIG_CANCEL (0x0405). -/
def execTrigCancel (r : Req) (p : List Byte) (s : State) : Result :=
  .next (s.serve ⟨.H, 0x0405, 4⟩ r p [isLength p 4, okArg 0 (s.hostTrigger p), isZero p 1 3] fun q s =>
    if s.trigServes (byteAt p 0) then s.answer q ansBusy
    else ((s.put (TRIG_CFG.en (byteAt p 0)) 0).modTrig (byteAt p 0) fun x => { x with late := false }).answer q (ansOk []))

/-- CAP_CFG (0x0406). -/
def execCapCfg (r : Req) (p : List Byte) (s : State) : Result :=
  .next (s.serve ⟨.A, 0x0406, 4⟩ r p
    [isLength p 36, okArg 0 (decide (byteAt p 0 < 16)), okArg 1 (decide (byteAt p 1 < 0x15)),
      okArg 2 (decide (byteAt p 2 < 4)), okArg 3 (decide (byteAt p 3 < 16)), okTime p 4, okTime p 20] fun q s =>
    let i := byteAt p 0
    let f := byteAt p 3
    let s := ((s.put (CAP_CFG.src i) (byteAt p 1)).put (CAP_CFG.edge i) (max 1 (byteAt p 2))).put (CAP_CFG.en i) f
    let s := ((s.put (CAP_CFG.win_en i) (f / 2)).put (CAP_CFG.host_irq i) (f / 4)).put (CAP_CFG.host i) (f / 8)
    let s := s.putTimeRec (CAP_OPEN_SEC_LO.sec_lo i) (CAP_OPEN_SEC_HI.sec_hi i) (CAP_OPEN_NS.ns i) (CAP_OPEN_FRAC.frac i) (timeAt p 4)
    let s := s.putTimeRec (CAP_CLOSE_SEC_LO.sec_lo i) (CAP_CLOSE_SEC_HI.sec_hi i) (CAP_CLOSE_NS.ns i) (CAP_CLOSE_FRAC.frac i) (timeAt p 20)
    (s.modLtu fun u => { u with capSq := vmod (fun _ => false) u.capSq i }).answer q (ansOk []))

/-- CAP_READ (0x0407, R379). -/
def execCapRead (r : Req) (p : List Byte) (s : State) : Result :=
  .next (s.serve ⟨.H, 0x0407, 4⟩ r p [isLength p 4, okArg 0 (decide (byteAt p 0 < 16)), isZero p 1 3] fun q s =>
    let i := byteAt p 0
    let body := le 1 (s.get (CAP_STATUS.valid i)) ++ le 1 (s.get (CAP_STATUS.rising i)) ++
      le 1 (s.get (CAP_STATUS.missed i)) ++ le 1 (s.get (CAP_STATUS.outside i)) ++
      le 4 (s.get (CAP_RESULT_SEC_LO.sec_lo i)) ++ le 4 (s.get (CAP_RESULT_SEC_HI.sec_hi i)) ++
      le 4 (s.get (CAP_RESULT_NS.ns i) + s.get (CAP_RESULT_NS.coarse i) * 2 ^ 30) ++ le 4 (s.get (CAP_RESULT_FRAC.frac i))
    (s.capRead i).answer q (ansOk body))

/-- TIME_GET (0x0401). -/
def execTimeGet (r : Req) (p : List Byte) (s : State) : Result :=
  .next (s.serve ⟨.H, 0x0401, 0⟩ r p [isLength p 0] fun q s =>
    let flags := s.get TIME_STATUS.degraded + 2 * s.get TIME_STATUS.slewing + 4 * s.get TIME_STATUS.step_pending +
      8 * s.get TIME_STATUS.spoof_hold + 16 * s.get TIME_UTC.valid
    s.answer q (ansOk (timeBytes s.clockNow ++ le 4 s.uncNow ++ le 2 (s.get TIME_UTC.offset) ++ le 1 (s.get TIME_UTC.leap) ++
      le 1 (s.get TIME_STATUS.source) ++ le 1 flags ++ le 1 (s.get TIME_STATUS.tick_src) ++ le 2 (s.get TIME_UTC.leap_month))))

/-- TIME_CFG (0x0402): values outside the registers' ranges are stored as those registers state. -/
def execTimeCfg (r : Req) (p : List Byte) (s : State) : Result :=
  .next (s.serve ⟨.A, 0x0402, 0⟩ r p [isLength p 12, okArg 5 (decide (byteAt p 5 < 4)), isZero p 10 2] fun q s =>
    let s := (s.put TIME_CTRL.step_threshold (clampNat 1 1048575 (fieldAt p 0 4))).put TIME_CTRL.slew_max (max 1 (byteAt p 4))
    let s := (s.put TIME_SRC_CFG.gnss_en (byteAt p 5)).put TIME_SRC_CFG.ptp_en (byteAt p 5 / 2)
    let s := (s.put TIME_SRC_CFG.loss_timeout (max 1 (byteAt p 6))).put TIME_SRC_CFG.qual_count (clampNat 1 15 (byteAt p 7))
    let s := (s.put TIME_SRC_CFG.rtc_drift (max 1 (byteAt p 8))).put TIME_SRC_CFG.spoof_hold (max 1 (byteAt p 9))
    s.chooseSource.answer q (ansOk []))

/-- UTC_SET (0x0403, R369). -/
def execUtcSet (r : Req) (p : List Byte) (s : State) : Result :=
  let leap := byteAt p 2
  let month := fieldAt p 4 2
  .next (s.serve ⟨.A, 0x0403, 0⟩ r p
    [isLength p 8, okArg 2 (decide (leap < 3)), isZero p 3 1,
      okArg 4 (leap == 0 || (decide (month ≤ 8191) && decide (s.utcMonth (sfieldAt p 0 2) ≤ month))), isZero p 6 2] fun q s =>
    (s.takeUtc 1 (sfieldAt p 0 2) leap month).answer q (ansOk []))

end Sys2Proof.Machine
end

