-- ==== Sys2Proof/Machine/Pulses.lean ====
section
/-! DEFINITION. Time pulses (R381 to R386), the 40-bit values of R608, and the pulses' message. -/

namespace Sys2Proof.Machine

def State.pulse (s : State) (k : Nat) : TpState := vget {} s.ltu.tp k
def State.modPulse (s : State) (k : Nat) (f : TpState → TpState) : State :=
  s.modLtu fun u => { u with tp := vmod f u.tp k }

/-- A write of what places a pulse: no pulse is emitted within 2 ms of it (R383 cause 5). -/
def State.gridWrite (s : State) (k : Nat) : State := s.modPulse k fun p => { p with wrote := some s.ltu.now }

/-- Pulses run in WATCH to HARVEST (R383 cause 6, R496). -/
def State.pulseMode (s : State) : Bool := decide (4 ≤ s.mode) && decide (s.mode ≤ 7)

/-- The first instant of a pulse's grid at or after a time (R381), on the UTC scale where TP_CFG.utc_align is 1. -/
def State.tpGrid (s : State) (k : Nat) (t : Time) : Time :=
  let p := s.pulse k
  let per : Int := (max 1 p.per * nanosecond : Nat)
  let shift : Int := if s.is (TP_CFG.utc_align k) then s.getInt TIME_UTC.offset * (second : Nat) else 0
  let base : Int := (p.phase * nanosecond : Nat) + shift
  addTime t (-(((t : Int) - base) % per) + (if ((t : Int) - base) % per == 0 then 0 else per))

/-- The next instant to be decided: at or after the present time, after the last one decided, and strictly after the
time from which pulses resume after a step (R367). -/
def State.nextInstant (s : State) (k : Nat) : Time :=
  let from1 := match (s.pulse k).last with
    | some t => max s.ltu.now (t + 1)
    | none => s.ltu.now
  let from2 := match s.ltu.resume with
    | some t => max from1 (t + 1)
    | none => from1
  s.tpGrid k from2

/-- The cable delay in units of local time (TP_CABLE), limited to ±8.388 ms by its width (R382). -/
def State.cable (s : State) (k : Nat) : Int := s.getInt (TP_CABLE.cable k) * 16777216

/-- Why a pulse is not emitted, 0 when it is (R383). -/
def State.tpCause (s : State) (k : Nat) (t : Time) : Nat :=
  let src := s.get TIME_STATUS.source
  let gate := s.get (TP_CFG.gate k)
  let recent := match (s.pulse k).wrote with
    | some w => decide (s.ltu.now < w + 2000000 * nanosecond)
    | none => false
  if !s.onFab || s.frozen then 1
  else if s.stepExcludes t then 2
  else if !(gate == 0 || (gate == 1 && decide (src < 2)) || (decide (2 ≤ gate) && decide (src < 3))) then 3
  else if decide (s.get (TP_UNC_LIMIT.limit k) < s.uncNow) then 4
  else if recent then 5
  else if !s.pulseMode then 6
  else 0

/-- The companion record of an instant as its decision fixes it (R385). -/
def State.tpRecord (s : State) (k : Nat) (t : Time) (cause : Nat) : TpRecord :=
  let p := s.pulse k
  let src := s.get TIME_STATUS.source
  { source := src
    flags := b2n (cause == 0) + 2 * b2n (src == 2) + 4 * s.get TIME_STATUS.degraded + 8 * s.get TIME_STATUS.slewing +
      16 * b2n p.stepped + 32 * b2n p.discont + 128 * s.get TIME_STATUS.spoof_hold + 256 * cause
    seq := p.seq, label := t, unc := s.uncNow, utc := s.get TIME_UTC.offset, leap := s.get TIME_UTC.leap }

/-- The bytes of a companion record (R385). -/
def tpBytes (k : Nat) (r : TpRecord) : List Byte :=
  le 1 k ++ le 1 r.source ++ le 2 r.flags ++ le 4 r.seq ++ le 8 (tSec r.label) ++ le 4 (tNs r.label) ++ le 4 r.unc ++
    le 2 r.utc ++ le 1 r.leap

/-- A complete record is held, and sent as TP_STATUS where that is asked for (R385). -/
def State.tpComplete (s : State) (k : Nat) (r : TpRecord) : State :=
  let s := ((s.put (TP_LAST.flags k) r.flags).put (TP_LAST.source k) r.source).put (TP_SEQ.seq k) r.seq
  let s := s.putTimeRec (TP_LABEL_SEC_LO.sec_lo k) (TP_LABEL_SEC_HI.sec_hi k) (TP_LABEL_NS.ns k) (TP_LABEL_FRAC.frac k) r.label
  let s := s.modPulse k fun p => { p with record := some r }
  s.when (s.is (TP_CFG.status_evt k)) (·.emit (evTpStatus (tpBytes k r)))

/-- An instant is decided (R383, R385): its TP event leaves, a pulse that is suppressed has its record at once, and one
that is emitted waits for its edges. -/
def State.tpDecide (s : State) (k : Nat) (t : Time) : State :=
  let cause := s.tpCause k t
  let r := s.tpRecord k t cause
  let s := s.modPulse k fun p => { p with last := some t, seq := (p.seq + 1) % 2 ^ 32, stepped := false, discont := false }
  let s := s.when (s.is (TP_CFG.event k)) (·.emit (evTp k r.flags r.seq))
  if cause == 0 then s.modPulse k fun p => { p with shown := p.shown ++ [r] }
  else (s.flag TIME_EVENT.tp_suppressed).tpComplete k r

/-- TP_DECISION (R383): at the earlier of the next instant and its leading edge. -/
def execTpDecision (pulse : Fin 4) (s : State) : Result := whileLive s fun s =>
  let k := pulse.val
  if !s.is (TP_CFG.en k) || s.frozen then .next s
  else
    let t := s.nextInstant k
    .next ((s.advanceTo (min t (addTime t (-(s.cable k))))).tpDecide k t)

/-- TP_LEADING_EDGE (R382). -/
def execTpLeadingEdge (pulse : Fin 4) (s : State) : Result := whileLive s fun s =>
  let k := pulse.val
  match (s.pulse k).shown with
  | r :: _ =>
    if (s.pulse k).high || !s.onFab then .next s
    else
      let t := addTime r.label (-(s.cable k))
      let s := s.advanceTo t
      .next (s.modPulse k fun p => { p with high := true, lead := some (s.place t) })
  | [] => .next s

/-- TP_TRAILING_EDGE (R382, R385). -/
def execTpTrailingEdge (pulse : Fin 4) (s : State) : Result := whileLive s fun s =>
  let k := pulse.val
  match (s.pulse k).shown with
  | r :: _ =>
    if !(s.pulse k).high || !s.onFab then .next s
    else
      let t := addTime (addTime r.label (-(s.cable k))) ((s.pulse k).width * nanosecond : Nat)
      let s := s.advanceTo t
      .next ((s.modPulse k fun p => { p with trail := some (s.place t), shown := p.shown.drop 1, high := false }).tpComplete k r)
  | [] => .next s

/-- The gates close: a pulse decided or in its high time is truncated, and its record says so (R384). -/
def State.tpTruncate (s : State) : State :=
  s.each (List.range 4) fun s k =>
    let rs := (s.pulse k).shown
    (s.modPulse k fun p => { p with shown := [], high := false }).each rs fun s r => s.tpComplete k { r with flags := r.flags + 64 }

/-- The instants of the enabled pulses that passed in a freeze form their records at the thaw, cause 0x1 (R391): the
instants after `old` and up to `new`. -/
def State.tpPassed (s : State) (k : Nat) : Nat → Time → Time → State
  | 0, _, _ => s
  | n + 1, old, new =>
    let t := s.tpGrid k (old + 1)
    if new < t then s
    else
      let r := s.tpRecord k t 1
      let s := s.modPulse k fun p => { p with last := some t, seq := (p.seq + 1) % 2 ^ 32, stepped := false, discont := false }
      let s := s.when (s.is (TP_CFG.event k)) (·.emit (evTp k r.flags r.seq))
      ((s.flag TIME_EVENT.tp_suppressed).tpComplete k r).tpPassed k n t new

def State.tpThaw (s : State) (old new : Time) : State :=
  s.each (List.range 4) fun s k =>
    if s.is (TP_CFG.en k) then s.tpPassed k ((new - old) / (max 1 (s.pulse k).per * nanosecond) + 1) old new else s

/-! ### 40-bit values (R608) -/

/-- The period of a pulse in force: 1 ms to 1,000 s; a width above half of it is lowered. -/
def State.setTpPeriod (s : State) (k v : Nat) : State :=
  let per := clampNat 1000000 1000000000000 v
  let s := (s.put (TP_PER_LO.per_lo k) per).put (TP_PER_HI.per_hi k) (per / 2 ^ 32)
  let width := min (s.pulse k).width (per / 2)
  let s := if width == (s.pulse k).width then s
    else (s.put (TP_WIDTH.width k) width).put (TP_WIDTH_HI.width_hi k) (width / 2 ^ 32)
  s.modPulse k fun p => { p with per := per, width := width, wrote := some s.ltu.now }

/-- The width in force: 100 ns to half the period. -/
def State.setTpWidth (s : State) (k v : Nat) : State :=
  let width := clampNat 100 ((s.pulse k).per / 2) v
  ((s.put (TP_WIDTH.width k) width).put (TP_WIDTH_HI.width_hi k) (width / 2 ^ 32)).modPulse k fun p => { p with width := width }

def State.setTpPhase (s : State) (k v : Nat) : State :=
  ((s.put (TP_PHASE_LO.ph_lo k) v).put (TP_PHASE_HI.ph_hi k) (v / 2 ^ 32)).modPulse k fun p =>
    { p with phase := v % 2 ^ 40, wrote := some s.ltu.now }

/-- The period of a trigger: a non-zero period below 1,000 is stored as 1,000. -/
def State.setTrigPeriod (s : State) (j v : Nat) : State :=
  let per := if v == 0 then 0 else max 1000 v
  ((s.put (TRIG_PER_LO.per_lo j) per).put (TRIG_PER_HI.per_hi j) (per / 2 ^ 32)).modTrig j fun x => { x with per := per }

/-- A write of a low word forms the value from it and the staged high bits. -/
def State.wideWrite (s : State) (w : Wide) (low : Nat) : State := match w with
  | .trigPeriod j => s.setTrigPeriod j (low + s.get (TRIG_PER_HI.per_hi j) * 2 ^ 32)
  | .tpPeriod k => s.setTpPeriod k (low + s.get (TP_PER_HI.per_hi k) * 2 ^ 32)
  | .tpWidth k => s.setTpWidth k (low + s.get (TP_WIDTH_HI.width_hi k) * 2 ^ 32)
  | .tpPhase k => s.setTpPhase k (low + s.get (TP_PHASE_HI.ph_hi k) * 2 ^ 32)

/-- WIDE_WRITE (R608). -/
def execWideWrite (which : Wide) (low : Word) (s : State) : Result := whileLive s fun s => .next (s.wideWrite which low.toNat)

/-- A pulse is enabled or disabled: no instant before the present is decided. -/
def State.setTpEnable (s : State) (k : Nat) (en : Bool) : State :=
  let s := if en && !s.is (TP_CFG.en k) then s.modPulse k fun p => { p with last := none } else s
  s.put (TP_CFG.en k) (b2n en)

/-- TP_CFG (0x0408): values out of range are stored as the registers state. -/
def execTpCfg (r : Req) (p : List Byte) (s : State) : Result :=
  .next (s.serve ⟨.A, 0x0408, 4⟩ r p
    [isLength p 36, okArg 0 (decide (byteAt p 0 < 4)), okArg 1 (decide (byteAt p 1 < 128)), isZero p 2 2,
      isZero p 17 3] fun q s =>
    let k := byteAt p 0
    let f := byteAt p 1
    let s := (s.put (TP_CFG.gate k) (min 2 (f / 2 % 4))).put (TP_CFG.active_low k) (f / 8)
    let s := ((s.put (TP_CFG.utc_align k) (f / 16)).put (TP_CFG.event k) (f / 32)).put (TP_CFG.status_evt k) (f / 64)
    let s := (s.setTpPeriod k (fieldAt p 4 8)).setTpWidth k (fieldAt p 12 5)
    let s := s.setTpPhase k (fieldAt p 20 8)
    let s := (s.put (TP_CABLE.cable k) (fieldAt p 28 4)).put (TP_UNC_LIMIT.limit k) (fieldAt p 32 4)
    (s.setTpEnable k (bit f 0)).answer q (ansOk []))

end Sys2Proof.Machine
end

