-- ==== Sys2Proof/Machine/Serial.lean ====
section
/-! DEFINITION. The UARTs, their card and LIN modes, and the check-value units (R449 to R478). -/

namespace Sys2Proof.Machine

def State.uart (s : State) (n : Nat) : UartState := vget {} s.uarts n
def State.modUart (s : State) (n : Nat) (f : UartState → UartState) : State := { s with uarts := vmod f s.uarts n }
def State.cvu (s : State) (c : Nat) : CvuState := vget {} s.cvus c
def State.modCvu (s : State) (c : Nat) (f : CvuState → CvuState) : State := { s with cvus := vmod f s.cvus c }

/-- Modes of a UART (UART_CTRL.mode). -/
def State.cardMode (s : State) (n : Nat) : Bool := s.get (UART_CTRL.mode n) == 1
def State.linMode (s : State) (n : Nat) : Bool := s.get (UART_CTRL.mode n) == 2

/-- CK_PER runs for the UARTs (R449). -/
def State.perClock (s : State) (n : Nat) : Bool := !s.is (UART_STATUS.engine_stopped n)

/-- A UART event (R459): while it is enabled and the UART is delegated to the host, vector 5 + n is signalled (R539). -/
def State.uartEvent (s : State) (n : Nat) (f : Field) : State :=
  let s := s.flag f
  s.when (s.is ⟨UART_IRQ_EN n, f.lo, 1⟩ && s.get (UART_OWNER.owner n) == 0x20) (·.sendVector (5 + n))

/-- An event of a check-value unit, with vector 13 + c (CVU_CFG.irq_en, R539). -/
def State.cvuEvent (s : State) (c : Nat) (f : Field) : State :=
  let s := s.flag f
  s.when (s.is (CVU_CFG.irq_en c) && s.get (CVU_OWNER.owner c) == 0x20) (·.sendVector (13 + c))

/-- The divisor of a UART in 1/16 (R453). -/
def State.divisor (s : State) (n : Nat) : Nat := s.get (UART_DIV.div n) * (if s.is (UART_DIV.x8 n) then 8 else 1)

/-- The divisor a character moves at: that of the LIN frame in progress, which automatic baud may have set, else the port's
own (R453, R468). -/
def State.charDivisor (s : State) (n : Nat) (u : UartState) : Nat := match u.lin with
  | some f => f.div
  | none => s.divisor n

/-- A bit time in local time: 16 × DIV cycles of CK_PER, of 4 CK_FAB cycles each (R49, R453). -/
def State.bitTime (s : State) (div : Nat) : Time := 4 * div * s.ltu.inc

/-! ### Checks -/

/-- The sum with end-around carry (R467). -/
def carrySum (acc : Nat) (l : List Byte) : Nat :=
  l.foldl (fun a b => if 255 < a + b.toNat then a + b.toNat - 255 else a + b.toNat) acc

/-- The check selected by CVU_CFG.sel over bytes (R473), for the LIN forms with the protected identifier first where it
enters (R467, R474). -/
def checkOf (sel pid : Nat) (ctx l : List Byte) : Nat :=
  let all := ctx ++ l
  match sel with
  | 0 => crcR 0xEDB88320 0xFFFFFFFF all ^^^ 0xFFFFFFFF
  | 1 => crc32c all
  | 2 => crcF 16 0x1021 0xFFFF all
  | 3 => crcF 8 0x1D 0xFF all ^^^ 0xFF
  | 4 => 255 - carrySum 0 all
  | _ => 255 - carrySum 0 (ctx ++ le 1 pid ++ l)

/-- Check bytes on the wire, in order (R473). -/
def checkWire (sel v : Nat) : List Nat :=
  if sel ≤ 1 then (le 4 v).map (·.toNat) else if sel == 2 then [v / 256 % 256, v % 256] else [v % 256]

/-! ### Receive FIFO and flow control -/

/-- The unit that strips checks from a UART's receiver, and the one that appends them on its transmitter. -/
def State.boundTo (s : State) (n mode : Nat) : Option Nat :=
  firstThat (fun c => s.is (CVU_STATUS.armed c) && (s.cvu c).port == some n && (s.cvu c).mode == mode) (List.range 16)

/-- Bytes held in a unit's 256-byte buffer (R475). -/
def CvuState.held (c : CvuState) : Nat := c.fed.length + c.out.length

/-- RTS by the level of the receive FIFO (R458). -/
def State.showRts (s : State) (n : Nat) : State :=
  let level := (s.uart n).rx.length
  let full := match firstThat (fun c => (s.cvu c).port == some n && (s.cvu c).mode == 2) (List.range 16) with
    | some c => decide (192 < (s.cvu c).held)
    | none => false
  if !s.is (UART_FLOW.rts_en n) || !s.perClock n || full || decide (s.get (UART_FLOW.rts_off n) ≤ level) then s.put (UART_STATUS.rts n) 0
  else if level ≤ s.get (UART_FLOW.rts_on n) then s.flag (UART_STATUS.rts n)
  else s

/-- UART_STATUS shows the FIFOs, the head entry's marks and the shifter (R457). -/
def State.showUart (s : State) (n : Nat) : State :=
  let u := s.uart n
  let head : RxEntry := u.rx.headD { data := 0 }
  let s := (s.put (UART_STATUS.rx_ready n) (b2n (!u.rx.isEmpty))).put (UART_STATUS.rx_level n) u.rx.length
  let s := (s.put (UART_STATUS.pe n) (b2n head.pe)).put (UART_STATUS.fe n) (b2n head.fe)
  let s := (s.put (UART_STATUS.brk n) (b2n head.brk)).put (UART_STATUS.chk_err n) (b2n head.chk)
  let s := (s.put (UART_STATUS.tx_empty n) (b2n u.tx.isEmpty)).put (UART_STATUS.tx_level n) u.tx.length
  (s.put (UART_STATUS.tx_idle n) (b2n (u.shift.isNone && !s.is (UART_BRK_TX.busy n)))).showRts n

/-- A character or break is lost (R456). -/
def State.overrun (s : State) (n : Nat) : State := (s.flag (UART_STATUS.ov n)).uartEvent n (UART_EVENT.ov n)

/-- An entry enters the receive FIFO, or is lost (R456). -/
def State.rxPush (s : State) (n : Nat) (e : RxEntry) : State :=
  if 64 ≤ (s.uart n).rx.length then s.overrun n
  else ((s.modUart n fun u => { u with rx := u.rx ++ [e] }).uartEvent n (UART_EVENT.rx_data n)).showUart n

/-! ### Check-value units -/

/-- The data bytes of a unit's frame. -/
def CvuState.bytes (c : CvuState) : List Byte := c.fed.map fun e => BitVec.ofNat 8 e.data

/-- The check of a unit's frame: the context word first, then the identifier, then the data (R474). -/
def State.cvuCheck (s : State) (c : Nat) : Nat :=
  let u := s.cvu c
  checkOf u.sel u.pid (if u.ctxEn then le 4 (s.get (CVU_CTX.ctx c)) else []) u.bytes

/-- CVU_STATUS.fed shows the data bytes of the present frame. -/
def State.showFed (s : State) (c : Nat) : State := s.put (CVU_STATUS.fed c) (min 0xFFFF (s.cvu c).fed.length)

/-- Bytes of finished frames pass to the receive FIFO as room allows (R476). -/
def State.cvuRelease (s : State) (c n : Nat) : State :=
  let room := 64 - (s.uart n).rx.length
  let out := (s.cvu c).out
  (s.each (out.take room) fun s e => s.rxPush n e).modCvu c fun u => { u with out := out.drop room }

/-- A frame ends (R474, R475, R477): the result, the counts, the context, and the unit armed again or not. -/
def State.cvuEnd (s : State) (c : Nat) (pass : Bool) : State :=
  let u := s.cvu c
  let s := (s.put (CVU_STATUS.last_ok c) (b2n pass)).bump (if pass then CVU_COUNT.frames_ok c else CVU_COUNT.frames_failed c)
  let s := s.when u.inc fun s => s.put (CVU_CTX.ctx c) (s.get (CVU_CTX.ctx c) + 1)
  let s := s.put (CVU_STATUS.armed c) (b2n u.again)
  let s := s.modCvu c fun u => { u with fed := [], check := [], bad := false, ready := false }
  let s := (s.showFed c).cvuEvent c (CVU_STATUS.done c)
  s.when (!pass) (·.cvuEvent c (CVU_STATUS.fail c))

/-- A frame of a bound CHECK_STRIP unit ends: its data enter the receive FIFO, marked where the check failed (R475,
R477). -/
def State.stripEnd (s : State) (c n : Nat) (pass : Bool) : State :=
  let data := (s.cvu c).fed.map fun e => { e with chk := e.chk || !pass }
  ((s.modCvu c fun u => { u with out := u.out ++ data }).cvuEnd c pass).cvuRelease c n

/-- A frame in progress is cut (R477). -/
def State.cvuCut (s : State) (c : Nat) : State :=
  let u := s.cvu c
  if !s.is (CVU_STATUS.armed c) || (u.fed.isEmpty && u.check.isEmpty) then s
  else match u.port, u.mode with
    | some n, 2 => s.stripEnd c n false
    | _, _ => s.cvuEnd c false

/-- The number of check bytes of a unit. -/
def CvuState.width (c : CvuState) : Nat := if c.sel ≤ 1 then 4 else if c.sel == 2 then 2 else 1

/-- A character for a bound CHECK_STRIP unit (R475 to R477): data into its buffer, then the check bytes. One that finds
the buffer full is lost and fails the frame. -/
def State.stripChar (s : State) (c n : Nat) (e : RxEntry) : State :=
  let u := s.cvu c
  if u.fed.length < u.len then
    if 256 ≤ u.held then (s.overrun n).modCvu c fun u => { u with bad := true }
    else ((s.modCvu c fun u => { u with fed := u.fed ++ [e], bad := u.bad || e.pe || e.fe }).showFed c).showRts n
  else
    let s := s.modCvu c fun u => { u with check := u.check ++ [e.data], bad := u.bad || e.pe || e.fe }
    if u.check.length + 1 < u.width then s
    else
      let v := s.cvuCheck c
      let good := !(s.cvu c).bad && (s.cvu c).check == checkWire u.sel v
      (s.put (CVU_RESULT.value c) v).stripEnd c n good

/-- A received entry goes to the unit that strips the UART's checks, or to the FIFO. -/
def State.rxEntry (s : State) (n : Nat) (e : RxEntry) : State := match s.boundTo n 2 with
  | some c => s.stripChar c n e
  | none => s.rxPush n e

/-- A byte leaves the transmit FIFO past an APPEND unit: after the len-th its check bytes go before the next (R475). -/
def State.appendByte (s : State) (n b : Nat) : State := match s.boundTo n 1 with
  | none => s
  | some c =>
    let s := (s.modCvu c fun u => { u with fed := u.fed ++ [{ data := b }] }).showFed c
    let u := s.cvu c
    if u.fed.length < u.len then s
    else
      let v := s.cvuCheck c
      ((s.put (CVU_RESULT.value c) v).modUart n fun x => { x with ahead := x.ahead ++ checkWire u.sel v }).cvuEnd c true

/-- A start that R476 refuses. -/
def State.cvuRefused (s : State) (c : Nat) : Bool :=
  let port := s.get (CVU_CFG.port c)
  let mode := s.get (CVU_CFG.mode c)
  let n := port - 8
  decide (8 ≤ port) && (mode == 0 || s.get (UART_OWNER.owner n) != s.get (CVU_OWNER.owner c) || s.linMode n ||
    ((List.range 16).any fun x => x != c && s.is (CVU_STATUS.armed x) && (s.cvu x).port == some n && (s.cvu x).mode == mode) ||
    (mode == 2 && decide (192 < s.get (CVU_LEN.len c))))

/-- A write of CVU_CTRL.start (R475, R476). -/
def State.cvuStart (s : State) (c : Nat) : State :=
  if s.cvuRefused c then (s.put (CVU_STATUS.armed c) 0).cvuEvent c (CVU_STATUS.cfg_err c)
  else
    let port := s.get (CVU_CFG.port c)
    let sel := s.get (CVU_CFG.sel c)
    let u : CvuState := { sel := sel, mode := s.get (CVU_CFG.mode c), ctxEn := s.is (CVU_CFG.ctx_en c), inc := s.is (CVU_CFG.ctx_inc c)
                          again := s.is (CVU_CFG.repeat c), port := if 8 ≤ port then some (port - 8) else none
                          pid := s.get (CVU_CFG.pid c), len := s.get (CVU_LEN.len c), out := (s.cvu c).out }
    ((s.modCvu c fun _ => u).flag (CVU_STATUS.armed c)).showFed c

/-- CVU_START. -/
def execCvuStart (unit : Fin 16) (s : State) : Result := whileLive s fun s => .next (s.cvuStart unit)

/-- CVU_ABORT (R476, R477): the unit is disarmed; a partial frame is discarded and fails. -/
def State.cvuAbort (s : State) (c : Nat) : State :=
  let u := s.cvu c
  let cut := s.is (CVU_STATUS.armed c) && !(u.fed.isEmpty && u.check.isEmpty)
  let s := s.modCvu c fun u => { u with again := false }
  let s := if cut then s.cvuEnd c false else s
  (s.put (CVU_STATUS.armed c) 0).modCvu c fun u => { u with fed := [], check := [], ready := false }

def execCvuAbort (unit : Fin 16) (s : State) : Result := whileLive s fun s => .next (s.cvuAbort unit)

/-- A byte fed to an unbound unit (R475). -/
def State.cvuFeed (s : State) (c : Nat) (b : Byte) : State :=
  let u := s.cvu c
  let last (v : CvuState) : Bool := v.fed.length == v.len && (v.mode != 2 || v.check.length == v.width)
  if !s.is (CVU_STATUS.armed c) || u.port.isSome || u.ready then s
  else
    let v := if u.fed.length < u.len then { u with fed := u.fed ++ [{ data := b.toNat }] } else { u with check := u.check ++ [b.toNat] }
    (s.modCvu c fun _ => { v with ready := last v, readyAt := s.ltu.now }).showFed c

/-- CVU_DATA_WRITE (R475): four bytes, the least significant first. -/
def State.cvuWrite (s : State) (c : Nat) (value : Word) : State := s.each (le 4 value.toNat) fun s b => s.cvuFeed c b

def execCvuDataWrite (unit : Fin 16) (value : Word) (s : State) : Result := whileLive s fun s => .next (s.cvuWrite unit value)

/-! ### LIN frames -/

/-- The protected identifier (R467). -/
def linPid (id : Nat) : Nat :=
  let b (i : Nat) : Nat := id / 2 ^ i % 2
  id % 64 + 64 * ((b 0 + b 1 + b 2 + b 4) % 2) + 128 * ((1 + b 1 + b 3 + b 4 + b 5) % 2)

/-- The checksum of a LIN frame (R467). -/
def linSum (pid : Nat) (enh : Bool) (data : List Nat) : Nat :=
  255 - carrySum 0 ((if enh then [pid] else []) ++ data |>.map (BitVec.ofNat 8))

/-- A LIN frame ends with a status (R470); the bytes it placed in the FIFO are marked where its checksum failed. -/
def State.linEnd (s : State) (n err : Nat) : State :=
  let s := s.modUart n fun u => { u with
    lin := none, ahead := []
    rx := u.rx.map fun e => { e with chk := e.chk || (e.own && err == 2), own := false } }
  let s := (s.put (UART_LIN_STATUS.err n) err).put (UART_LIN_STATUS.last_ok n) (b2n (err == 0))
  (s.uartEvent n (if err == 0 then UART_EVENT.lin_done n else UART_EVENT.lin_err n)).showUart n

/-- UART_LIN_TAB's entry of an identifier. -/
def State.linEntry (s : State) (n id : Nat) : Nat := s.get ⟨UART_LIN_TAB n (id / 4), 8 * (id % 4), 8⟩

/-- A protected identifier on the bus (R469, R470). -/
def State.linPidSeen (s : State) (n pid : Nat) : State :=
  let id := pid % 64
  let s := s.put (UART_LIN_STATUS.last_id n) id
  if pid != linPid id then s.linEnd n 3
  else
    let e := s.linEntry n id
    let frame (p : LinPhase) : LinFrame := { (s.uart n).lin.getD {} with
      phase := p, pid := pid, len := bits e 2 3 + 1, enh := bit e 5 && id != 0x3C && id != 0x3D, bytes := [], pidAt := s.ltu.now }
    match bits e 0 2 with
    | 1 => s.modUart n fun u => { u with lin := some (frame .subscribe) }
    | 2 => s.modUart n fun u => { u with lin := some (frame .publish) }
    | _ => s.modUart n fun u => { u with lin := none }

/-- A byte received on a LIN bus (R469): the data bytes of a subscribed frame, then its checksum. -/
def State.linByte (s : State) (n : Nat) (e : RxEntry) : State := match (s.uart n).lin with
  | some f =>
    if f.phase != .subscribe then s
    else if e.fe then s.linEnd n 8
    else if f.bytes.length < f.len then
      (s.modUart n fun u => { u with lin := some { f with bytes := f.bytes ++ [e.data] } }).rxPush n { e with own := true }
    else s.linEnd n (if linSum f.pid f.enh f.bytes == e.data then 0 else 2)
  | none => s

/-- The transmitter may start a character or a break: it runs, and CTS_N does not hold it (R458). -/
def State.txFree (s : State) (n : Nat) : Bool :=
  s.is (UART_CTRL.tx_en n) && (!s.is (UART_FLOW.cts_en n) || s.is (UART_STATUS.cts n)) && s.perClock n

/-- A break that waits begins once the shifter is free (R461, R478); it begins a master's LIN frame (R468). -/
def State.breakBegin (s : State) (n : Nat) : State :=
  let u := s.uart n
  if s.is (UART_BRK_TX.busy n) && !u.brk && u.shift.isNone && s.txFree n then
    s.modUart n fun u => { u with brk := true, txAt := some s.ltu.now, divTx := s.divisor n
                                  lin := u.lin.map fun f => { f with began := s.ltu.now } }
  else s

/-- LIN_HEADER_SEND (R468): a master's break, the sync byte and the protected identifier; ignored while a frame is in
progress. -/
def State.linHeader (s : State) (n : Nat) : State :=
  if !s.linMode n || !s.is (UART_LIN_CFG.master n) || (s.uart n).lin.isSome then s
  else
    let pid := linPid (s.get (UART_LIN_HDR.id n))
    let f : LinFrame := { pid := pid, div := s.divisor n, began := s.ltu.now }
    (((s.flag (UART_BRK_TX.busy n)).modUart n fun u => { u with lin := some f, ahead := [0x55, pid] }).breakBegin n).showUart n

def execLinHeaderSend (uart : Fin 8) (s : State) : Result := whileLive s fun s => .next (s.linHeader uart)

/-- LIN_BREAK_DETECT (R468): a slave has recognised a break and measured the sync field, whose departure from 8 bit times is
given in 0.01 %; with auto_sync the measured rate serves for the frame. The break is dated 20 bit times back (log entry 74). -/
def execLinBreakDetect (uart : Fin 8) (departure : BitVec 16) (s : State) : Result := whileLive s fun s =>
  let n := uart.val
  if !s.linMode n || s.is (UART_LIN_CFG.master n) || !s.perClock n || !s.is (UART_CTRL.rx_en n) then .next s
  else
    let own := s.divisor n
    let auto := s.is (UART_LIN_CFG.auto_sync n)
    let limit := if auto then 1400 else 200
    let div := if auto then ((own : Int) * (10000 + departure.toInt) / 10000).toNat else own
    let f : LinFrame := { div := div, began := s.ltu.now - s.bitTime (20 * div) }
    let s := s.modUart n fun u => { u with lin := some f, divRx := div }
    .next (if limit < mag departure.toInt then s.linEnd n 4 else s)

/-- LIN_PID (R469). -/
def execLinPid (uart : Fin 8) (pid : BitVec 8) (s : State) : Result := whileLive s fun s => match (s.uart uart).lin with
  | some f => if f.phase == .header && !s.is (UART_LIN_CFG.master uart) then .next (s.linPidSeen uart pid.toNat) else .next s
  | none => .next s

/-! ### Reception -/

/-- Data bits, parity bits and stop bits of a character of the UART's mode (R452, R464). -/
def State.charShape (s : State) (n : Nat) : Nat × Nat × Nat :=
  if s.cardMode n then (8, 1, 0)
  else if s.linMode n then (8, 0, 1)
  else (if s.is (UART_CTRL.data7 n) then 7 else 8, b2n (s.get (UART_CTRL.parity n) != 0), if s.is (UART_CTRL.stop2 n) then 2 else 1)

/-- The bits of a byte in the opposite order, inverted: the inverse convention (R464). -/
def inverseByte (v : Nat) : Nat := (List.range 8).foldl (fun a i => a + (1 - v / 2 ^ i % 2) * 2 ^ (7 - i)) 0

/-- A card character (R464, R466): the convention from TS, parity in the convention, and the error signal. -/
def State.cardChar (s : State) (n raw parity : Nat) : State :=
  let ts := (s.uart n).ts && s.is (UART_CARD.auto_conv n)
  let s := s.modUart n fun u => { u with ts := false }
  let s := if ts && raw == 0x3B then s.put (UART_CARD.conv n) 0
    else if ts && raw == 0x03 then s.flag (UART_CARD.conv n)
    else s.when ts (·.uartEvent n (UART_EVENT.conv_err n))
  let inverse := s.is (UART_CARD.conv n)
  let asRead := ts && raw != 0x3B && raw != 0x03
  let data := if inverse && !asRead then inverseByte raw else raw
  let ones := popCount 8 raw + parity
  let odd := if inverse && !asRead then (9 - ones) % 2 == 1 else ones % 2 == 1
  let bad := (s.uart n).rxBad
  if odd && s.is (UART_CARD.err_sig n) && decide (bad < s.get (UART_CARD.repeat n)) then
    s.modUart n fun u => { u with rxBad := bad + 1 }
  else (s.modUart n fun u => { u with rxBad := 0 }).rxEntry n { data := data, pe := odd }

/-- The character in the shifter is on the line: in card mode it may still wait out the guard time (R465). -/
def State.sending (s : State) (n : Nat) : Bool :=
  (s.uart n).shift.isSome && (match (s.uart n).txAt with
    | some t => decide (t ≤ s.ltu.now)
    | none => true)

/-- A card character was received (R465): its start edge lies 9.5 etu back, at its last sample, and no character starts before 16
etu after it. -/
def State.cardHeard (s : State) (n : Nat) : State :=
  let etu := s.bitTime (s.divisor n)
  let edge := s.ltu.now - 19 * etu / 2
  s.modUart n fun u => { u with rxAt := some edge, txAt := if u.shift.isSome then u.txAt.map fun t => max t (edge + 16 * etu) else u.txAt }

/-- UART_RX_CHAR (R455, R465): the samples of a character, the start bit's in bit 0. A card port does not receive while its own
character is on the line. -/
def execUartRxChar (uart : Fin 8) (samples : BitVec 12) (s : State) : Result := whileLive s fun s =>
  let n := uart.val
  let v := samples.toNat
  let (nd, np, ns) := s.charShape n
  if !s.perClock n || !s.is (UART_CTRL.rx_en n) || s.is (UART_STATUS.stuck n) || s.is (UART_BRK_RX.isOpen n) then .next s
  else
    let s := s.modUart n fun u => { u with divRx := s.charDivisor n u }
    let data := bits v 1 nd
    if v % 2 == 1 then .next (s.uartEvent n (UART_EVENT.noise n))
    else if s.cardMode n then .next (if s.sending n then s else (s.cardHeard n).cardChar n data (bits v 9 1))
    else if bits v 0 (1 + nd + np + ns) == 0 then .next ((s.flag (UART_BRK_RX.isOpen n)).uartEvent n (UART_EVENT.brk n))
    else
      let ones := popCount 8 data + bits v (1 + nd) np
      let pe := np == 1 && ones % 2 == (if s.get (UART_CTRL.parity n) == 1 then 1 else 0)
      let e : RxEntry := { data := data, pe := pe, fe := bits v (1 + nd + np) ns != 2 ^ ns - 1 }
      .next (if s.linMode n then s.linByte n e else s.rxEntry n e)

/-- The line returns high after a break: its length is recorded, and one break entry is placed (R460). -/
def State.breakOver (s : State) (n len : Nat) : State :=
  let s := ((s.put (UART_BRK_RX.len n) (min len 0xFFFFFF)).put (UART_BRK_RX.sat n) (b2n (decide (0xFFFFFF ≤ len)))).put (UART_BRK_RX.isOpen n) 0
  let s := match s.boundTo n 2 with
    | some c => s.cvuCut c
    | none => s
  s.rxPush n { data := 0, brk := true }

/-- UART_BREAK_RX (R460). On a LIN bus a low time below 11 bit times, 176 ticks, is a framing error, which ends a frame in
progress (R468, R470). -/
def execUartBreakRx (uart : Fin 8) (len : Nat) (s : State) : Result := whileLive s fun s =>
  let n := uart.val
  if s.is (UART_BRK_RX.isOpen n) && !s.is (UART_STATUS.stuck n) && s.perClock n then
    let s := s.breakOver n len
    .next (s.when (s.linMode n && decide (len < 176) && (s.uart n).lin.isSome) (·.linEnd n 8))
  else .next s

/-- UART_STUCK (R462): a LIN frame in progress ends with framing status. -/
def execUartStuck (uart : Fin 8) (s : State) : Result := whileLive s fun s =>
  let n := uart.val
  if s.is (UART_STATUS.stuck n) || !s.perClock n || !s.is (UART_CTRL.rx_en n) then .next s
  else
    let s := ((s.flag (UART_STATUS.stuck n)).flag (UART_BRK_RX.isOpen n)).uartEvent n (UART_EVENT.stuck n)
    .next (s.when (s.uart n).lin.isSome (·.linEnd n 8))

/-- UART_STUCK_END (R462). -/
def execUartStuckEnd (uart : Fin 8) (len : Nat) (s : State) : Result := whileLive s fun s =>
  if !s.is (UART_STATUS.stuck uart) then .next s
  else .next (((s.put (UART_STATUS.stuck uart) 0).uartEvent uart (UART_EVENT.stuck_end uart)).breakOver uart len)

/-! ### Transmission -/

/-- When a character starts that the transmitter takes (R465, R469): now; in card mode no sooner than 12 + egt etu after the start
edge of the last one sent, and 16 etu after that of the last one received; between the data bytes of a LIN response after
ib_space bit times. -/
def State.txStart (s : State) (n div : Nat) : Time :=
  let u := s.uart n
  let bit := s.bitTime div
  if s.cardMode n then
    let a := match u.txAt with
      | some t => t + (12 + s.get (UART_CARD.egt n)) * bit
      | none => 0
    let b := match u.rxAt with
      | some t => t + 16 * bit
      | none => 0
    max s.ltu.now (max a b)
  else match u.lin with
    | some f =>
      if f.phase == .publish && decide (1 < u.ahead.length) && decide (u.ahead.length ≤ f.bytes.length) then
        s.ltu.now + s.get (UART_LIN_CFG.ib_space n) * bit
      else s.ltu.now
    | none => s.ltu.now

/-- The next character for the transmitter: check bytes and LIN bytes before the FIFO; in LIN mode nothing else. -/
def State.txTake (s : State) (n : Nat) : State :=
  let u := s.uart n
  let div := s.charDivisor n u
  let start := s.txStart n div
  let took (s : State) (b : Nat) : State := s.modUart n fun u => { u with shift := some b, txRep := 0, divTx := div, txAt := some start }
  match u.ahead, u.tx with
  | b :: rest, _ => (took (s.modUart n fun u => { u with ahead := rest }) b).showUart n
  | [], b :: rest =>
    if s.linMode n then s
    else ((took (s.modUart n fun u => { u with tx := rest }) b).appendByte n b).showUart n
  | [], [] => s

/-- The character in the shifter ends (R466, R469): a card character signalled as an error is sent again, 13 etu after its start
edge, or discarded; a LIN byte whose readback differs ends the frame; the identifier of a master's header is acted on. -/
def State.txEnd (s : State) (n b : Nat) (low : Bool) : State :=
  let u := s.uart n
  let gone (s : State) : State := (s.modUart n fun u => { u with shift := none }).showUart n
  if s.cardMode n && low && s.is (UART_CARD.err_sig n) then
    if u.txRep < s.get (UART_CARD.repeat n) then
      s.modUart n fun u => { u with txRep := u.txRep + 1, txAt := u.txAt.map (· + 13 * s.bitTime u.divTx) }
    else (gone s).uartEvent n (UART_EVENT.card_rep n)
  else match u.lin with
    | some f =>
      let s := gone s
      if f.phase == .publish then
        if low then s.linEnd n 1 else if u.ahead.isEmpty then s.linEnd n 0 else s
      else if f.phase == .header && u.ahead.isEmpty then s.linPidSeen n b
      else s
    | none => gone s

/-- Where the character in the shifter ends: after its bits, and of a card character at 11 etu, at which the line is sampled
(R452, R466). -/
def State.txStop (s : State) (n : Nat) : Time :=
  let u := s.uart n
  let (nd, np, ns) := s.charShape n
  u.txAt.getD s.ltu.now + s.bitTime ((if s.cardMode n then 11 else 1 + nd + np + ns) * u.divTx)

/-- What UART_TX_CHAR does at its instant (R452, R458, R461): the character in the shifter ends, and the next one is taken unless
CTS_N holds it; a break that waits goes first. -/
def State.txChar (s : State) (n : Nat) (cts low : Bool) : State :=
  let s := s.put (UART_STATUS.cts n) (b2n cts)
  let busyBefore := (s.uart n).shift.isSome
  let s := match (s.uart n).shift with
    | some b => s.txEnd n b low
    | none => s
  let s := s.breakBegin n
  let hold := (s.uart n).shift.isSome || s.is (UART_BRK_TX.busy n) || !s.txFree n
  let s := if hold then s else s.txTake n
  let u := s.uart n
  s.when (busyBefore && u.shift.isNone && u.tx.isEmpty && u.ahead.isEmpty) (·.uartEvent n (UART_EVENT.tx_done n))

/-- UART_BREAK_SEND (R461): ignored while a break is being sent. -/
def State.breakSend (s : State) (n : Nat) : State :=
  if s.is (UART_BRK_TX.busy n) then s else ((s.flag (UART_BRK_TX.busy n)).breakBegin n).showUart n

def execUartBreakSend (uart : Fin 8) (s : State) : Result := whileLive s fun s => .next (s.breakSend uart)

/-! ### Register accesses -/

/-- Any access to a UART but a status read breaks the status-then-data sequence (R11, R478). -/
def State.uartTouch (s : State) (n : Nat) : State := s.modUart n fun u => { u with seq := false }

/-- UART_STATUS_READ (R457). -/
def execUartStatusRead (uart : Fin 8) (s : State) : Result := whileLive s fun s => .next (s.modUart uart fun u => { u with seq := true })

/-- The head entry leaves the receive FIFO; ov clears when the status was read just before (R457). -/
def State.uartPop (s : State) (n : Nat) (rest : List RxEntry) : State :=
  ((s.modUart n fun u => { u with rx := rest, seq := false }).when (s.uart n).seq (·.put (UART_STATUS.ov n) 0)).showUart n

/-- A unit with bytes of finished frames passes them on as the FIFO has room (R476). -/
def State.cvuRoom (s : State) (n : Nat) : State :=
  match firstThat (fun c => (s.cvu c).port == some n && !(s.cvu c).out.isEmpty) (List.range 16) with
  | some c => s.cvuRelease c n
  | none => s

/-- A read of UART_DATA (R457): the head entry's data, and the state without it. -/
def State.uartRead (s : State) (n : Nat) : Nat × State := match (s.uart n).rx with
  | [] => (0, s.uartTouch n)
  | e :: rest => (e.data, (s.uartPop n rest).cvuRoom n)

/-- UART_DATA_READ. -/
def execUartDataRead (uart : Fin 8) (s : State) : Result := whileLive s fun s => .next (s.uartRead uart).2

/-- A write of UART_DATA (R456). -/
def State.uartWrite (s : State) (n v : Nat) : State :=
  let s := s.uartTouch n
  if 64 ≤ (s.uart n).tx.length then s.uartEvent n (UART_EVENT.tx_ovf n)
  else (s.modUart n fun u => { u with tx := u.tx ++ [v % 256] }).showUart n

/-- UART_DATA_WRITE. -/
def execUartDataWrite (uart : Fin 8) (value : Word) (s : State) : Result := whileLive s fun s => .next (s.uartWrite uart value.toNat)

/-- FLUSH_RX and FLUSH_TX (UART_CTRL). -/
def State.flushRx (s : State) (n : Nat) : State := (s.modUart n fun u => { u with rx := [] }).showUart n
def State.flushTx (s : State) (n : Nat) : State := (s.modUart n fun u => { u with tx := [] }).showUart n
def execFlushRx (uart : Fin 8) (s : State) : Result := whileLive s fun s => .next ((s.uartTouch uart).flushRx uart)
def execFlushTx (uart : Fin 8) (s : State) : Result := whileLive s fun s => .next ((s.uartTouch uart).flushTx uart)

/-! ### Clock and ownership -/

/-- CK_PER is gated (R450): the transmit character is abandoned, RTS deasserted, a LIN frame ended without a status, and
the frames of bound units fail. -/
def State.uartGated (s : State) (n : Nat) : State :=
  let lost := (s.uart n).shift.isSome
  let s := (s.flag (UART_STATUS.engine_stopped n)).modUart n fun u => { u with
    shift := none, brk := false, lin := none, ahead := [], txRep := 0, rx := u.rx.map fun e => { e with own := false } }
  let s := (s.put (UART_BRK_TX.busy n) 0).when lost (·.uartEvent n (UART_EVENT.clk_lost n))
  let s := s.each ((List.range 16).filter fun c => (s.cvu c).port == some n) fun s c => s.cvuCut c
  s.showUart n

/-- CK_PER returns. -/
def State.uartsClock (s : State) : State :=
  s.each (List.range 8) fun s n => (s.put (UART_STATUS.engine_stopped n) 0).showUart n

def State.uartsGated (s : State) : State := s.each (List.range 8) State.uartGated

/-- A UART returns to the firmware (R48, R478): the character in its shifter goes out, both FIFOs are flushed, its request
is deasserted, and a host-owned unit bound to it is disarmed with its partial frame failed. -/
def State.uartReturn (s : State) (n : Nat) : State :=
  let s := s.modUart n fun u => { u with rx := [], tx := [], ahead := [], lin := none, seq := false }
  let s := (s.put (UART_OWNER.owner n) 0x01).put (UART_BRK_TX.busy n) 0
  let bound := (List.range 16).filter fun c => (s.cvu c).port == some n && s.is (CVU_STATUS.armed c) && s.get (CVU_OWNER.owner c) == 0x20
  let s := s.each bound State.cvuAbort
  (s.showUart n).put (UART_STATUS.rts n) 0

/-- A check-value unit returns to the firmware (R48, R478): its computation and the bytes it holds are abandoned. -/
def State.cvuReturn (s : State) (c : Nat) : State :=
  ((s.put (CVU_OWNER.owner c) 0x01).put (CVU_STATUS.armed c) 0).modCvu c fun _ => {}

end Sys2Proof.Machine
end

