-- ==== Sys2Proof/Machine/Clock.lean ====
section
/-! DEFINITION. The clock root: the lock sequence of ADPLL-A (R61 to R64), the placement of the alignment marker (R59),
coasting, walks and jumps (R65 to R70), gating and the safe clock (R71 to R76), and SYNC_IN (R77 to R80). -/

namespace Sys2Proof.Machine

def State.clkPhase (s : State) (p : ClkPhase) : State := s.modClk fun c => { c with phase := p }

/-- Lock has been declared and not been lost since (R62, R63). -/
def State.lockHeld (s : State) : Bool := match s.clk.phase with
  | .aligning => true
  | .waitSync => true
  | .waitGates => true
  | .locked => true
  | _ => false

/-- A pending sync is discarded, or a request refused (R79). -/
def State.syncIgnored (s : State) : State := (s.flag CLK_EVENT.sync_ignored).bump CLK_SYNC_COUNT.ignored

/-- The output gates close (R72): what the derived clocks drive stops (R18, R33, R128, R199, R338, R450). -/
def State.gatesClose (s : State) : State :=
  let s := ((s.runLanes.tpTruncate).cutCapture fun _ => true).thrLostClock
  let s := (s.uartsGated).radioLostClock
  (s.put CLK_STATUS.locked 0).blankLook

/-- The frequency that the loop demands, in ppm above 7.2 GHz, against the ceiling of R55: it is held there in every state. -/
def State.ceiling (s : State) (demand : BitVec 16) : State :=
  if min (s.get CLK_DCO_CEIL.ceil_ppm) 25000 < demand.toInt.toNat then (s.flag CLK_STATUS.ceiling_active).flag CLK_EVENT.ceiling_hit
  else s.put CLK_STATUS.ceiling_active 0

/-- ADPLL-A loses lock (R63, R71), with a cause of CLK_UNLOCK_INFO and the CK_FAB ticks since the last REFCLK edge (R75).
The pending sync is discarded (R79), and while frozen the safe clock is not taken (R18). -/
def State.loseLock (s : State) (cause ticks : Nat) : State :=
  if !s.lockHeld then s
  else
    let open' := s.is CLK_STATUS.locked
    let s := (((s.flag CLK_EVENT.unlock).put CLK_UNLOCK_INFO.cause cause).bump CLK_UNLOCK_INFO.count)
    let s := (s.put CLK_STATUS.coasting 0).put CLK_STATUS.walking 0
    let s := s.when s.clk.sync.isSome State.syncIgnored
    let s := s.modClk fun c => { c with phase := .acquiring, inTol := 0, walk := 0, sync := none }
    let s := s.when open' State.gatesClose
    let s := if s.frozen then s else s.flag CLK_STATUS.safe_clock
    let s := s.when open' (·.ltuLostLock (cause == 2) ticks)
    s.emit (evPllUnlock cause (s.getInt CLK_REF_PHASE.error))

/-- The edge counter is no longer continuous (R60), and the marker no longer coherent. -/
def State.breakContinuity (s : State) : State :=
  (s.put CLK_STATUS.marker_coherent 0).modClk fun c => { c with continuous := false }

/-! ### The lock sequence -/

/-- DCO_CAL_DONE (R64). -/
def execDcoCalDone (s : State) : Result := whilePowered s fun s =>
  if s.clk.phase != .calibrating then .next s
  else .next ((s.flag CLK_STATUS.cal_done).clkPhase .acquiring)

/-- FREQ_ACQUIRED (R64): window counting starts. REFCLK must be present (R64, R67). -/
def execFreqAcquired (demand : BitVec 16) (s : State) : Result := whilePowered s fun s =>
  if s.clk.phase != .acquiring || s.clk.missing then .next s
  else
    let s := ((s.flag CLK_STATUS.ref_present).ceiling demand)
    .next (s.modClk fun c => { c with phase := .counting, inTol := 0 })

/-- Lock is declared (R62, R63, R85): the reference type and the seed written since the last lock take effect. -/
def State.declareLock (s : State) : State :=
  let ref := s.get CLK_CTRL.ref_type
  let seed := s.get CLK_DITHER.seed
  let bw := s.get CLK_CTRL.bw_sel
  let s := s.modClk fun c => { c with phase := .aligning, inTol := 0, refType := ref, seed := seed, bw := bw }
  (s.flag CLK_EVENT.lock).emit (evPllLock (s.get CLK_UNLOCK_INFO.cause) (s.getInt CLK_REF_PHASE.error))

/-- LOCK_WINDOW_END (R55, R61 to R63): the count of a window, the safe clock's count over 1,024 REFCLK periods (R74), and the
frequency that the loop demands. -/
def execLockWindowEnd (count : BitVec 15) (safe : BitVec 12) (ticks : Fin 12) (demand : BitVec 16) (s : State) : Result :=
  whilePowered s fun s =>
  let good := decide (23997 ≤ count.toNat) && decide (count.toNat ≤ 24003)
  if s.clk.phase == .calibrating || s.clk.phase == .acquiring || s.is CLK_STATUS.coasting then .next s
  else
    let s := (s.put CLK_WINDOW.last_count count.toNat).put CLK_WINDOW.last_in_tol (b2n good)
    let s := ((s.put CLK_SAFE_MEAS.count safe.toNat).flag CLK_SAFE_MEAS.valid).ceiling demand
    if s.clk.phase == .counting then
      if !good then .next (s.modClk fun c => { c with inTol := 0 })
      else if s.clk.inTol == 0 then .next (s.modClk fun c => { c with inTol := 1 })
      else .next s.declareLock
    else if good then .next s
    else .next (s.loseLock 1 ticks)

/-- At every placement of the marker the dither LFSR is loaded from the seed in effect, and the modulator's state is cleared
(R53). -/
def State.loadDither (s : State) : State := s.modClk fun c => { c with phase := .waitGates, lfsr := c.seed, modState := 0 }

/-- The marker is placed (R53, R59): the index counts from 0, and the edge counter runs. -/
def State.placeMarker (s : State) (coherent : Bool) : State :=
  ((s.put CLK_STATUS.marker_coherent (b2n coherent)).modClk fun c => { c with continuous := true }).loadDither

/-- PHASE_ALIGNED (R59, R62). -/
def execPhaseAligned (s : State) : Result := whilePowered s fun s =>
  if s.clk.phase != .aligning then .next s
  else if s.clk.continuous then .next s.loadDither
  else if s.is CLK_SYNC_CFG.marker_src then
    let d := s.get CLK_SYNC_CFG.marker_delay
    .next (s.modClk fun c => { c with phase := .waitSync, delay := d })
  else .next (s.placeMarker false)

/-- The output gates open at a marker of index 0 (R62, R75, R76, R163): the derived clocks run again, the AGC's window starts
afresh (R122), GNSS_BLANK has its effect again (R128), and a GNSS chain that waits for the lock starts (R135). -/
def State.gatesOpen (s : State) : State :=
  let s := (s.flag CLK_STATUS.locked).put CLK_STATUS.marker_index 0
  let s := (s.put CLK_STATUS.safe_clock 0).modClk fun c => { c with phase := .locked, sync := c.sync.map (· - 1) }
  let s := ((s.modFe fun f => { f with agcFrom := 8 * s.clk.cycle }).blankLook).startChain
  ((s.allOrigins .relock).thrClock).uartsClock

/-- GATES_OPEN (R62, R357). During a freeze the gates stay closed until the thaw (R76). -/
def execGatesOpen (s : State) : Result := whilePowered s fun s =>
  if s.clk.phase != .waitGates then .next s
  else if s.frozen then .next (s.clkPhase .locked)
  else .next s.ltuGates.gatesOpen

/-- RELOCK (R63, R70): ignored while lock is already lost. -/
def execRelock (ticks : Fin 12) (s : State) : Result := whilePowered s fun s => .next (s.loseLock 4 ticks)

/-! ### Missing edges, walks and jumps -/

/-- REF_MISSING (R67): the coast window in force is that of its start (R85). -/
def execRefMissing (s : State) : Result := whilePowered s fun s =>
  if s.clk.missing then .next s
  else
    let w := s.get CLK_CTRL.coast_periods
    let s := ((s.flag CLK_EVENT.ref_missing).put CLK_STATUS.ref_present 0).put CLK_SAFE_MEAS.valid 0
    let s := s.modClk fun c => { c with missing := true, coast := w, inTol := 0 }
    let s := if s.clk.phase == .counting then s.clkPhase .acquiring else s
    .next (s.when s.lockHeld (·.flag CLK_STATUS.coasting))

/-- COAST_EXPIRY (R60, R63, R67, R83): no edge has returned within the coast window. -/
def execCoastExpiry (ticks : Fin 12) (s : State) : Result := whilePowered s fun s =>
  if !s.clk.missing then .next s
  else
    let s := (s.breakContinuity).bLost
    if s.lockHeld then .next (s.loseLock 2 ticks)
    else .next (if s.onRef then (s.tickFrom 2) else s)

/-- A walk, or the present one with its target moved, in TDC units (R66, R360): its signed size is passed to the local time
unit; one that corrects more than 50 ps, 20 units, is shown, recorded and reported. -/
def State.walkTo (s : State) (total error : Int) : State :=
  let s := s.modClk fun c => { c with walk := total }
  let s := if total == 0 then s.ltuWalkEnd else s.ltuWalk total
  if mag total ≤ 20 then s.put CLK_STATUS.walking 0
  else
    let s := (s.putInt CLK_REF_PHASE.error error).flag CLK_STATUS.walking
    (s.flag CLK_EVENT.phase_walk).emit (evPhaseWalk (s.get CLK_UNLOCK_INFO.cause) error)

/-- What remains of the walk's target, as measured, towards zero from the target (R70). -/
def State.walkLeft (s : State) (remaining : BitVec 16) : Int :=
  let w := s.clk.walk
  if 0 ≤ w then clampInt 0 w remaining.toInt else clampInt w 0 remaining.toInt

/-- An edge half a REFCLK period or more, 5,208 TDC units or beyond, from the nearest predicted edge ends the continuity of the
edge counter (R60). -/
def State.edgeCount (s : State) (error : Int) : State := s.when (decide (5208 < mag error)) State.breakContinuity

/-- An edge at ADPLL-B's own TDC (R83): a reference jump under the limit of R66 loses its lock. -/
def State.edgeB (s : State) (error : Int) : State := s.when (decide (520 < mag error)) State.bLost

/-- A reference jump of ADPLL-A (R69, R361): lock is lost with the error stored and reported. -/
def State.refJump (s : State) (error : Int) (ticks : Nat) : State :=
  let s := (s.putInt CLK_REF_PHASE.error error).flag CLK_EVENT.ref_jump
  let s := (s.loseLock 3 ticks).ltuJump error
  s.emit (evRefJump 3 error)

/-- An edge error of a locked ADPLL-A: a walk up to 520 TDC units, a jump beyond (R66, R69). -/
def State.edgeError (s : State) (remaining error : Int) (ticks : Nat) : State :=
  if 520 < mag (remaining + error) then s.refJump error ticks else s.walkTo (remaining + error) error

/-- REF_RETURN (R60, R68, R70, R83): the first edge that returns, with its error; during a paused walk the error is measured
from the walk's remaining target. After the coast window a warm relock follows, without a REF_JUMP. -/
def execRefReturn (error : BitVec 16) (ticks : Fin 12) (demand : BitVec 16) (s : State) : Result := whilePowered s fun s =>
  let was := s.clk.missing
  let s := (s.flag CLK_STATUS.ref_present).modClk fun c => { c with missing := false }
  if !was then .next s
  else
    let s := ((s.ceiling demand).edgeCount error.toInt).edgeB error.toInt
    if !s.is CLK_STATUS.coasting then .next s
    else .next ((s.put CLK_STATUS.coasting 0).edgeError 0 error.toInt ticks)

/-- PHASE_WALK (R55, R60, R66, R70, R83): an edge error while locked; a walk in progress has `remaining` units of its target
left. -/
def execPhaseWalk (error remaining demand : BitVec 16) (ticks : Fin 12) (s : State) : Result := whilePowered s fun s =>
  if !s.lockHeld || s.clk.missing then .next s
  else
    let left := s.walkLeft remaining
    .next ((((s.ceiling demand).edgeCount error.toInt).edgeB error.toInt).edgeError left error.toInt ticks)

/-- WALK_DONE (R66, R360). -/
def execWalkDone (s : State) : Result := whilePowered s fun s =>
  if s.clk.missing then .next s
  else .next ((s.put CLK_STATUS.walking 0).modClk fun c => { c with walk := 0 }).ltuWalkEnd

/-- REF_JUMP (R60, R69, R70, R83): an edge error at which, with what remains of a walk, the limit of R66 is passed; ADPLL-B
applies the limit to its own TDC, whatever the state of ADPLL-A. -/
def execRefJump (error : BitVec 16) (remaining : BitVec 16) (ticks : Fin 12) (s : State) : Result := whilePowered s fun s =>
  if s.clk.missing then .next s
  else
    let left := s.walkLeft remaining
    let s := (s.edgeCount error.toInt).edgeB error.toInt
    if !s.lockHeld || decide (mag (left + error.toInt) ≤ 520) then .next s
    else .next (s.refJump error.toInt ticks)

/-! ### Lane syncs -/

/-- A lane sync is requested `edge` REFCLK edges after a marker (R78, R79): it lands on the first marker at least 8
periods later, and merges with a pending one. A request during a freeze, when ADPLL-A may hold lock behind closed gates, is
discarded as one made while it is unlocked: CLK_STATUS.locked decides (log entry 59). -/
def State.requestSync (s : State) (edge : Nat) : State :=
  if !s.locked then s.syncIgnored
  else if s.clk.sync.isSome then s
  else s.modClk fun c => { c with sync := some (if edge ≤ 24 then 1 else 2) }

/-- SYNC_IN_EDGE (R59, R77, R78): it places the marker that waits for it, and requests a lane sync that lands on it. -/
def execSyncInEdge (edge : Fin 32) (s : State) : Result := whilePowered s fun s =>
  let lanes := s.is CLK_SYNC_CFG.lane_sync_en
  if s.clk.phase == .waitSync then
    let s := s.placeMarker true
    .next (s.when lanes (·.modClk fun c => { c with sync := some 1 }))
  else if lanes then .next (s.requestSync edge)
  else .next s

/-- SYNC_WAIT_EXPIRY (R59). -/
def execSyncWaitExpiry (s : State) : Result := whilePowered s fun s =>
  if s.clk.phase != .waitSync then .next s else .next ((s.flag CLK_EVENT.marker_free).placeMarker false)

/-- LANE_SYNC_CMD (R78, R79). -/
def execLaneSyncCmd (edge : Fin 32) (s : State) : Result := whilePowered s fun s => .next (s.requestSync edge)

end Sys2Proof.Machine
end

