-- ==== Sys2Proof/Machine/Operands.lean ====
section
/-! DEFINITION. Operand forms of the DSP cores: the fields of an instruction word (R266), the words of each format, move
fields (R251), address arithmetic (R252), register codes (R241), the rotation mapping (R242), and the writes that travel
through the pipeline (R261 to R263). -/

namespace Sys2Proof.Machine

/-! ### Instruction words -/

/-- The op code of an instruction word (R266). -/
def dspOp (w : Nat) : Nat := bits w 30 10

/-- The moves of an instruction word: none in formats L and C, and for nop (R266, R267). -/
def dspMove (w : Nat) (y : Bool) : Nat :=
  if dspOp w < 0x040 || dspOp w == 0x042 then 0 else if y then bits w 0 8 else bits w 8 8

/-- The two move bytes of a word. -/
def moveBits (m : Moves) : Nat := m.x.toNat * 2 ^ 8 + m.y.toNat

/-- Words of formats N, T, I, M, A, S, V, L and C (R266). -/
def encN (op mask : Nat) (m : Moves) : Nat := op * 2 ^ 30 + mask * 2 ^ 16 + moveBits m
def encT (op dd ds dt : Nat) (m : Moves) : Nat := op * 2 ^ 30 + dd * 2 ^ 26 + ds * 2 ^ 22 + dt * 2 ^ 18 + moveBits m
def encI (op dd ds imm : Nat) (m : Moves) : Nat := op * 2 ^ 30 + dd * 2 ^ 26 + ds * 2 ^ 22 + imm * 2 ^ 16 + moveBits m
def encM (op aa ds dt : Nat) (t : Bool) (m : Moves) : Nat :=
  op * 2 ^ 30 + aa * 2 ^ 28 + ds * 2 ^ 24 + dt * 2 ^ 20 + b2n t * 2 ^ 19 + moveBits m
def encA (op aa ab k dd : Nat) (m : Moves) : Nat :=
  op * 2 ^ 30 + aa * 2 ^ 28 + ab * 2 ^ 26 + k * 2 ^ 20 + dd * 2 ^ 16 + moveBits m
def encS (op mode ds dt : Nat) (u : Bool) (m : Moves) : Nat :=
  op * 2 ^ 30 + mode * 2 ^ 28 + ds * 2 ^ 24 + dt * 2 ^ 20 + b2n u * 2 ^ 19 + moveBits m
def encV (op dst src : Nat) (m : Moves) : Nat := op * 2 ^ 30 + dst * 2 ^ 23 + src * 2 ^ 16 + moveBits m
def encL (op dst imm : Nat) : Nat := op * 2 ^ 30 + dst * 2 ^ 23 + imm
def encC (op target low : Nat) : Nat := op * 2 ^ 30 + target * 2 ^ 16 + low

/-! ### Addresses -/

/-- The low n bits of a number in reverse order (R252). -/
def revBits : Nat → Nat → Nat
  | 0, _ => 0
  | n + 1, v => v % 2 * 2 ^ n + revBits n (v / 2)

/-- The effective address and the post-modified pointer of pointer p with modifier m, base b and mode word l (R252). -/
def dspAddress (p m b l : Nat) : Nat × Nat :=
  let step := signed 20 m
  let mode := bits l 18 2
  let len := bits l 0 18
  let n := min (bits l 0 5) 17
  let diff := (p + 2 ^ 20 - b) % 2 ^ 20
  if mode == 1 && len != 0 then
    let o := diff % len
    ((b + o) % 2 ^ 20, (((b : Int) + ((o : Int) + step) % (len : Int)) % 2 ^ 20).toNat)
  else if mode == 2 && n != 0 then
    let o := diff % 2 ^ n
    ((b + o) % 2 ^ 20, (b + revBits n ((revBits n o + revBits n (step % 2 ^ n).toNat) % 2 ^ n)) % 2 ^ 20)
  else (p, (((p : Int) + step) % 2 ^ 20).toNat)

/-- The address and the post-modified value of pointer k in a register file (R251, R252). -/
def DspFile.address (f : DspFile) (k : Nat) : Nat × Nat :=
  dspAddress (vget 0 f.p k).toNat (vget 0 f.m k).toNat (vget 0 f.b k).toNat (vget 0 f.l k).toNat

/-- The physical register of a data register's name under a mapping: rrb while sr.rot is 1, else 0 (R242). -/
def dspMap (map i : Nat) : Nat := if i < 8 then i else 8 + (i - 8 + map) % 8

/-- The mapping that the file gives an instruction in its D stage (R242). -/
def DspFile.mapping (f : DspFile) : Nat := if bit f.sr.toNat 8 then f.rrb.toNat else 0

/-! ### Registers and their codes -/

/-- A register code that names a register (R241). -/
def dspCodeOk (code : Nat) : Bool := decide (code ≤ 0x1B) || (decide (0x20 ≤ code) && decide (code ≤ 0x46))

/-- The value that a register code reads, with sr as formed on a read, the loop bank in use and a rotation mapping
(R241, R242, R286). -/
def DspFile.read (f : DspFile) (sr bank map code : Nat) : Nat :=
  if code < 0x10 then (vget 0 f.d (dspMap map code)).toNat
  else if code < 0x14 then bits (vget 0 f.acc (code - 0x10)).toNat 0 20
  else if code < 0x18 then bits (vget 0 f.acc (code - 0x14)).toNat 20 20
  else if code < 0x1C then unsigned 20 (signed 8 (bits (vget 0 f.acc (code - 0x18)).toNat 40 8))
  else if code < 0x28 then (vget 0 f.p (code - 0x20)).toNat
  else if code < 0x30 then (vget 0 f.m (code - 0x28)).toNat
  else if code < 0x38 then (vget 0 f.b (code - 0x30)).toNat
  else if code < 0x40 then (vget 0 f.l (code - 0x38)).toNat
  else if code < 0x42 then (vget 0 f.lc (bank + (code - 0x40))).toNat
  else if code == 0x42 then f.rrb.toNat
  else if code == 0x43 then sr
  else if code == 0x44 then f.mi.toNat
  else if code == 0x45 then bits f.mx.toNat 0 20
  else bits f.mx.toNat 20 20

/-- What a write through a register code lands in (R241, R243). -/
def dspTarget (bank map code : Nat) : DspTarget :=
  if code < 0x10 then .d (dspMap map code)
  else if code < 0x14 then .accLow (code - 0x10)
  else if code < 0x18 then .accHigh (code - 0x14)
  else if code < 0x1C then .accGuard (code - 0x18)
  else if code < 0x28 then .p (code - 0x20)
  else if code < 0x30 then .m (code - 0x28)
  else if code < 0x38 then .b (code - 0x30)
  else if code < 0x40 then .l (code - 0x38)
  else if code < 0x42 then .lc (bank + (code - 0x40))
  else if code == 0x42 then .rrb
  else if code == 0x43 then .sr srWritable
  else if code == 0x44 then .mi
  else if code == 0x45 then .mxLow
  else .mxHigh

/-- A number with some bits, given by a mask, replaced. -/
def maskInto (old mask new : Nat) : Nat := (old - (old &&& mask)) + (new &&& mask)

/-- A write lands in the register file (R241). -/
def DspFile.write (f : DspFile) (t : DspTarget) (v : Nat) : DspFile := match t with
  | .d i => { f with d := vmod (fun _ => BitVec.ofNat 20 v) f.d i }
  | .accLow i => { f with acc := vmod (fun a => BitVec.ofNat 48 (a.toNat / 2 ^ 20 * 2 ^ 20 + v % 2 ^ 20)) f.acc i }
  | .accHigh i => { f with acc := vmod (fun a => BitVec.ofNat 48 (a.toNat / 2 ^ 40 * 2 ^ 40 + v % 2 ^ 20 * 2 ^ 20 + a.toNat % 2 ^ 20)) f.acc i }
  | .accGuard i => { f with acc := vmod (fun a => BitVec.ofNat 48 (v % 2 ^ 8 * 2 ^ 40 + a.toNat % 2 ^ 40)) f.acc i }
  | .acc i => { f with acc := vmod (fun _ => BitVec.ofNat 48 v) f.acc i }
  | .p i => { f with p := vmod (fun _ => BitVec.ofNat 20 v) f.p i }
  | .m i => { f with m := vmod (fun _ => BitVec.ofNat 20 v) f.m i }
  | .b i => { f with b := vmod (fun _ => BitVec.ofNat 20 v) f.b i }
  | .l i => { f with l := vmod (fun _ => BitVec.ofNat 20 v) f.l i }
  | .lc i => { f with lc := vmod (fun _ => BitVec.ofNat 20 v) f.lc i }
  | .rrb => { f with rrb := BitVec.ofNat 3 v }
  | .sr mask => { f with sr := BitVec.ofNat 20 (maskInto f.sr.toNat mask v) }
  | .mi => { f with mi := BitVec.ofNat 20 v }
  | .mxLow => { f with mx := BitVec.ofNat 40 (f.mx.toNat / 2 ^ 20 * 2 ^ 20 + v % 2 ^ 20) }
  | .mxHigh => { f with mx := BitVec.ofNat 40 (v % 2 ^ 20 * 2 ^ 20 + f.mx.toNat % 2 ^ 20) }
  | .mx => { f with mx := BitVec.ofNat 40 v }

/-! ### Writes in the pipeline -/

/-- A write joins those on their way: in the order of landing, and among equals in program order (R263). -/
def insertWrite (w : DspWrite) : List DspWrite → List DspWrite
  | [] => [w]
  | x :: xs => if w.land < x.land then w :: x :: xs else x :: insertWrite w xs

/-- The register file with every write landed up to the end of a cycle. -/
def landUpTo (t : Nat) : List DspWrite → DspFile → DspFile
  | [], f => f
  | w :: ws, f => if w.land ≤ t then landUpTo t ws (f.write w.target w.value) else f

/-- What a reader sees that reads after the cycle t. -/
def DspCore.view (c : DspCore) (t : Nat) : DspFile := landUpTo t c.pend c.file

/-- The writes landed up to the end of a cycle leave the pipeline. -/
def DspCore.commit (c : DspCore) (t : Nat) : DspCore :=
  { c with file := c.view t, pend := c.pend.filter fun w => decide (t < w.land) }

/-- A write that lands at the end of a cycle. -/
def DspCore.post (c : DspCore) (land : Nat) (t : DspTarget) (v : Nat) : DspCore :=
  { c with pend := insertWrite ⟨land, t, v⟩ c.pend }

/-- The levels of the loop bank in use (R286). -/
def DspCore.bankLevels (c : DspCore) : List DspLevel := if c.inHandler then c.hLevels else c.levels

/-- The offset of the loop counters of the bank in use. -/
def DspCore.bank (c : DspCore) : Nat := if c.inHandler then 2 else 0

/-- sr as a read forms it from its stored bits (R242, R270, R277, R279). -/
def DspCore.srRead (c : DspCore) (stored : Nat) : Nat :=
  maskInto (maskInto stored 0x3C00 0) 0x3C00
    (b2n c.lcache * 2 ^ 10 + c.bankLevels.length % 4 * 2 ^ 11 + b2n c.repeating * 2 ^ 13)

end Sys2Proof.Machine
end

