-- ==== Sys2Proof/Machine/Flags.lean ====
section
/-! DEFINITION. The arithmetic of the DSP cores and every flag it writes (R243, R256 to R260, R267). A result is the list
of its writes: stage E lands three cycles after the fetch, stage W four. -/

namespace Sys2Proof.Machine

/-- One write of an operation: whether it is a W-stage result, where it lands, and the value. -/
abbrev DspOut := Bool × DspTarget × Nat

/-- Bits of sr (R242). -/
def fZ : Nat := 1
def fN : Nat := 2
def fC : Nat := 4
def fV : Nat := 8
def fEv : Nat := 16
def fGv : Nat := 32
def fSv : Nat := 64
def fGe : Nat := 128

/-- A flag's bit where a condition holds. -/
def flagIf (b : Bool) (f : Nat) : Nat := if b then f else 0

/-- z and n of a 20-bit result. -/
def zn20 (r : Nat) : Nat := flagIf (r % 2 ^ 20 == 0) fZ + flagIf (bit r 19) fN

/-- A flag write in stage E or W: the flags written, and their values. -/
def setFlags (w : Bool) (mask v : Nat) : DspOut := (w, .sr mask, v)

/-- A sticky flag set where a condition holds (R243). -/
def sticky (w : Bool) (b : Bool) (f : Nat) : List DspOut := if b then [(w, .sr f, f)] else []

/-- An E-stage result in a data register with the flags of a mask. -/
def outE (dd r mask flags : Nat) : List DspOut := [(false, .d dd, r % 2 ^ 20), setFlags false mask flags]

/-! ### 20-bit operations (stage E) -/

/-- Sum and difference: the exact signed result is limited when `sat`, else wraps; c is the carry out of bit 19, for a
difference 1 when there is no borrow; v is signed overflow (R267). -/
def sumOut (dd a b : Nat) (sat : Bool) : List DspOut :=
  let exact := signed 20 a + signed 20 b
  let ovf := decide (exact < -524288) || decide (524287 < exact)
  let r := if sat then unsigned 20 (clampInt (-524288) 524287 exact) else unsigned 20 exact
  outE dd r 0xF (zn20 r + flagIf (decide (2 ^ 20 ≤ a + b)) fC + flagIf ovf fV) ++ sticky false (sat && ovf) fSv

def diffFlags (a b r : Nat) : Nat :=
  let exact := signed 20 a - signed 20 b
  zn20 r + flagIf (decide (b ≤ a)) fC + flagIf (decide (exact < -524288) || decide (524287 < exact)) fV

def diffOut (dd a b : Nat) (sat : Bool) : List DspOut :=
  let exact := signed 20 a - signed 20 b
  let ovf := decide (exact < -524288) || decide (524287 < exact)
  let r := if sat then unsigned 20 (clampInt (-524288) 524287 exact) else unsigned 20 exact
  outE dd r 0xF (diffFlags a b r) ++ sticky false (sat && ovf) fSv

/-- cmp: the flags of a difference. -/
def cmpOut (a b : Nat) : List DspOut := [setFlags false 0xF (diffFlags a b (unsigned 20 (signed 20 a - signed 20 b)))]

/-- and, or, xor, not, nrm: z and n; c and v cleared. -/
def logicOut (dd r : Nat) : List DspOut := outE dd r 0xF (zn20 r)

/-- neg: v for −524,288; c cleared. -/
def negOut (dd a : Nat) : List DspOut :=
  let r := unsigned 20 (-signed 20 a)
  outE dd r 0xF (zn20 r + flagIf (signed 20 a == -524288) fV)

/-- abs: −524,288 saturates, with v and sv; c is not written. -/
def absOut (dd a : Nat) : List DspOut :=
  let ovf := signed 20 a == -524288
  let r := if ovf then 524287 else (signed 20 a).natAbs
  outE dd r 0xB (zn20 r + flagIf ovf fV) ++ sticky false ovf fSv

/-- The c of a shift by k, where the last bit out is `last`; a shift by 0 moves no bit out, and c is a free value. -/
def shiftC (k free : Nat) (last : Bool) : Nat := flagIf (if k == 0 then bit free 0 else last) fC

/-- asl: v when a bit lost differs from the result's sign; c the last bit out. -/
def aslOut (dd a k free : Nat) : List DspOut :=
  let r := a * 2 ^ k % 2 ^ 20
  outE dd r 0xF (zn20 r + shiftC k free (bit (a * 2 ^ k) 20) + flagIf (signed 20 a * 2 ^ k != signed 20 r) fV)

/-- asr: c the last bit out; v cleared. -/
def asrOut (dd a k free : Nat) : List DspOut :=
  let r := unsigned 20 (signed 20 a / 2 ^ k)
  outE dd r 0xF (zn20 r + shiftC k free (signed 20 a / 2 ^ (k - 1) % 2 == 1))

/-- lsr: c the last bit out; v cleared. -/
def lsrOut (dd a k free : Nat) : List DspOut :=
  let r := a % 2 ^ 20 / 2 ^ k
  outE dd r 0xF (zn20 r + shiftC k free (bit (a % 2 ^ 20) (k - 1)))

/-- The number of bits from bit i − 1 downward that equal a sign bit, before the first that differs (nrm). -/
def signRun (v : Nat) (sign : Bool) : Nat → Nat
  | 0 => 0
  | i + 1 => if bit v i == sign then 1 + signRun v sign i else 0

/-- The I and Q halves of a packed complex word (R259). -/
def cI (v : Nat) : Int := signed 10 (bits v 10 10)
def cQ (v : Nat) : Int := signed 10 (bits v 0 10)

/-- sat10. -/
def sat10 (v : Int) : Int := clampInt (-512) 511 v

/-- A packed word of two halves that saturate, with v and sv on any saturation (R259, R267). -/
def packOut (dd : Nat) (i q : Int) : List DspOut :=
  let ovf := sat10 i != i || sat10 q != q
  [(false, .d dd, unsigned 10 (sat10 i) * 2 ^ 10 + unsigned 10 (sat10 q)), setFlags false fV (flagIf ovf fV)] ++ sticky false ovf fSv

/-! ### Accumulator operations (stage W) -/

/-- ev: bits [47:39] of an accumulator are not all equal (R242). -/
def accEv (a : Nat) : Bool := bits a 39 9 != 0 && bits a 39 9 != 2 ^ 9 - 1

/-- z, n and ev of a 48-bit result. -/
def zne48 (r : Nat) : Nat := flagIf (r % 2 ^ 48 == 0) fZ + flagIf (bit r 47) fN + flagIf (accEv r) fEv

/-- An exact result in an accumulator: it wraps at 48 bits, which sets v and gv (R256). -/
def accOut (aa : Nat) (exact : Int) : List DspOut :=
  let r := unsigned 48 exact
  let wrap := signed 48 r != exact
  [(true, .acc aa, r), setFlags true 0x1B (zne48 r + flagIf wrap fV)] ++ sticky true wrap fGv

/-- The flags of a difference of accumulators (acmp): gv unchanged. -/
def acmpOut (a b : Nat) : List DspOut :=
  let exact := signed 48 a - signed 48 b
  let r := unsigned 48 exact
  [setFlags true 0xB (flagIf (r == 0) fZ + flagIf (bit r 47) fN + flagIf (signed 48 r != exact) fV)]

/-- ext (R258): ab >> k, saturated by bit 47; z, n and v of dd, ev of ab. -/
def extOut (dd a k : Nat) : List DspOut :=
  let u := signed 48 a / 2 ^ k
  let ovf := decide (u < -524288) || decide (524287 < u)
  let r := if ovf then (if bit a 47 then 0x80000 else 0x7FFFF) else unsigned 20 u
  [(true, .d dd, r), setFlags true 0x1B (zn20 r + flagIf ovf fV + flagIf (accEv a) fEv)] ++ sticky true ovf fSv

/-- One half of cpk: an accumulator >> k, saturated to 10 bits by its bit 47 (R258). -/
def cpkHalf (a k : Nat) : Nat × Bool :=
  let u := signed 48 a / 2 ^ k
  let ovf := decide (u < -512) || decide (511 < u)
  (if ovf then (if bit a 47 then 0x200 else 0x1FF) else unsigned 10 u, ovf)

/-- cpk (R258, R267). -/
def cpkOut (dd ae ao k : Nat) : List DspOut :=
  let i := cpkHalf ae k
  let q := cpkHalf ao k
  let ovf := i.2 || q.2
  [(true, .d dd, i.1 * 2 ^ 10 + q.1), setFlags true fV (flagIf ovf fV)] ++ sticky true ovf fSv

/-- A complex result in an accumulator pair (R259): z when both are zero, n of the even one, v and ev of either. -/
def pairOut (aa : Nat) (e o : Int) : List DspOut :=
  let re := unsigned 48 e
  let ro := unsigned 48 o
  let wrap := signed 48 re != e || signed 48 ro != o
  let ae := aa / 2 * 2
  [(true, .acc ae, re), (true, .acc (ae + 1), ro),
   setFlags true 0x1B (flagIf (re == 0 && ro == 0) fZ + flagIf (bit re 47) fN + flagIf wrap fV + flagIf (accEv re || accEv ro) fEv)] ++
    sticky true wrap fGv

/-- A search (R260): the candidate and its index replace mx and mi when strictly greater, or less; c tells. -/
def searchOut (least u : Bool) (mx cand index : Nat) : List DspOut :=
  let v : Nat → Int := fun x => if u then (x : Int) else signed 40 x
  let better := if least then decide (v cand < v mx) else decide (v mx < v cand)
  if better then [(true, .mx, cand), (true, .mi, index), setFlags true fC fC] else [setFlags true fC 0]

/-- A 20-bit word extended to 40 bits (R260). -/
def extend40 (u : Bool) (v : Nat) : Nat := if u then v % 2 ^ 20 else unsigned 40 (signed 20 v)

/-- The start values of mx by sinit mode (R267). -/
def sinitMx : Nat → Nat
  | 0 => 2 ^ 39
  | 1 => 0
  | 2 => 2 ^ 39 - 1
  | _ => 2 ^ 40 - 1

/-- Whether a condition holds of sr; codes 0xC and above name none (R266). -/
def dspCond (cc sr : Nat) : Bool := match cc with
  | 0x0 => true
  | 0x1 => bit sr 0
  | 0x2 => !bit sr 0
  | 0x3 => bit sr 1 != bit sr 3
  | 0x4 => bit sr 1 == bit sr 3
  | 0x5 => !bit sr 0 && bit sr 1 == bit sr 3
  | 0x6 => bit sr 0 || bit sr 1 != bit sr 3
  | 0x7 => bit sr 2
  | 0x8 => !bit sr 2
  | 0x9 => bit sr 5
  | 0xA => bit sr 6
  | 0xB => bit sr 4
  | _ => false

end Sys2Proof.Machine
end

