-- ==== Sys2Proof/Machine/DspRun.lean ====
section
/-! DEFINITION. How a DSP core executes one instruction: fetch with loops, repeats and interrupts, the D-stage checks, the
moves on memories, I/O page and windows, and the operation (R240 to R303). A command gives the instruction that the core
fetches at its program counter. -/

namespace Sys2Proof.Machine

/-! ### Local memories -/

/-- What an unlisted word of the local memories holds: zero with valid check bits (R244). -/
def xyDefault (_ : Nat) : BitVec 26 := 0
def progDefault (_ : Nat) : Word48 := 0

/-- The stored bits of a word of X or Y memory of core n, and of its program memory. -/
def State.xyRaw (s : State) (y : Bool) (n a : Nat) : Nat :=
  (sparseGet xyDefault (if y then s.dsp.y else s.dsp.x) (32768 * n + a)).toNat
def State.xyPut (s : State) (y : Bool) (n a v : Nat) : State :=
  let w := BitVec.ofNat 26 (eccStore 20 v)
  s.modDsp fun d => if y then { d with y := sparseSet xyDefault d.y (32768 * n + a) w }
    else { d with x := sparseSet xyDefault d.x (32768 * n + a) w }
def State.progRaw (s : State) (n a : Nat) : Nat := (sparseGet progDefault s.dsp.prog (16384 * n + a)).toNat
def State.progPut (s : State) (n a v : Nat) : State :=
  s.modDsp fun d => { d with prog := sparseSet progDefault d.prog (16384 * n + a) (BitVec.ofNat 48 (eccStore 40 v)) }

/-- The local memories of a core zero with valid check bits (R295, R297). -/
def State.clearMemories (s : State) (n : Nat) : State :=
  s.modDsp fun d => { d with
    x := sparseKeep (fun k => !decide (k / 32768 = n)) d.x
    y := sparseKeep (fun k => !decide (k / 32768 = n)) d.y
    prog := sparseKeep (fun k => !decide (k / 16384 = n)) d.prog }

/-- A read of X or Y memory by the instruction at pc, in its R stage (R244): a single-bit error is corrected and the word
rewritten; an uncorrectable word is returned as stored and raises source 1. -/
def State.xyRead (s : State) (y : Bool) (n a pc cycle : Nat) : Nat × State :=
  let raw := s.xyRaw y n a
  let r := eccLoad 20 raw
  if r.syn.corrected then (r.data, s.xyPut y n a r.data)
  else if r.syn.bad then (raw % 2 ^ 20, s.raiseAt n 1 cycle pc a)
  else (r.data, s)

/-- A third operand's read of program memory (R244, R255). -/
def State.progRead (s : State) (n a pc cycle : Nat) : Nat × State :=
  let raw := s.progRaw n a
  let r := eccLoad 40 raw
  if r.syn.corrected then (r.data, s.progPut n a r.data)
  else if r.syn.bad then (raw % 2 ^ 40, s.raiseAt n 1 cycle pc a)
  else (r.data, s)

/-! ### The I/O page -/

/-- The register address of an I/O page offset of core n (R246). -/
def ioAddr (n off : Nat) : Nat := 0x20000000 + 0x1000000 * n + off

/-- A register of the other kind of core reads zero and ignores writes ("I/O registers"). -/
def ioHidden (n off : Nat) : Bool :=
  if isOpenCore n then decide (0xF030 ≤ off) && decide (off ≤ 0xF032) else decide (0xF038 ≤ off)

/-- A read of DQ_DATA (R225): the next word of the oldest record; the record leaves with its word 25. -/
def State.dqRead (s : State) (n : Nat) : Nat × State :=
  let c := s.core n
  match c.dumps with
  | [] => (0, s)
  | r :: rest =>
    let s := s.modCore n fun c => if c.dumpWord == 25 then { c with dumps := rest, dumpWord := 0 } else { c with dumpWord := c.dumpWord + 1 }
    (r.getD c.dumpWord 0, s.showDumps n)

/-- A read of FEED_WIDX (R301): the number of the lane word that the feed writes next is latched. -/
def State.feedWidxRead (s : State) (n : Nat) : Nat × State :=
  let k := (s.core n).feedNext
  (s.get (FEED_WIDX.widx n), (s.put (FEED_WORD_LO.word_lo n) k).put (FEED_WORD_HI.word_hi n) (k / 2 ^ 20))

/-- The pending sources as a read of INT_PEND in a cycle shows them (R284). -/
def State.pendShown (s : State) (n cycle : Nat) : Nat :=
  (List.range 10).foldl (fun a v => match vget none (s.core n).raised v with
    | some r => if r.since ≤ cycle then a + 2 ^ v else a
    | none => a) 0

/-- A read of the I/O page (R246). -/
def State.ioRead (s : State) (n off cycle : Nat) : Nat × State :=
  if ioHidden n off then (0, s)
  else if off == 0xF020 then (s.pendShown n cycle, s)
  else if off == 0xF031 then s.dqRead n
  else if off == 0xF039 then s.feedWidxRead n
  else if 0xF800 ≤ off then ((sparseGet (fun _ => 0) (s.core n).feedBuf (off - 0xF800)).toNat, s)
  else (bits (s.word (ioAddr n off)).toNat 0 20, s)

/-- A write of WDG_CTRL.kick reloads the watchdog (R291). -/
def State.wdgKick (s : State) (n : Nat) : State := s.modCore n fun c => { c with wdg := s.cycleNow }

/-- A write of UPD_DATA (R226): the ninth word sends the record. -/
def State.updWrite (s : State) (n v : Nat) : State :=
  let ws := (s.core n).updWords ++ [v]
  if ws.length == 9 then (s.modCore n fun c => { c with updWords := [] }).modShf fun h => { h with net := h.net ++ [(n, ws)] }
  else s.modCore n fun c => { c with updWords := ws }

/-- A write of NOTIFY (R297): a word to the steward cores; of an open core, a kernel event to the host, or one discarded
and counted while the link is lost. -/
def State.notifyWrite (s : State) (n v : Nat) : State :=
  let s := s.modCore n fun c => { c with notified := some v }
  if !isOpenCore n then s
  else if s.host.linkUp then s.emit (evKernelEvent n (s.kernel n).id v) else s.tally 4 1

/-- FEED_STATUS.overrun cleared, with the drop count (R300). -/
def State.overrunClear (s : State) (n : Nat) : State := (s.put (FEED_STATUS.overrun n) 0).put (FEED_STATUS.drops n) 0

/-- A store to INT_MASK is noted with the mask before it (R261, R283). -/
def State.noteMask (s : State) (n off : Nat) : State :=
  if off == 0xF021 then
    let m := s.get (INT_MASK.mask n)
    s.modCore n fun c => { c with maskWas := some (c.slot, m) }
  else s

/-- A write of the I/O page by a move (R246, "I/O registers"). -/
def State.ioWrite (s : State) (n off v : Nat) : State :=
  if ioHidden n off then s
  else if off == 0xF027 then if bit v 0 then s.wdgKick n else s
  else if off == 0xF029 then s.notifyWrite n v
  else if off == 0xF030 then (s.put (DQ_STATUS.thresh n) (clampNat 1 32 (bits v 8 6))).queueRaise n
  else if off == 0xF032 then s.updWrite n v
  else if off == 0xF038 then
    (((s.feedDue n).put (FEED_CFG.run n) (bits v 8 1)).put (FEED_CFG.thresh n) (max 1 (bits v 9 10))).queueRaise n
  else if off == 0xF03D then
    let s := s.setWord (FEED_STATUS n) (codeWrite false (regFields (FEED_STATUS n)) (s.word (FEED_STATUS n)) (BitVec.ofNat 32 v))
    if bit v 0 then s.overrunClear n else s
  else if off < 0xF008 && off % 2 == 0 then
    let w := (off - 0xF000) / 2
    let s := s.put (WIN_CFG.cls n w) (if bits v 10 2 == 0 then 3 else bits v 10 2)
    if bit v 12 then s.put (WIN_CFG.err n w) 0 else s
  else if 0xF800 ≤ off then s
  else
    let s := s.noteMask n off
    let a := ioAddr n off
    let s := s.setWord a (codeWrite false (regFields a) (s.word a) (BitVec.ofNat 32 v))
    if off == 0xF03A then s.queueRaise n else if off == 0xF021 then s.haltWake n else s

/-! ### Loops and fetch -/

/-- The body of a level fits the loop cache (R276). -/
def DspLevel.fits (v : DspLevel) : Bool := decide (v.last - v.first < 32)

/-- A level of the bank in use ends: the cache that it held passes to the enclosing level if that fits (R276). -/
def DspCore.endLevel (c : DspCore) : DspCore :=
  let ls := c.bankLevels
  let rest := ls.dropLast
  let c := if c.inHandler then { c with hLevels := rest } else { c with levels := rest }
  if c.cacheOf == some (c.inHandler, ls.length - 1) then
    match rest.getLast? with
    | some v => if v.fits then { c with cacheOf := some (c.inHandler, rest.length - 1), cacheOk := false, filling := false }
      else { c with cacheOf := none, cacheOk := false, filling := false }
    | none => { c with cacheOf := none, cacheOk := false, filling := false }
  else c

/-- The next fetch after one at an address, with the loop test (R271); `n` bounds the levels tested. -/
def DspCore.loopTest : Nat → DspCore → DspCore
  | 0, c => { c with pc := (c.pc + 1) % 16384 }
  | n + 1, c => match c.bankLevels.getLast? with
    | none => { c with pc := (c.pc + 1) % 16384 }
    | some v =>
      if v.last == c.pc then
        let i := c.bankLevels.length - 1
        let k := (vget 0 c.file.lc (c.bank + i)).toNat
        if 1 < k then
          let c := { c with file := c.file.write (.lc (c.bank + i)) (k - 1), pc := v.first }
          if c.cacheOf == some (c.inHandler, i) then { c with cacheOk := c.cacheOk || c.filling, filling := true } else c
        else ({ c with file := c.file.write (.lc (c.bank + i)) 0 }.endLevel).loopTest n
      else { c with pc := (c.pc + 1) % 16384 }

/-- sr.lcache at a fetch: the address lies in the body that the valid cache holds (R277). -/
def DspCore.fromCache (c : DspCore) : Bool :=
  c.cacheOk && match c.cacheOf with
    | some (h, i) => h == c.inHandler && match c.bankLevels[i]? with
      | some v => decide (v.first ≤ c.pc) && decide (c.pc ≤ v.last)
      | none => false
    | none => false

/-- A fetch with its loop test (R271, R277). -/
def DspCore.fetch (c : DspCore) : DspCore := ({ c with lcache := c.fromCache }).loopTest 2

/-- A taken branch or an interrupt entry: a pass that was filling the cache leaves it invalid (R277). -/
def DspCore.spoil (c : DspCore) : DspCore := if c.cacheOk then c else { c with filling := false }

/-- A taken br or brr to a target outside a level's body ends it and the levels inside it (R273). -/
def DspCore.exitLoops (target : Nat) : Nat → DspCore → DspCore
  | 0, c => c
  | n + 1, c =>
    if c.bankLevels.any fun v => decide (target < v.first) || decide (v.last < target) then (c.endLevel).exitLoops target n else c

/-! ### Interrupts -/

/-- INT_MASK as the next slot sees it (R261, R283). -/
def State.maskAt (s : State) (n : Nat) : Nat := match (s.core n).maskWas with
  | some (t, m) => if (s.core n).slot == t + 1 then m else s.get (INT_MASK.mask n)
  | none => s.get (INT_MASK.mask n)

/-- A move byte and its effective address reach one of the interrupt registers of the I/O page. -/
def interruptMove (m ea : Nat) : Bool := m != 0 && decide (0xF020 ≤ ea) && decide (ea ≤ 0xF028)

/-- A mov that reads sr or a loop counter. -/
def readsBank (w : Nat) : Bool :=
  dspOp w == 0x041 && (bits w 16 7 == 0x40 || bits w 16 7 == 0x41 || bits w 16 7 == 0x43)

/-- A word about to be executed is noted when its R stage would see an entry at the next slot (R261, R286). -/
def DspCore.noteLast (before c : DspCore) (w : Nat) : DspCore :=
  let f := before.file
  let eaX := (f.address (bits (dspMove w false) 5 3)).1
  let eaY := (f.address (bits (dspMove w true) 5 3)).1
  if readsBank w || interruptMove (dspMove w false) eaX || interruptMove (dspMove w true) eaY
  then { c with last := some ⟨before.slot, w, f.mapping, eaX, eaY⟩ } else c

/-- A move of the instruction fetched just before an entry, where it stores to INT_RET or INT_SAVED_SR or loads one of the
interrupt registers: its R stage follows the entry (R261, R286). -/
def State.moveAfterEntry (s : State) (n : Nat) (l : DspLast) (y : Bool) : State :=
  let m := dspMove l.word y
  let off := if y then l.eaY else l.eaX
  let c := s.core n
  if !interruptMove m off then s
  else if bit m 0 then s.modCore n fun c => c.post (l.slot + 3) (.d (dspMap l.map (bits m 1 4))) (s.ioRead n off (l.slot + 2)).1
  else if off == 0xF023 || off == 0xF024 then
    let a := ioAddr n off
    let v := (vget 0 (c.view (l.slot + 1)).d (dspMap l.map (bits m 1 4))).toNat
    s.setWord a (codeWrite false (regFields a) (s.word a) (BitVec.ofNat 32 v))
  else s

/-- What the instruction fetched just before an entry, accepted in a slot, does in its R stage (R261, R286). -/
def State.afterEntry (s : State) (n slot : Nat) : State := match (s.core n).last with
  | some l =>
    if l.slot + 1 != slot then s
    else
      let s := (s.moveAfterEntry n l false).moveAfterEntry n l true
      let c := s.core n
      if readsBank l.word then
        let f := c.view slot
        s.modCore n fun c => c.post (slot + 2) (dspTarget 0 l.map (bits l.word 23 7)) (f.read (c.srRead f.sr.toNat) c.bank l.map (bits l.word 16 7))
      else s
  | none => s

/-- Vector v of core n would be taken once it is pending (R283, R288). -/
def State.canTake (s : State) (n v : Nat) : Bool :=
  !s.is (INT_STATUS.active n) && (decide (v ≤ 5) || (bit (s.core n).file.sr.toNat 9 && bit (s.maskAt n) (v - 6)))

/-- The vector that would be taken at the next slot (R283, R284, R288). -/
def State.dueVector (s : State) (n : Nat) : Option Nat :=
  firstThat (fun v => s.canTake n v && (match vget none (s.core n).raised v with
      | some r => decide (r.since ≤ (s.core n).slot)
      | none => false))
    [1, 2, 3, 4, 5, 6, 7, 8, 9]

/-- A source 6 to 9 is pending with its mask bit set while sr.ie is 0 (R292). -/
def State.wakesUnheard (s : State) (n : Nat) : Bool :=
  !bit (s.core n).file.sr.toNat 9 && ([6, 7, 8, 9].any fun v => bit (s.maskAt n) (v - 6) && (match vget none (s.core n).raised v with
    | some r => decide (r.since ≤ (s.core n).slot)
    | none => false))

/-- Core n, which fetches nothing, k cycles on. -/
def State.idleFor (s : State) (n k : Nat) : State :=
  s.modCore n fun c => { c.commit (c.slot + k - 1) with slot := c.slot + k }

/-- The delay slots of a halt are done (R292): the core stops until a source wakes it. What is raised or lands in the next
cycles is waited for. -/
def State.haltNow (s : State) (n : Nat) : State :=
  match firstThat (fun k => let s := s.idleFor n k; (s.dueVector n).isSome || s.wakesUnheard n) [0, 1, 2, 3] with
  | some k => s.idleFor n k
  | none => (s.idleFor n 4).modCore n fun c => { c with halted := true }

/-- The next slot is held (R284). -/
def DspCore.held (c : DspCore) : Bool :=
  decide (c.delay ≠ 0) || c.afterReti || c.rep.isSome || c.skipTo.isSome || c.stall.isSome

/-- A fault that an instruction raises after the cycle of a fault's entry is a double fault (R288): DEDUCED, log entry 54. -/
def lateFault (late : List (Nat × DspRaised)) (slot : Nat) : Option (Nat × DspRaised) :=
  firstThat (fun p => decide (slot < p.2.since)) late

/-- A vector raised by the fault given, and by no earlier one, is not pending. -/
def State.unraise (s : State) (n v : Nat) (f : DspRaised) : State :=
  if (vget none (s.core n).raised v).any fun r => decide (f.since < r.since) && r.pc == f.pc && r.addr == f.addr
  then (s.put ⟨INT_PEND n, v, 1⟩ 0).modCore n fun c => { c with raised := vmod (fun _ => none) c.raised v }
  else s

/-- Acceptance of vector v (R285, R286, R289). -/
def State.enterVector (s : State) (n v : Nat) : State :=
  let c := s.core n
  let r := (vget none c.raised v).getD ⟨0, 0, 0⟩
  let s := (s.put (INT_RET.ret_pc n) c.pc).put (INT_SAVED_SR.sr n) (c.srRead c.file.sr.toNat)
  let s := ((s.flag (INT_STATUS.active n)).put (INT_STATUS.vector n) v).put ⟨INT_PEND n, v, 1⟩ 0
  let s := if v ≤ 5 then
      ((s.put (INT_FAULT_PC.pc n) (if v == 5 then c.pc else r.pc)).put (INT_FAULT_PC.vector n) v).put (INT_FAULT_ADDR.addr n)
        (if v == 5 then 0 else r.addr)
    else s
  let s := if v == 8 then s.put (TRIG_LAST.more n) 0 else s
  let s := s.modCore n fun c =>
    { c.spoil with
      raised := vmod (fun _ => none) c.raised v
      file := ((c.file.write (.sr 0x300) 0).write (.lc 2) 0).write (.lc 3) 0
      inHandler := true, hLevels := [], lcache := false, halted := false, pc := 4 * v, slot := c.slot + 1, leaveAt := none }
  let s := s.afterEntry n c.slot
  let again := (v == 6 && s.queueCondition n) || (v == 7 && s.is THR_EVENT.round_done)
  let s := if again then s.dspRaise n v else s
  if v ≤ 5 then match lateFault c.late c.slot with
    | some (w, f) => (s.unraise n w f).doubleFault n w f.pc f.addr
    | none => s
  else s

/-! ### Issue -/

/-- Control-class op codes other than rot and nop (R264, R275). -/
def dspControl (op : Nat) : Bool := decide (1 ≤ op) && decide (op ≤ 0x00D) && op != 0x00C

/-- Branch-class op codes: those with delay slots (R264). -/
def dspBranch (op : Nat) : Bool := (decide (1 ≤ op) && decide (op ≤ 5)) || op == 0x00D

/-- Multiply-class op codes of format M, whose bit t reads a third operand (R255). -/
def dspMultiply (op : Nat) : Bool := (decide (0x0C0 ≤ op) && decide (op ≤ 0x0C5)) || (decide (0x140 ≤ op) && decide (op ≤ 0x143))

/-- Condition and register codes of a word are ones that exist (R241, R266, R275). -/
def dspCodesOk (w : Nat) : Bool :=
  let op := dspOp w
  if op == 1 || op == 2 || op == 3 || op == 5 then decide (bits w 12 4 ≤ 0xB)
  else if op == 9 || op == 0xB then dspCodeOk (bits w 0 7)
  else if op == 0x041 then dspCodeOk (bits w 23 7) && dspCodeOk (bits w 16 7)
  else if op == 0x042 then dspCodeOk (bits w 23 7)
  else true

/-- The D-stage checks of a word fetched at an address, in a delay slot or not, with the levels active at its fetch
(R275). -/
def DspCore.legal (c : DspCore) (w pc : Nat) (slot : Bool) (levels : List DspLevel) : Bool :=
  let op := dspOp w
  let inner := levels.getLast?.map DspLevel.last
  dspCodesOk w && !(dspControl op && slot) && !(dspControl op && inner == some pc) &&
    !(dspBranch op && (inner == some (pc + 1) || inner == some (pc + 2))) &&
    (if op == 8 || op == 9 then
      (op == 9 || bits w 0 16 != 0) && decide (levels.length < 2) && decide (pc < bits w 16 14) &&
        (match inner with
          | some e => decide (bits w 16 14 ≤ e)
          | none => true)
    else true)

/-- A loop level starts in the D stage of its loop or loopr (R269, R270, R276). -/
def DspCore.startLevel (c : DspCore) (first last count : Nat) : DspCore :=
  let v : DspLevel := ⟨first, last⟩
  let i := c.bankLevels.length
  let c := { c with file := c.file.write (.lc (c.bank + i)) count }
  let c := if c.inHandler then { c with hLevels := c.hLevels ++ [v] } else { c with levels := c.levels ++ [v] }
  if v.fits then { c with cacheOf := some (c.inHandler, i), cacheOk := false, filling := true } else c

/-- The value that a register code reads in the D stage (R272, R279). -/
def DspCore.readD (c : DspCore) (code : Nat) : Nat := c.file.read (c.srRead c.file.sr.toNat) c.bank c.file.mapping code

/-- What a mov reads in its R stage (R262): with the loop counters and sr.depth as the fetch behind it leaves them. -/
def DspCore.readR (c : DspCore) (slot map code : Nat) : Nat :=
  let a := if c.delay == 0 then c.fetch else c
  let f := landUpTo (slot + 1) c.pend a.file
  f.read (a.srRead f.sr.toNat) a.bank map code

/-- The results of a word's operation, from its R-stage and W-stage views, the mapping, and the X word loaded (R267). -/
def dspResults (c : DspCore) (slot w map free : Nat) (gotX : Option Nat) (eaX : Nat) : List DspOut :=
  let f := c.view (slot + 1)
  let g := c.view (slot + 3)
  let d := fun i => (vget 0 f.d (dspMap map i)).toNat
  let acc := fun i => (vget 0 g.acc i).toNat
  let op := dspOp w
  -- formats T and I; M and S; A
  let dd := dspMap map (bits w 26 4)
  let ds := d (bits w 22 4)
  let dt := d (bits w 18 4)
  let k := bits w 16 6
  let aa := bits w 28 2
  let ms := d (bits w 24 4)
  let mt := d (bits w 20 4)
  let a := signed 48 (acc aa)
  let ab := acc (bits w 26 2)
  let ak := bits w 20 6
  let ad := dspMap map (bits w 16 4)
  let e := aa / 2 * 2
  let ae := signed 48 (acc e)
  let ao := signed 48 (acc (e + 1))
  let u := bit w 19
  let re := cI ms * cI mt - cQ ms * cQ mt
  let im := cI ms * cQ mt + cQ ms * cI mt
  if op == 0x041 then [(false, dspTarget c.bank map (bits w 23 7), c.readR slot map (bits w 16 7))]
  else if op == 0x042 then [(false, dspTarget c.bank map (bits w 23 7), bits w 0 20)]
  else if op == 0x080 then sumOut dd ds dt false
  else if op == 0x081 then diffOut dd ds dt false
  else if op == 0x082 then sumOut dd ds dt true
  else if op == 0x083 then diffOut dd ds dt true
  else if op == 0x084 then logicOut dd (ds &&& dt)
  else if op == 0x085 then logicOut dd (ds ||| dt)
  else if op == 0x086 then logicOut dd (ds ^^^ dt)
  else if op == 0x087 then logicOut dd (2 ^ 20 - 1 - ds)
  else if op == 0x088 then negOut dd ds
  else if op == 0x089 then absOut dd ds
  else if op == 0x08A then cmpOut ds dt
  else if op == 0x08B then sumOut dd ds (unsigned 20 (signed 6 k)) false
  else if op == 0x08C then aslOut dd ds k free
  else if op == 0x08D then asrOut dd ds k free
  else if op == 0x08E then lsrOut dd ds k free
  else if op == 0x08F then logicOut dd (signRun ds (bit ds 19) 19)
  else if op == 0x0C0 then accOut aa (signed 20 ms * signed 20 mt)
  else if op == 0x0C1 then accOut aa (a + signed 20 ms * signed 20 mt)
  else if op == 0x0C2 then accOut aa (a - signed 20 ms * signed 20 mt)
  else if op == 0x0C3 then accOut aa (signed 20 ms * (mt : Int))
  else if op == 0x0C4 then accOut aa (a + signed 20 ms * (mt : Int))
  else if op == 0x0C5 then accOut aa (a + (ms : Int) * (mt : Int))
  else if op == 0x100 then accOut aa 0
  else if op == 0x101 then accOut aa (a + signed 48 ab)
  else if op == 0x102 then accOut aa (a - signed 48 ab)
  else if op == 0x103 then accOut aa (signed 48 ab)
  else if op == 0x104 then accOut aa (-signed 48 ab)
  else if op == 0x105 then accOut aa ((signed 48 ab).natAbs : Nat)
  else if op == 0x106 then accOut aa (signed 48 ab * 2 ^ ak)
  else if op == 0x107 then accOut aa (signed 48 ab / 2 ^ ak)
  else if op == 0x108 then extOut ad ab ak
  else if op == 0x109 then accOut aa (signed 20 (d (bits w 16 4)) * 2 ^ min ak 28)
  else if op == 0x10A then acmpOut (acc aa) ab
  else if op == 0x140 then pairOut aa re im
  else if op == 0x141 then pairOut aa (ae + re) (ao + im)
  else if op == 0x142 then pairOut aa (ae + (cI ms * cI mt + cQ ms * cQ mt)) (ao + (cQ ms * cI mt - cI ms * cQ mt))
  else if op == 0x143 then pairOut aa (ae - re) (ao - im)
  else if op == 0x144 then cpkOut ad (acc (bits w 26 2 / 2 * 2)) (acc (bits w 26 2 / 2 * 2 + 1)) ak
  else if op == 0x145 then
    [(false, .d (dspMap map (bits w 26 4 / 2 * 2)), unsigned 20 (cI ds)), (false, .d (dspMap map (bits w 26 4 / 2 * 2 + 1)), unsigned 20 (cQ ds))]
  else if op == 0x146 then packOut dd (cI ds + cI dt) (cQ ds + cQ dt)
  else if op == 0x147 then packOut dd (cI ds - cI dt) (cQ ds - cQ dt)
  else if op == 0x148 then packOut dd (cI ds) (-cQ ds)
  else if op == 0x180 || op == 0x181 then match gotX with
    | some v => searchOut (op == 0x181) u g.mx.toNat v eaX
    | none => [setFlags true fC 0]
  else if op == 0x182 || op == 0x183 then searchOut (op == 0x183) u g.mx.toNat (extend40 u ms) mt
  else if op == 0x184 then [(true, .mx, sinitMx aa), (true, .mi, 0xFFFFF)]
  else if op == 0x1C0 then [(false, .sr (bits w 16 3 * 2 ^ 5), 0)]
  else if op == 0x1C1 then [(false, .sr 0x200, 0x200)]
  else if op == 0x1C2 then [(false, .sr 0x200, 0)]
  else []

/-- The writes of a flight join the pipeline (R255, R261, R263): third operand, loads, then the operation's results. -/
def State.land (s : State) (n : Nat) (fl : DspFlight) : State :=
  let c := s.core n
  let t := c.slot
  let out := dspResults c t fl.word fl.map s.freeVal fl.gotX fl.eaX
  let shift0 := decide (0x08C ≤ dspOp fl.word) && decide (dspOp fl.word ≤ 0x08E) && bits fl.word 16 6 == 0
  let s := if shift0 then s.nextFree else s
  s.modCore n fun c =>
    let c := match fl.third with
      | some v => (c.post (t + 3) (.d 6) (v / 2 ^ 20)).post (t + 3) (.d 7) (v % 2 ^ 20)
      | none => c
    let c := match fl.gotX with
      | some v => c.post (t + 3) (.d (dspMap fl.map (bits (dspMove fl.word false) 1 4))) (v % 2 ^ 20)
      | none => c
    let c := match fl.gotY with
      | some v => c.post (t + 3) (.d (dspMap fl.map (bits (dspMove fl.word true) 1 4))) (v % 2 ^ 20)
      | none => c
    out.foldl (fun c o => c.post (t + if o.1 then 4 else 3) o.2.1 o.2.2) c

/-- The word that a search sees of a load: 20 bits extended, or the 40 bits of a granary word (R260). -/
def searchWord (w v : Nat) (window : Bool) : Nat := if window then v else extend40 (bit w 19) v

/-- A move of a flight is done, with the word that it loaded if it was a load. -/
def DspFlight.moved (fl : DspFlight) (y : Bool) (got : Option Nat) : DspFlight :=
  if y then { fl with done := 2, gotY := got } else { fl with done := 1, gotX := got }

/-- A stall of core n begins (R265). -/
def State.stallAt (s : State) (n : Nat) (k : DspStall) (fl : DspFlight) : State :=
  s.modCore n fun c => { c.noteStall (c.slot + 2) with stall := some (k, fl) }

/-- WIN_CFG.busy of each window shows whether it has writes outstanding. -/
def State.showBusy (s : State) (n : Nat) : State :=
  s.each (List.range 4) fun s w => s.put (WIN_CFG.busy n w) (b2n ((s.core n).writes.any fun p => p.window == w))

/-- The X move of a flight goes to a window. -/
def State.xWindow (s : State) (n : Nat) (fl : DspFlight) : Bool :=
  dspMove fl.word false != 0 && decide (0x80000 ≤ fl.eaX) && s.is (WIN_CFG.en n ((fl.eaX - 0x80000) / 0x20000))

/-- One move of a flight (R245 to R249, R251): none where it stalls. -/
def State.dspMoveStep (s : State) (n : Nat) (y : Bool) (fl : DspFlight) : Option DspFlight × State :=
  let m := dspMove fl.word y
  let ea := if y then fl.eaY else fl.eaX
  let c := s.core n
  let cycle := c.slot + 2
  if m == 0 then (some (fl.moved y none), s)
  else
    let load := bit m 0
    let data := (vget 0 (c.view (c.slot + 1)).d (dspMap fl.map (bits m 1 4))).toNat
    let w := (ea - 0x80000) / 0x20000
    if ea < 0x8000 then
      if load then
        let r := s.xyRead y n ea fl.pc cycle
        (some (fl.moved y (some (searchWord fl.word r.1 false))), r.2)
      else (some (fl.moved y none), s.xyPut y n ea data)
    else if 0xF000 ≤ ea && ea ≤ 0xFFFF then
      if load then
        let r := s.ioRead n ea cycle
        (some (fl.moved y (some (searchWord fl.word r.1 false))), r.2)
      else (some (fl.moved y none), s.ioWrite n ea data)
    else if ea < 0x80000 || !s.is (WIN_CFG.en n w) then
      (some (fl.moved y (if load then some (searchWord fl.word 0xFFFFF false) else none)), s.raiseAt n 3 cycle fl.pc ea)
    else
      let target := s.get (WIN_CFG.base n w) * 2 ^ 17 + ea % 2 ^ 17
      if load then
        (none, s.stallAt n (if c.writes.isEmpty then .read w target else .readBehind) fl)
      else if 4 ≤ c.writes.length then (none, s.stallAt n .fifthWrite fl)
      else
        let s := if y && s.xWindow n fl then s.modCore n fun c => c.noteStall (c.slot + 2) else s
        let p : DspPost := ⟨w, target, s.get (WIN_HI.hi n w) * 2 ^ 20 + data, fl.pc, ea⟩
        (some (fl.moved y none), (s.modCore n fun c => { c with writes := c.writes ++ [p] }).showBusy n)

/-- The moves of a flight not yet done, and then its writes: none where it stalls. -/
def State.dspFly (s : State) (n : Nat) (fl : DspFlight) : Option DspFlight × State :=
  let r := if fl.done == 0 then s.dspMoveStep n false fl else (some fl, s)
  match r.1 with
  | none => r
  | some fl =>
    let r := if fl.done == 1 then r.2.dspMoveStep n true fl else (some fl, r.2)
    match r.1 with
    | none => r
    | some fl => (some fl, r.2.land n fl)

/-- The D stage of a word with moves and operation (R253 to R255): its addresses, and the post-modified pointers. -/
def State.dspStart (s : State) (n w pc more : Nat) : DspFlight × State :=
  let c := s.core n
  let f := c.file
  let mx := dspMove w false
  let my := dspMove w true
  let kx := bits mx 5 3
  let ky := bits my 5 3
  let third := dspMultiply (dspOp w) && bit w 19
  let r := if third then s.progRead n ((f.address 7).1 % 2 ^ 14) pc (c.slot + 2) else (0, s)
  let used := fun k => (mx != 0 && kx == k) || (my != 0 && ky == k) || (third && k == 7)
  let s := r.2.modCore n fun c =>
    (List.range 8).foldl (fun c k => if used k then c.post (c.slot + 1) (.p k) (f.address k).2 else c) c
  ({ word := w, pc := pc, more := more, map := f.mapping, eaX := (f.address kx).1, eaY := (f.address ky).1
     done := 0, gotX := none, gotY := none, third := if third then some r.1 else none }, s)

/-- What follows the delay slots when the last of them has been fetched (R264, R273, R287, R292). -/
def State.afterSlots (s : State) (n : Nat) : State :=
  let c := s.core n
  match c.after with
  | .goOn => s
  | .jump t => s.modCore n fun c => { c with pc := t, after := .goOn }
  | .reti t =>
    (s.put (INT_STATUS.active n) 0).modCore n fun c =>
      let c := match c.cacheOf with
        | some (true, _) => { c with cacheOf := none, cacheOk := false, filling := false }
        | _ => c
      { c with pc := t, after := .goOn, inHandler := false, afterReti := true, leaveAt := none }
  | .halt => (s.modCore n fun c => { c with after := .goOn }).haltNow n

/-- The return address and sr of a reti are those that INT_RET and INT_SAVED_SR hold as the return is fetched: a store of its
first delay slot counts (R287). -/
def State.refreshReturn (s : State) (n : Nat) : State := match (s.core n).after, (s.core n).leaveAt with
  | .reti _, some e =>
    let t := s.get (INT_RET.ret_pc n)
    let v := s.get (INT_SAVED_SR.sr n)
    s.modCore n fun c => { c.dropReturn with after := .reti t }.post e (.sr srWritable) v
  | _, _ => s

/-- The slot has been fetched: the next one follows, and the delay slots count down. -/
def State.slotDone (s : State) (n : Nat) (wasSlot : Bool) : State :=
  let s := s.modCore n fun c => { c with slot := c.slot + 1, afterReti := false }
  if wasSlot then
    let s := s.modCore n fun c => { c with delay := c.delay - 1 }
    if (s.core n).delay == 0 then s.afterSlots n else s.refreshReturn n
  else s

/-- A taken branch (R264, R273, R277): levels that it leaves end as its target is fetched. -/
def State.branchTo (s : State) (n t : Nat) (leaves : Bool) : State :=
  s.modCore n fun c =>
    let c := { c.spoil with after := .jump t }
    if leaves then c.exitLoops t 2 else c

/-- The effect of a control instruction that passed its checks, fetched at pc (R264, R269 to R281, R287, R290, R292). -/
def State.dspControlEffect (s : State) (n w pc : Nat) : State :=
  let c := s.core n
  let op := dspOp w
  let sr := (c.view (c.slot + 1)).sr.toNat
  let holds := dspCond (bits w 12 4) sr
  let slots := s.modCore n fun c => { c with delay := 2, after := .goOn }
  if op == 0x001 then if holds then slots.branchTo n (bits w 16 14) true else slots
  else if op == 0x002 then
    if !holds then slots
    else if 16 ≤ c.stack.length then slots.raiseAt n 4 (c.slot + 2) pc 0
    else (slots.modCore n fun c => { c with stack := (pc + 3) % 16384 :: c.stack }).branchTo n (bits w 16 14) false
  else if op == 0x003 then
    if !holds then slots
    else match c.stack with
      | [] => slots.raiseAt n 4 (c.slot + 2) pc 0
      | a :: rest => (slots.modCore n fun c => { c with stack := rest }).branchTo n a false
  else if op == 0x004 then
    let saved := s.get (INT_SAVED_SR.sr n)
    let t := s.get (INT_RET.ret_pc n)
    slots.modCore n fun c => ({ c with after := .reti t, leaveAt := some (c.slot + 3) }).post (c.slot + 3) (.sr srWritable) saved
  else if op == 0x005 then
    if holds then slots.branchTo n ((vget 0 (c.view (c.slot + 1)).p (bits w 0 3)).toNat % 16384) true else slots
  else if op == 0x008 then s.modCore n fun c => c.startLevel (pc + 1) (bits w 16 14) (bits w 0 16)
  else if op == 0x009 then
    let k := c.readD (bits w 0 7)
    if k == 0 then s.modCore n fun c => { c with skipTo := some ((bits w 16 14 + 1) % 16384) }
    else s.modCore n fun c => c.startLevel (pc + 1) (bits w 16 14) k
  else if op == 0x00A then s.modCore n fun c => { c with rep := some (bits w 0 8 + 1, pc) }
  else if op == 0x00B then s.modCore n fun c => { c with rep := some (min (c.readD (bits w 0 7)) 256, pc) }
  else if op == 0x00C then
    s.modCore n fun c => if bit c.file.sr.toNat 8 then c.post (c.slot + 1) .rrb ((c.file.rrb.toNat + 7) % 8) else c
  else if op == 0x00D then slots.modCore n fun c => { c with after := .halt }
  else s

/-- One execution of a word whose D-stage checks passed, up to its stall or its end. -/
def State.dspExecute (s : State) (n w pc more : Nat) : Option DspFlight × State :=
  if dspOp w < 0x040 then
    let r : DspFlight := ⟨w, pc, more, 0, 0, 0, 2, none, none, none⟩
    (some r, s.dspControlEffect n w pc)
  else
    let r := s.dspStart n w pc more
    if dspOp w == 0x1C3 && !(r.2.core n).writes.isEmpty then (none, r.2.stallAt n .fence r.1)
    else r.2.dspFly n r.1

/-- The rest of a repetition: the loop test of the last one, the slot, and the repetitions still to come (R279, R280).
`k` bounds the repetitions. -/
def State.dspRepeat : Nat → State → Nat → DspFlight → Bool → State
  | 0, s, _, _, _ => s
  | k + 1, s, n, fl, wasSlot =>
    let s := if fl.more ≤ 1 then s.modCore n fun c => { c with repeating := decide (fl.more == 1) } else s
    let s := s.slotDone n wasSlot
    if fl.more == 0 || (s.core n).doomed.isSome then s
    else
      -- the next repetition is fetched in the slot that follows
      let s := s.modCore n fun c =>
        let c := c.commit (c.slot - 1)
        let c := if fl.more == 1 then ({ c with pc := fl.pc }).fetch else c
        c.commit c.slot
      let before := s.core n
      let r := s.dspExecute n fl.word fl.pc (fl.more - 1)
      let s := r.2.modCore n fun c => before.noteLast c fl.word
      match r.1 with
      | some fl => s.dspRepeat k n fl false
      | none => s

/-- A word is fetched in a slot in which no interrupt is accepted and that is not discarded (R271, R274, R275, R279). -/
def State.dspFetch (s : State) (n w : Nat) : State :=
  let c := s.core n
  let pc := c.pc
  let wasSlot := decide (c.delay ≠ 0)
  let levels := c.bankLevels
  -- a control instruction behind rpt or rptr is found in the D stage of that one (DEDUCED, log entry 54)
  let badRep := c.rep.isSome && dspControl (dspOp w)
  let s := if badRep then s.raiseAt n 2 c.slot pc 0 else s
  let count := match c.rep with
    | some (k, _) => k
    | none => 1
  let repeated := c.rep.isSome
  let s := s.modCore n fun c => { c with rep := none, repeating := repeated && decide (1 ≤ count) }
  let s := s.modCore n fun c => if count ≤ 1 then c.fetch else { c with lcache := c.fromCache }
  let s := s.modCore n fun c => c.commit c.slot
  if count == 0 then (s.modCore n fun c => { c with repeating := false }).slotDone n wasSlot
  else if badRep || !(s.core n).legal w pc wasSlot levels then
    let s := if badRep then s else s.raiseAt n 2 (c.slot + 1) pc 0
    -- an illegal instruction under a repeat is a nop each time
    let s := if 1 < count then s.modCore n fun c => { ({ c with pc := pc }).fetch with slot := c.slot + (count - 1) } else s
    (s.modCore n fun c => { c with repeating := false }).slotDone n wasSlot
  else
    let before := s.core n
    let r := s.dspExecute n w pc (count - 1)
    -- the first read of a third operand costs a cycle, unless the instruction came from the loop cache (R255, R278)
    let s := r.2.modCore n fun c =>
      before.noteLast (if (dspMultiply (dspOp w) && bit w 19) && !before.lcache then c.noteStall (c.slot + 2) else c) w
    match r.1 with
    | some fl => s.dspRepeat 257 n fl wasSlot
    | none => s

/-- One fetch slot of a running core with the word that it would fetch: acceptance, a stop, or the fetch (R284, R285,
R297). -/
def State.dspSlot (s : State) (n w : Nat) : State :=
  let s := s.modCore n fun c => c.commit (c.slot - 1)
  let c := s.core n
  if c.halted then s
  else match c.skipTo with
  | some t => (s.modCore n fun c => { c with pc := t, skipTo := none }).slotDone n false
  | none =>
    if c.held then s.dspFetch n w
    else if c.stopping then s.holdCore n
    else match s.dueVector n with
      | some v => s.enterVector n v
      | none => s.dspFetch n w

/-- The instructions behind a stall that has ended are fetched in order until another stall. -/
def State.dspDrain (s : State) (n : Nat) : List Nat → State
  | [] => s
  | w :: ws =>
    if (s.core n).stall.isSome then s.modCore n fun c => { c with behind := w :: ws }
    else if !(s.core n).running || (s.core n).doomed.isSome then s
    else (s.dspSlot n w).dspDrain n ws

/-- A core's next instruction (R240): nothing happens while the core is held or its clock is gated; behind a stall it
waits. -/
def State.dspIssue (s : State) (n w : Nat) : State :=
  let c := s.core n
  if !s.coreClock || !c.running then s
  else if c.stall.isSome then s.modCore n fun c => { c with behind := c.behind ++ [w] }
  else (s.dspSlot n w).settle n

/-- A stall of core n ends: its instruction goes on with the moves it has left, and then the instructions behind it. -/
def State.dspResume (s : State) (n : Nat) (fl : DspFlight) : State :=
  let wasSlot := decide ((s.core n).delay ≠ 0)
  let behind := (s.core n).behind
  let s := s.modCore n fun c => { c with stall := none, behind := [] }
  let r := s.dspFly n fl
  let s := match r.1 with
    | some fl => r.2.dspRepeat 257 n fl wasSlot
    | none => r.2
  (s.dspDrain n behind).settle n

/-! ### Windows -/

/-- The class of a window's accesses (R27, WIN_CFG.cls). -/
def State.windowClass (s : State) (n w : Nat) : Cls := match s.get (WIN_CFG.cls n w) with
  | 1 => .A
  | 2 => .B
  | _ => .C

/-- The data of a window read arrives (R247 to R249). -/
def State.readArrives (s : State) (n w target : Nat) (fl : DspFlight) : State :=
  let y := fl.done == 1
  let ea := if y then fl.eaY else fl.eaX
  let s := s.granted (s.bayTarget target) (dspId n) (s.windowClass n w)
  let r := s.granAccess (dspId n) target ea none
  let s := r.2.2.2.put (WIN_HI.hi n w) (r.1 / 2 ^ 20)
  let slot := (s.core n).slot
  let s := if r.2.2.1 then s.raiseAt n 3 (slot + 2) fl.pc ea else s
  let s := if r.2.1 then (s.flag (WIN_CFG.err n w)).modCore n fun c => c.post (c.slot + 3) (.sr fGe) fGe else s
  if (s.core n).running then s.dspResume n (fl.moved y (some r.1)) else s

/-- WINDOW_READ_DATA (R249). -/
def execWindowReadData (core : Fin 16) (s : State) : Result := whileLive s fun s =>
  if !s.coreClock then .next s
  else match (s.core core).stall with
    | some (.read w t, fl) => .next (s.readArrives core w t fl)
    | _ => .next s

/-- The oldest posted write of a core completes (R249): it is stored, or its refusal raises source 3 (R46, R247). -/
def State.writeCompletes (s : State) (n : Nat) : State := match (s.core n).writes with
  | [] => s
  | p :: rest =>
    let s := s.granted (s.bayTarget p.target) (dspId n) (s.windowClass n p.window)
    let r := s.granAccess (dspId n) p.target p.addr (some p.data)
    let s := (r.2.2.2.modCore n fun c => { c with writes := rest }).showBusy n
    if r.2.2.1 && (s.core n).running then s.raiseNow n 3 p.pc p.addr else s

/-- WINDOW_WRITE_DONE (R249): a slot is free, and a stall that waited for it ends. Without the core clock the write completes
in the granary, and the core goes on at the next completion with its clock (R18). -/
def execWindowWriteDone (core : Fin 16) (s : State) : Result := whileLive s fun s =>
  let n := core.val
  let s := s.writeCompletes n
  let none? := (s.core n).writes.isEmpty
  if !s.coreClock then .next s
  else match (s.core n).stall with
  | some (.fifthWrite, fl) => .next (s.dspResume n fl)
  | some (.readBehind, fl) => if none? then .next (s.dspResume n fl) else .next s
  | some (.fence, fl) => if none? then .next (s.dspResume n fl) else .next s
  | _ => .next s

/-! ### Events of a core -/

/-- INTERRUPT_ENTRY (R284, R285): the lowest vector that can be taken is accepted, if the slot is not held. -/
def execInterruptEntry (core : Fin 16) (s : State) : Result := whileLive s fun s =>
  let n := core.val
  if !s.coreClock || !(s.core n).running then .next s
  else
    let s := s.modCore n fun c => c.commit (c.slot - 1)
    if (s.core n).held || (s.core n).stopping then .next s
    else match s.dueVector n with
      | some v => .next (s.enterVector n v)
      | none => .next s

/-- WDG_KICK (R291). -/
def execWdgKick (core : Fin 16) (s : State) : Result := whileLive s fun s =>
  if s.coreClock then .next (s.wdgKick core) else .next s

/-- A write of DOORBELL by the steward cores (R282). -/
def State.doorbell (s : State) (n v : Nat) : State := (s.put (DOORBELL.value n) v).dspRaise n 9

/-- DOORBELL (R282). -/
def execDoorbell (core : Fin 16) (value : Word20) (s : State) : Result := whileLive s fun s => .next (s.doorbell core value.toNat)

/-- DQ_DATA_READ (R225). -/
def execDqDataRead (core : Fin 12) (s : State) : Result := whileLive s fun s =>
  if s.coreClock then .next (s.dqRead core).2 else .next s

/-- UPD_DATA_WRITE (R226). -/
def execUpdDataWrite (core : Fin 12) (value : Word20) (s : State) : Result := whileLive s fun s =>
  if s.coreClock then .next (s.updWrite core value.toNat) else .next s

/-- NOTIFY (R297). -/
def execNotify (core : Fin 16) (value : Word20) (s : State) : Result := whileLive s fun s =>
  if s.coreClock then .next (s.notifyWrite core value.toNat) else .next s

/-- FEED_WIDX_READ (R301); the register reads zero on a firmware core. -/
def execFeedWidxRead (core : Fin 16) (s : State) : Result := whileLive s fun s =>
  if isOpenCore core && s.coreClock then .next (s.feedWidxRead core).2 else .next s

/-- FEED_OVERRUN_CLEAR (R300). -/
def execFeedOverrunClear (core : Fin 16) (s : State) : Result := whileLive s fun s =>
  if isOpenCore core && s.coreClock then .next (s.overrunClear core) else .next s

/-- WIN_CFG_WRITE (R250): for accesses issued from now on. -/
def execWinCfgWrite (core : Fin 16) (window : Fin 4) (base : Fin 512) (en : Bool) (s : State) : Result := whileLive s fun s =>
  .next ((s.put (WIN_CFG.base core window) base).put (WIN_CFG.en core window) (b2n en))

end Sys2Proof.Machine
end

