-- ==== Sys2Proof/Machine/Kernels.lean ====
section
/-! DEFINITION. Kernels on the open cores: loading (R293 to R295, R609), states and operations (R296, R297), lane feeds
(R299 to R301), and the kernel messages (R580). -/

namespace Sys2Proof.Machine

/-- The open core that a payload names in its first byte, 12 to 15. -/
def okCore (p : List Byte) : Option Answer := okArg 0 (isOpenCore (byteAt p 0))

/-- A kernel counts as loaded (R296). -/
def State.kernelLoaded (s : State) (n : Nat) : Bool := match (s.kernel n).state with
  | .loaded => true
  | .running => true
  | .stopped => true
  | _ => false

/-- The number of a kernel state in KERNEL_STATUS (R580). -/
def KernelState.code : KernelState → Nat
  | .empty => 0
  | .loading => 1
  | .loaded => 2
  | .running => 3
  | .stopped => 4
  | .faulted => 5

/-! ### Loading -/

/-- The bays in which images are staged. -/
def State.stagingBays (s : State) : List Nat :=
  s.dsp.kernels.toList.filterMap fun k => k.load.map fun l => l.bay

/-- Bays that hold a snapshot or that a capture uses. -/
def State.snapshotBay (s : State) (bay : Nat) : Bool :=
  (s.snap.inBays.any fun b => decide (b.firstBay ≤ bay) && decide (bay < b.firstBay + b.nBays)) ||
    match s.snap.capture with
    | some c => decide (c.firstBay ≤ bay) && s.get (BAY_OWNER.owner_id bay) == 0x09
    | none => false

/-- A bay holds thresher sums that are held, whether or not its group is still enabled (R186, R609). -/
def State.holdsSums (s : State) (bay : Nat) : Bool :=
  (List.range 16).any fun k => vget false s.thr.held k && s.groupHas k bay

/-- A bay may stage an image (R609). -/
def State.bayFree (s : State) (bay : Nat) : Bool :=
  s.get (BAY_OWNER.owner_id bay) == 0x01 && !s.is (BAY_OWNER.in_group bay) && (s.groupOf bay).isNone &&
    !s.is (BAY_OWNER.busy bay) && !s.auditHolds bay && !s.holdsSums bay && !s.snapshotBay bay &&
    !s.stagingBays.contains bay

/-- The highest-numbered free bay among BAY_0 to BAY_59 and BAY_62 (R609). -/
def State.stagingBay (s : State) : Option Nat := firstThat s.bayFree (62 :: (List.range 60).reverse)

/-- The length that an image's header implies (R293). -/
def imageLength (b : List Byte) : Nat := 128 + 5 * fieldAt b 16 2 + 3 * (fieldAt b 18 2 + fieldAt b 20 2)

/-- The offset of the first header field that is invalid, for core n (R293, R295). -/
def headerFault (b : List Byte) (n : Nat) : Option Answer :=
  firstFault [okArg 0 (fieldAt b 0 4 == 0x314B5957), okArg 4 (fieldAt b 4 2 == 1), okArg 6 (decide (fieldAt b 6 2 < 2)),
    okArg 16 (decide (1 ≤ fieldAt b 16 2) && decide (fieldAt b 16 2 ≤ 16384)), okArg 18 (decide (fieldAt b 18 2 ≤ 32768)),
    okArg 20 (decide (fieldAt b 20 2 ≤ 32768)),
    okArg 22 (decide (0x40 ≤ fieldAt b 22 2) && decide (fieldAt b 22 2 < fieldAt b 16 2)), okArg 24 (decide (byteAt b 24 ≤ 4)),
    okArg 25 (decide (byteAt b 25 < 16) && bit (byteAt b 25) (n - 12)), okArg 26 (decide (100 ≤ fieldAt b 26 2)),
    okArg 28 (fieldAt b 28 4 == 0)]

/-- The digest of an image and the signature over its header verify (R293, R294). -/
def State.imageVerifies (s : State) (b : List Byte) : Bool := match s.sec.kernelKey with
  | some k => (le 32 (Config.sha256 (b.drop 128)).toNat).reverse == (b.drop 32).take 32 &&
      Config.ecdsaVerify k (Config.sha256 (b.take 64)) ((b.drop 64).take 64)
  | none => false

/-- A load ends without success (R295): the core is EMPTY with its memories cleared, and the staging bay released. -/
def State.loadFails (s : State) (n : Nat) : State :=
  (s.clearMemories n).modKernel n fun k => { k with state := .empty, load := none }

/-- The last chunk of an image arrived: its header is checked, and its verification begins (R295). -/
def State.imageComplete (s : State) (q : OpenReq) (n : Nat) (l : KernelLoad) : State :=
  match headerFault l.bytes n with
  | some a => (s.loadFails n).answer q a
  | none => (s.accept q).modKernel n fun k => { k with load := some { l with checking := some q } }

/-- A chunk at the expected offset (R295, R580): the load that runs, or the one that it starts, goes on. -/
def State.takeChunk (s : State) (q : OpenReq) (n : Nat) (l : KernelLoad) (data : List Byte) : State :=
  let l := { l with bytes := l.bytes ++ data, total := imageLength (l.bytes ++ data) }
  if l.total < l.bytes.length || 278656 < l.bytes.length then (s.loadFails n).answer q (ansLength 0)
  else if l.total == l.bytes.length then s.imageComplete q n l
  else (s.modKernel n fun k => { k with state := .loading, load := some l }).answer q (ansOk [])

/-- KERNEL_LOAD (0x0A01, R295, R564, R609). -/
def execKernelLoad (r : Req) (p : List Byte) (s : State) : Result :=
  let n := byteAt p 0
  let off := fieldAt p 1 3
  let data := p.drop 4
  .next (s.serve ⟨.C, 0x0A01, 5⟩ r p
    [hasLength p 5, if p.length ≤ 1004 then none else some (ansLength 0), okCore p] fun q s =>
    if s.sec.kernelKey.isNone then s.answer q (ansLocked 0)
    else match (s.kernel n).state, (s.kernel n).load with
      | .empty, _ => match s.stagingBay with
        | none => s.answer q (ansResource 61 61)
        | some bay =>
          if off != 0 then s.answer q (ansSequence 0)
          else if data.length < 24 then s.answer q (ansLength 0)
          else s.takeChunk q n ⟨bay, [], 0, none⟩ data
      | .loading, some l =>
        if off == 0 || l.checking.isSome then s.answer q ansBusy
        else if off != l.bytes.length then (s.loadFails n).answer q (ansSequence l.bytes.length)
        else s.takeChunk q n l data
      | _, _ => s.answer q (s.ansState blkKernelPresent))

/-- The words of an image copied into the core's memories, with valid check bits, every other word zero (R293, R295). -/
def State.copyImage (s : State) (n : Nat) (b : List Byte) : State :=
  let np := fieldAt b 16 2
  let nx := fieldAt b 18 2
  let ny := fieldAt b 20 2
  let x0 := 128 + 5 * np
  let y0 := x0 + 3 * nx
  let s := s.clearMemories n
  let s := s.each (List.range np) fun s i => s.progPut n i (eccStore 40 (fieldAt b (128 + 5 * i) 5))
  let s := s.each (List.range nx) fun s i => s.xyPut false n i (eccStore 20 (fieldAt b (x0 + 3 * i) 3 % 2 ^ 20))
  s.each (List.range ny) fun s i => s.xyPut true n i (eccStore 20 (fieldAt b (y0 + 3 * i) 3 % 2 ^ 20))

/-- KERNEL_LOAD_DONE (R294, R295): digest and signature, then the minimum version, then the copy. -/
def execKernelLoadDone (core : Fin 4) (s : State) : Result := whileLive s fun s =>
  let n := 12 + core.val
  match (s.kernel n).load with
  | none => .next s
  | some l => match l.checking with
    | none => .next s
    | some q =>
      let b := l.bytes
      if s.frozen then .next s
      else if !s.imageVerifies b then .next ((s.loadFails n).answer q ansCheck)
      else if fieldAt b 12 4 < s.sec.secMin then .next ((s.loadFails n).answer q (s.ansState blkRollback))
      else
        let s := (s.copyImage n b).modKernel n fun k => { k with
          state := .loaded, load := none, id := fieldAt b 8 4, version := fieldAt b 12 4, entry := fieldAt b 22 2
          wdgUs := fieldAt b 26 2, maxBays := byteAt b 24, wantFeed := bit (byteAt b 6) 0 }
        .next (s.answer q (ansOk []))

/-- WATCHDOG_EXPIRY (R291): the count of a running core with a period reaches zero; the clock is brought to that instant, 450
CK_FAB cycles to the microsecond after the last load. -/
def execWatchdogExpiry (core : Fin 16) (s : State) : Result := whileLive s fun s =>
  let n := core.val
  let us := s.get (WDG_CTRL.period_us n)
  if s.coreClock && (s.core n).running && us != 0 then
    .next (((s.toCycle ((s.core n).wdg + 450 * us)).wdgKick n).dspRaise n 5)
  else .next s

/-! ### Operations -/

/-- Every trigger route to the core set through KERNEL_TRIG is withdrawn (R297, R607). -/
def State.withdrawTriggers (s : State) (n : Nat) : State :=
  let js := (List.range 24).filter fun j => bit (s.kernel n).triggers j
  let s := s.each js fun s j => s.put ⟨TRIG_ROUTE j, (TRIG_ROUTE.dsp j).lo + n, 1⟩ 0
  s.modKernel n fun k => { k with triggers := 0 }

/-- The bays that a kernel holds or is being handed. -/
def State.kernelBays (s : State) (n : Nat) : List Nat := (s.kernel n).bays.toList.filterMap id

/-- Unloads whose bays have all returned are answered (R580). -/
def State.unloadsEnd (s : State) : State := s.each [12, 13, 14, 15] fun s n =>
  let k := s.kernel n
  if k.unloading || k.unloads.isEmpty || !k.returning.isEmpty then s
  else (s.modKernel n fun k => { k with unloads := [] }).each k.unloads fun s q => s.answer q (ansOk [])

/-- The held core of an unload (R297): memories are cleared, bays return, routes and feed are withdrawn. -/
def State.unloadCore (s : State) (n : Nat) : State :=
  let bays := s.kernelBays n
  let s := ((s.clearMemories n).withdrawTriggers n).withdrawFeed n
  let s := (s.returnKernelBays n).modKernel n fun k => { k with
    state := .empty, unloading := false, returning := bays, id := 0, version := 0, entry := 0, wdgUs := 0, maxBays := 0, wantFeed := false }
  s.unloadsEnd

/-- KERNEL_START (0x0A02, R297). -/
def execKernelStart (r : Req) (p : List Byte) (s : State) : Result :=
  let n := byteAt p 0
  .next (s.serve ⟨.A, 0x0A02, 5⟩ r p [isLength p 4, okCore p, isZero p 1 3] fun q s =>
    match (s.kernel n).state with
    | .loaded | .stopped | .faulted =>
      let k := s.kernel n
      let s := (s.coreReset n).put (WDG_CTRL.period_us n) k.wdgUs
      let s := s.modCore n fun c => { c with running := true, pc := k.entry }
      (s.modKernel n fun k => { k with state := .running }).answer q (ansOk [])
    | _ => s.answer q (s.ansState blkKernelState))

/-- KERNEL_STOP (0x0A03, R297): answered once the core is held. -/
def execKernelStop (r : Req) (p : List Byte) (s : State) : Result :=
  let n := byteAt p 0
  .next (s.serve ⟨.A, 0x0A03, 5⟩ r p [isLength p 4, okCore p, isZero p 1 3] fun q s =>
    match (s.kernel n).state with
    | .running =>
      let s := s.modCore n fun c => { c with stopping := true }
      s.modKernel n fun k => { k with stops := k.stops ++ [q] }
    | _ => s.answer q (s.ansState blkKernelState))

/-- KERNEL_STOP_DONE (R297): the instructions already fetched and the window writes are complete, and the core is held; the
stops are answered, and an unload goes on. A kernel that faulted meanwhile stays FAULTED. -/
def execKernelStopDone (core : Fin 4) (s : State) : Result := whileLive s fun s =>
  let n := 12 + core.val
  let c := s.core n
  let k := s.kernel n
  let asked := !k.stops.isEmpty || k.unloading
  if !asked || s.frozen || (c.running && c.held) || !c.writes.isEmpty then .next s
  else
    let s := (s.holdCore n).modKernel n fun k => { k with state := if k.state == .running then .stopped else k.state, stops := [] }
    let s := s.each k.stops fun s q => s.answer q (ansOk [])
    .next (if k.unloading then s.unloadCore n else s)

/-- KERNEL_UNLOAD (0x0A04, R297, R609). -/
def execKernelUnload (r : Req) (p : List Byte) (s : State) : Result :=
  let n := byteAt p 0
  .next (s.serve ⟨.A, 0x0A04, 0⟩ r p [isLength p 4, okCore p, isZero p 1 3] fun q s =>
    let k := s.kernel n
    match k.state with
    | .empty => s.answer q (s.ansState blkKernelState)
    | .loading =>
      let checked := k.load.bind fun l => l.checking
      let s := (s.accept q).loadFails n
      (s.answerTo checked (ansAborted 7)).answer q (ansOk [])
    | .running =>
      let s := s.modCore n fun c => { c with stopping := true }
      (s.accept q).modKernel n fun k => { k with unloading := true, unloads := k.unloads ++ [q] }
    | _ => ((s.accept q).modKernel n fun k => { k with unloads := k.unloads ++ [q] }).unloadCore n)

/-- KERNEL_STATUS (0x0A05). -/
def execKernelStatus (r : Req) (p : List Byte) (s : State) : Result :=
  .next (s.serve ⟨.A, 0x0A05, 0⟩ r p [isLength p 0] fun q s =>
    s.answer q (ansOk ([12, 13, 14, 15].flatMap fun n =>
      le 1 (s.kernel n).state.code ++ le 1 (s.get (INT_FAULT_PC.vector n)) ++ le 2 (s.get (INT_FAULT_PC.pc n)) ++
        le 4 (s.kernel n).id)))

/-- The number of the first lane word that a feed of stride 2^q takes from now on, counted from the lane's sample origin
(R299). -/
def State.feedFrom (s : State) (l q : Nat) : Nat := (s.laneWords l + 2 ^ q - 1) / 2 ^ q * 2 ^ q

/-- KERNEL_FEED (0x0A06, R299). -/
def execKernelFeed (r : Req) (p : List Byte) (s : State) : Result :=
  let n := byteAt p 0
  let l := byteAt p 1
  let q' := byteAt p 2
  .next (s.serve ⟨.A, 0x0A06, 5⟩ r p
    [isLength p 4, okCore p, okArg 1 (decide (l < 12)), okArg 2 (decide (q' < 8)), okArg 3 (decide (byteAt p 3 < 2))] fun q s =>
    if !s.kernelLoaded n then s.answer q (s.ansState blkKernelState)
    else if byteAt p 3 == 1 then (s.withdrawFeed n).answer q (ansOk [])
    else if !(s.kernel n).wantFeed then s.answer q (ansArg 0)
    else if s.is (FEED_CFG.granted n) then s.answer q ansBusy
    else
      let s := s.runLane l
      let from' := s.feedFrom l q'
      let s := ((s.flag (FEED_CFG.granted n)).put (FEED_CFG.lane n) l).put (FEED_CFG.q n) q'
      let s := s.put (FEED_STATUS.lane_stopped n) (b2n (!s.is (LANE_STATUS.running l)))
      (s.modCore n fun c => { c with feedNext := from' }).answer q (ansOk []))

/-- LANE_FEED_WORD (R299 to R301): the lane word that the feed takes next leaves on the lane bus, to which instant the clock is
brought. -/
def execLaneFeedWord (core : Fin 4) (s : State) : Result := whileLive s fun s =>
  let n := 12 + core.val
  let l := s.get (FEED_CFG.lane n)
  if !s.is (FEED_CFG.granted n) || s.is (FEED_STATUS.lane_stopped n) || !s.locked || !s.is (LANE_STATUS.running l) then .next s
  else
    let s := s.toLeft l (s.core n).feedNext
    match s.busWord l (s.core n).feedNext with
    | some w => .next (s.feedTake n w)
    | none => .next s

/-- KERNEL_DOORBELL (0x0A07). -/
def execKernelDoorbell (r : Req) (p : List Byte) (s : State) : Result :=
  let n := byteAt p 0
  .next (s.serve ⟨.A, 0x0A07, 5⟩ r p
    [isLength p 8, okCore p, isZero p 1 3, okArg 4 (decide (fieldAt p 4 4 < 2 ^ 20))] fun q s =>
    if (s.kernel n).state != .running then s.answer q (s.ansState blkKernelState)
    else (s.doorbell n (fieldAt p 4 4)).answer q (ansOk []))

/-- KERNEL_TRIG (0x0A08, R607). -/
def execKernelTrig (r : Req) (p : List Byte) (s : State) : Result :=
  let n := byteAt p 0
  let j := byteAt p 1
  let on := byteAt p 2 == 1
  .next (s.serve ⟨.A, 0x0A08, 5⟩ r p
    [isLength p 4, okCore p, okArg 1 (decide (j < 24)), okArg 2 (decide (byteAt p 2 < 2)), isZero p 3 1] fun q s =>
    match (s.kernel n).state with
    | .empty | .loading => s.answer q (s.ansState blkKernelState)
    | _ =>
      let s := s.put ⟨TRIG_ROUTE j, (TRIG_ROUTE.dsp j).lo + n, 1⟩ (b2n on)
      let s := s.modKernel n fun k => { k with triggers := if on then k.triggers ||| 2 ^ j else k.triggers - (k.triggers &&& 2 ^ j) }
      s.answer q (ansOk []))

end Sys2Proof.Machine
end

