-- ==== Sys2Proof/Machine/Snap.lean ====
section
/-! DEFINITION. The gleaner: captures and their storage (R328 to R338), the non-volatile area (R341, R342), snapshot fixes
(R340), export (R343 to R345), and the snapshot messages (R570). -/

namespace Sys2Proof.Machine

/-! ### Arming (R330) -/

/-- Samples in a granary word (R333). -/
def perWord (quant : Nat) : Nat := if quant == 1 then 5 else 10

/-- n / d rounded up. -/
def divUp (n d : Nat) : Nat := (n + d - 1) / d

/-- The granary words that a capture may need (R330). -/
def State.captureWords (s : State) (lanes : List Nat) (quant lengthMs : Nat) : Nat :=
  2128 + lanes.foldl (fun a l =>
    a + divUp (divUp (lengthMs * 3600000) (max 1 (match (s.lane l).cfg with
      | some c => c.dA * c.dB
      | none => 1)) + 1) (perWord quant)) 0

/-- A run of n bays from a first one is the gleaner's. -/
def State.gleanerBays (s : State) (first n : Nat) : Bool :=
  decide (first + n ≤ 64) && (List.range n).all fun i => s.get (BAY_OWNER.owner_id (first + i)) == 0x09

/-- The lane list of SNAP_ARM. -/
def armLanes (p : List Byte) : List Nat := (List.range (min 12 (byteAt p 0))).map fun i => byteAt p (8 + i)

/-- SNAP_ARM (R330). -/
def execSnapArm (r : Req) (p : List Byte) (s : State) : Result :=
  let lanes := armLanes p
  let quant := byteAt p 1
  let len := byteAt p 2
  let trig := byteAt p 3
  let bay := byteAt p 4
  .next (s.serve ⟨.A, 0x0301, 5⟩ r p
    [isLength p 20, okArg 0 (decide (1 ≤ byteAt p 0) && decide (byteAt p 0 ≤ 12)), okArg 1 (decide (quant < 2)),
      okArg 2 (decide (2 ≤ len) && decide (len ≤ 64)), okArg 3 (decide (trig < 24) || trig == 0xFF), isZero p 5 3,
      okArg 8 (lanes.all fun l => decide (l < 12))] fun q s =>
    if s.snap.capture.isSome then s.answer q ansBusy
    else if !lanes.all fun l => s.is (LANE_STATUS.running l) then s.answer q (s.ansState blkLane)
    else if !s.gleanerBays bay (divUp (s.captureWords lanes quant len) 131072) then s.noRoom q
    else (s.accept q).modSnap fun n => { n with
      capture := some { req := some q, entry := 0xFF, lanes := lanes, quant := quant, lengthMs := len, trigger := trig,
                        firstBay := bay, armedAt := s.ltu.now } })

/-! ### Capture (R329 to R337) -/

/-- The words that count for the scale: neither settle nor blank (R332). -/
def scaleWords (l : List LaneWord) : List LaneWord := l.filter fun w => wordTags w.bits % 4 == 0

/-- The sum of squares of the words' I and Q values. -/
def sumSquares (l : List LaneWord) : Nat := l.foldl (fun a w => a + mag (wordI w.bits) ^ 2 + mag (wordQ w.bits) ^ 2) 0

/-- The shift that places the rms in [2, 4) or [1, 2), none when the rms is below that range (R332). -/
def scaleShift (quant : Nat) (l : List LaneWord) : Option Nat :=
  let m := 2 * l.length
  let lo := if quant == 1 then 4 else 1
  firstThat (fun i => decide (lo * 4 ^ i * m ≤ sumSquares l) && decide (sumSquares l < 4 * lo * 4 ^ i * m)) (List.range 10)

/-- The shifts of the lanes by their words of the 64 µs before t_start (R332), and whether one took the default of fewer than
256 words; a free value where no shift places the rms in its range. -/
def State.shiftsOf (s : State) (quant : Nat) : List (List LaneWord) → List Nat × Bool × State
  | [] => ([], false, s)
  | l :: ls =>
    let m := scaleWords l
    if m.length < 256 then
      let r := s.shiftsOf quant ls
      ((if quant == 1 then 5 else 6) :: r.1, true, r.2.2)
    else match scaleShift quant m with
      | some i => let r := s.shiftsOf quant ls; (i :: r.1, r.2.1, r.2.2)
      | none => let r := s.nextFree.shiftsOf quant ls; (s.freeVal % 256 :: r.1, r.2.1, r.2.2)

/-- The capture object is dropped, and background updates are released (R133). -/
def State.captureOver (s : State) : State := (s.modSnap fun n => { n with capture := none }).showBgHeld

/-- The clock is brought to an armed capture's t_start (R328, R329): a firing of its trigger, to which the clock has come, or
the first marker at least 10 µs after the arming. -/
def State.captureAt (s : State) (c : Capture) : Option (Time × State) :=
  if c.trigger == 0xFF then some (s.markerFrom (c.armedAt + 10000 * nanosecond))
  else c.fired.map fun t => (t, s)

/-- CAPTURE_START (R329, R331): at t_start. -/
def execCaptureStart (s : State) : Result := whileLive s fun s => match s.snap.capture with
  | none => .next s
  | some c =>
    if c.run.isSome || s.frozen || !s.locked || !s.onFab then .next s
    else match s.captureAt c with
      | none => .next s
      | some (t, s) =>
        if !s.is FE_GAIN.agc_settled then .next (s.captureOver.answerTo c.req (ansAborted 5))
        else
          let run : CaptureRun :=
            { tStart := t, cycle := s.clk.cycle, gainCode := s.get FE_GAIN.code, tUnc := s.uncNow
              lanes := c.lanes.map fun l => (s.laneD l, s.get (LANE_NCO_FREQ.inc l)) }
          .next (s.modSnap fun n => { n with capture := some { c with run := some run } }).showBgHeld

/-- A sample's code (R332, R333). -/
def sampleCode (quant shift : Nat) (w : BitVec 23) : Nat :=
  if wordTags w % 4 != 0 then 0
  else if quant == 1 then
    unsigned 4 (clampInt (-8) 7 (wordI w / (2 ^ shift : Nat))) * 16 + unsigned 4 (clampInt (-8) 7 (wordQ w / (2 ^ shift : Nat)))
  else
    let two (x : Int) : Nat := 2 * b2n (decide (x < 0)) + b2n (decide (2 ^ shift ≤ mag x))
    two (wordI w) * 4 + two (wordQ w)

/-- The sample words of a lane (R333): the earliest sample in the lowest bits. -/
def packWord (width : Nat) : List Nat → Nat
  | [] => 0
  | x :: xs => x + packWord width xs * 2 ^ width
def packSamples (quant : Nat) : Nat → List Nat → List Nat
  | 0, _ => []
  | n + 1, l => packWord (if quant == 1 then 8 else 4) (l.take (perWord quant)) :: packSamples quant n (l.drop (perWord quant))

/-- A tag run: lane position, first sample, length and tags (R334), and the local time of its first word. -/
structure TagRun where
  pos   : Nat
  first : Nat
  len   : Nat
  tags  : Nat
  time  : Int
  deriving DecidableEq, Repr

/-- The tag runs of a lane's words from sample i on, with the run in progress. -/
def tagRuns (pos : Nat) : Nat → Option TagRun → List LaneWord → List TagRun
  | _, none, [] => []
  | _, some r, [] => [r]
  | i, none, w :: ws =>
    if wordTags w.bits == 0 then tagRuns pos (i + 1) none ws else tagRuns pos (i + 1) (some ⟨pos, i, 1, wordTags w.bits, w.time⟩) ws
  | i, some r, w :: ws =>
    if wordTags w.bits == r.tags then tagRuns pos (i + 1) (some { r with len := r.len + 1 }) ws
    else if wordTags w.bits == 0 then r :: tagRuns pos (i + 1) none ws
    else r :: tagRuns pos (i + 1) (some ⟨pos, i, 1, wordTags w.bits, w.time⟩) ws

/-- A run put in its place by a time; runs of one time keep the order of the lanes. -/
def insertRun (key : TagRun → Int) (r : TagRun) : List TagRun → List TagRun
  | [] => [r]
  | x :: xs => if key r < key x then r :: x :: xs else x :: insertRun key r xs

/-- The runs of all lanes in the order of a time. -/
def orderRuns (key : TagRun → Int) (l : List TagRun) : List TagRun := l.foldl (fun a r => insertRun key r a) []

/-- The runs of the lanes' words, lane by lane. -/
def allRuns : Nat → List (List LaneWord) → List TagRun
  | _, [] => []
  | i, l :: ls => tagRuns i 0 none l ++ allRuns (i + 1) ls

/-- The words dated before a time. -/
def wordsBefore (t : Int) (l : List LaneWord) : List LaneWord := l.filter fun w => decide (w.time < t)

/-- The time at which a full tag list ends the capture: that of the first word of the run that would need a 1,025th entry, where
each run takes its entry as it begins (R334; log entry 70). -/
def tagLimit (words : List (List LaneWord)) : Option Int :=
  (((orderRuns (·.time) (allRuns 0 words)).drop 1024).head?).map (·.time)

/-- The time of a run's last word. -/
def runEnd (words : List (List LaneWord)) (r : TagRun) : Int := (((words.getD r.pos [])[r.first + r.len - 1]?).map LaneWord.time).getD r.time

/-- The two words of a tag entry (R334). -/
def tagWords (r : TagRun) : List Nat := [r.first % 2 ^ 23 + r.pos * 2 ^ 23 + r.tags * 2 ^ 27, r.len % 2 ^ 23]

/-- What a finished capture holds: each lane's words and shift, the tag runs in the order in which they end, and its end. -/
structure Captured where
  words   : List (List LaneWord)
  shifts  : List Nat
  default : Bool
  runs    : List TagRun
  cut     : Bool
  tEnd    : Time
  deriving DecidableEq, Repr

/-- The samples of a lane. -/
def Captured.count (x : Captured) (i : Nat) : Nat := (x.words.getD i []).length

/-- The granary words that a snapshot takes (R335). -/
def Captured.total (x : Captured) (quant : Nat) : Nat := 2128 + x.words.foldl (fun a l => a + divUp l.length (perWord quant)) 0

/-- The lane entries of a header, n places from place i on (R337): each lane's samples follow those before it. The first_offset
of a lane without a sample is a free value. -/
def laneEntries (c : Capture) (r : CaptureRun) (x : Captured) (free : Nat) : Nat → Nat → Nat → List Byte
  | 0, _, _ => []
  | n + 1, i, word =>
    let off := match x.words.getD i [] with
      | w :: _ => (w.time - r.tStart).toNat / 65536
      | [] => free
    let entry := match c.lanes.drop i with
      | [] => le 20 0
      | l :: _ =>
        let f := r.lanes.getD i (0, 0)
        le 1 l ++ le 1 (x.shifts.getD i 0) ++ le 2 f.1 ++ le 4 f.2 ++ le 4 off ++ le 4 word ++ le 4 (x.count i)
    entry ++ laneEntries c r x free n (i + 1) (word + divUp (x.count i) (perWord c.quant))

/-- The 320-byte header (R336). -/
def snapHeader (c : Capture) (r : CaptureRun) (x : Captured) (id nBays free : Nat) : List Byte :=
  let agc := r.attacks.take 4
  let overload := x.words.any fun l => l.any fun w => bit (wordTags w.bits) 2
  let flags := c.quant + 2 * b2n x.cut + 4 * b2n overload + 8 * b2n (!r.attacks.isEmpty) +
    16 * b2n (decide (4 < r.attacks.length)) + 32 * b2n x.default
  le 4 0x57504E53 ++ le 2 1 ++ le 2 flags ++ le 4 id ++ le 4 ((x.tEnd - r.tStart) / (1000 * nanosecond)) ++
    timeBytes r.tStart ++ le 1 c.lanes.length ++ le 1 r.gainCode ++ le 1 agc.length ++ le 1 c.trigger ++
    le 2 x.runs.length ++ le 1 c.firstBay ++ le 1 nBays ++ le 4 r.tUnc ++ le 4 0 ++
    (agc.map fun a => le 3 a.1 ++ le 1 a.2).flatten ++ le (4 * (4 - agc.length)) 0 ++ laneEntries c r x free 12 0 2128 ++ le 16 0

/-- The granary address of word w of a snapshot (R335). -/
def snapAddr (first w : Nat) : Nat := (first * bayWords + w) % (64 * bayWords)

/-- Words of a snapshot are written from word w on by an initiator, at class B (R335). -/
def State.snapWrites (s : State) (initiator first w : Nat) : List Nat → State
  | [] => s
  | v :: vs =>
    let a := snapAddr first w
    let s := s.granted (s.bayTarget a) initiator .B
    (s.granAccess initiator a a (some v)).2.2.2.snapWrites initiator first (w + 1) vs

/-- The gleaner writes words of a snapshot (R335). -/
def State.gleanerWrite (s : State) (first w : Nat) (l : List Nat) : State := s.snapWrites 0x09 first w l

/-- n words of a snapshot are read from word w on, under the ID of each bay's owner (log entry 69), as their 40 data bits. -/
def State.snapReads (s : State) (first w : Nat) : Nat → List Nat × State
  | 0 => ([], s)
  | n + 1 =>
    let a := snapAddr first w
    let r := s.granAccess (s.get (BAY_OWNER.owner_id (a / bayWords))) a a none
    let q := r.2.2.2.snapReads first (w + 1) n
    (r.1 :: q.1, q.2)

/-- The 32-bit words of bytes. -/
def words32 : Nat → List Byte → List Nat
  | 0, _ => []
  | n + 1, l => leVal (l.take 4) :: words32 n (l.drop 4)

/-- The bays of a snapshot are the gleaner's or the thresher's: it is held in them (R335, R339). -/
def State.snapHeld (s : State) (b : BaySnap) : Bool :=
  (List.range b.nBays).all fun i =>
    s.get (BAY_OWNER.owner_id (b.firstBay + i)) == 0x08 || s.get (BAY_OWNER.owner_id (b.firstBay + i)) == 0x09

/-- A snapshot of an identifier in bays, and in the non-volatile area. -/
def State.baySnap (s : State) (id : Nat) : Option BaySnap := firstThat (fun b => b.id == id && s.snapHeld b) s.snap.inBays
def State.nvSnap (s : State) (id : Nat) : Option NvSnap := firstThat (fun b => b.id == id) s.snap.nv

/-- A snapshot stands in bays from now on; one that lay there does so no longer. -/
def State.snapStands (s : State) (b : BaySnap) : State :=
  (s.dropSnaps b.firstBay b.nBays).modSnap fun n => { n with inBays := n.inBays.filter (fun x => x.id != b.id) ++ [b] }

/-- The header of a snapshot in bays is read, as bytes. -/
def State.headerAt (s : State) (first : Nat) : List Byte × State :=
  let r := s.snapReads first 0 80
  ((r.1.map fun w => le 4 w).flatten, r.2)

/-- The counts of a header's lanes, its quantisation, and the words that its samples take. -/
def headerCounts (h : List Byte) : List Nat := (List.range (min 12 (byteAt h 32))).map fun i => fieldAt h (64 + 20 * i + 16) 4
def headerQuant (h : List Byte) : Nat := byteAt h 6 % 2
def headerWords (h : List Byte) : Nat := (headerCounts h).foldl (fun a c => a + divUp c (perWord (headerQuant h))) 0

/-- The bytes of a snapshot's compact form, by its header (R341). -/
def compactLength (h : List Byte) : Nat := 320 + 8 * fieldAt h 36 2 + 5 * headerWords h

/-- The compact form of a snapshot in bays (R341), which is read. -/
def State.compact (s : State) (first : Nat) : List Byte × State :=
  let h := s.headerAt first
  let t := h.2.snapReads first 80 (2 * fieldAt h.1 36 2)
  let w := t.2.snapReads first 2128 (headerWords h.1)
  (h.1 ++ (t.1.map fun v => le 4 v).flatten ++ (w.1.map fun v => le 5 v).flatten, w.2)

/-- The words of a capture that still have to leave on the lane bus do so (R335). -/
def State.captureDrain (s : State) (c : Capture) (r : CaptureRun) : State :=
  s.each (c.lanes.zip (r.ends.getD [])) fun s x =>
    if x.2.1 == (s.lane x.1).origin && s.is (LANE_STATUS.running x.1) && s.locked && x.2.2 != 0 then s.toLeft x.1 (x.2.2 - 1) else s

/-- What a capture that has ended holds (R332, R334, R338): a full tag list ends it earlier. -/
def State.captured (s : State) (c : Capture) (r : CaptureRun) : Captured × State :=
  let taken := (c.lanes.zip (r.ends.getD [])).map fun x => (s.wordsSince x.1 s.captureSince).filter (·.before x.2)
  let sh := s.shiftsOf c.quant (taken.map (wordsBefore r.tStart))
  let words := taken.map fun l => (wordsBefore (c.endTime r) l).filter fun w => decide ((r.tStart : Int) ≤ w.time)
  let limit := tagLimit words
  let words := match limit with
    | some t => words.map (wordsBefore t)
    | none => words
  ({ words := words, shifts := sh.1, default := sh.2.1, runs := orderRuns (runEnd words) (allRuns 0 words)
     cut := r.cut.isSome || limit.isSome
     tEnd := match limit with
       | some t => t.toNat
       | none => c.endTime r }, sh.2.2)

/-- The sample words of every lane (R333). -/
def Captured.samples (x : Captured) (quant : Nat) : List Nat :=
  ((x.words.zip x.shifts).map fun (l, sh) =>
    packSamples quant (divUp l.length (perWord quant)) (l.map fun w => sampleCode quant sh w.bits)).flatten

/-- A finished capture is stored: tags and samples, then the header (R335). -/
def State.storeCapture (s : State) (c : Capture) (x : Captured) (header : List Byte) : State :=
  let tags := (x.runs.map tagWords).flatten
  let s := s.gleanerWrite c.firstBay 80 (tags ++ List.replicate (2048 - tags.length) 0)
  (s.gleanerWrite c.firstBay 2128 (x.samples c.quant)).gleanerWrite c.firstBay 0 (words32 80 header)

/-- CAPTURE_END (R334 to R338): the clock is brought to the capture's end and to where its last word has left on the lane bus.
The samples and tags are written, the header last; the capture ends with SNAP_DONE and its response. -/
def execCaptureEnd (s : State) : Result := whileLive s fun s => match s.snap.capture with
  | none => .next s
  | some c => match c.run with
    | none => .next s
    | some r =>
      let s := (if r.ends.isSome then s else s.advanceTo (c.endTime r)).captureEnds
      let r := s.captureRun.getD r
      let s := s.captureDrain c r
      let x := s.captured c r
      let s := x.2
      let free := s.freeVal % 2 ^ 32
      let nBays := divUp (x.1.total c.quant) bayWords
      let id := s.snap.nextId
      let header := snapHeader c r x.1 id nBays free
      let flags := fieldAt header 6 2
      let s := s.nextFree.storeCapture c x.1 header
      let s := (s.modSnap fun n => { n with
        nextId := (id + 1) % 2 ^ 32, commit := if c.req.isNone then some ⟨id, c.firstBay, none⟩ else n.commit }).captureOver
      let s := (s.snapStands ⟨id, c.firstBay, nBays⟩).emit (evSnapDone id flags c.entry)
      .next (s.answerTo c.req (ansOk (le 4 id ++ le 2 flags ++ le 2 0)))

/-! ### The non-volatile area (R342) -/

/-- Pages of the ring that bytes take; the area holds 1,024. -/
def pagesOf (l : List Byte) : Nat := divUp l.length 4096
def pagesUsed (l : List NvSnap) : Nat := l.foldl (fun a x => a + pagesOf x.bytes) 0

/-- The snapshot that an export holds. -/
def State.exporting (s : State) (id : Nat) : Bool := match s.snap.outgoing with
  | some (i, _) => i == id
  | none => false

/-- The oldest snapshots that no export holds are dropped until the pages fit (R342, R348); what is left, and how many
were dropped. -/
def State.dropOldest (s : State) (need : Nat) : Nat → List NvSnap → List NvSnap × Nat
  | 0, l => (l, 0)
  | n + 1, l =>
    if pagesUsed l + need ≤ 1024 then (l, 0)
    else match firstThat (fun x => !s.exporting x.id) l with
      | none => (l, 0)
      | some x =>
        let r := s.dropOldest need n (l.filter fun y => y.id != x.id)
        (r.1, r.2 + 1)

/-- The flag of a copy held in the non-volatile area, set in a header's bytes (R336). -/
def markHeld (l : List Byte) : List Byte :=
  l.take 6 ++ le 2 (if bit (fieldAt l 6 2) 6 then fieldAt l 6 2 else fieldAt l 6 2 + 64) ++ l.drop 8

/-- SNAP_COMMIT_DONE (R342): the last page is written; the snapshot is in the ring, or was skipped. -/
def execSnapCommitDone (s : State) : Result := whileLive s fun s => match s.snap.commit with
  | none => .next s
  | some c =>
    let r := s.compact c.firstBay
    let s := r.2
    let bytes := markHeld r.1
    let old := s.snap.nv.filter fun x => x.id != c.id
    let kept := if s.snap.policy == 0 then s.dropOldest (pagesOf bytes) old.length old else (old, 0)
    let s := s.modSnap fun n => { n with commit := none }
    if pagesUsed kept.1 + pagesOf bytes ≤ 1024 then
      let s := (s.modSnap fun n => { n with nv := kept.1 ++ [⟨c.id, bytes⟩] }).tally 11 kept.2
      let owner := s.get (BAY_OWNER.owner_id c.firstBay)
      .next ((s.snapWrites owner c.firstBay 1 (words32 1 (bytes.drop 4))).answerTo c.req (ansOk []))
    else .next ((s.tally 10 1).answerTo c.req (ansResource 1024 (pagesUsed old)))

/-- SNAP_LOAD_DONE (R342): the compact form stands in the bays again. -/
def execSnapLoadDone (s : State) : Result := whileLive s fun s => match s.snap.load with
  | none => .next s
  | some m =>
    let s := s.modSnap fun n => { n with load := none }
    match s.nvSnap m.id with
    | none => .next s
    | some x =>
      let h := x.bytes.take 38 ++ le 1 m.firstBay ++ x.bytes.drop 39 |>.take 320
      let nt := 2 * fieldAt h 36 2
      let body := x.bytes.drop (320 + 4 * nt)
      let s := s.gleanerWrite m.firstBay 80 (words32 nt (x.bytes.drop 320) ++ List.replicate (2048 - nt) 0)
      let s := s.gleanerWrite m.firstBay 2128 ((List.range (headerWords h)).map fun i => fieldAt body (5 * i) 5)
      let s := s.gleanerWrite m.firstBay 0 (words32 80 h)
      .next ((s.snapStands ⟨m.id, m.firstBay, byteAt h 39⟩).answerTo m.req (ansOk []))

/-! ### Snapshot fixes (R340) -/

/-- The bays of a snapshot are the thresher's: the offline pass is latched with the jobs programmed (R339, R197). A pass
that is not latched ends the request, with BUSY where its start was ignored (R199). -/
def State.fixReady (s : State) : State := match s.snap.fixFor with
  | none => s
  | some (id, q) => match s.baySnap id with
    | none => s
    | some b =>
      if s.snap.fixPass || !(List.range b.nBays).all fun i => s.get (BAY_OWNER.owner_id (b.firstBay + i)) == 0x08 then s
      else
        let busy := !s.is THR_CTRL.enable || s.thr.queued.isSome
        let fail := fun (s : State) =>
          (s.modSnap fun n => { n with fixFor := none, fixPass := false }).answer q (if busy then ansBusy else ansAborted 8)
        let s := ((s.flag THR_PASS_CFG.source).put THR_OFFLINE.header_addr (b.firstBay * 131072)).latchPass (some q)
        let offline (p : Option ThrPass) : Bool := match p with
          | some p => p.offline
          | none => false
        if offline s.thr.running || offline s.thr.queued then s.modSnap fun n => { n with fixPass := true } else fail s

/-- A snapshot fix: the report of R340, dated t_start, and the response with its number. -/
def State.snapshotFix (s : State) (id : Nat) (q : OpenReq) : State := match s.baySnap id with
  | none => s
  | some b =>
    let h := s.headerAt b.firstBay
    let s := h.2
    let v := Config.snapshotFix h.1 s.thr.results
    let body := s.solutionBody v (timeAt h.1 16) 8
    let seq := s.nav.seq
    ((s.sendReport v body).modSnap fun n => { n with fixFor := none, fixPass := false }).answer q (ansOk (le 4 seq))

/-- PEAK_SEARCH_DONE (R194): one result record for each job of the round done last; with the last round of a snapshot
fix's pass the fix is computed. -/
def execPeakSearchDone (s : State) : Result := whileLive s fun s =>
  let s := (s.searchRound s.thr.toSearch).modThr fun t => { t with toSearch := [] }
  let offline (p : Option ThrPass) : Bool := match p with
    | some p => p.offline
    | none => false
  match s.snap.fixFor with
  | some (id, q) =>
    if s.snap.fixPass && !offline s.thr.running && !offline s.thr.queued then .next (s.snapshotFix id q) else .next s
  | none => .next s

/-! ### Messages (R570) -/

/-- SNAP_ABORT (0x0302). -/
def execSnapAbort (r : Req) (p : List Byte) (s : State) : Result :=
  .next (s.serve ⟨.A, 0x0302, 0⟩ r p [isLength p 0] fun q s =>
    ((if s.capturing then s.cutCapture fun _ => true else s)).answer q (ansOk []))

/-- The header of a snapshot, wherever it is held; one in bays is read. -/
def State.anyHeader (s : State) (id : Nat) : List Byte × State := match s.baySnap id with
  | some b => s.headerAt b.firstBay
  | none => (((s.nvSnap id).map fun x => x.bytes.take 320).getD [], s)

/-- A snapshot of an identifier is held in bays or in the non-volatile area (R345). -/
def State.holdsSnap (s : State) (id : Nat) : Bool := (s.baySnap id).isSome || (s.nvSnap id).isSome

/-- SNAP_INFO (0x0303). -/
def execSnapInfo (r : Req) (p : List Byte) (s : State) : Result :=
  .next (s.serve ⟨.C, 0x0303, 0⟩ r p [isLength p 4, okArg 0 (s.holdsSnap (fieldAt p 0 4))] fun q s =>
    let h := s.anyHeader (fieldAt p 0 4)
    h.2.answer q (ansOk h.1))

/-- The entries of SNAP_LIST for the snapshots in bays, whose headers are read. -/
def State.listBays (s : State) : List BaySnap → List Byte × State
  | [] => ([], s)
  | b :: bs =>
    let h := s.headerAt b.firstBay
    let q := h.2.listBays bs
    (le 4 b.id ++ le 1 0 ++ le 1 (b2n (s.exporting b.id)) ++ le 2 0 ++ le 8 (fieldAt h.1 16 8) ++ q.1, q.2)

/-- SNAP_LIST (0x0304). -/
def execSnapList (r : Req) (p : List Byte) (s : State) : Result :=
  .next (s.serve ⟨.C, 0x0304, 0⟩ r p [isLength p 0] fun q s =>
    let l := s.listBays (s.snap.inBays.filter s.snapHeld)
    l.2.chunks q (l.1 ++
      (s.snap.nv.map fun x => le 4 x.id ++ le 1 1 ++ le 1 (b2n (s.exporting x.id)) ++ le 2 0 ++ le 8 (fieldAt x.bytes 16 8)).flatten))

/-- A snapshot is being captured, loaded or committed: no second move runs beside it. -/
def State.moving (s : State) : Bool := s.snap.load.isSome || s.snap.commit.isSome

/-- SNAP_LOAD (0x0305): answered at SNAP_LOAD_DONE. -/
def execSnapLoad (r : Req) (p : List Byte) (s : State) : Result :=
  let id := fieldAt p 0 4
  .next (s.serve ⟨.B, 0x0305, 5⟩ r p
    [isLength p 8, okArg 0 (s.nvSnap id).isSome, okArg 4 (decide (byteAt p 4 < 64)), isZero p 5 3] fun q s =>
    let h := ((s.nvSnap id).map fun x => x.bytes).getD []
    if s.moving || s.captureRun.isSome then s.answer q ansBusy
    else if !s.gleanerBays (byteAt p 4) (divUp (2128 + headerWords h) bayWords) then s.noRoom q
    else s.modSnap fun n => { n with load := some ⟨id, byteAt p 4, some q⟩ })

/-- SNAP_FIX (0x0306, R340). -/
def execSnapFix (r : Req) (p : List Byte) (s : State) : Result :=
  let id := fieldAt p 0 4
  .next (s.serve ⟨.A, 0x0306, 5⟩ r p [isLength p 4, okArg 0 (s.baySnap id).isSome] fun q s => match s.baySnap id with
    | none => s
    | some b =>
      let r := s.headerAt b.firstBay
      let h := r.1
      let s := r.2
      if !s.nav.orbit then s.answer q (s.ansState blkNoOrbit)
      else if 2000000000 < fieldAt h 40 4 then s.answer q (s.ansState blkTimeUnc)
      else if s.thr.queued.isSome || s.snap.fixFor.isSome then s.answer q ansBusy
      else
        let s := (s.accept q).modSnap fun n => { n with fixFor := some (id, q), fixPass := false }
        let s := s.each ((List.range b.nBays).map (b.firstBay + ·)) fun s bay =>
          if s.get (BAY_OWNER.owner_id bay) == 0x08 then s else s.handTo bay 0x08 false
        s.fixReady)

/-- SNAP_SCHEDULE (0x0307, R346): the ranges bind an entry that is enabled. -/
def execSnapSchedule (r : Req) (p : List Byte) (s : State) : Result :=
  let en := byteAt p 1 == 1
  .next (s.serve ⟨.A, 0x0307, 4⟩ r p
    [isLength p 20, okArg 0 (decide (byteAt p 0 < 8)), okArg 1 (decide (byteAt p 1 < 2)),
      okArg 2 (!en || (decide (1 ≤ byteAt p 2) && decide (byteAt p 2 ≤ 14))), okArg 3 (!en || decide (byteAt p 3 < 2)),
      okArg 4 (!en || (decide (2 ≤ byteAt p 4) && decide (byteAt p 4 ≤ 64))), isZero p 5 3,
      okArg 8 (!en || (decide (60 ≤ fieldAt p 8 4) && decide (fieldAt p 8 4 ≤ 86400)))] fun q s =>
    (s.modSnap fun n => { n with schedule := vmod (fun _ =>
      ⟨en, byteAt p 2, byteAt p 3, byteAt p 4, fieldAt p 8 4, fieldAt p 12 8⟩) n.schedule (byteAt p 0) }).answer q (ansOk []))

/-- SNAP_POLICY (0x0308). -/
def execSnapPolicy (r : Req) (p : List Byte) (s : State) : Result :=
  .next (s.serve ⟨.A, 0x0308, 0⟩ r p [isLength p 4, okArg 0 (decide (byteAt p 0 < 2)), isZero p 1 3] fun q s =>
    (s.modSnap fun n => { n with policy := byteAt p 0 }).answer q (ansOk []))

/-- The container of an export (R343, R344). -/
def State.container (s : State) (id : Nat) (bytes : List Byte) : List Byte :=
  let iv := le 4 Config.exportSalt.toNat ++ le 8 s.snap.counter
  let head := le 4 0x58455057 ++ le 2 1 ++ le 2 s.sec.exportGen ++ be 16 Config.deviceId.toNat ++ le 4 id ++ iv ++
    le 4 bytes.length
  let c := Config.aesGcm (s.sec.exportKey.getD []) iv head bytes
  head ++ c.1 ++ be 16 c.2.toNat

/-- SNAP_EXPORT (0x0309, R345): the chunks follow on the class-C ring; the snapshot is held until they have left. -/
def execSnapExport (r : Req) (p : List Byte) (s : State) : Result :=
  let id := fieldAt p 0 4
  .next (s.serve ⟨.C, 0x0309, 0⟩ r p [isLength p 4] fun q s =>
    let loading := match s.snap.load with
      | some m => m.id == id
      | none => false
    if s.sec.exportKey.isNone then s.answer q (ansLocked 0)
    else if !s.holdsSnap id then s.answer q (ansArg 0)
    else if loading then s.answer q ansBusy
    else
      let r : List Byte × State := match s.baySnap id with
        | some b => s.compact b.firstBay
        | none => (((s.nvSnap id).map NvSnap.bytes).getD [], s)
      let s := r.2
      let c := s.container id r.1
      let n := s.snap.counter
      let s := s.modSnap fun x => { x with
        counter := (n + 1) % 2 ^ 64, counterNv := if n % 65536 == 0 then (n + 65536) % 2 ^ 64 else x.counterNv }
      let s := (s.accept q).chunks q c
      s.modSnap fun x => { x with
        outgoing := if (vget ({} : RspRing) s.host.rsps 3).held.isEmpty then none else some (id, q) })

/-- SNAP_DELETE (0x030A). -/
def execSnapDelete (r : Req) (p : List Byte) (s : State) : Result :=
  let id := fieldAt p 0 4
  .next (s.serve ⟨.B, 0x030A, 0⟩ r p [isLength p 4, okArg 0 (s.holdsSnap id)] fun q s =>
    if s.exporting id || s.moving then s.answer q ansBusy
    else (s.modSnap fun n => { n with
      inBays := n.inBays.filter fun b => b.id != id, nv := n.nv.filter fun b => b.id != id }).answer q (ansOk []))

/-- SNAP_COMMIT (0x030B): answered at SNAP_COMMIT_DONE. -/
def execSnapCommit (r : Req) (p : List Byte) (s : State) : Result :=
  let id := fieldAt p 0 4
  .next (s.serve ⟨.B, 0x030B, 5⟩ r p [isLength p 4, okArg 0 (s.baySnap id).isSome] fun q s => match s.baySnap id with
    | none => s
    | some b =>
      let h := s.headerAt b.firstBay
      let need := divUp (compactLength h.1) 4096
      let used := pagesUsed (s.snap.nv.filter fun x => x.id != id)
      let s := h.2
      if s.moving then s.answer q ansBusy
      else if s.snap.policy == 1 && decide (1024 < used + need) then (s.tally 10 1).answer q (ansResource 1024 used)
      else s.modSnap fun n => { n with commit := some ⟨id, b.firstBay, some q⟩ })

end Sys2Proof.Machine
end

