-- ==== Sys2Proof/Machine/Delegation.lean ====
section
/-! DEFINITION. Delegation: the messages of group 0x07 (R45 to R49, R575), the windows of a kernel's bays (R298), and the
end of a hand-over (R92). -/

namespace Sys2Proof.Machine

/-- The open core of an owner ID, 0x1C to 0x1F. -/
def ownerCore (id : Nat) : Option Nat := if 0x1C ≤ id ∧ id ≤ 0x1F then some (id - 0x10) else none

/-- The lowest-numbered window of core n that is not enabled and not awaited (R298). -/
def State.freeWindow (s : State) (n : Nat) : Option Nat :=
  firstThat (fun w => !s.is (WIN_CFG.en n w) && (vget none (s.kernel n).bays w).isNone) [0, 1, 2, 3]

/-- The windows of every kernel that map a bay, or await it, are freed (R298). -/
def State.unmapBay (s : State) (bay : Nat) : State := s.each [12, 13, 14, 15] fun s n =>
  s.each [0, 1, 2, 3] fun s w =>
    if vget none (s.kernel n).bays w == some bay then
      (s.put (WIN_CFG.en n w) 0).modKernel n fun k => { k with bays := vmod (fun _ => none) k.bays w }
    else s

/-- A bay passes directly between the host and an open core (R47). -/
def directPass (owner target : Nat) : Bool :=
  (owner == 0x20 && (ownerCore target).isSome) || ((ownerCore owner).isSome && target == 0x20)

/-- The block is in use by the firmware, or delegated to another owner (R45, R582, R609). -/
def State.bayOwned (s : State) (bay target : Nat) : Bool :=
  let o := s.get (BAY_OWNER.owner_id bay)
  s.is (BAY_OWNER.busy bay) || s.is (BAY_OWNER.in_group bay) || (s.groupOf bay).isSome || s.stagingBays.contains bay ||
    s.snapshotBay bay || !(o == 0x00 || o == 0x01 || o == target || directPass o target)

/-- What refuses a bay to an open core (R45, R298): a fifth bay or one beyond the header's bays, or no loaded kernel. -/
def State.coreRefuses (s : State) (n bay : Nat) : Option Answer :=
  let have' := ((s.kernelBays n).filter fun b => b != bay).length
  let most := (s.kernel n).maxBays
  if 4 ≤ have' then some (ansResource 4 have')
  else if !s.kernelLoaded n then some (s.ansState blkNoKernel)
  else if most ≤ have' then some (ansResource most have')
  else if (s.freeWindow n).isNone && !(s.kernelBays n).contains bay then some (ansResource 4 have')
  else none

/-- The hand-over of a bay to the host or a kernel begins (R45, R47, R298). A bay that its owner is given again passes between
no owners, and is not cleared: DEDUCED, log entry 66. -/
def State.delegateBay (s : State) (q : OpenReq) (bay target : Nat) (keep : Bool) : State :=
  let same := s.get (BAY_OWNER.owner_id bay) == target
  let s := s.unmapBay bay
  let s := match ownerCore target with
    | some n => match s.freeWindow n with
      | some w => s.modKernel n fun k => { k with bays := vmod (fun _ => some bay) k.bays w }
      | none => s
    | none => s
  let s := (s.accept q).handTo bay target (!keep && !same)
  s.modGran fun g => { g with waits := g.waits ++ [(bay, q)] }

/-- DELEGATE (0x0701, R45, R47, R49, R497). -/
def execDelegate (r : Req) (p : List Byte) (s : State) : Result :=
  let kind := byteAt p 0
  let i := byteAt p 1
  let target := byteAt p 2
  let keep := bit (byteAt p 3) 0
  let never := kind == 2 && (i == 60 || i == 61 || i == 63)
  .next (s.serve ⟨.A, 0x0701, if kind == 2 && decide (i ≤ 55) then 5 else 4⟩ r p
    [isLength p 4, okArg 0 (decide (kind < 3)),
      okArg 1 (decide (i < (if kind == 0 then 8 else if kind == 1 then 16 else 64)) && !never),
      okArg 2 (outsideOwner target && (kind == 2 || target == 0x20))] fun q s =>
    if kind == 0 then ((s.accept q).put (UART_OWNER.owner i) 0x20).answer q (ansOk [])
    else if kind == 1 then ((s.accept q).put (CVU_OWNER.owner i) 0x20).answer q (ansOk [])
    else if s.bayOwned i target then s.answer q (s.ansState blkOwned)
    else match (ownerCore target).bind (s.coreRefuses · i) with
      | some a => s.answer q a
      | none => s.delegateBay q i target keep)

/-- The bay is delegated, or being handed to the host or a kernel. -/
def State.bayOut (s : State) (bay : Nat) : Bool :=
  if s.is (BAY_OWNER.busy bay) then outsideOwner (s.nextOwner bay) || outsideOwner (s.get (BAY_OWNER.owner_id bay))
  else outsideOwner (s.get (BAY_OWNER.owner_id bay))

/-- A bay returns to the firmware (R48, R298, R612); one that is already on its way goes on. -/
def State.bayHome (s : State) (bay : Nat) : State :=
  let s := s.unmapBay bay
  if s.is (BAY_OWNER.busy bay) && s.nextOwner bay == 0x01 then s else s.returnBay bay

/-- RETURN (0x0702, R48). -/
def execReturnBlock (r : Req) (p : List Byte) (s : State) : Result :=
  let kind := byteAt p 0
  let i := byteAt p 1
  .next (s.serve ⟨.A, 0x0702, 0⟩ r p
    [isLength p 4, okArg 0 (decide (kind < 3)), okArg 1 (decide (i < (if kind == 0 then 8 else if kind == 1 then 16 else 64))),
      isZero p 2 2] fun q s =>
    if kind == 0 then
      if s.get (UART_OWNER.owner i) == 0x20 then ((s.accept q).uartReturn i).answer q (ansOk []) else s.answer q (ansOk [])
    else if kind == 1 then
      if s.get (CVU_OWNER.owner i) == 0x20 then ((s.accept q).cvuReturn i).answer q (ansOk []) else s.answer q (ansOk [])
    else if s.bayOut i then
      ((s.accept q).bayHome i).modGran fun g => { g with waits := g.waits ++ [(i, q)] }
    else s.answer q (ansOk []))

/-- OWNERS (0x0703). -/
def execOwners (r : Req) (p : List Byte) (s : State) : Result :=
  .next (s.serve ⟨.C, 0x0703, 0⟩ r p [isLength p 0] fun q s =>
    s.answer q (ansOk ((List.range 8).flatMap (fun n => le 1 (s.get (UART_OWNER.owner n))) ++
      (List.range 16).flatMap (fun c => le 1 (s.get (CVU_OWNER.owner c))) ++
      (List.range 64).flatMap fun b => le 1 (s.get (BAY_OWNER.owner_id b)))))

/-- A bay that reached an open core is mapped in the window that awaits it (R298). -/
def State.mapBay (s : State) (bay : Nat) : State := match ownerCore (s.get (BAY_OWNER.owner_id bay)) with
  | none => s
  | some n => s.each [0, 1, 2, 3] fun s w =>
    if vget none (s.kernel n).bays w == some bay then (s.put (WIN_CFG.base n w) bay).flag (WIN_CFG.en n w) else s

/-- The requests that wait for a bay: a delegation is answered when its hand-over ends, a return when the firmware owns
the bay (R47, R48). -/
def State.bayAnswers (s : State) (bay : Nat) : State :=
  let home := s.get (BAY_OWNER.owner_id bay) == 0x01
  let due (w : Nat × OpenReq) : Bool := w.1 == bay && (w.2.op == 0x0701 || home)
  let ws := s.gran.waits.filter due
  (s.modGran fun g => { g with waits := g.waits.filter fun w => !due w }).each ws fun s w => s.answer w.2 (ansOk [])

/-- HANDOVER_DONE (R92): the owner changes, and what waited for it goes on: windows (R298), requests, unloads (R297) and a
snapshot fix. -/
def execHandoverDone (bay : Fin 64) (s : State) : Result := whileLive s fun s =>
  if !s.handoverRuns bay || s.frozen then .next s
  else
    let s := ((s.handoverEnds bay).mapBay bay).bayAnswers bay
    let home := s.get (BAY_OWNER.owner_id bay.val) == 0x01
    let s := s.each [12, 13, 14, 15] fun s n => s.modKernel n fun k => { k with
      returning := if home then k.returning.filter (· != bay.val) else k.returning }
    .next (s.unloadsEnd).fixReady

end Sys2Proof.Machine
end

