-- ==== Sys2Proof/Machine/SecOps.lean ====
section
/-! DEFINITION. What the silo's monitor does for other units: zeroisation (R513), changes of the lifecycle (R515), opening
and closing debug access (R522), the seal latch (R520, R521), and lockout (R525). -/

namespace Sys2Proof.Machine

def State.modSec (s : State) (f : SecState → SecState) : State := { s with sec := f s.sec }

/-- The scopes of SEC_STATE.scope. -/
def scopeVendor : Nat := 1
def scopeCustomer : Nat := 2
def scopeFull : Nat := 3

/-- Every STS key is zeroised, and the sessions that they belong to are deleted (R441, R513). -/
def State.zeroiseSts (s : State) : State := s.dropSessions.flag SEC_EVENT.zeroised

/-- A change of the lifecycle state (R515). -/
def State.toLifecycle (s : State) (v : Nat) : State :=
  let old := s.lifecycle
  let s := s.modSec fun c => { c with fielded := c.fielded || v == 2 }
  (((s.put SEC_STATE.lifecycle v).put HL_STATUS.lifecycle v).flag SEC_EVENT.lifecycle_change).emit (evLifecycle v old)

/-- Instructions of the TAP that the state allows (R522): code, lifecycle, debug OPEN, frozen. -/
def tapAllows (code lifecycle : Nat) (isOpen frozen : Bool) : Bool :=
  if code == 0x03 || code == 0x04 || code == 0x05 then lifecycle != 2 && !frozen
  else if code == 0x11 then isOpen && !frozen
  else if code == 0x12 then isOpen && frozen
  else true

/-- A selected instruction that the state no longer allows gives way to BYPASS (R522, R533). -/
def State.tapCheck (s : State) : State :=
  s.modSec fun c => if tapAllows c.tap.ir s.lifecycle s.debugOpen s.frozen then c else { c with tap := { c.tap with ir := 0xFF, range := {} } }

/-- Debug access closes (R522). -/
def State.closeDebug (s : State) : State :=
  if !s.debugOpen then s
  else (((s.put SEC_STATE.debug 0).put SEC_STATE.scope 0).flag SEC_EVENT.debug_close).emit (evDebugState 0 0)

/-- An event that leaves SERVICE, or a close of debug access (R515, R522): debug closes, and SERVICE gives way to FIELD. -/
def State.endDebug (s : State) : State :=
  let s := s.closeDebug
  (if s.lifecycle == 3 then s.toLifecycle 2 else s).tapCheck

/-- Debug access opens with a scope (R513, R522): every STS key is zeroised and every session deleted. -/
def State.openDebug (s : State) (scope : Nat) : State :=
  let s := (((s.put SEC_STATE.debug 1).put SEC_STATE.scope scope).flag SEC_EVENT.debug_open).emit (evDebugState 1 scope)
  s.zeroiseSts

/-! ### The seal -/

/-- SEAL_BREAK is sent when the rings are open and the device is not frozen; until then it is held (R520). -/
def State.sealSend (s : State) : State := match s.sec.sealDue with
  | some (cause, rtc) =>
    if s.ringsOpen && !s.frozen then (s.modSec fun c => { c with sealDue := none }).emit (evSealBreak cause rtc) else s
  | none => s

/-- The action of a seal break (R513, SEC_SEAL_CFG.action). -/
def State.sealZeroise (s : State) : State :=
  if s.sec.sealAction then
    s.zeroiseSts.modSec fun c => { c with transportKey := none, exportKey := none }
  else s

/-- The break latch is set with a cause at an RTC count (R520, R521); a latch that is set keeps its record. -/
def State.sealBreak (s : State) (cause rtc : Nat) : State :=
  if s.is SEC_SEAL_STATUS.broken then s
  else
    let s := ((s.flag SEC_SEAL_STATUS.broken).put SEC_SEAL_STATUS.cause cause).bump SEC_SEAL_STATUS.breaks
    let s := (s.put SEC_SEAL_TIME_LO.cnt_lo rtc).put SEC_SEAL_TIME_HI.cnt_hi (rtc / 2 ^ 32)
    let s := (s.flag SEC_EVENT.seal_break).modSec fun c => { c with sealDue := some (cause, rtc) }
    s.sealZeroise.sealSend

/-- The seal setting taken by SEC_SEAL_CFG is written to the store (R521). -/
def State.sealSet (s : State) (en action : Bool) : State :=
  ((s.put SEC_SEAL_CFG.en (b2n en)).put SEC_SEAL_CFG.action (b2n action)).modSec fun c => { c with sealEn := en, sealAction := action }

/-- The break latch cleared (R520). -/
def State.sealClear (s : State) : State := (s.put SEC_SEAL_STATUS.broken 0).put SEC_SEAL_STATUS.cause 0

/-! ### Presence -/

/-- The presence window is open (R517, R518). -/
def State.present (s : State) : Bool := s.is SEC_PRES.window

/-- SEC_PRES shows the time left in the window (R517). -/
def State.showPres (s : State) : State :=
  if s.get SEC_PRES.remaining_ms == 0 then s else s.put SEC_PRES.remaining_ms (clampNat 1 30000 (Config.presenceLeft s.free))

/-! ### Lockout (R525) -/

/-- RTC periods of 24 h. -/
def dayRtc : Nat := 86400 * 32768

/-- The RTC count at which the lockout ends, 0 for none. -/
def State.lockoutEnd (s : State) : Nat := s.get SEC_LOCKOUT_LO.end_lo + s.get SEC_LOCKOUT_HI.end_hi * 2 ^ 32

/-- The seconds of lockout left, rounded up. -/
def State.lockoutLeft (s : State) : Nat := (s.lockoutEnd - s.rtcCount + 32767) / 32768

/-- The lockout of level f starts now (R525): none below 8. An end beyond the 48 bits of the counter is held at its largest
value. DESIGN CHOICE: log entry 20. -/
def State.startLockout (s : State) (f : Nat) : State :=
  if f < 8 then s
  else
    let t := min (s.rtcCount + dayRtc * 2 ^ (f - 8)) (2 ^ 48 - 1)
    let s := (s.put SEC_LOCKOUT_LO.end_lo t).put SEC_LOCKOUT_HI.end_hi (t / 2 ^ 32)
    ((s.put SEC_STATE.debug 2).flag SEC_EVENT.lockout).emit (evDebugState 2 0)

/-- The failure counter set, and mirrored (R525). -/
def State.setFailures (s : State) (f : Nat) : State := (s.put SEC_AUTH.failures f).modSec fun c => { c with mirror := f }

end Sys2Proof.Machine
end

