-- ==== Sys2Proof/Machine/Power.lean ====
section
/-! DEFINITION. Supplies, resets and power modes (R479 to R506), and the steward pairs (R36 to R44), whose double fault
resets the main domain. -/

namespace Sys2Proof.Machine

/-! ### Reset of the main domain -/

/-- Registers of the always-on domain (R17): a main-domain reset leaves them. -/
def aonRegisters : List Nat :=
  [TIME_RTC_CNT_LO, TIME_RTC_CNT_HI, TIME_RTC_ALARM_LO, TIME_RTC_ALARM_HI, PWR_CFG, PWR_EVENT, PWR_UART_WAKE, PWR_WAKE,
   SEC_PRES, SEC_SEAL_STATUS, SEC_SEAL_TIME_LO, SEC_SEAL_TIME_HI, SEC_AUTH, SEC_LOCKOUT_LO, SEC_LOCKOUT_HI,
   SEC_FREEZE_STATUS, SEC_EVENT]

/-- SEC_STATE and SEC_SEAL_CFG show the fuses, the lockout and the stored seal setting (R514, R521, R525). -/
def State.showFuses (s : State) : State :=
  let s := (s.put SEC_STATE.lifecycle s.sec.fused).put SEC_STATE.debug (if s.lockoutEnd == 0 then 0 else 2)
  let s := (s.put SEC_STATE.market_locked (b2n s.sec.marketFuse)).put SEC_STATE.vendor_debug_off (b2n s.sec.vendorOff)
  (s.put SEC_SEAL_CFG.en (b2n s.sec.sealEn)).put SEC_SEAL_CFG.action (b2n s.sec.sealAction)

/-- Every main-domain register and memory takes its reset value (R17, R44); fuses, the non-volatile store, the keep store,
the always-on domain and the levels of pins stay. A presence window that the strap held ends (R518). -/
def State.mainClear (s : State) : State :=
  let strap := s.is SEC_PRES.via_strap
  let t : State := { State.reset with
    regs := sparseKeep (fun a => aonRegisters.contains a) s.regs
    nav := { seq := s.nav.seqNv, seqNv := s.nav.seqNv }
    snap := { nextId := s.snap.nextId, nv := s.snap.nv, policy := s.snap.policy, schedule := s.snap.schedule
              counter := s.snap.counterNv, counterNv := s.snap.counterNv, parkedRun := s.snap.parkedRun }
    ltu := { relation := s.ltu.relation }
    net := { asymNv := s.net.asymNv, lat100 := s.net.lat100, lat1000 := s.net.lat1000 }
    uwb := { store := s.uwb.store, delays := s.uwb.delays, gntPin := s.uwb.gntPin }
    pwr := { s.pwr with move := none, slot := none, boot := none }
    sec := { s.sec with certStage := [], provision := none }
    fw := { s.fw with stage := [], commit := none }
    host := { spi := s.host.spi, perst := s.host.perst, epoch := s.host.epoch + 1 }
    free := s.free
    pending := s.pending }
  let t := t.put STW_STATUS.failover_count (s.get STW_STATUS.failover_count)
  let t := (t.put PWR_STATUS.on_vbak (s.get PWR_STATUS.on_vbak)).put PWR_STATUS.vsys_ok (s.get PWR_STATUS.vsys_ok)
  let t := (t.put PWR_STATUS.pfail (s.get PWR_STATUS.pfail)).put PWR_STATUS.rails_ok (s.get PWR_STATUS.rails_ok)
  let t := if strap then (t.put SEC_PRES.window (b2n (t.get SEC_PRES.remaining_ms != 0))).put SEC_PRES.via_strap 0 else t
  t.showFuses

/-- A main-domain reset (R481, R513, R515): STS keys are zeroised, debug access closes, SERVICE ends, and the domain is
held in reset. `orderly` says whether the time relation was written as it stopped (R392). -/
def State.mainReset (s : State) (orderly : Bool) : State :=
  (s.zeroiseSts.endDebug.mainClear).modPwr fun p => { p with inReset := true, orderly := orderly, downIn := 0 }

/-- The main domain is held in reset and PWR_EN falls (R488, R500, R611); the mode reads as given. A wake from it starts
the domain from that mode. -/
def State.mainOff (s : State) (mode : Nat) (orderly : Bool) : State :=
  let before := s.mode
  let s := (s.mainReset orderly).put PWR_STATUS.rails_ok 0
  let s := (s.put PWR_STATUS.mode mode).when (before != mode) (·.flag PWR_EVENT.mode_change)
  (s.modSec fun c => { c with tap := {} }).modPwr fun p => { p with
    powered := false, downIn := mode, asleep := mode == 2 || mode == 3, capWake := false, bootAfter := false }

/-- The event of a change of mode (R581). -/
def State.modeEvent (s : State) (mode previous cause : Nat) : State :=
  (s.flag PWR_EVENT.mode_change).emit (evModeChange mode previous cause)

/-! ### Supplies -/

/-- TO_VBAK (R484, R490): a device whose main domain is off is then in KEEP, where no wake source is watched. -/
def execToVbak (s : State) : Result :=
  if !s.pwr.aon || s.is PWR_STATUS.on_vbak then .next s
  else
    let s := ((s.flag PWR_STATUS.on_vbak).put PWR_STATUS.vsys_ok 0).flag PWR_EVENT.to_vbak
    if s.pwr.powered then .next s
    else
      let s := if s.mode == 1 then s else (s.put PWR_STATUS.mode 1).flag PWR_EVENT.mode_change
      .next (s.modPwr fun p => { p with asleep := false, downIn := 1 })

/-- The always-on domain returns to VSYS. -/
def State.toVsys (s : State) : State := (s.put PWR_STATUS.on_vbak 0).flag PWR_EVENT.to_vsys

/-- TO_VSYS (R484). -/
def execToVsys (s : State) : Result := .next (if s.pwr.aon && s.is PWR_STATUS.on_vbak then s.toVsys else s)

/-- VBAK_LOW (R484): VBAK fell below 2.0 V while selected, and VSYS is at or above 2.0 V. -/
def execVbakLow (s : State) : Result := .next (if s.pwr.aon && s.is PWR_STATUS.on_vbak then s.toVsys else s)

/-- The always-on domain's registers, the keep store and the monitor's volatile state are lost (R485). -/
def State.aonClear (s : State) : State :=
  let s := { s with regs := sparseKeep (fun a => !aonRegisters.contains a) s.regs }
  let s := (s.put STW_STATUS.failover_count 0).put SEC_STATE.debug 0
  let s := (s.modLtu fun u => { u with relation := none }).modPwr fun p => { p with keepUart := [] }
  s.modSec fun c => { c with nonce := none, auths := [], sealDue := none, aonLost := true }

/-- AON_POWER_LOSS (R485): both supplies are below 2.0 V. -/
def execAonPowerLoss (s : State) : Result :=
  if !s.pwr.aon then .next s
  else
    let s := if s.pwr.powered then s.mainOff 1 false else s
    .next (s.aonClear.modPwr fun p => { p with aon := false, asleep := false, downIn := 0 })

/-- AON_POWER_UP (R485): from VSYS or VBAK; the RTC counter and the keep store read zero, and aon_por is set. -/
def execAonPowerUp (onVbak : Bool) (s : State) : Result :=
  if s.pwr.aon then .next s
  else
    let s := (s.aonClear.put PWR_STATUS.on_vbak (b2n onVbak)).put PWR_STATUS.mode 1
    .next (s.modPwr fun p => { p with aon := true, downIn := 0 })

/-! ### Shutdown -/

/-- The next multiple of 65,536 above a counter, to be written to the store (R314, R344, R488 step 5). -/
def nextMultiple (v : Nat) : Nat := (v / 65536 + 1) * 65536

/-- Steps 1 to 6 of the orderly shutdown (R488), with the RTC edge of its time relation: what it stops is lost at the reset
that follows, and what it saves is saved. -/
def State.shutdownSteps (s : State) (rtc : Nat) : State :=
  let s := (s.writeRelation rtc (s.edgeAfter s.ltu.now)).nextFree
  let s := s.modNav fun n => { n with seqNv := nextMultiple n.seq % 2 ^ 32 }
  let s := s.modSnap fun n => { n with counterNv := nextMultiple n.counter % 2 ^ 64 }
  s.endDebug.zeroiseSts

/-- The cause of a shutdown shows: PFAIL_N low, or VSYS below 2.95 V (R487). -/
def State.powerFails (s : State) (pfail : Bool) : State := if pfail then s.flag PWR_STATUS.pfail else s.put PWR_STATUS.vsys_ok 0

/-- SHUTDOWN_START (R487 to R490): the whole orderly shutdown, which always runs to its end. -/
def execShutdownStart (pfail : Bool) (rtc : BitVec 48) (s : State) : Result := whileLive s fun s =>
  let s := (s.powerFails pfail).shutdownSteps rtc.toNat
  .next (((s.modeEvent 1 s.mode 4).mainOff 1 true).flag PWR_EVENT.shutdown)

/-- MAIN_POWER_START (R490): PFAIL_N high and VSYS above 3.00 V for 10 ms. DORMANT and PARKED wait for a wake instead. -/
def execMainPowerStart (s : State) : Result :=
  if !s.pwr.aon || s.pwr.powered || s.pwr.asleep then .next s
  else .next (((s.put PWR_STATUS.pfail 0).flag PWR_STATUS.vsys_ok).modPwr fun p => { p with powered := true })

/-- RAIL_FAULT (R481): no orderly shutdown. -/
def execRailFault (s : State) : Result :=
  if !s.pwr.powered then .next s
  else .next (((s.mainReset false).put PWR_STATUS.rails_ok 0).flag PWR_EVENT.rail_fault)

/-- EXT_RESET (R481): SYS_RST_N low. -/
def execExtReset (s : State) : Result :=
  if !s.pwr.powered then .next s
  else .next (((s.mainReset false).flag PWR_EVENT.ext_reset).modPwr fun p => { p with sysRst := true })

/-- EARLY_PFAIL (R611): before the release of the reset no shutdown runs; the device waits for the start condition. -/
def execEarlyPfail (pfail : Bool) (s : State) : Result :=
  if !s.pwr.powered || !s.pwr.inReset then .next s
  else .next ((s.powerFails pfail).mainOff 1 s.pwr.orderly)

/-- FROZEN_PFAIL (R491): the monitor zeroises the session keys and closes debug access; the frozen state is lost. -/
def execFrozenPfail (s : State) : Result :=
  if !s.frozen then .next s
  else .next (((s.flag PWR_STATUS.pfail).mainOff 1 false).flag PWR_EVENT.frozen_loss)

/-! ### Start and boot -/

/-- Whether a schedule entry's preset, quantisation and length need so many gleaner bays (R330). -/
def entryBays (e : Schedule) (x : Preset) : Nat :=
  divUp (2128 + divUp (divUp (e.lengthMs * 3600000) (x.a * x.b) + 1) (perWord e.quant)) bayWords

/-- The next instant of a schedule entry at or after a time (R346). -/
def Schedule.next (e : Schedule) (now : Time) : Time := gridFrom (e.firstSec * second) (e.periodS * second) now

/-- The enabled entries that fall on an entry's next instant, in ascending number (R348). -/
def State.sameInstant (s : State) (entry : Nat) : List Nat :=
  let at' (i : Nat) : Time := (vget ({} : Schedule) s.snap.schedule i).next s.ltu.now
  (List.range 8).filter fun i => (vget ({} : Schedule) s.snap.schedule i).enable && at' i == at' entry

/-- The control pair prepares a scheduled capture (R504): the GNSS chain, the entry's preset on LANE_0, the gleaner's bays
from BAY_0, and the capture armed on firmware trigger 24, which fires at the entry's instant. Of several entries of one instant
the lowest runs, and the others are missed and counted (R348). DESIGN CHOICE of lane, bays and trigger: log entry 21. -/
def State.prepareCapture (s : State) (entry : Nat) : State :=
  let n := (s.sameInstant entry).headD entry
  let s := s.tally 12 ((s.sameInstant entry).length - 1)
  let e := vget {} s.snap.schedule n
  match presetOf e.preset with
  | none => s
  | some x =>
    let s := ((s.flag FE_CTRL.gnss_en).startChain.programPreset 0 x).laneEnable 0
    let s := s.each (List.range (entryBays e x)) fun s b => s.put (BAY_OWNER.owner_id b) 0x09
    let s := (s.setTrigTime 24 (e.next s.ltu.now)).armTrigger 24
    let c : Capture := { req := none, entry := n, lanes := [0], quant := e.quant, lengthMs := e.lengthMs, trigger := 24
                         firstBay := 0, armedAt := s.ltu.now }
    s.modSnap fun k => { k with capture := some c }

/-- PRES_STRAP as sampled at the release of the main-domain reset (R518, R522): honoured in BLANK and PROVISIONED. -/
def State.strapAt (s : State) (strap : Bool) : State :=
  let s := (s.put SEC_STATE.strap (b2n strap)).modSec fun c => { c with strapPin := strap }
  if strap && decide (s.lifecycle ≤ 1) then
    (((s.flag SEC_STATE.strap_honoured).flag SEC_PRES.window).flag SEC_PRES.via_strap).openDebug scopeFull
  else s

/-- The event that the boot will form (R581): cause and previous mode. -/
def bootCause (downIn : Nat) : Nat × Nat := if downIn == 2 || downIn == 3 then (downIn, 2) else (downIn, 5)

/-- MAIN_RESET_RELEASE (R481, R504, R518, R555): the main domain starts; the clock is reloaded (R392). The levels of
PRES_STRAP and HOST_SEL are sampled, and the RTC's count is given. -/
def execMainResetRelease (strap hostSel : Bool) (rtc : BitVec 48) (s : State) : Result :=
  if !s.pwr.aon || !s.pwr.powered || !s.pwr.inReset then .next s
  else
    let s := ((s.mainClear).setRtc rtc.toNat).flag PWR_STATUS.rails_ok
    let s := (s.modPwr fun p => { p with inReset := false, sysRst := false }).strapAt strap
    let s := (s.put HL_ID.spi (b2n hostSel)).modHost fun h => { h with spi := hostSel }
    let s := (s.put HL_STATUS.lifecycle s.lifecycle).put NET_ASYM.correction s.net.asymNv
    let s := ({ s with fw := { s.fw with slot := s.fw.next } }).showStore.showGnt
    let s := s.reloadTime s.pwr.orderly
    match s.pwr.capWake, s.snap.parkedRun with
    | true, some entry => .next ((s.put PWR_STATUS.mode 3).prepareCapture entry)
    | _, _ => .next (s.modPwr fun p => { p with boot := some (bootCause p.downIn), capWake := false })

/-- The firmware cores that run in the present mode run; the others are off, their memories lost (R496). -/
def State.setCores (s : State) (now : Nat) : State :=
  let s := s.put PWR_STATUS.mode now
  let on := s.coresOn
  s.each (List.range 12) fun s n =>
    if on ≤ n then ((s.clearMemories n).coreReset n)
    else if (s.core n).running then s
    else (s.coreReset n).modCore n fun c => { c with running := true }

/-- THR_CTRL.rate_div of a mode (R496). -/
def modeDiv (mode : Nat) : Nat := if mode ≤ 5 then 3 else if mode == 6 then 2 else 0

/-- The power mode becomes `mode` (R494, R496). -/
def State.setMode (s : State) (mode : Nat) : State :=
  ((s.setCores mode).put THR_CTRL.rate_div (modeDiv mode)).put HL_STATUS.mode mode

/-- A boot mode code outside WATCH to HARVEST acts as LITE (R501). -/
def bootMode (code : Nat) : Nat := if 4 ≤ code ∧ code ≤ 7 then code else 5

/-- The UARTs' registers restored from the keep store; the line that woke the device shows its wake (R471, R472, R503). -/
def State.uartsRestore (s : State) : State :=
  let s := s.each s.pwr.keepUart fun s x => s.setWord x.1 x.2
  let s := s.each (List.range 8) fun s n =>
    let s := s.put (UART_STATUS.wake_masked n) (s.get PWR_WAKE.wake_masked / 2 ^ n)
    s.modUart n fun u => { u with divRx := s.divisor n, divTx := s.divisor n }
  s.modPwr fun p => { p with keepUart := [] }

/-- The line whose low level woke the device shows it. -/
def State.uartWoke (s : State) : State :=
  let n := s.get PWR_WAKE.uart
  if s.get PWR_WAKE.cause == 3 then (s.flag (UART_EVENT.wake n)).flag (UART_EVENT.wake_lost n) else s

/-- The first boot after a loss of the always-on domain (R521, R525): the seal went unwatched, the failure counter is
restored from its mirror, and its lockout starts again. -/
def State.afterAonLoss (s : State) : State :=
  if !s.sec.aonLost then s
  else
    let s := s.modSec fun c => { c with aonLost := false }
    let s := if s.sec.sealEn then s.sealBreak 2 0 else s
    (s.setFailures s.sec.mirror).startLockout s.sec.mirror

/-- HL_FW_VER and the version that GET_INFO gives (R565): the running image's. -/
def State.fwVersion (s : State) : BitVec 24 := Config.fwVersion (vget none s.fw.slots s.fw.slot)

/-- BOOT_DONE (R501, R553): the boot mode is reached, and the firmware serves the rings. -/
def execBootDone (s : State) : Result := match s.pwr.boot with
  | none => .next s
  | some (previous, cause) =>
    if s.pwr.inReset || !s.pwr.powered || s.frozen then .next s
    else
      let s := (s.modPwr fun p => { p with boot := none }).setMode (bootMode (s.get PWR_CFG.boot_mode))
      let s := if cause == 2 then s.uartsRestore.uartWoke else s.uartsRestore
      let v := s.fwVersion.toNat
      let s := ((s.put HL_FW_VER.patch v).put HL_FW_VER.minor (v / 256)).put HL_FW_VER.major (v / 65536)
      .next ((s.afterAonLoss.flag HL_STATUS.ready).modeEvent s.mode previous cause)

/-! ### Wake -/

/-- A wake source acts (R502): in DORMANT and PARKED it starts the main domain; during a capture wake the boot follows it.
The first of several that arrive then is kept. -/
def State.wake (s : State) (cause uart : Nat) : State :=
  let note (s : State) : State := (s.put PWR_WAKE.cause cause).put PWR_WAKE.uart uart
  if s.pwr.asleep && !s.pwr.powered then (note s).modPwr fun p => { p with powered := true, asleep := false }
  else if s.pwr.capWake && !s.pwr.bootAfter then (note s).modPwr fun p => { p with bootAfter := true }
  else s

/-- DORMANT or PARKED, or a capture wake: the wake sources are watched. -/
def State.watching (s : State) : Bool := (s.pwr.asleep && !s.pwr.powered) || s.pwr.capWake

/-- HOST_WAKE (R502). -/
def execHostWake (s : State) : Result := .next (if s.is PWR_CFG.wake_host then s.wake 2 0 else s)

/-- UART_WAKE (R471, R502, R503): the line is masked after its wake. -/
def execUartWake (uart : Fin 8) (s : State) : Result :=
  let n := uart.val
  if !s.watching || !s.is ⟨PWR_UART_WAKE, 4 * n, 1⟩ || bit (s.get PWR_WAKE.wake_masked) n then .next s
  else .next ((s.put PWR_WAKE.wake_masked (s.get PWR_WAKE.wake_masked + 2 ^ n)).wake 3 n)

/-- WAKE_MASK_RELEASE (R471): the line has been high long enough. -/
def execWakeMaskRelease (uart : Fin 8) (s : State) : Result :=
  let n := uart.val
  let s := if bit (s.get PWR_WAKE.wake_masked) n then s.put PWR_WAKE.wake_masked (s.get PWR_WAKE.wake_masked - 2 ^ n) else s
  .next (s.put (UART_STATUS.wake_masked n) 0)

/-- RTC_ALARM (R610): the alarm fires at an RTC edge of a count at or beyond the alarm's; en clears. -/
def execRtcAlarm (rtc : BitVec 48) (s : State) : Result :=
  let alarm := s.get TIME_RTC_ALARM_LO.alarm_lo + s.get TIME_RTC_ALARM_HI.alarm_hi * 2 ^ 32
  let s := if s.pwr.aon then s.rtcTo rtc.toNat else s
  if s.is TIME_RTC_ALARM_HI.en && decide (alarm ≤ s.rtcCount) then
    let s := s.put TIME_RTC_ALARM_HI.en 0
    .next (if s.is PWR_CFG.wake_rtc then s.wake 1 0 else s)
  else .next s

/-- SCHEDULE_WAKE (R346, R504): in PARKED, 2 ms before an entry's capture. -/
def execScheduleWake (entry : Fin 8) (s : State) : Result :=
  if s.pwr.asleep && !s.pwr.powered && s.mode == 3 && (vget {} s.snap.schedule entry).enable then
    let s := s.modSnap fun n => { n with parkedRun := some entry.val }
    .next ((s.put PWR_WAKE.cause 6).modPwr fun p => { p with powered := true, asleep := false, capWake := true })
  else .next s

/-- The capture of the wake is still to start: the clock has not passed its t_start (R504 step 9). -/
def State.captureDue (s : State) : Bool := match s.snap.capture with
  | some c => c.run.isNone && decide (s.ltu.now ≤ c.fired.getD (s.trigTime 24))
  | none => false

/-- PARKED_RETURN (R504 step 12): the capture wake has ended, with its capture started and over, or past its start; the time relation is written, and the device returns to
PARKED, or boots when a boot source arrived meanwhile (R502). -/
def execParkedReturn (rtc : BitVec 48) (s : State) : Result := whileLive s fun s =>
  if !s.pwr.capWake || s.captureRun.isSome || s.captureDue || s.snap.commit.isSome then .next s
  else
    let s := s.modSnap fun n => { n with parkedRun := none, capture := none }
    if s.pwr.bootAfter then
      .next (s.modPwr fun p => { p with capWake := false, bootAfter := false, boot := some (3, 2) })
    else .next ((s.writeRelation rtc.toNat (s.edgeAfter s.ltu.now)).nextFree.mainOff 3 true)

/-! ### Modes -/

/-- Lanes that run, and channels that run or are pending. -/
def State.lanesRunning (s : State) : Nat := ((List.range 12).filter fun l => s.is (LANE_STATUS.running l)).length
def State.channelsRunning (s : State) : Nat := ((s.shf.chans.map Prod.fst).filter fun c => s.chanState c != 0).length

/-- The first row of R499 that refuses a change to a mode. -/
def State.modeBlocked (s : State) (target : Nat) : Option Nat :=
  if s.powerFailing then some blkPfail
  else if s.mode ≤ target then none
  else if target < 5 && (s.dsp.kernels.toList.any fun k => k.state == .running) then some blkKernelRunning
  else if target < 5 && (s.uwb.sessions.any fun x => x.state == .active) then some blkSessions
  else if target == 5 && decide (3 < s.lanesRunning) then some blkLanes
  else if target == 5 && decide (64 < s.channelsRunning) then some blkChannels
  else if target == 4 && ((List.range 56).any fun b => s.bayOut b) then some blkDelegated
  else none

/-- A mode request that is checked (R499, R500): refused, answered at once, or begun. -/
def State.startMode (s : State) (q : OpenReq) (target : Nat) : State := match s.modeBlocked target with
  | some b => (s.modeRefused target b).answer q (s.ansState b)
  | none =>
    let s := s.put PWR_MODE.request target
    if target == s.mode then s.answer q (ansOk (le 4 target))
    else
      let s := if s.mode == 7 then s.put THR_CTRL.rate_div 2 else s
      s.beginMove ⟨target, 0, some q⟩

/-- SET_MODE (0x0103, R495, R500, R566): during a transition it waits in the pending slot, and replaces what waits there. -/
def execSetMode (r : Req) (p : List Byte) (s : State) : Result :=
  let m := byteAt p 0
  .next (s.serve ⟨.A, 0x0103, 0⟩ r p [isLength p 4, okArg 0 (decide (2 ≤ m) && decide (m ≤ 7)), isZero p 1 3] fun q s =>
    if s.powerFailing then s.startMode q m
    else if s.pwr.move.isNone && s.pwr.slot.isNone && s.host.deferred.isEmpty then s.startMode q m
    else
      let s := match s.pwr.slot with
        | some (_, old) => s.answer old (ansAborted 6)
        | none => s
      ((s.put PWR_MODE.pending m).flag PWR_MODE.pending_valid).modPwr fun w => { w with slot := some (m, q) })

/-- A channel moves to a slot of another sheaf with its last loop state, its registers and its code RAM region; its next
dump carries discont (R499). -/
def State.moveChannel (s : State) (c d : Nat) : State :=
  let s := s.each (List.range 15) fun s i =>
    let v := s.word (0xD001000 + 0x40 * c + 4 * i)
    (s.setWord (0xD001000 + 0x40 * d + 4 * i) v).setWord (0xD001000 + 0x40 * c + 4 * i) (regReset (0xD001000 + 0x40 * c + 4 * i))
  let s := (s.setChan d { s.chan c with gap := true }).setLock d (s.lockOf c)
  let s := (s.setChan c {}).setLock c {}
  if s.is (SHF_CH_CODE.code_ram d) then
    s.each (List.range (s.codeLen d / 32 + 1)) fun s i =>
      let w := (s.get (SHF_CH_RAM.offset d) / 32 + i) % 2048
      s.setWord (0xD020000 + 0x10000 * (d / 8) + 4 * w) (s.word (0xD020000 + 0x10000 * (c / 8) + 4 * w))
  else s

/-- At LITE, the channels of sheaves 8 to 63 are restarted in free slots of sheaves 0 to 7, and their loops assigned to the
cores that run (R496, R499). The mode is LITE already. -/
def State.squeeze (s : State) : State :=
  let live := (s.shf.chans.map Prod.fst).filter fun c => s.chanState c != 0
  let s := s.each (live.filter fun c => decide (64 ≤ c) && !s.pairOdd c) fun s c =>
    let pair := s.is (SHF_CH_CFG.pair c)
    match s.slotFor pair (s.chanCost c) with
    | none => s.chanEnd false c
    | some d => if pair then (s.moveChannel c d).moveChannel (c + 1) (d + 1) else s.moveChannel c d
  let s := s.each ((s.shf.chans.map Prod.fst).filter fun c => s.chanState c != 0 && decide (4 ≤ s.get (SHF_CH_CFG.dsp c))) fun s c =>
    s.put (SHF_CH_CFG.dsp c) (s.leastCore 12)
  s.each (List.range 64) fun s h => s.showSheaf h

/-- Below LITE, every channel, lane, thresher pass, position report and capture ends, and what R496 leaves unpowered in WATCH
loses its state: the lanes, the thresher, the sheaves and the navigation engine are as at reset, the network port but for its
stored settings; the audit lets go of a bay that is off. The access radio keeps its listen schedule. -/
def State.leaveLite (s : State) : State :=
  let s := (s.shfDisable.each (List.range 12) State.laneStop).thrDisable
  let s := match s.snap.capture with
    | some c => s.captureOver.answerTo c.req (ansAborted 7)
    | none => s
  let s := (s.stopActs fun a => !a.listen).netOff
  let s := match s.gran.audit.borrow with
    | some b => if 56 ≤ b.bay then s else s.auditRelease b.bay
    | none => s
  let s := s.modGran fun g => { g with rewrites := g.rewrites.filter fun x => decide (56 ≤ x.1) }
  let s := s.modNav fun n => { seq := n.seq, seqNv := n.seqNv, preempt := n.preempt, prio := n.prio, clearAt := s.ltu.now }
  let s := s.stopChain
  let s := { s with regs := sparseKeep (fun a => a / 0x1000000 != 6 && a / 0x1000000 != 7 && a / 0x1000000 != 0xD) s.regs }
  { s with lanes := State.reset.lanes, thr := {}, shf := { drop := s.shf.drop } }

/-- BAY_0 to BAY_55 are powered again and initialised (R500). -/
def State.enterLite (s : State) : State :=
  s.modGran fun g => { g with words := sparseKeep (fun a => decide (56 ≤ a / bayWords)) g.words }

/-- One mode on the way (R500): WATCH to HARVEST, one code up or down. -/
def State.modeHop (s : State) (m : Nat) : State :=
  let old := s.mode
  let s := if m == 4 then s.leaveLite else s
  let s := s.setMode m
  let s := if old == 4 then s.enterLite else s
  if m == 5 && old == 6 then s.squeeze else s

/-- The UART settings that DORMANT and PARKED keep (R503): the configuration registers of every UART. -/
def uartKept (a : Nat) : Bool :=
  decide (0xE000000 ≤ a) && decide (a < 0xE008000) &&
    ([0x04, 0x08, 0x14, 0x1C, 0x20, 0x28, 0x2C, 0x30, 0x34].contains (a % 0x1000) || (decide (0x40 ≤ a % 0x1000) && decide (a % 0x1000 < 0x80)))

/-- The line-wake settings copied to PWR_UART_WAKE (R503). -/
def State.wakeCopy (s : State) : State :=
  let s := s.each (List.range 8) fun s n =>
    (s.put ⟨PWR_UART_WAKE, 4 * n, 1⟩ (s.get (UART_CTRL.wake_en n))).put ⟨PWR_UART_WAKE, 4 * n + 1, 3⟩ (s.get (UART_CTRL.wake_min n))
  let s := s.modPwr fun p => { p with keepUart := s.regs.filter fun x => uartKept x.1 }
  s.modPwr fun p => { p with keepUart := p.keepUart.map fun x =>
    if x.1 % 0x1000 == 0x20 then (x.1, insertField x.2 29 1 0) else x }

/-- Entry to DORMANT or PARKED (R500, R503): the response goes out before the link goes down. A line whose low level woke the
device stays masked until it is released (R471). -/
def State.enterDormant (s : State) (mode : Nat) : State := s.wakeCopy.mainOff mode true

/-- The pending slot is taken when a transition ends (R500). -/
def State.takeSlot (s : State) : State := match s.pwr.slot with
  | none => s
  | some (m, q) =>
    let s := ((s.put PWR_MODE.pending 0).put PWR_MODE.pending_valid 0).modPwr fun w => { w with slot := none }
    s.startMode q m

/-- MODE_TRANSITION_DONE (R500): one mode of the transition is reached; at its goal the request is answered. The requests that
waited, and then the pending one, are checked by the steps that follow (R561, R500). -/
def execModeTransitionDone (s : State) : Result := whileLive s fun s => match s.pwr.move with
  | none => .next s
  | some v =>
    let old := s.mode
    if v.goal < 4 then
      let s := (s.modPwr fun p => { p with move := none }).answerTo v.req (ansOk (le 4 v.goal))
      .next ((s.modeEvent v.goal old v.cause).enterDormant v.goal)
    else
      let m := if old < v.goal then old + 1 else if v.goal < old then old - 1 else old
      let s := (s.modeHop m).modeEvent m old v.cause
      if m != v.goal then .next s
      else
        let s := (s.put PWR_STATUS.settling 0).modPwr fun p => { p with move := none }
        .next (s.answerTo v.req (ansOk (le 4 m)))

/-- The passes latched at a higher rate than the mode gives still run (R199, R499). -/
def State.passesSettle (s : State) : Bool :=
  let outruns (p : Option ThrPass) : Bool := match p with
    | some p => decide (512 / 2 ^ s.get THR_CTRL.rate_div < p.limit)
    | none => false
  outruns s.thr.running || outruns s.thr.queued

/-- POWER_CFG (0x0104). -/
def execPowerCfg (r : Req) (p : List Byte) (s : State) : Result :=
  .next (s.serve ⟨.A, 0x0104, 0⟩ r p
    [isLength p 4, okArg 0 (decide (byteAt p 0 < 2)), okArg 1 (decide (4 ≤ byteAt p 1) && decide (byteAt p 1 ≤ 7)),
      okArg 2 (decide (byteAt p 2 < 4)), isZero p 3 1] fun q s =>
    let s := (s.put PWR_CFG.auto_promote (byteAt p 0)).put PWR_CFG.boot_mode (byteAt p 1)
    ((s.put PWR_CFG.wake_host (byteAt p 2)).put PWR_CFG.wake_rtc (byteAt p 2 / 2)).answer q (ansOk []))

/-- WAKE_ALARM (0x0105, R610). -/
def execWakeAlarm (r : Req) (p : List Byte) (s : State) : Result :=
  .next (s.serve ⟨.A, 0x0105, 0⟩ r p [isLength p 8, okArg 6 (decide (byteAt p 6 < 2)), isZero p 7 1] fun q s =>
    let s := (s.put TIME_RTC_ALARM_LO.alarm_lo (fieldAt p 0 4)).put TIME_RTC_ALARM_HI.alarm_hi (fieldAt p 4 2)
    (s.put TIME_RTC_ALARM_HI.en (byteAt p 6)).answer q (ansOk []))

/-! ### Steward pairs -/

def State.pairState (s : State) (k : Nat) : PairState := if k == 0 then s.stw.pair0 else s.stw.pair1
def State.setPair (s : State) (k : Nat) (v : PairState) : State :=
  s.modStw fun w => if k == 0 then { w with pair0 := v } else { w with pair1 := v }

/-- STW_STATUS.pair0_ok or pair1_ok. -/
def pairOk (k : Nat) : Field := ⟨STW_STATUS, k, 1⟩

/-- The journal is replayed (R39, R40): the final responses of committed class-H commands leave. A command without a commit
record has not started: it waits in its ring, and is taken from there. -/
def State.journalReplay (s : State) : State := s.releaseHeld .H (vget {} s.host.rsps 0).held.length

/-- A pair is declared hung (R38, R39): it is held; the other reads its class-H state, replays the journal and carries the
duties of both. When the other is held too, the monitor resets the main domain (R36, R43). -/
def State.pairHung (s : State) (pair cause : Nat) : State :=
  if s.pairState pair != .running then s
  else if s.pairState (1 - pair) != .running then s.mainReset false
  else
    let s := ((s.setPair pair .held).modStw fun w => { w with controlOn := 1 - pair, navOn := 1 - pair }).put (pairOk pair) 0
    let s := ((s.flag STW_STATUS.single_pair).flag HL_STATUS.single_pair).put STW_STATUS.last_cause cause
    let s := (s.takeOverBurst (if pair == 0 then 0x03 else 0x01) pair).journalReplay
    (s.bump STW_STATUS.failover_count).emit (evPairFailover pair cause)

/-- LOCKSTEP_MISMATCH (R38): a mismatch, or an uncorrectable error in the pair's local memory. -/
def execLockstepMismatch (pair : Fin 2) (memory : Bool) (s : State) : Result := whileLive s fun s =>
  .next (s.pairHung pair (if memory then 2 else 1))

/-- HEARTBEAT_LOST (R38): suspended during a freeze (R528). -/
def execHeartbeatLost (pair : Fin 2) (s : State) : Result := whileLive s fun s => .next (s.pairHung pair 3)

/-- The pair that is held, if any. -/
def State.heldPair (s : State) : Option Nat :=
  if s.stw.pair0 != .running then some 0 else if s.stw.pair1 != .running then some 1 else none

/-- PAIR_RETEST (0x0907, R42). -/
def execPairRetest (r : Req) (p : List Byte) (s : State) : Result :=
  .next (s.serve ⟨.A, 0x0907, 0⟩ r p [isLength p 0] fun q s =>
    let s := s.accept q
    match s.heldPair with
    | none => s.answer q (ansOk (le 4 2))
    | some k => (s.setPair k .retesting).modStw fun w => { w with retests := w.retests ++ [q] })

/-- PAIR_RETEST_DONE (R42): the pair rejoins, without a change of duties, or stays held. One pair still carries all duties,
which single_pair shows until the next main-domain reset. -/
def execPairRetestDone (pass : Bool) (s : State) : Result := whileLive s fun s => match s.heldPair with
  | none => .next s
  | some k =>
    if s.pairState k != .retesting then .next s
    else
      let qs := s.stw.retests
      let s := (s.setPair k (if pass then .running else .held)).modStw fun w => { w with retests := [] }
      let s := if pass then s.flag (pairOk k) else s
      .next (s.each qs fun s q => s.answer q (ansOk (le 4 (if pass then 0 else 1))))

/-- CLEAR_COUNT (R26, FAB_STATUS.clear_count). -/
def execClearCount (s : State) : Result := whileLive s fun s =>
  .next ((s.put FAB_H_DEMOTE.count 0).put FAB_VIOL_COUNT.count 0)

end Sys2Proof.Machine
end

