-- ==== Sys2Proof/Machine/HostRings.lean ====
section
/-! DEFINITION. The rings, doorbells and vectors as the host drives them (R539 to R550), the loss of the host link and its
return (R553, R554), and the restart that the host commands (HL_RESET). -/

namespace Sys2Proof.Machine

/-! ### Rings -/

/-- A ring error is recorded (HL_RING_ERR). -/
def State.ringError (s : State) (ring cause : Nat) : State :=
  (((s.put HL_RING_ERR.ring ring).put HL_RING_ERR.cause cause).bump HL_RING_ERR.count).flag HL_RING_ERR.err |>.cause 5 4

/-- The descriptor of every ring and the layout word, for empty rings (R542). -/
def State.layoutRings (s : State) : State :=
  let s := s.each [1, 2, 3, 4, 5, 6, 7, 8] fun s i =>
    ((s.baleBytes (16 * (i - 1)) (le 4 (ringBase i) ++ le 4 (ringSize i) ++ le 4 (ringDepth i)))).descriptor i 0 0
  s.baleWrite 0x40 0x00010080

/-- Held responses of a class leave while there is room (R545); when the last chunk of an export has left, the snapshot
is free (R345). -/
def State.releaseAll (s : State) (c : Cls) : State :=
  let s := s.releaseHeld c ((vget {} s.host.rsps (clsNum c)).held.length)
  if c == .C && (vget {} s.host.rsps 3).held.isEmpty then s.modSnap fun x => { x with outgoing := none } else s

/-- A doorbell (R544, R549). -/
def State.ringDoorbell (s : State) (c : Cls) (req rsp : Nat) : State :=
  let q := vget {} s.host.reqs (clsNum c)
  let r := vget {} s.host.rsps (clsNum c)
  let fresh := (req + 65536 - q.taken) % 65536
  let old := (q.posted + 65536 - q.taken) % 65536
  let freed := (rsp + 65536 - r.cons) % 65536
  if bit (s.get HL_STATUS.halted) (clsNum c) then s.ringError (reqRingId c) 4
  else if fresh < old || ringDepth (reqRingId c) < fresh then s.ringError (reqRingId c) 2
  else if (r.prod + 65536 - r.cons) % 65536 < freed then s.ringError (rspRingId c) 3
  else
    let s := s.modHost fun h => { h with
      reqs := vmod (fun x => { x with posted := req }) h.reqs (clsNum c)
      rsps := vmod (fun x => { x with cons := rsp, live := x.live.drop freed }) h.rsps (clsNum c) }
    s.releaseAll c

/-- HL_DB (R544). -/
def execHlDb (cls : Cls) (reqProd rspCons : BitVec 16) (s : State) : Result := whileLive s fun s =>
  .next (s.ringDoorbell cls reqProd.toNat rspCons.toNat)

/-- RESPONSE_RELEASE (R545). -/
def execResponseRelease (cls : Cls) (s : State) : Result := whileLive s fun s => .next (s.releaseAll cls)

/-- RING_INIT (R550): the host writes it on a live link; a link that is being lost takes none (R558). -/
def execRingInit (s : State) : Result := whileLive s fun s =>
  .next (if s.host.spi || s.host.linkUp then s.modHost fun h => { h with initRun := true } else s)

/-- The rings as they are when empty. -/
def State.emptyRings (s : State) : State :=
  s.modHost fun h => { h with
    reqs := Vector.replicate 4 {}
    rsps := Vector.replicate 4 {}
    epoch := h.epoch + 1 }

/-- RING_INIT_DONE (R550): every ring is empty, and the responses of commands that run will be discarded. Unread records
count as consumed: DEDUCED, log entry 22. -/
def execRingInitDone (s : State) : Result := whileLive s fun s =>
  if !s.host.initRun then .next s
  else
    let s := (s.emptyRings.layoutRings).modHost fun h => { h with initRun := false }
    let s := (s.put HL_STATUS.halted 0).put HL_STATUS.init_needed 0
    .next ((s.put HL_EVT_CONS.cons (s.get HL_EVT_PROD.prod)).sealSend)

/-! ### Event records and vectors -/

/-- A write of HL_EVT_CONS: one that would move it past prod is ignored (R541). -/
def State.evtCons (s : State) (v : Nat) : State :=
  let c := s.get HL_EVT_CONS.cons
  if (v + 65536 - c) % 65536 ≤ (s.get HL_EVT_PROD.prod + 65536 - c) % 65536 then s.put HL_EVT_CONS.cons v else s

/-- EVT_CONS_WRITE (R541). -/
def execEvtConsWrite (value : BitVec 16) (s : State) : Result := whileLive s fun s => .next (s.evtCons value.toNat)

/-- Pending messages leave on every vector that is now enabled and unmasked (R31, R539). -/
def State.flushVectors (s : State) : State :=
  if s.host.spi || !s.host.linkUp || s.frozen || s.host.funcMask || !s.host.busMaster || !s.host.msixEn then s
  else s.modHost fun h => { h with vecs := vmap (fun x =>
    if x.pend && !x.masked then { x with pend := false, sent := x.sent + 1 } else x) h.vecs }

/-- MSIX_UNMASK (R31): the mask bit of a vector's table entry is cleared. -/
def execMsixUnmask (vector : Fin 32) (s : State) : Result := whileLive s fun s =>
  .next (s.modHost fun h => { h with vecs := vmod (fun x => { x with masked := false }) h.vecs vector.val }).flushVectors

/-- IRQ_MOD_EXPIRY (R540): interval_us after the last message, writes made inside the interval are signalled by one message, which starts the next interval. -/
def execIrqModExpiry (cls : Fin 3) (s : State) : Result := whileLive s fun s =>
  let c := cls.val
  let us := s.get HL_IRQ_MOD.interval_us
  if !vget false s.host.modRun c then .next s
  else
  let s := s.advanceTo (vget 0 s.host.modAt c + us * microsecond)
  if vget false s.host.modPend c then
    let s := (s.modHost fun h => { h with modPend := vmod (fun _ => false) h.modPend c }).sendVector (c + 1)
    .next (s.modHost fun h => { h with
      modRun := vmod (fun _ => decide (us ≠ 0)) h.modRun c, modAt := vmod (fun _ => s.ltu.now) h.modAt c })
  else .next (s.modHost fun h => { h with modRun := vmod (fun _ => false) h.modRun c })

/-- HOST_IRQ_N is asserted (R557): a delegated UART or unit raises its interrupt, or a cause is set and enabled. -/
def State.hostIrq (s : State) : Bool :=
  s.host.spi &&
    ((s.word HL_IRQ_CAUSE &&& s.word HL_IRQ_EN) != 0 ||
      ((List.range 8).any fun n => s.get (UART_OWNER.owner n) == 0x20 && (s.word (UART_EVENT n) &&& s.word (UART_IRQ_EN n)) != 0) ||
      ((List.range 16).any fun c => s.get (CVU_OWNER.owner c) == 0x20 && s.is (CVU_CFG.irq_en c) &&
        (s.is (CVU_STATUS.done c) || s.is (CVU_STATUS.fail c) || s.is (CVU_STATUS.cfg_err c))))

/-- HL_TIME (R394): a read of sec_lo latches the local clock. -/
def State.latchHostTime (s : State) : State :=
  s.putTimeRec HL_TIME_SEC_LO.sec_lo HL_TIME_SEC_HI.sec_hi HL_TIME_NS.ns HL_TIME_FRAC.frac s.clockNow
def execHlTime (s : State) : Result := whileLive s fun s => .next s.latchHostTime

/-! ### The link -/

/-- LINK_UP (R553): the link trains to L0. -/
def execLinkUp (speed : Fin 4) (x2 : Bool) (s : State) : Result := whileLive s fun s =>
  if s.host.spi || speed.val == 0 then .next s
  else
    let s := s.modHost fun h => { h with linkUp := true, perst := false, d3hot := false }
    .next ((s.put HL_HP_STATUS.speed speed.val).put HL_HP_STATUS.width (b2n x2)).flushVectors

/-- The endpoint's configuration registers as at reset (PERST_N, hot reset, Function Level Reset). -/
def State.endpointReset (s : State) : State :=
  s.modHost fun h => { h with memEn := false, busMaster := false, msixEn := false, funcMask := false, vecs := Vector.replicate 32 {} }

/-- Loss of the host link (R554): requests, held responses and records are discarded, STS keys zeroised and sessions
deleted, an interrupted kernel load abandoned (R295), and what was delegated to the host returns (R48). Causes are those
of HL_HP_STATUS.last_cause; a Function Level Reset leaves the link in L0. -/
def State.linkLoss (s : State) (cause : Nat) : State :=
  let s := if cause == 2 || cause == 3 || cause == 4 then s.endpointReset else s
  let s := s.modHost fun h => { h with
    linkUp := cause == 4, perst := cause == 2, d3hot := cause == 5, initRun := false
    modRun := Vector.replicate 3 false, modPend := Vector.replicate 3 false
    vecs := vmap (fun x => { x with pend := false }) h.vecs }
  let s := (((s.flag HL_HP_STATUS.link_lost).put HL_HP_STATUS.last_cause cause).bump HL_HP_STATUS.losses).emit (evLinkLost cause)
  let s := s.modHost fun h => { h with
    reqs := vmap (fun q => { q with posted := q.taken }) h.reqs
    rsps := vmap (fun r => { r with held := [], live := [] }) h.rsps
    epoch := h.epoch + 1 }
  let s := (s.put HL_EVT_CONS.cons (s.get HL_EVT_PROD.prod)).flag HL_STATUS.init_needed
  let s := (s.modSnap fun x => { x with outgoing := none }).zeroiseSts
  let s := s.each [12, 13, 14, 15] fun s n => if (s.kernel n).load.isSome then s.loadFails n else s
  let s := s.each (List.range 8) fun s n => if s.get (UART_OWNER.owner n) == 0x20 then s.uartReturn n else s
  let s := s.each (List.range 16) fun s c => if s.get (CVU_OWNER.owner c) == 0x20 then s.cvuReturn c else s
  s.each (List.range 64) fun s b =>
    if s.get (BAY_OWNER.owner_id b) == 0x20 || (s.is (BAY_OWNER.busy b) && s.nextOwner b == 0x20) then s.bayHome b else s

/-- HOST_LINK_LOSS (R554): during a freeze it takes effect at the thaw (R528). The cause is one less than the code of
HL_HP_STATUS.last_cause: DL_Down, PERST_N, hot reset, Function Level Reset, D3hot. -/
def execHostLinkLoss (cause : Fin 5) (s : State) : Result :=
  if s.frozen then .next (s.modHost fun h => { h with lossAtThaw := match h.lossAtThaw with
    | some c => some c
    | none => some (cause.val + 1) })
  else whileLive s fun s =>
    if s.host.spi || !s.host.linkUp then .next (s.modHost fun h => { h with perst := h.perst || cause.val == 1 })
    else .next (s.linkLoss (cause.val + 1))

/-- SPI_TIMEOUT (R554): it does not count during a freeze (R529). -/
def execSpiTimeout (s : State) : Result := whileLive s fun s =>
  if !s.host.spi || !s.host.linkUp || s.get HL_RING_CTRL.spi_timeout == 0 then .next s else .next (s.linkLoss 6)

/-- HL_RESET.dev_reset (R488): steps 1 to 6 of the shutdown, and a main-domain reset from which the device boots (R481). -/
def State.devReset (s : State) (key rtc : Nat) : State :=
  if key == 0xA5 then (s.shutdownSteps rtc).mainReset true else s

/-- DEV_RESET (R488), with the RTC count of the time relation that it writes. -/
def execDevReset (key : BitVec 8) (rtc : BitVec 48) (s : State) : Result := whileLive s fun s =>
  .next (s.devReset key.toNat rtc.toNat)

end Sys2Proof.Machine
end

