-- ==== Sys2Proof/Machine/Security.lean ====
section
/-! DEFINITION. The silo's monitor: presence (R517 to R519), the seal (R520, R521), authentication and lockout (R522 to
R525), freeze and thaw (R527 to R533), and the requests of the security group (R509 to R516, R576, R577). -/

namespace Sys2Proof.Machine

/-- Bytes of the device identifier, in digest order (R510). -/
def deviceIdBytes : List Byte := be 16 Config.deviceId.toNat

/-! ### Presence -/

/-- The always-on domain is powered: the monitor runs (R507). -/
def whileAon (s : State) (f : State → Result) : Result := if s.pwr.aon then f s else .next s

/-- PRES_PRESS (R502, R517). -/
def execPresPress (s : State) : Result := whileAon s fun s => .next ((s.flag SEC_PRES.pressed).wake 4 0)

/-- PRES_RELEASE (R517): a recognised release opens or restarts the window of 30 s. The monitor's own clock ends it:
PRES_WINDOW_EXPIRY. -/
def execPresRelease (s : State) : Result := whileAon s fun s =>
  if !s.is SEC_PRES.pressed then .next s
  else .next (((s.put SEC_PRES.pressed 0).flag SEC_PRES.window).put SEC_PRES.remaining_ms 30000)

/-- PRES_WINDOW_EXPIRY (R517): a window that the strap holds stays (R518). -/
def execPresWindowExpiry (s : State) : Result := whileAon s fun s =>
  .next ((s.put SEC_PRES.remaining_ms 0).put SEC_PRES.window (s.get SEC_PRES.via_strap))

/-- PRES_STRAP is ignored from now on (R515, R518). -/
def State.strapOff (s : State) : State :=
  if !s.is SEC_PRES.via_strap then s
  else ((s.put SEC_PRES.via_strap 0).put SEC_STATE.strap_honoured 0).put SEC_PRES.window (b2n (s.get SEC_PRES.remaining_ms != 0))

/-! ### The seal -/

/-- SEAL_CHECK (R520): a check that starts at an RTC edge of a multiple of 3,277 drives a level and then its complement,
and samples SEAL_IN after each. -/
def execSealCheck (rtc : BitVec 48) (level first second : Bool) (s : State) : Result := whileAon s fun s =>
  if !s.is SEC_SEAL_CFG.en || s.sec.aonLost || rtc.toNat % 3277 != 0 then .next s
  else
    let s := (s.rtcTo (rtc.toNat + 2)).modSec fun c => { c with sealOut := !level }
    if first == level && second == !level then .next s
    else if s.is SEC_SEAL_STATUS.broken then .next s
    else .next ((s.sealBreak 1 rtc.toNat).wake 5 0)

/-! ### Random numbers -/

/-- TRNG_FAIL (R512). -/
def execTrngFail (s : State) : Result := whileLive s fun s =>
  .next ((s.put SEC_STATE.trng_ok 0).flag SEC_EVENT.trng_fail)

/-- INTERNAL_FAULT of an operation that needs random numbers (R512). -/
def ansTrng : Answer := ansFault 1

/-! ### Authentication -/

/-- Debug opens where no authentication is needed (R522): AUTH OPEN, or the DEBUG message. -/
def State.authOpen (s : State) : Answer × State :=
  if s.lifecycle == 2 || s.lifecycle == 3 then (s.ansState blkLifecycle, s)
  else if !s.present then (ansPresence, s)
  else (ansOk (le 1 1 ++ le 3 0), if s.debugOpen then s else s.openDebug scopeFull)

/-- AUTH CLOSE, or the DEBUG message's close (R515, R522). -/
def State.authClose (s : State) : Answer × State :=
  let s := s.endDebug
  (ansOk (le 1 (s.get SEC_STATE.debug) ++ le 3 0), s)

/-- A challenge (R523 to R525): a new nonce withdraws the one before it. -/
def State.authChallenge (s : State) (nonce : BitVec 256) : Answer × State :=
  if s.lifecycle != 2 then (s.ansState blkLifecycle, s)
  else if s.sec.vendorOff then (ansLocked 0, s)
  else if s.lockoutEnd != 0 then (ansLocked s.lockoutLeft, s)
  else if !s.is SEC_STATE.trng_ok then (ansTrng, s)
  else
    let n := be 32 nonce.toNat
    (ansOk (n ++ deviceIdBytes), (s.flag SEC_AUTH.nonce_valid).modSec fun c => { c with nonce := some n })

/-- The nonce is spent or withdrawn. -/
def State.dropNonce (s : State) : State := (s.put SEC_AUTH.nonce_valid 0).modSec fun c => { c with nonce := none }

/-- A password or a response arrives (R519, R523, R525): refused, or its verification begins; the answer then follows
at its end. -/
def State.authBegin (s : State) (req : Option OpenReq) (response : Bool) (data : List Byte) : Option Answer × State :=
  if s.lifecycle != 2 then (some (s.ansState blkLifecycle), s)
  else if s.lockoutEnd != 0 then (some (ansLocked s.lockoutLeft), s.put SEC_AUTH.last_result 3)
  else if !s.present then (some ansPresence, s.put SEC_AUTH.last_result 5)
  else if response then match s.sec.nonce with
    | none => (some ⟨0x41, []⟩, s.put SEC_AUTH.last_result 4)
    | some n => (none, s.dropNonce.modSec fun c => { c with auths := c.auths ++ [⟨req, true, data, n⟩] })
  else if s.sec.password.isNone then (some (ansLocked 0), s)
  else (none, s.modSec fun c => { c with auths := c.auths ++ [⟨req, false, data, []⟩] })

/-- What a verification finds (R523): the password's hash with its salt, or the signature over nonce, identifier and scope
word. -/
def State.authMatches (s : State) (a : AuthRun) : Bool :=
  if a.response then Config.debugVerify (Config.sha256 (a.nonce ++ deviceIdBytes ++ a.data.take 4)) (a.data.drop 4)
  else match s.sec.password with
    | some (salt, hash) => Config.sha256 (salt ++ a.data) == hash
    | none => false

/-- The result of an authentication goes to the route it came by. -/
def State.authAnswer (s : State) (a : AuthRun) (ans : Answer) : State := match a.req with
  | some q => s.answer q ans
  | none => s.modSec fun c => { c with tap := { c.tap with status := ans.status, payload := ans.payload } }

/-- AUTH_VERIFY_DONE (R515, R523, R525): the oldest verification ends. SERVICE is entered only from FIELD while the main
domain has power. -/
def execAuthVerifyDone (s : State) : Result := whilePowered s fun s => match s.sec.auths with
  | [] => .next s
  | a :: rest =>
    let s := s.modSec fun c => { c with auths := rest }
    if !s.authMatches a then
      let f := min 31 (s.get SEC_AUTH.failures + 1)
      let s := ((s.setFailures f).put SEC_AUTH.last_result 2).flag SEC_EVENT.auth_fail
      .next ((s.startLockout f).authAnswer a ansCheck)
    else if s.lifecycle != 2 then .next (s.authAnswer a (s.ansState blkLifecycle))
    else
      let scope := if a.response then scopeVendor else scopeCustomer
      let s := (s.setFailures 0).put SEC_AUTH.last_result 1
      let s := (s.put SEC_LOCKOUT_LO.end_lo 0).put SEC_LOCKOUT_HI.end_hi 0
      .next (((s.toLifecycle 3).openDebug scope).authAnswer a (ansOk (le 1 scope ++ le 3 0)))

/-- LOCKOUT_END (R525): the RTC reaches the end of the lockout. -/
def execLockoutEnd (rtc : BitVec 48) (s : State) : Result := whileAon s fun s =>
  let s := s.rtcTo rtc.toNat
  if s.lockoutEnd == 0 || rtc.toNat < s.lockoutEnd then .next s
  else
    let s := ((s.put SEC_LOCKOUT_LO.end_lo 0).put SEC_LOCKOUT_HI.end_hi 0).put SEC_STATE.debug 0
    .next (if s.pwr.powered && !s.pwr.inReset then s.emit (evDebugState 0 0) else s)

/-- NONCE_EXPIRY (R523). -/
def execNonceExpiry (s : State) : Result := whileAon s fun s => .next s.dropNonce

/-- SERVICE_TIMEOUT (R515, R533). -/
def execServiceTimeout (s : State) : Result := .next (if s.lifecycle == 3 then s.endDebug else s)

/-! ### Freeze and thaw -/

/-- FREEZE_N acts (R76, R391, R527, R528): T_e is `ticks` CK_FAB ticks before the present time; an armed step is cancelled. -/
def State.freeze (s : State) (ticks : Nat) : State :=
  let mode := s.mode
  let s := (s.modSec fun c => { c with before := mode }).flag SEC_STATE.frozen
  let s := ((s.put PWR_STATUS.mode 8).flag PWR_EVENT.mode_change).flag SEC_EVENT.freeze
  let s := (s.bump SEC_FREEZE_STATUS.count).put SEC_FREEZE_STATUS.readout 0
  let te := if s.onFab then s.ltu.now - ticks * s.incNow else s.ltu.now
  let inc := if s.onFab then s.ltu.incReg else s.ltu.incLoss
  let s := s.cancelStep.modLtu fun u => { u with te := te, incLoss := inc }
  (s.when (s.is CLK_STATUS.locked) State.gatesClose).tapCheck

/-- FREEZE (R527): in FIELD and SERVICE it acts while freeze_field is 1. -/
def execFreeze (ticks : Fin 12) (s : State) : Result := whileLive s fun s =>
  if decide (s.mode < 4) || decide (7 < s.mode) || ((s.lifecycle == 2 || s.lifecycle == 3) && !s.is SEC_DBG_CFG.freeze_field) then
    .next ((s.bump SEC_FREEZE_STATUS.ignored).flag SEC_EVENT.freeze_ignored)
  else .next (s.freeze ticks)

/-- What was reported during the freeze leaves (R531, R533). -/
def State.replay (s : State) : State :=
  let l := s.host.atThaw
  (s.modHost fun h => { h with atThaw := [] }).each l fun s x => match x with
    | .event e t => s.emitAt t e
    | .answer r final status payload => s.respond r final status payload

/-- The clock after a freeze (R391): n REFCLK periods from T_e, and the RTC periods counted while the reference was
missing. -/
def State.thawClock (s : State) (n rtc : Nat) : State :=
  let t := s.ltu.te + n * s.incRef + rtc * s.incRtc
  let s := (s.put TIME_FREEZE_CNT_LO.n_lo n).put TIME_FREEZE_CNT_HI.n_hi (n / 2 ^ 32)
  ((s.modLtu fun u => { u with gnss := false, net := false, qual := 0, waits := true }).fabAgain (max s.ltu.now t)).chooseSource

/-- Radio activities that fell due during the freeze end with ABORTED, cause PLL (R447, R532). -/
def State.thawRadio (s : State) : State :=
  let due (a : RadioAct) : Bool := a.time.isSome && decide (s.commitOf a ≤ s.ltu.now)
  let late := s.uwb.acts.filter due
  (s.modUwb fun u => { u with acts := u.acts.filter fun a => !due a }).each late fun s a => s.endAct a stAborted causePll

/-- THAW (R532): on a marker of index 0, with FREEZE_N high, lock held, and no scan in progress. -/
def execThaw (refPeriods rtcPeriods : BitVec 48) (s : State) : Result := whilePowered s fun s =>
  if !s.frozen || s.clk.phase != .locked then .next s
  else
    let old := s.ltu.now
    let mode := s.sec.before
    let s := ((s.put SEC_STATE.frozen 0).put PWR_STATUS.mode mode).flag SEC_EVENT.thaw
    let s := s.thawClock refPeriods.toNat rtcPeriods.toNat
    let s := ((s.passedTriggers old s.ltu.now).tpThaw old s.ltu.now).discontinuity 2
    let s := (s.gatesOpen.showGnt).thawRadio
    let s := s.modeEvent mode 8 3
    let loss := s.host.lossAtThaw
    let s := s.modHost fun h => { h with lossAtThaw := none }
    let s := match loss with
      | some c => s.linkLoss c
      | none => s
    .next (s.replay.flushVectors.sealSend.tapCheck)

/-! ### Lifecycle -/

/-- A fuse is blown, and the lifecycle is the one it stands for (R514, R516). -/
def State.blow (s : State) (v : Nat) : State := (s.modSec fun c => { c with fused := v }).toLifecycle v

/-- Entry to RETIRED (R513, R515). -/
def State.retire (s : State) : State :=
  let statement := Config.retirement s.rtcCount
  let s := s.zeroiseSts.modSec fun c => { c with
    kernelKey := none, osnma := none, exportKey := none, transportKey := none, password := none, positionKey := false
    certStage := [], statement := some statement }
  -- debug closes first; SERVICE then gives way to RETIRED, not to FIELD
  (s.closeDebug.blow 4).strapOff.tapCheck

/-- LIFECYCLE (0x0802, R515, R576). -/
def execLifecycle (r : Req) (p : List Byte) (s : State) : Result :=
  let t := byteAt p 0
  .next (s.serve ⟨.A, 0x0802, 0⟩ r p [isLength p 4, okArg 0 (t == 1 || t == 2 || t == 4), isZero p 1 3] fun q s =>
    let lc := s.lifecycle
    if lc == 3 && t == 2 then s.endDebug.answer q (ansOk (le 4 2))
    else if !((lc == 0 && t == 1) || (lc == 1 && t == 2) || (t == 4 && (lc == 0 || lc == 1 || lc == 3))) then
      s.answer q (s.ansState blkLifecycle)
    else if !s.present then s.answer q ansPresence
    else if s.sec.provision.isSome then s.answer q ansBusy
    else if t == 1 then
      if !s.is SEC_STATE.trng_ok then s.answer q ansTrng
      else (s.accept q).modSec fun c => { c with provision := some q }
    else if t == 2 then (((s.blow 2).closeDebug).strapOff.tapCheck).answer q (ansOk (le 4 2))
    else s.retire.answer q (ansOk (le 4 4)))

/-- PROVISION_DONE (R510, R515, R516): the fuse reads back blown, or the old state stays. -/
def execProvisionDone (done : Bool) (s : State) : Result := whileLive s fun s => match s.sec.provision with
  | none => .next s
  | some q =>
    let s := s.modSec fun c => { c with provision := none }
    if !done then .next (s.answer q (ansFault 4))
    else
      let s := s.modSec fun c => { c with positionKey := true, cert := none }
      .next ((s.blow 1).answer q (ansOk (le 4 1)))

/-! ### Keys and certificates -/

/-- A request of the security group that RETIRED refuses (R516). -/
def State.inLife (s : State) (q : OpenReq) (states : List Nat) (f : State → State) : State :=
  if states.contains s.lifecycle then f s else s.answer q (s.ansState blkLifecycle)

/-- The data length of a key and form (R577): none where the form is not allowed. -/
def keyLength (p : List Byte) : Option Nat :=
  let key := byteAt p 0
  let form := byteAt p 1
  if form == 0 then
    if key == 1 then some 64
    else if key == 2 || key == 3 then some 32
    else if key == 4 then (if byteAt p 5 == 0 then some 67 else some 101)
    else if key == 5 then some 16 else none
  else if form == 1 && (key == 2 || key == 3) then some 40 else none

/-- KEY_INSTALL answers with the generation (R509). -/
def ansGen (g : Nat) : Answer := ansOk (le 2 g ++ le 2 0)

/-- A key of type 2 or 3 is installed in clear, or unwrapped under the present one (R509). -/
def State.installAes (s : State) (q : OpenReq) (p : List Byte) (present : Option (List Byte)) (gen : Nat)
    (put : SecState → List Byte → SecState) : State :=
  if byteAt p 1 == 0 then (s.modSec fun c => put c (p.drop 4)).answer q (ansGen (gen + 1))
  else match present with
    | none => s.answer q (ansArg 1)
    | some k => match Config.keyUnwrap k (p.drop 4) with
      | none => s.answer q ansCheck
      | some v => (s.modSec fun c => put c v).answer q (ansGen (gen + 1))

/-- KEY_INSTALL (0x0803, R509, R519, R577), with the salt that the silo draws for a password. -/
def execKeyInstall (r : Req) (p : List Byte) (salt : BitVec 128) (s : State) : Result :=
  let key := byteAt p 0
  .next (s.serve ⟨.A, 0x0803, 0⟩ r p
    [hasLength p 4, okArg 0 (decide (1 ≤ key) && decide (key ≤ 5)), okArg 1 (keyLength p).isSome,
      if key == 4 then okArg 5 (decide (byteAt p 5 < 2)) else none,
      isLength p (4 + (keyLength p).getD 0), okArg 2 (fieldAt p 2 2 == (keyLength p).getD 0)] fun q s =>
    let data := p.drop 4
    if key == 2 || key == 3 then
      s.inLife q (if byteAt p 1 == 0 then [0, 1] else [0, 1, 2, 3]) fun s =>
        if key == 2 then s.installAes q p s.sec.exportKey s.sec.exportGen fun c v =>
          { c with exportKey := some v, exportGen := c.exportGen + 1 }
        else s.installAes q p s.sec.transportKey s.sec.transportGen fun c v =>
          { c with transportKey := some v, transportGen := c.transportGen + 1 }
    else s.inLife q [0, 1, 3] fun s =>
      if key != 4 && s.lifecycle == 3 && !s.present then s.answer q ansPresence
      else if key == 1 then (s.modSec fun c => { c with kernelKey := some data, kernelGen := c.kernelGen + 1 }).answer q
        (ansGen (s.sec.kernelGen + 1))
      else if key == 4 then (s.modSec fun c => { c with osnma := some data, osnmaGen := c.osnmaGen + 1 }).answer q
        (ansGen (s.sec.osnmaGen + 1))
      else if !s.is SEC_STATE.trng_ok then s.answer q ansTrng
      else
        let salt := be 16 salt.toNat
        (s.modSec fun c => { c with password := some (salt, Config.sha256 (salt ++ data)), passwordGen := c.passwordGen + 1 }).answer q
          (ansGen (s.sec.passwordGen + 1)))

/-- What CERT_READ returns: identity certificate, position certificate in force, position public key, statement. -/
def State.certOf (s : State) (which : Nat) : Option (List Byte) :=
  if which == 0 then some Config.identityCert
  else if which == 1 then (if s.sec.positionKey then some (s.sec.cert.getD Config.positionCert) else none)
  else if which == 2 then (if s.sec.positionKey then some Config.positionPublic else none)
  else s.sec.statement

/-- CERT_READ (0x0804, R510, R516). -/
def execCertRead (r : Req) (p : List Byte) (s : State) : Result :=
  let which := byteAt p 0
  .next (s.serve ⟨.C, 0x0804, 0⟩ r p [isLength p 4, okArg 0 (decide (which < 4)), isZero p 1 3] fun q s =>
    if s.lifecycle == 4 && which != 3 then s.answer q (s.ansState blkLifecycle)
    else match s.certOf which with
      | none => s.answer q (ansArg 0)
      | some c => s.chunks q c)

/-- The length of a DER object, once its header is there: tag SEQUENCE, and a length of one byte or of up to four more
(R510). An object of another tag ends at once. -/
def derLength (b : List Byte) : Option Nat :=
  if b.length < 2 then none
  else if byteAt b 0 != 0x30 then some b.length
  else
    let n := byteAt b 1
    if n < 0x80 then some (2 + n)
    else if 0x84 < n then some b.length
    else if b.length < 2 + (n - 0x80) then none
    else some (2 + (n - 0x80) + leVal ((b.drop 2).take (n - 0x80)).reverse)

/-- CERT_INSTALL (0x0805, R510, R564): the DER length says which chunk is the last. DEDUCED: log entry 23. -/
def execCertInstall (r : Req) (p : List Byte) (s : State) : Result :=
  .next (s.serve ⟨.C, 0x0805, 0⟩ r p [hasLength p 5, if p.length ≤ 1004 then none else some (ansLength 0)] fun q s =>
    s.inLife q [1, 3] fun s =>
      let stage (b : List Byte) (s : State) : State := s.modSec fun c => { c with certStage := b }
      if fieldAt p 0 4 != s.sec.certStage.length then (stage [] s).answer q (ansSequence s.sec.certStage.length)
      else
        let b := s.sec.certStage ++ p.drop 4
        match derLength b with
        | none => (stage b s).answer q (ansOk [])
        | some n =>
          if b.length < n then (stage b s).answer q (ansOk [])
          else if n < b.length then (stage [] s).answer q (ansLength 0)
          else if Config.certKey b == some Config.positionPublic then
            ((stage [] s).modSec fun c => { c with cert := some b }).answer q (ansOk [])
          else (stage [] s).answer q ansCheck)

/-- SEC_MIN (0x0806, R511). -/
def execSecMin (r : Req) (p : List Byte) (s : State) : Result :=
  .next (s.serve ⟨.A, 0x0806, 0⟩ r p [isLength p 4] fun q s =>
    s.inLife q [1, 2, 3] fun s =>
      if fieldAt p 0 4 ≤ s.sec.secMin then s.answer q (ansArg 0)
      else (s.modSec fun c => { c with secMin := fieldAt p 0 4 }).answer q (ansOk []))

/-- SEC_GET (0x0801, R576). -/
def execSecGet (r : Req) (p : List Byte) (s : State) : Result :=
  .next (s.serve ⟨.A, 0x0801, 0⟩ r p [isLength p 0] fun q s =>
    s.inLife q [0, 1, 2, 3] fun s =>
      s.answer q (ansOk (le 4 (s.word SEC_STATE).toNat ++ le 4 (s.showPres.word SEC_PRES).toNat ++ le 4 (s.word SEC_SEAL_STATUS).toNat ++
        le 4 (s.word SEC_AUTH).toNat ++ le 8 s.lockoutEnd ++ le 2 s.sec.exportGen ++ le 2 s.sec.transportGen ++ le 4 s.sec.secMin)))

/-! ### Authentication, seal and fuses by message -/

/-- AUTH_CHALLENGE (0x0807, R523), with the nonce that the TRNG draws. -/
def execAuthChallenge (r : Req) (p : List Byte) (nonce : BitVec 256) (s : State) : Result :=
  .next (s.serve ⟨.A, 0x0807, 0⟩ r p [isLength p 0] fun q s =>
    let a := s.authChallenge nonce
    a.2.answer q a.1)

/-- A verification begins or its refusal is answered. -/
def State.authMessage (s : State) (q : OpenReq) (response : Bool) (p : List Byte) : State :=
  let a := s.authBegin (some q) response p
  match a.1 with
  | some x => a.2.answer q x
  | none => a.2

/-- AUTH_RESPONSE (0x0808, R523). -/
def execAuthResponse (r : Req) (p : List Byte) (s : State) : Result :=
  .next (s.serve ⟨.A, 0x0808, 0⟩ r p [isLength p 68] fun q s => s.authMessage q true p)

/-- AUTH_PASSWORD (0x0809, R523). -/
def execAuthPassword (r : Req) (p : List Byte) (s : State) : Result :=
  .next (s.serve ⟨.A, 0x0809, 0⟩ r p [isLength p 16] fun q s => s.authMessage q false p)

/-- SEAL (0x080A, R519 to R521). -/
def execSealReq (r : Req) (p : List Byte) (s : State) : Result :=
  let op := byteAt p 0
  .next (s.serve ⟨.A, 0x080A, 0⟩ r p
    [isLength p 4, okArg 0 (decide (op < 2)), okArg 1 (op == 1 || decide (byteAt p 1 < 2)),
      okArg 2 (op == 1 || decide (byteAt p 2 < 2)), isZero p 3 1] fun q s =>
    if op == 0 then s.inLife q [0, 1] fun s => (s.sealSet (byteAt p 1 == 1) (byteAt p 2 == 1)).answer q (ansOk [])
    else s.inLife q [1, 3] fun s => if s.present then s.sealClear.answer q (ansOk []) else s.answer q ansPresence)

/-- MARKET_LOCK (0x080B, R436, R516). -/
def execMarketLock (r : Req) (p : List Byte) (s : State) : Result :=
  .next (s.serve ⟨.A, 0x080B, 0⟩ r p [isLength p 0] fun q s =>
    if s.lifecycle == 4 then s.answer q (s.ansState blkLifecycle)
    else if s.sec.marketFuse then s.answer q (ansOk [])
    else if s.lifecycle == 0 then s.answer q (s.ansState blkLifecycle)
    else if s.regStore.isNone then s.answer q (s.ansState blkNoStore)
    else (((s.modSec fun c => { c with marketFuse := true }).flag SEC_STATE.market_locked).showStore).answer q (ansOk []))

/-- VENDOR_DEBUG_OFF (0x080C, R519, R524): a nonce that is outstanding is withdrawn. -/
def execVendorDebugOff (r : Req) (p : List Byte) (s : State) : Result :=
  .next (s.serve ⟨.A, 0x080C, 0⟩ r p [isLength p 0] fun q s =>
    s.inLife q [1, 3] fun s =>
      if !s.present then s.answer q ansPresence
      else ((s.dropNonce.modSec fun c => { c with vendorOff := true }).flag SEC_STATE.vendor_debug_off).answer q (ansOk []))

/-- DEBUG (0x080D, R522). -/
def execDebug (r : Req) (p : List Byte) (s : State) : Result :=
  .next (s.serve ⟨.A, 0x080D, 0⟩ r p [isLength p 4, okArg 0 (decide (byteAt p 0 < 2)), isZero p 1 3] fun q s =>
    let a := if byteAt p 0 == 0 then s.authOpen else s.authClose
    a.2.answer q a.1)

end Sys2Proof.Machine
end

