-- ==== Sys2Proof/Machine/Bus.lean ====
section
/-! DEFINITION. Reads and writes of registers as the spec's tables state them: access codes (R11 to R13), what a field
stores for a value outside its range, and the behaviour of the fields that command something. -/

namespace Sys2Proof.Machine

/-! ### What a field stores -/

/-- What a field stores for a value outside its range: the nearer limit, a code named in the table, or the nearer limit of
a signed range. -/
inductive Limit where
  | range (lo hi : Nat)
  | code (last instead : Nat)
  | span (lo hi : Int)
  deriving DecidableEq, Repr

/-- A field with a limit: the base of its row in the register tables, its lowest bit, and the limit. -/
structure LimitRow where
  base  : Nat
  lo    : Nat
  limit : Limit
  deriving DecidableEq, Repr

/-- Limits of the fabric, clock, front-end and lane blocks. -/
def limitsA : List LimitRow := [
  ⟨0x1000000, 0, .range 1 15⟩, ⟨0x1000000, 4, .range 1 15⟩, ⟨0x1000000, 8, .range 1 15⟩,
  ⟨0x3000000, 1, .code 5 5⟩, ⟨0x3000000, 8, .range 1 64⟩, ⟨0x3000018, 0, .range 200 25000⟩,
  ⟨0x300001C, 0, .range 1 0x7FFFFF⟩, ⟨0x3000020, 2, .range 2 31⟩, ⟨0x3000020, 8, .range 1 255⟩,
  ⟨0x3000040, 2, .code 5 5⟩, ⟨0x3000048, 0, .range 1 0x7FFFFF⟩,
  ⟨0x5000000, 2, .code 2 2⟩, ⟨0x5000004, 0, .range 0 80⟩,
  ⟨0x5000008, 0, .range 8 128⟩, ⟨0x5000008, 8, .range 1 15⟩, ⟨0x5000008, 12, .range 1 15⟩,
  ⟨0x5000008, 16, .range 1 4095⟩, ⟨0x5000008, 28, .range 1 7⟩, ⟨0x5000010, 16, .range 1 255⟩,
  ⟨0x5000018, 0, .range 1 255⟩, ⟨0x5000018, 8, .range 10 90⟩, ⟨0x5000018, 26, .range 1 63⟩,
  ⟨0x600000C, 0, .range 1 32⟩, ⟨0x6000010, 0, .range 1 255⟩,
  ⟨0x6000014, 8, .range 0 47⟩, ⟨0x6000014, 16, .range 0 47⟩,
  ⟨0x6000030, 0, .range 4 12⟩, ⟨0x6000030, 4, .range 6 30⟩, ⟨0x6000030, 9, .code 6 6⟩, ⟨0x6000030, 16, .range 1 255⟩,
  ⟨0x6000034, 8, .range 12 64⟩]

/-- Limits of the thresher, sheaf, local-time and network blocks. -/
def limitsB : List LimitRow := [
  ⟨0x7000004, 0, .range 1 1024⟩, ⟨0x7000400, 25, .code 4 4⟩,
  ⟨0xD001004, 9, .code 2 2⟩, ⟨0xD001004, 11, .range 1 100⟩, ⟨0xD001004, 19, .range 0 12⟩,
  ⟨0xD001010, 0, .range 1 64⟩, ⟨0xD001010, 7, .span (-128) 128⟩, ⟨0xD001010, 16, .span (-128) 128⟩,
  ⟨0xD001014, 0, .span (-128) 128⟩, ⟨0xD001014, 9, .span (-128) 128⟩,
  ⟨0x8000000, 0, .range 1 1048575⟩, ⟨0x8000000, 20, .range 1 255⟩,
  ⟨0x8000004, 4, .range 1 255⟩, ⟨0x8000004, 12, .range 1 15⟩, ⟨0x8000004, 16, .range 1 255⟩, ⟨0x8000004, 24, .range 1 255⟩,
  ⟨0x8000030, 0, .range 0 999999999⟩, ⟨0x800003C, 16, .code 2 0⟩,
  ⟨0x8000218, 8, .range 1 65535⟩, ⟨0x8000A00, 1, .code 2 2⟩,
  ⟨0x9000000, 1, .code 2 0⟩, ⟨0x9000004, 0, .span (-5) 1⟩, ⟨0x9000004, 4, .range 0 4⟩, ⟨0x9000004, 8, .span (-5) 5⟩,
  ⟨0x9000004, 12, .range 2 10⟩, ⟨0x9000004, 16, .range 2 15⟩, ⟨0x9000008, 16, .range 1 65535⟩]

/-- Limits of the radio, security and peripheral blocks. -/
def limitsC : List LimitRow := [
  ⟨0xA000000, 1, .code 2 2⟩, ⟨0xA000000, 3, .range 1 31⟩, ⟨0xA00000C, 9, .code 2 2⟩,
  ⟨0xC000024, 0, .range 1 255⟩,
  ⟨0xE000004, 5, .code 2 0⟩, ⟨0xE000008, 0, .range 16 65535⟩, ⟨0xE000014, 2, .range 1 64⟩,
  ⟨0xE000020, 0, .range 16 1048575⟩, ⟨0xE000020, 20, .range 16 255⟩, ⟨0xE000028, 0, .range 32 65535⟩,
  ⟨0xE00002C, 6, .range 0 254⟩, ⟨0xE00002C, 14, .range 24 63⟩,
  ⟨0xE010004, 0, .code 5 0⟩, ⟨0xE010004, 3, .code 2 0⟩, ⟨0xE01000C, 0, .range 1 65535⟩]

/-- The limit of the field at a bit of a row, in a list. -/
def findLimit (base lo : Nat) : List LimitRow → Option Limit
  | [] => none
  | r :: rs => if r.base == base && r.lo == lo then some r.limit else findLimit base lo rs

/-- The value that a limit leaves of a field's value. -/
def Limit.keep (width v : Nat) : Limit → Nat
  | .range lo hi => clampNat lo hi v
  | .code last instead => if last < v then instead else v
  | .span lo hi => unsigned width (clampInt lo hi (signed width v))

/-- The value that a field stores (R11 and the tables). -/
def storedValue (base lo width v : Nat) : Nat := match findLimit base lo (limitsA ++ limitsB ++ limitsC) with
  | some l => l.keep width v
  | none => v

/-- A word written, with every field at the value that it stores; a bit that commands something is never stored. -/
def storedWord (base : Nat) : List FieldSpec → Word → Word
  | [], v => v
  | f :: fs, v =>
    storedWord base fs (insertField v f.lo f.width
      (if f.access == .w1s then 0 else storedValue base f.lo f.width (bits v.toNat f.lo f.width)))

/-- The limits that a word must keep between its fields: D_A and D_B, the edges of a capture channel, the mode of a UART,
its RTS levels, and the entries of the LIN table. -/
def crossStored (base unit : Nat) (v : Word) : Word :=
  let n := v.toNat
  if base == 0x600000C then (if bits n 8 5 == 0 || 16 < bits n 8 5 then insertField v 8 5 16 else v)
  else if base == 0x8000600 then (if bits n 6 2 == 0 then insertField v 6 2 1 else v)
  else if base == 0xE000004 then
    let m := bits n 2 2
    if m == 3 || (m == 1 && 4 ≤ unit) || (m == 2 && unit < 4) then insertField v 2 2 0 else v
  else if base == 0xE000014 then
    let rtsOff := clampNat 1 64 (bits n 2 7)
    if rtsOff ≤ bits n 9 7 then insertField v 9 7 (rtsOff - 1) else v
  else if base == 0xE000040 then
    BitVec.ofNat 32 ((List.range 4).foldl (fun a i =>
      let e := bits n (8 * i) 6
      a + (if e % 4 == 3 then e - 3 else e) * 2 ^ (8 * i)) 0)
  else if base == 0xE010004 then (if bits n 8 4 < 8 then insertField v 8 4 0 else v)
  else v

/-- The LK fields are locked from entry to FIELD on (R535). -/
def State.lkLocked (s : State) : Bool := s.sec.fielded

/-- A register written under its access codes and limits, without the behaviour of the fields that command (R11, R12,
R13). -/
def State.plainWrite (s : State) (a : Nat) (v : Word) : State := match regRow a with
  | none => s
  | some r =>
    s.setWord a (codeWrite s.lkLocked r.fields (s.word a)
      (crossStored r.base ((a - r.base) / r.stride) (storedWord r.base r.fields v)))

/-- The state that a meaning leaves, or the state before it where it answers no next state. -/
def State.run (s : State) (f : State → Result) : State := match f s with
  | .next t => t
  | .fault _ => s
  | .refused _ => s

/-! ### Writes, block by block -/

/-- Writes of the fabric block: clear_count. -/
def State.fabWrite (s : State) (a : Nat) (v : Word) : State :=
  (s.plainWrite a v).when (a == FAB_STATUS && bit v.toNat 2) (·.run execClearCount)

/-- Writes of the clock block (R54, R78, R83, R85): relock, lane_sync, and ADPLL-B's enable and channel. How many ticks a
commanded relock comes after its REFCLK edge is a free value (log entry 3). -/
def State.clkWrite (s : State) (a : Nat) (v : Word) : State :=
  let n := v.toNat
  if a == CLK_CTRL then
    let s := s.plainWrite a v
    if bit n 5 then s.nextFree.run (execRelock ⟨s.freeVal % 12, Nat.mod_lt _ (by decide)⟩) else s
  else if a == CLK_SYNC_CMD then
    if bit n 0 then s.run (execLaneSyncCmd ⟨32 * (s.cycleNow - s.clk.cycle) / markCycles % 32, Nat.mod_lt _ (by decide)⟩) else s
  else if a == CLKB_CTRL then
    let on := s.is CLKB_CTRL.enable
    let s := s.plainWrite a v
    if on && !bit n 0 then s.bStop
    else if on then s.run (execClkbChannelWrite (bit n 1))
    else if !on && bit n 0 then s.run execClkbEnable
    else s
  else s.plainWrite a v

/-- Writes of the granary block (R92, R95, R99, R105, R111, R113). -/
def State.granRegWrite (s : State) (a : Nat) (v : Word) : State :=
  let n := v.toNat
  let off := a - 0x4000000
  if off < 0x100 then
    let i := off / 4 % 64
    let s := s.plainWrite a v
    let s := if bit n 16 then s else s.run (execLendableClear ⟨i, Nat.mod_lt _ (by decide)⟩)
    if bit n 15 then s.bayGo i else s
  else if a == GRAN_EVENT then (s.plainWrite a v).when (bit n 7) (·.run execClearCounts)
  else if 0x300 ≤ off && off < 0x380 then
    let k := (off - 0x300) / 8 % 16
    if off % 8 == 4 then s.membersWrite k v
    else
      let k16 : Fin 16 := ⟨k, Nat.mod_lt _ (by decide)⟩
      let on := s.is (GRP_CFG.enable k)
      let t := if on then s else (s.put (GRP_CFG.size k) (bits n 1 2)).put (GRP_CFG.base_bay k) (bits n 3 6)
      let t := t.put (GRP_CFG.lendable k) (bits n 9 1)
      let t := if on && !bit n 9 then t.each (t.groupBays k) State.lendEnds else t
      -- a refused enable leaves the other fields as they were (R97)
      if bit n 0 && !on && !t.groupForms k then (s.flag (GRP_CFG.refused k)).flag GRAN_EVENT.group_error
      else t.run (if bit n 0 then execGroupEnable k16 else execGroupDisable k16)
  else if a == AUD_CFG then
    let s := s.put AUD_CFG.pause (bits n 8 12)
    if bit n 0 then (s.flag AUD_CFG.enable).modGran fun g => { g with audit := { g.audit with stopping := false } }
    else s.run execAuditDisable
  else if a == BALE_COLL then if bit n 0 then s.run execBaleCollClear else s
  else s.plainWrite a v

/-- Writes of the front-end block (R127, R128, R130, R131, R133, R135). -/
def State.feWrite (s : State) (a : Nat) (v : Word) : State :=
  let n := v.toNat
  if a == FE_CTRL then
    let on := s.is FE_CTRL.gnss_en
    let bias := s.biasOn
    let s := (s.plainWrite a v).put FE_CTRL.gnss_en (b2n on)
    let s := (if bias && !bit n 1 then s.antOff else s).blankLook.feRecord
    if !on && bit n 0 then s.run execGnssEnable else if on && !bit n 0 then s.run execGnssDisable else s
  else if a == FE_CAL_CTRL then
    let s := (s.plainWrite a v).showBgHeld
    if bit n 0 then s.run execFgCalStart else s
  else s.plainWrite a v

/-- Writes of the lane block (R145, R149, R152, R160, R166). -/
def State.laneWrite (s : State) (a : Nat) (v : Word) : State :=
  let n := v.toNat
  let off := a - 0x6000000
  if 0x1000 ≤ off then
    let l := (off - 0x1000) / 0x400
    let b := (off - 0x1000) % 0x400 / 0x200
    let s := s.runLane l
    s.bankWrite l b (.coef ⟨off / 4 % 128, Nat.mod_lt _ (by decide)⟩) v
  else
    let l := off / 0x80
    let r := off % 0x80
    let s := if off == 0x600 then s else s.runLane l
    if off == 0x600 then s
    else if r == 0x04 || r == 0x14 then (s.plainWrite a v).laneSetNow l
    else if r == 0 then
      let s := if bit n 0 then s.laneEnable l
        else if s.is (LANE_CTRL.enable l) then s.laneStop l else s
      if bit n 1 then s.laneRestart l else s
    else if r == 0x18 then s.filterRequest l (bits n 0 6) (clampNat 16 4096 (bits n 6 13))
    else if r == 0x20 || r == 0x24 then s.bankWrite l ((r - 0x20) / 4) .config v
    else if 0x38 ≤ r && r < 0x48 then
      let j := (r - 0x38) / 4
      ((s.put (LANE_NOTCH.freq l j) (bits n 8 24)).modNotch l j fun x => { x with rate := 0 }).notchMode l j (bits n 0 2)
    else s.plainWrite a v

/-- Writes of the thresher block (R179, R186, R199). -/
def State.thrWrite (s : State) (a : Nat) (v : Word) : State :=
  let n := v.toNat
  if a == THR_CTRL then
    let s := s.put THR_CTRL.rate_div (bits n 5 2)
    let s := if bit n 0 then s.flag THR_CTRL.enable else if s.is THR_CTRL.enable then s.thrDisable else s
    let s := if bit n 2 then s.run execPassAbort else s
    let s := if bit n 3 then s.run execFreeA else s
    let s := if bit n 4 then s.run execFreeB else s
    if bit n 1 then s.latchPass none else s
  else s.plainWrite a v

/-- Writes of the sheaf block (R225, R231, R233, R239). -/
def State.shfWrite (s : State) (a : Nat) (v : Word) : State :=
  let n := v.toNat
  let off := a - 0xD000000
  if 0x20000 ≤ off then s.codeRamWrite ((off - 0x20000) / 0x10000) (off % 0x10000 / 4) n
  else if a == SHF_CTRL then
    if bit n 0 then s.flag SHF_CTRL.enable else if s.is SHF_CTRL.enable then s.shfDisable else s
  else if 0x1000 ≤ off then
    let c := (off - 0x1000) / 0x40
    let r := off % 0x40
    if r == 0 then
      let s := if bit n 1 then s.chanStop c else s
      if bit n 0 then (s.chanStart c).2 else s
    else if 0x1C ≤ r && r ≤ 0x34 && s.chanState c == 2 then
      if r == 0x34 then s.put (SHF_CH_AUX.fan_step c) (bits n 0 20) else s
    else s.plainWrite a v
  else s.plainWrite a v

/-- Writes of the local time unit (R351 to R357, R364, R371 to R384, R608). -/
def State.timeWrite (s : State) (a : Nat) (v : Word) : State :=
  let n := v.toNat
  let off := a - 0x8000000
  if a == TIME_INC_FRAC then s.setInc (s.get TIME_INC_INT.i * 2 ^ 32 + n)
  else if a == TIME_INC_INT then s.setInc (n % 16 * 2 ^ 32 + s.get TIME_INC_FRAC.f)
  else if a == TIME_SLEW then s.setSlew v.toInt
  else if a == TIME_STEP_CTRL then
    let s := if bit n 1 then s.cancelStep else s
    if bit n 0 then s.run execStepArm else s
  else if a == TIME_UNC then s.setUnc n
  else if a == TIME_SRC_CFG then (s.plainWrite a v).chooseSource
  else if 0x200 ≤ off && off < 0x600 then
    let j := (off - 0x200) / 0x20
    let r := off % 0x20
    if r == 0x10 then s.wideWrite (.trigPeriod ⟨j % 32, Nat.mod_lt _ (by decide)⟩) n
    else if r == 0x18 then
      let on := s.is (TRIG_CFG.en j)
      let s := (s.plainWrite a v).put (TRIG_CFG.en j) (b2n on)
      if !on && bit n 0 then s.armTrigger j
      else if on && !bit n 0 then (s.put (TRIG_CFG.en j) 0).modTrig j fun x => { x with late := false }
      else s
    else s.plainWrite a v
  else if 0x600 ≤ off && off < 0xA00 then
    let i := (off - 0x600) / 0x40
    let s := s.modLtu fun u => { u with capSq := vmod (fun _ => false) u.capSq i }
    if off % 0x40 == 4 then (if bit n 1 then s.capClear i else s) else s.plainWrite a v
  else if 0xA00 ≤ off && off < 0xB00 then
    let k := (off - 0xA00) / 0x40
    let r := off % 0x40
    let k4 : Fin 4 := ⟨k % 4, Nat.mod_lt _ (by decide)⟩
    if r == 0 then
      let on := s.is (TP_CFG.en k)
      let utc := s.is (TP_CFG.utc_align k)
      let s := ((s.plainWrite a v).put (TP_CFG.en k) (b2n on)).setTpEnable k (bit n 0)
      s.when (utc != s.is (TP_CFG.utc_align k)) (·.gridWrite k)
    else if r == 0x04 then s.wideWrite (.tpPeriod k4) n
    else if r == 0x0C then s.wideWrite (.tpWidth k4) n
    else if r == 0x10 then s.wideWrite (.tpPhase k4) n
    else if r == 0x18 then (s.plainWrite a v).gridWrite k
    else s.plainWrite a v
  else s.plainWrite a v

/-- Writes of the network block (R413). -/
def State.netWrite (s : State) (a : Nat) (v : Word) : State :=
  if a == NET_ASYM then s.setAsym v.toInt
  else
    let old := (s.is NET_CTRL.enable, s.is NET_CTRL.profile, s.is NET_CTRL.transport, s.get NET_CTRL.domain)
    let oldInt := s.word NET_INTERVALS
    let s := s.plainWrite a v
    let new := (s.is NET_CTRL.enable, s.is NET_CTRL.profile, s.is NET_CTRL.transport, s.get NET_CTRL.domain)
    let s := if old == new && oldInt == s.word NET_INTERVALS then s else s.netRestart
    let s := if a == NET_CTRL && bit v.toNat 7 then s.realign else s
    s.showClass

/-- Writes of the radio block (R420, R448). -/
def State.uwbWrite (s : State) (a : Nat) (v : Word) : State :=
  let s := s.plainWrite a v
  if a == UWB_CTRL then
    let s := if !bit v.toNat 0 && s.uwb.live.isNone && s.uwb.cal.isNone then s.radioTo 0 else s
    if bit v.toNat 8 then s.modUwb fun u => { u with calAsk := some s.radioChannel } else s
  else if a == UWB_COEX_CFG then s.showGnt
  else s

/-- Writes of the security block (R519, R521, R535). -/
def State.secWrite (s : State) (a : Nat) (v : Word) : State :=
  let n := v.toNat
  if a == SEC_SEAL_CFG then
    let s := if s.lkLocked then s else s.sealSet (bit n 0) (bit n 1)
    if bit n 2 && s.present && (s.lifecycle == 1 || s.lifecycle == 3) then s.sealClear else s
  else s.plainWrite a v

/-- A register of card mode on UART_4 to UART_7, or of LIN mode on UART_0 to UART_3: it reads zero and ignores writes. -/
def uartLacks (u r : Nat) : Bool :=
  if u < 4 then r == 0x30 || r == 0x34 || (decide (0x40 ≤ r) && decide (r ≤ 0x80)) else r == 0x2C

/-- Writes of a UART's registers (R452 to R470). Every one breaks the status-then-data sequence (R11). -/
def State.uartRegWrite (s : State) (u r : Nat) (a : Nat) (v : Word) : State :=
  let n := v.toNat
  let s := s.uartTouch u
  if uartLacks u r then s
  else if r == 0x10 then s.uartWrite u n
  else
    let rst := s.is (UART_CARD.rst u)
    let s := s.plainWrite a v
    -- x8 is RO 0 on UART_0 to UART_3
    let s := if r == 0x08 && decide (u < 4) then s.put (UART_DIV.x8 u) 0 else s
    if r == 0x04 then
      let s := if bit n 8 then s.flushRx u else s
      let s := if bit n 9 then s.flushTx u else s
      s.showUart u
    else if r == 0x14 then s.showUart u
    else if r == 0x20 then if bit n 28 then s.breakSend u else s
    else if r == 0x2C then if !rst && bit n 21 then s.modUart u fun x => { x with ts := true } else s
    else if r == 0x34 then if bit n 6 then s.linHeader u else s
    else s

/-- Writes of the peripheral block: UARTs at 0x1000 × n, check-value units at 0x1_0000 + 0x400 × n (R475). -/
def State.perWrite (s : State) (a : Nat) (v : Word) : State :=
  let off := a - 0xE000000
  if off < 0x10000 then s.uartRegWrite (off / 0x1000) (off % 0x1000) a v
  else
    let c := (off - 0x10000) / 0x400
    let r := off % 0x400
    if r == 0x10 then
      let s := if bit v.toNat 1 then s.cvuAbort c else s
      if bit v.toNat 0 then s.cvuStart c else s
    else if r == 0x14 then s.cvuWrite c v
    else s.plainWrite a v

/-- Writes of the host-link block (R541, R544, R550). -/
def State.hostRegWrite (s : State) (a : Nat) (v : Word) : State :=
  let n := v.toNat
  if a == HL_RESET then if bit n 0 then s.devReset (bits n 8 8) s.rtcCount else s
  else if a == HL_RING_CTRL then
    let s := s.plainWrite a v
    if bit n 0 then s.run execRingInit else s
  else if HL_DB 0 ≤ a && a ≤ HL_DB 3 then s.ringDoorbell (clsOf ((a - HL_DB 0) / 4)) (bits n 0 16) (bits n 16 16)
  else if a == HL_EVT_CONS then s.evtCons (bits n 0 16)
  else if a == HL_IRQ_CAUSE then
    let s := s.plainWrite a v
    if bit n 7 then s.put HL_EVT_LOST.lost 0 else s
  else s.plainWrite a v

/-- The bale error registers of the host link are those of the granary block. -/
def aliasReg (a : Nat) : Nat := if 0xF000500 ≤ a && a ≤ 0xF000508 then a - 0xB000000 else a

/-- A register written by firmware, the debug port or the host: nothing where the spec tables no register (R13). -/
def State.regWrite (s : State) (a0 : Nat) (v : Word) : State :=
  let a := aliasReg a0
  if 0x20000000 ≤ a then s.ioWrite (a / 0x1000000 - 0x20) (a % 0x1000000) v.toNat
  else match regRow a with
    | none => s
    | some _ => match a / 0x1000000 with
      | 0x1 => s.fabWrite a v
      | 0x3 => s.clkWrite a v
      | 0x4 => s.granRegWrite a v
      | 0x5 => s.feWrite a v
      | 0x6 => s.laneWrite a v
      | 0x7 => s.thrWrite a v
      | 0x8 => s.timeWrite a v
      | 0x9 => s.netWrite a v
      | 0xA => s.uwbWrite a v
      | 0xC => s.secWrite a v
      | 0xD => s.shfWrite a v
      | 0xE => s.perWrite a v
      | 0xF => s.hostRegWrite a v
      | _ => s.plainWrite a v

/-! ### Reads -/

/-- The word that a read of a register returns, without the effect that a read may have. -/
def State.peek (s : State) (a0 : Nat) : Nat :=
  let a := aliasReg a0
  if a == TIME_UNC then s.uncNow
  else if HL_DEV_ID 0 ≤ a && a ≤ HL_DEV_ID 3 then fieldAt deviceIdBytes (a - HL_DEV_ID 0) 4
  else if a == PWR_STATUS then (s.put PWR_STATUS.settling (b2n (s.is PWR_STATUS.settling || s.passesSettle)) |>.word a).toNat
  else if a == SEC_PRES then (s.showPres.word a).toNat
  else if a == FE_CAL_STATUS then (s.showBgHeld.word a).toNat
  else if a == UWB_AIRTIME || a == UWB_AIRTIME_H then (s.showAir.word a).toNat
  else if 0xE000000 ≤ a && a < 0xE008000 && uartLacks ((a - 0xE000000) / 0x1000) (a % 0x1000) then 0
  else if 0xE000000 ≤ a && a < 0xE008000 && a % 0x1000 == 0x10 then (s.uartRead ((a - 0xE000000) / 0x1000)).1
  else if (regRow a).isNone then 0
  else (s.word a).toNat

/-- A register read: its word, and the state after the effect of the read (R11, R354, R379, R394, R457). -/
def State.regRead (s : State) (a0 : Nat) : Nat × State :=
  let a := aliasReg a0
  if 0x20000000 ≤ a then s.ioRead (a / 0x1000000 - 0x20) (a % 0x1000000) ((s.core (a / 0x1000000 - 0x20)).slot + 2)
  else if a == TIME_NOW_SEC_LO then let s := s.latchNow; (s.peek a, s)
  else if a == HL_TIME_SEC_LO then let s := s.latchHostTime; (s.peek a, s)
  else if 0x8000600 ≤ a && a < 0x8000A00 then
    let i := (a - 0x8000600) / 0x40
    let seq := vget false s.ltu.capSq i
    if a % 0x40 == 4 then (s.peek a, s.modLtu fun u => { u with capSq := vmod (fun _ => true) u.capSq i })
    else if a % 0x40 == 0x10 && seq then (s.peek a, s.capRead i)
    else (s.peek a, s.modLtu fun u => { u with capSq := vmod (fun _ => false) u.capSq i })
  else if 0xE000000 ≤ a && a < 0xE008000 then
    let u := (a - 0xE000000) / 0x1000
    if a % 0x1000 == 0x0C then (s.peek a, s.modUart u fun x => { x with seq := true })
    else if a % 0x1000 == 0x10 then s.uartRead u
    else (s.peek a, s.uartTouch u)
  else (s.peek a, s)

/-- REGISTER_WRITE (R11): a register written by the firmware, by its address in this model (2^24 × block + offset). -/
def execRegisterWrite (address value : Word) (s : State) : Result := whileLive s fun s =>
  .next (s.regWrite address.toNat value)

end Sys2Proof.Machine
end

