-- ==== Sys2Proof/Machine/DspAcc.lean ====
section
/-! DEFINITION. DSP cores: the multiplies, accumulators, packed complex words, searches, and the miscellaneous instructions. Each is the issue of its instruction word (R266, R267). -/

namespace Sys2Proof.Machine

/-- MUL (R256): mul writes a signed product to an accumulator. -/
def execMul (core : Fin 16) (aa : Fin 4) (ds dt : Fin 16) (third : Bool) (mv : Moves) (s : State) : Result :=
  .next (s.dspIssue core (encM 0x0C0 aa ds dt third mv))

/-- MAC (R256): mac adds a signed product to an accumulator. -/
def execMac (core : Fin 16) (aa : Fin 4) (ds dt : Fin 16) (third : Bool) (mv : Moves) (s : State) : Result :=
  .next (s.dspIssue core (encM 0x0C1 aa ds dt third mv))

/-- NMAC (R256): nmac subtracts a signed product from an accumulator. -/
def execNmac (core : Fin 16) (aa : Fin 4) (ds dt : Fin 16) (third : Bool) (mv : Moves) (s : State) : Result :=
  .next (s.dspIssue core (encM 0x0C2 aa ds dt third mv))

/-- MULM (R256): mulm writes a mixed-sign product. -/
def execMulm (core : Fin 16) (aa : Fin 4) (ds dt : Fin 16) (third : Bool) (mv : Moves) (s : State) : Result :=
  .next (s.dspIssue core (encM 0x0C3 aa ds dt third mv))

/-- MACM (R256): macm adds a mixed-sign product. -/
def execMacm (core : Fin 16) (aa : Fin 4) (ds dt : Fin 16) (third : Bool) (mv : Moves) (s : State) : Result :=
  .next (s.dspIssue core (encM 0x0C4 aa ds dt third mv))

/-- MACU (R256): macu adds an unsigned product. -/
def execMacu (core : Fin 16) (aa : Fin 4) (ds dt : Fin 16) (third : Bool) (mv : Moves) (s : State) : Result :=
  .next (s.dspIssue core (encM 0x0C5 aa ds dt third mv))

/-- CLR (R267): clr zeroes an accumulator. -/
def execClr (core : Fin 16) (aa : Fin 4) (mv : Moves) (s : State) : Result :=
  .next (s.dspIssue core (encA 0x100 aa 0 0 0 mv))

/-- AADD (R267): aadd adds two accumulators. -/
def execAadd (core : Fin 16) (aa ab : Fin 4) (mv : Moves) (s : State) : Result :=
  .next (s.dspIssue core (encA 0x101 aa ab 0 0 mv))

/-- ASUB (R267): asub subtracts two accumulators. -/
def execAsub (core : Fin 16) (aa ab : Fin 4) (mv : Moves) (s : State) : Result :=
  .next (s.dspIssue core (encA 0x102 aa ab 0 0 mv))

/-- AMOV (R267): amov copies an accumulator. -/
def execAmov (core : Fin 16) (aa ab : Fin 4) (mv : Moves) (s : State) : Result :=
  .next (s.dspIssue core (encA 0x103 aa ab 0 0 mv))

/-- ANEG (R267): aneg negates an accumulator. -/
def execAneg (core : Fin 16) (aa ab : Fin 4) (mv : Moves) (s : State) : Result :=
  .next (s.dspIssue core (encA 0x104 aa ab 0 0 mv))

/-- AABS (R267): aabs takes an accumulator's absolute value. -/
def execAabs (core : Fin 16) (aa ab : Fin 4) (mv : Moves) (s : State) : Result :=
  .next (s.dspIssue core (encA 0x105 aa ab 0 0 mv))

/-- ASHL (R267): ashl shifts an accumulator left. -/
def execAshl (core : Fin 16) (aa ab : Fin 4) (k : Fin 64) (mv : Moves) (s : State) : Result :=
  .next (s.dspIssue core (encA 0x106 aa ab k 0 mv))

/-- ASHR (R267): ashr shifts an accumulator right. -/
def execAshr (core : Fin 16) (aa ab : Fin 4) (k : Fin 64) (mv : Moves) (s : State) : Result :=
  .next (s.dspIssue core (encA 0x107 aa ab k 0 mv))

/-- EXT (R258): ext extracts a saturated 20-bit value from an accumulator. -/
def execExt (core dd : Fin 16) (ab : Fin 4) (k : Fin 64) (mv : Moves) (s : State) : Result :=
  .next (s.dspIssue core (encA 0x108 0 ab k dd mv))

/-- DEP (R267): dep deposits a shifted register into an accumulator. -/
def execDep (core : Fin 16) (aa : Fin 4) (ds : Fin 16) (k : Fin 64) (mv : Moves) (s : State) : Result :=
  .next (s.dspIssue core (encA 0x109 aa 0 k ds mv))

/-- ACMP (R267): acmp sets flags of an accumulator difference. -/
def execAcmp (core : Fin 16) (aa ab : Fin 4) (mv : Moves) (s : State) : Result :=
  .next (s.dspIssue core (encA 0x10A aa ab 0 0 mv))

/-- CMUL (R259): cmul writes a complex product to an accumulator pair. -/
def execCmul (core : Fin 16) (aa : Fin 4) (ds dt : Fin 16) (third : Bool) (mv : Moves) (s : State) : Result :=
  .next (s.dspIssue core (encM 0x140 aa ds dt third mv))

/-- CMAC (R259): cmac accumulates a complex product. -/
def execCmac (core : Fin 16) (aa : Fin 4) (ds dt : Fin 16) (third : Bool) (mv : Moves) (s : State) : Result :=
  .next (s.dspIssue core (encM 0x141 aa ds dt third mv))

/-- CMACC (R259): cmacc accumulates a product by the conjugate. -/
def execCmacc (core : Fin 16) (aa : Fin 4) (ds dt : Fin 16) (third : Bool) (mv : Moves) (s : State) : Result :=
  .next (s.dspIssue core (encM 0x142 aa ds dt third mv))

/-- CNMAC (R259): cnmac subtracts a complex product. -/
def execCnmac (core : Fin 16) (aa : Fin 4) (ds dt : Fin 16) (third : Bool) (mv : Moves) (s : State) : Result :=
  .next (s.dspIssue core (encM 0x143 aa ds dt third mv))

/-- CPK (R258): cpk packs a saturated complex word from an accumulator pair. -/
def execCpk (core dd : Fin 16) (ab : Fin 4) (k : Fin 64) (mv : Moves) (s : State) : Result :=
  .next (s.dspIssue core (encA 0x144 0 ab k dd mv))

/-- CUNP (R267): cunp unpacks a complex word into two registers. -/
def execCunp (core dd ds : Fin 16) (mv : Moves) (s : State) : Result :=
  .next (s.dspIssue core (encT 0x145 dd ds 0 mv))

/-- CADD (R267): cadd adds packed complex words with saturation. -/
def execCadd (core dd ds dt : Fin 16) (mv : Moves) (s : State) : Result :=
  .next (s.dspIssue core (encT 0x146 dd ds dt mv))

/-- CSUB (R267): csub subtracts packed complex words with saturation. -/
def execCsub (core dd ds dt : Fin 16) (mv : Moves) (s : State) : Result :=
  .next (s.dspIssue core (encT 0x147 dd ds dt mv))

/-- CCONJ (R267): cconj conjugates a packed complex word. -/
def execCconj (core dd ds : Fin 16) (mv : Moves) (s : State) : Result :=
  .next (s.dspIssue core (encT 0x148 dd ds 0 mv))

/-- SMAX (R260): smax compares the X-loaded word with mx and keeps the greater with its index. -/
def execSmax (core : Fin 16) (u : Bool) (mv : Moves) (s : State) : Result :=
  .next (s.dspIssue core (encS 0x180 0 0 0 u mv))

/-- SMIN (R260): smin compares the X-loaded word with mx and keeps the lesser. -/
def execSmin (core : Fin 16) (u : Bool) (mv : Moves) (s : State) : Result :=
  .next (s.dspIssue core (encS 0x181 0 0 0 u mv))

/-- SMAXD (R260): smaxd searches for the maximum with a register candidate and index. -/
def execSmaxd (core ds dt : Fin 16) (u : Bool) (mv : Moves) (s : State) : Result :=
  .next (s.dspIssue core (encS 0x182 0 ds dt u mv))

/-- SMIND (R260): smind searches for the minimum with a register candidate and index. -/
def execSmind (core ds dt : Fin 16) (u : Bool) (mv : Moves) (s : State) : Result :=
  .next (s.dspIssue core (encS 0x183 0 ds dt u mv))

/-- SINIT (R260): sinit prepares mx and mi for a search. -/
def execSinit (core : Fin 16) (mode : Fin 4) (mv : Moves) (s : State) : Result :=
  .next (s.dspIssue core (encS 0x184 mode 0 0 false mv))

/-- CLRF (R267): clrf clears the sticky flags selected by its mask. -/
def execClrf (core : Fin 16) (mask : Fin 8) (mv : Moves) (s : State) : Result :=
  .next (s.dspIssue core (encN 0x1C0 mask mv))

/-- EI (R267): ei sets sr.ie. -/
def execEi (core : Fin 16) (mv : Moves) (s : State) : Result :=
  .next (s.dspIssue core (encN 0x1C1 0 mv))

/-- DI (R267): di clears sr.ie. -/
def execDi (core : Fin 16) (mv : Moves) (s : State) : Result :=
  .next (s.dspIssue core (encN 0x1C2 0 mv))

/-- FENCE (R249): fence stalls until no window write is outstanding. -/
def execFence (core : Fin 16) (mv : Moves) (s : State) : Result :=
  .next (s.dspIssue core (encN 0x1C3 0 mv))

end Sys2Proof.Machine
end

