-- ==== Sys2Proof/Machine/DspAlu.lean ====
section
/-! DEFINITION. DSP cores: the moves, register transfers, and 20-bit arithmetic. Each is the issue of its instruction word (R266, R267). -/

namespace Sys2Proof.Machine

/-- MV (R267): mv performs its moves only. -/
def execMv (core : Fin 16) (mv : Moves) (s : State) : Result :=
  .next (s.dspIssue core (encN 0x040 0 mv))

/-- MOV (R267): mov copies one register to another. -/
def execMov (core : Fin 16) (dst src : Fin 128) (mv : Moves) (s : State) : Result :=
  .next (s.dspIssue core (encV 0x041 dst src mv))

/-- LDI (R267): ldi loads an immediate into a register. -/
def execLdi (core : Fin 16) (dst : Fin 128) (imm : Word20) (s : State) : Result :=
  .next (s.dspIssue core (encL 0x042 dst imm.toNat))

/-- ADD (R267): add forms a wrapping sum. -/
def execAdd (core dd ds dt : Fin 16) (mv : Moves) (s : State) : Result :=
  .next (s.dspIssue core (encT 0x080 dd ds dt mv))

/-- SUB (R267): sub forms a wrapping difference. -/
def execSub (core dd ds dt : Fin 16) (mv : Moves) (s : State) : Result :=
  .next (s.dspIssue core (encT 0x081 dd ds dt mv))

/-- ADDS (R267): adds forms a saturated sum. -/
def execAdds (core dd ds dt : Fin 16) (mv : Moves) (s : State) : Result :=
  .next (s.dspIssue core (encT 0x082 dd ds dt mv))

/-- SUBS (R267): subs forms a saturated difference. -/
def execSubs (core dd ds dt : Fin 16) (mv : Moves) (s : State) : Result :=
  .next (s.dspIssue core (encT 0x083 dd ds dt mv))

/-- AND (R267): and forms a bitwise and. -/
def execAnd (core dd ds dt : Fin 16) (mv : Moves) (s : State) : Result :=
  .next (s.dspIssue core (encT 0x084 dd ds dt mv))

/-- OR (R267): or forms a bitwise or. -/
def execOr (core dd ds dt : Fin 16) (mv : Moves) (s : State) : Result :=
  .next (s.dspIssue core (encT 0x085 dd ds dt mv))

/-- XOR (R267): xor forms a bitwise exclusive or. -/
def execXor (core dd ds dt : Fin 16) (mv : Moves) (s : State) : Result :=
  .next (s.dspIssue core (encT 0x086 dd ds dt mv))

/-- NOT (R267): not forms a bitwise complement. -/
def execNot (core dd ds : Fin 16) (mv : Moves) (s : State) : Result :=
  .next (s.dspIssue core (encT 0x087 dd ds 0 mv))

/-- NEG (R267): neg negates with wrapping. -/
def execNeg (core dd ds : Fin 16) (mv : Moves) (s : State) : Result :=
  .next (s.dspIssue core (encT 0x088 dd ds 0 mv))

/-- ABS (R267): abs forms a saturated absolute value. -/
def execAbs (core dd ds : Fin 16) (mv : Moves) (s : State) : Result :=
  .next (s.dspIssue core (encT 0x089 dd ds 0 mv))

/-- CMP (R267): cmp sets flags of a difference. -/
def execCmp (core ds dt : Fin 16) (mv : Moves) (s : State) : Result :=
  .next (s.dspIssue core (encT 0x08A 0 ds dt mv))

/-- ADDI (R267): addi adds a signed 6-bit immediate. -/
def execAddi (core dd ds : Fin 16) (imm : BitVec 6) (mv : Moves) (s : State) : Result :=
  .next (s.dspIssue core (encI 0x08B dd ds imm.toNat mv))

/-- ASL (R267): asl shifts left arithmetically. -/
def execAsl (core dd ds : Fin 16) (k : Fin 64) (mv : Moves) (s : State) : Result :=
  .next (s.dspIssue core (encI 0x08C dd ds k mv))

/-- ASR (R267): asr shifts right arithmetically. -/
def execAsr (core dd ds : Fin 16) (k : Fin 64) (mv : Moves) (s : State) : Result :=
  .next (s.dspIssue core (encI 0x08D dd ds k mv))

/-- LSR (R267): lsr shifts right logically. -/
def execLsr (core dd ds : Fin 16) (k : Fin 64) (mv : Moves) (s : State) : Result :=
  .next (s.dspIssue core (encI 0x08E dd ds k mv))

/-- NRM (R267): nrm counts the redundant sign bits. -/
def execNrm (core dd ds : Fin 16) (mv : Moves) (s : State) : Result :=
  .next (s.dspIssue core (encT 0x08F dd ds 0 mv))

end Sys2Proof.Machine
end

