-- ==== Sys2Proof/Machine/DspControl.lean ====
section
/-! DEFINITION. DSP cores: the control instructions: branches, calls, loops, repeats, rot and halt. Each is the issue of its instruction word (R266, R267). -/

namespace Sys2Proof.Machine

/-- NOP (R267): The instruction nop does nothing. -/
def execNop (core : Fin 16) (s : State) : Result :=
  .next (s.dspIssue core (0))

/-- BR (R264): br branches on its condition after two delay slots. -/
def execBr (core cc : Fin 16) (target : Fin 16384) (s : State) : Result :=
  .next (s.dspIssue core (encC 0x001 target (cc * 2 ^ 12)))

/-- CALL (R290): call pushes its address plus 3 and branches, or raises a stack fault when the stack is full. -/
def execCall (core cc : Fin 16) (target : Fin 16384) (s : State) : Result :=
  .next (s.dspIssue core (encC 0x002 target (cc * 2 ^ 12)))

/-- RET (R290): ret pops and branches, or raises a stack fault when empty. -/
def execRet (core cc : Fin 16) (s : State) : Result :=
  .next (s.dspIssue core (encC 0x003 0 (cc * 2 ^ 12)))

/-- RETI (R287): reti returns from a handler, restoring sr and the program's loop bank. -/
def execReti (core : Fin 16) (s : State) : Result :=
  .next (s.dspIssue core (encC 0x004 0 0))

/-- BRR (R264): brr branches on its condition to a pointer register. -/
def execBrr (core cc : Fin 16) (k : Fin 8) (s : State) : Result :=
  .next (s.dspIssue core (encC 0x005 0 (cc * 2 ^ 12 + k)))

/-- LOOP (R269): loop starts a hardware loop level with an immediate count. -/
def execLoop (core : Fin 16) (n : Fin 65536) (last : Fin 16384) (s : State) : Result :=
  .next (s.dspIssue core (encC 0x008 last n))

/-- LOOPR (R272): loopr starts a loop level with a count from a register, or none for a count of 0. -/
def execLoopr (core : Fin 16) (src : Fin 128) (last : Fin 16384) (s : State) : Result :=
  .next (s.dspIssue core (encC 0x009 last src))

/-- RPT (R279): rpt repeats the next instruction n times. -/
def execRpt (core : Fin 16) (n1 : Fin 256) (s : State) : Result :=
  .next (s.dspIssue core (encC 0x00A 0 n1))

/-- RPTR (R279): rptr repeats the next instruction a register-given number of times. -/
def execRptr (core : Fin 16) (src : Fin 128) (s : State) : Result :=
  .next (s.dspIssue core (encC 0x00B 0 src))

/-- ROT (R281): rot decrements rrb while sr.rot is 1, else acts as nop. -/
def execRot (core : Fin 16) (s : State) : Result :=
  .next (s.dspIssue core (encC 0x00C 0 0))

/-- HALT (R292): halt stops fetching until an interrupt can be accepted or a masked source is pending. -/
def execHalt (core : Fin 16) (s : State) : Result :=
  .next (s.dspIssue core (encC 0x00D 0 0))

end Sys2Proof.Machine
end

