-- ==== Sys2Proof/Machine/Tap.lean ====
section
/-! DEFINITION. The debug port (R522 to R526): its instructions, the AUTH operations, DBG_REG, DBG_STATUS, and the
read-out of a frozen device (R530). -/

namespace Sys2Proof.Machine

/-- The port is unpowered in KEEP, DORMANT and PARKED (R534). -/
def whileTap (s : State) (f : State → Result) : Result := if s.pwr.powered then f s else .next s

def State.modTap (s : State) (f : TapState → TapState) : State := s.modSec fun c => { c with tap := f c.tap }

/-- An instruction is selected; a disallowed one selects BYPASS and is noted (R522). -/
def State.tapSelect (s : State) (code : Nat) : State :=
  if tapAllows code s.lifecycle s.debugOpen s.frozen then s.modTap fun t => { t with ir := code }
  else (s.modTap fun t => { t with ir := 0xFF }).flag SEC_EVENT.dbg_refused

/-- What a data scan shifted out. -/
def State.tapOut (s : State) (v : Nat) : State := s.modTap fun t => { t with out := v }

/-- TAP_RESET (R522): TRST_N, or five TCK cycles with TMS high, select IDCODE. -/
def execTapReset (s : State) : Result := whileTap s fun s => .next (s.modTap fun t => { t with ir := 0x01, range := {} })

/-- IDCODE (R522). -/
def execIdcode (s : State) : Result := whileTap s fun s => .next ((s.tapSelect 0x01).tapOut 0x1484018B)

/-- Bits of a scan, the first shifted in bit 0. -/
def scanBits : List Bool → Nat
  | [] => 0
  | b :: bs => b2n b + 2 * scanBits bs

/-- SAMPLE_PRELOAD (R522): the pins as sampled are shifted out, and the boundary cells preloaded. -/
def execSamplePreload (sampled preload : List Bool) (s : State) : Result := whileTap s fun s =>
  .next (((s.tapSelect 0x02).tapOut (scanBits sampled)).modTap fun t => { t with cells := preload })

/-- EXTEST (R522): the preloaded cells drive the pins. -/
def execExtest (s : State) : Result := whileTap s fun s => .next (s.tapSelect 0x03)

/-- CLAMP (R522). -/
def execClamp (s : State) : Result := whileTap s fun s => .next (s.tapSelect 0x04)

/-- HIGHZ (R522). -/
def execHighz (s : State) : Result := whileTap s fun s => .next (s.tapSelect 0x05)

/-- BYPASS, and every code that the table does not list (R522). -/
def execBypass (s : State) : Result := whileTap s fun s => .next (s.modTap fun t => { t with ir := 0xFF })

/-! ### AUTH -/

/-- AUTH (R522). -/
def execAuth (s : State) : Result := whileTap s fun s => .next (s.tapSelect 0x10)

/-- An operation through the AUTH data register: it needs the instruction selected. -/
def whileAuth (s : State) (f : State → State) : Result := whileTap s fun s =>
  .next (if s.sec.tap.ir == 0x10 then f s else s)

/-- The answer to an AUTH operation. -/
def State.tapAnswer (s : State) (a : Answer) : State := s.modTap fun t => { t with status := a.status, payload := a.payload }

/-- AUTH_OPEN (R519, R522). -/
def execAuthOpen (s : State) : Result := whileAuth s fun s => let r := s.authOpen; r.2.tapAnswer r.1

/-- AUTH_CLOSE (R515, R522). -/
def execAuthClose (s : State) : Result := whileAuth s fun s => let r := s.authClose; r.2.tapAnswer r.1

/-- TAP_AUTH_CHALLENGE (R523 to R525), with the nonce that the TRNG draws. -/
def execTapAuthChallenge (nonce : BitVec 256) (s : State) : Result := whileAuth s fun s =>
  let r := s.authChallenge nonce; r.2.tapAnswer r.1

/-- A password or a response through the port: an answer now, or when its verification ends. -/
def State.tapBegin (s : State) (response : Bool) (data : List Byte) : State :=
  let r := s.authBegin none response data
  match r.1 with
  | some a => r.2.tapAnswer a
  | none => r.2

/-- TAP_AUTH_PASSWORD (R523, R525): the password's first byte is the most significant. -/
def execTapAuthPassword (password : BitVec 128) (s : State) : Result := whileAuth s fun s => s.tapBegin false (be 16 password.toNat)

/-- TAP_AUTH_RESPONSE (R523, R525). -/
def execTapAuthResponse (scope : Word) (sigR sigS : BitVec 256) (s : State) : Result := whileAuth s fun s =>
  s.tapBegin true (le 4 scope.toNat ++ be 32 sigR.toNat ++ be 32 sigS.toNat)

/-! ### Registers -/

/-- The scope VENDOR masks UARTs and check-value units delegated to the host (R526). -/
def State.maskedReg (s : State) (a : Nat) : Bool :=
  s.get SEC_STATE.scope == 1 &&
    ((decide (0xE000000 ≤ a) && decide (a < 0xE008000) && s.get (UART_OWNER.owner ((a - 0xE000000) / 0x1000)) == 0x20) ||
      (decide (0xE010000 ≤ a) && decide (a < 0xE014000) && s.get (CVU_OWNER.owner ((a - 0xE010000) / 0x400)) == 0x20))

/-- A register block that the steward cores reach (R522): those of R578 and R530. -/
def isBlock (b : Nat) : Bool := decide (1 ≤ b) && decide (b ≤ 0xF)

/-- DBG_REG (R522, R526): a register read, or written with the value given. -/
def execDbgReg (block : BitVec 8) (offset : BitVec 24) (value : Option Word) (s : State) : Result := whileTap s fun s =>
  let s := s.tapSelect 0x11
  let a := block.toNat * 0x1000000 + offset.toNat
  if s.sec.tap.ir != 0x11 then .next s
  else if !isBlock block.toNat || s.maskedReg a then .next (s.tapOut 0)
  else match value with
    | some v => .next (s.regWrite a v)
    | none => let r := s.regRead a; .next (r.2.tapOut r.1)

/-- DBG_STATUS (R522, R535): a word of the security block. -/
def execDbgStatus (word : Fin 12) (s : State) : Result := whileTap s fun s =>
  .next ((s.tapSelect 0x13).tapOut (s.peek (0xC000000 + 4 * word.val)))

/-! ### FRZ_READ -/

/-- One past the offset of the last register of a block's tables. -/
def blockEnd (b : Nat) : Nat := (blockRows b).foldl (fun m r =>
  max m (r.base % 0x1000000 + r.stride * (r.count - 1) + r.step * (r.steps - 1) + 4)) 0

/-- Words of a region's instance (R530); none where there is no such region or instance. A steward core's local memory
has as many words as `Config.stewardWord` gives (log entry 3). -/
def frzLength (region unit : Nat) : Nat :=
  if region == 1 then (if isBlock unit then blockEnd unit / 4 else 0)
  else if (region == 2 || region == 3) && unit < 16 then 32768
  else if region == 4 && unit < 16 then 16384
  else if region == 5 && unit < 4 then 0x1000000
  else if region == 6 && unit < 64 then 131072
  else if region == 7 && unit == 0 then 16384
  else 0

/-- The scope VENDOR masks this word (R526). -/
def State.frzMasked (s : State) (region unit word : Nat) : Bool :=
  if s.get SEC_STATE.scope != 1 then false
  else if region == 1 then s.maskedReg (unit * 0x1000000 + 4 * word)
  else if region == 2 || region == 3 || region == 4 then decide (12 ≤ unit)
  else if region == 6 then outsideOwner (s.get (BAY_OWNER.owner_id unit))
  else region == 7

/-- Data, check bits and status of a frame. -/
def frzFrame (data check status : Nat) : Nat := data % 2 ^ 48 + check % 2 ^ 8 * 2 ^ 48 + status % 2 ^ 8 * 2 ^ 56

/-- The status of a word read through a code (R530). -/
def frzStatus (y : Syndrome) : Nat := if y.bad then 2 else if y.corrected then 1 else 0

/-- A frame of stored bits under a code of n data bits, check bits above. -/
def frzCoded (n raw : Nat) : Nat := let r := eccLoad n raw; frzFrame r.data (raw / 2 ^ n) (frzStatus r.syn)

/-- The frame of a word of a region (R530). -/
def State.frzWord (s : State) (region unit word : Nat) : Nat :=
  if frzLength region unit ≤ word then frzFrame 0 0 4
  else if s.frzMasked region unit word then frzFrame 0 0 3
  else if region == 1 then frzFrame (s.peek (unit * 0x1000000 + 4 * word)) 0 0
  else if region == 2 || region == 3 then frzCoded 20 (s.xyRaw (region == 3) unit word)
  else if region == 4 then frzCoded 40 (s.progRaw unit word)
  else if region == 5 then match Config.stewardWord s.free unit word with
    | some v => frzCoded 32 v.toNat
    | none => frzFrame 0 0 4
  else if region == 6 then
    let raw := s.granRaw unit word
    let r := granLoad raw word
    frzFrame r.data (raw.toNat / 2 ^ 40) (frzStatus r.syn)
  else frzCoded 32 (sparseGet baleDefault s.gran.bale word).toNat

/-- FRZ_READ (R530): a command with a region selects a range, and its frame is zero; one without takes the next word. -/
def execFrzRead (command : BitVec 64) (s : State) : Result := whileTap s fun s =>
  let s := s.tapSelect 0x12
  let n := command.toNat
  if s.sec.tap.ir != 0x12 then .next s
  else
    let s := s.flag SEC_FREEZE_STATUS.readout
    if n % 256 != 0 then
      .next ((s.tapOut 0).modTap fun t => { t with range := ⟨bits n 0 8, bits n 8 8, bits n 16 24, bits n 40 24⟩ })
    else
      let g := s.sec.tap.range
      if g.left == 0 then .next (s.tapOut (frzFrame 0 0 4))
      else
        let f := s.frzWord g.region g.unit g.next
        let s := s.when (g.region == 5) State.nextFree
        .next ((s.tapOut f).modTap fun t => { t with range := { g with next := g.next + 1, left := g.left - 1 } })

end Sys2Proof.Machine
end

