-- ==== Sys2Proof/Machine/HostLink.lean ====
section
/-! DEFINITION. The host's accesses: the BARs through the PCIe endpoint or the SPI target (R104, R111, R394, R528, R529,
R536 to R538, R555, R556). A command carries the bale words that the firmware's port writes in the same cycles. -/

namespace Sys2Proof.Machine

/-- A list of lanes cut into aligned dwords, from a byte address on: the dword's address and its four lanes. -/
def dwordsFrom {α : Type} (a : Nat) : List (Option α) → List (Nat × List (Option α))
  | x0 :: x1 :: x2 :: x3 :: xs => (a, [x0, x1, x2, x3]) :: dwordsFrom (a + 4) xs
  | [] => []
  | xs => [(a, (xs ++ [none, none, none]).take 4)]

/-- The aligned dwords that bytes at an address cover. -/
def dwords {α : Type} (address : Nat) (l : List (Option α)) : List (Nat × List (Option α)) :=
  dwordsFrom (address / 4 * 4) (List.replicate (address % 4) none ++ l)

/-- All four lanes of a dword are enabled. -/
def whole {α : Type} (l : List (Option α)) : Bool := l.all Option.isSome

/-- The word of enabled lanes over an old word. -/
def mergeLanes (old : Nat) (l : List (Option Byte)) : Nat := match l with
  | [] => 0
  | x :: xs => (x.getD (BitVec.ofNat 8 old)).toNat + 256 * mergeLanes (old / 256) xs

/-- The bytes of a word in the enabled lanes. -/
def takeLanes {α : Type} (v : Nat) : List (Option α) → List Byte
  | [] => []
  | x :: xs => (if x.isSome then [BitVec.ofNat 8 v] else []) ++ takeLanes (v / 256) xs

/-- The word that the firmware's port writes in the same cycle, if any. -/
def clashOf (w : Nat) : List (Nat × Word) → Option Word
  | [] => none
  | x :: xs => if x.1 == w then some x.2 else clashOf w xs

/-! ### BAR0 -/

/-- A host write of a bale word; one that meets a write of the firmware's port is discarded (R111). -/
def State.hostBaleWrite (s : State) (w : Nat) (lanes : List (Option Byte)) (clash : Option Word) : State := match clash with
  | some v => (s.baleWrite w v.toNat).baleClash w
  | none => s.baleWrite w (mergeLanes (s.baleRead w).data lanes)

/-- A host read of a bale word: the value held before a write of the firmware's port in the same cycle (R111, R112). -/
def State.hostBaleRead (s : State) (w : Nat) (clash : Option Word) : Nat × State :=
  let r := s.baleRead w
  let s := s.baleCount r
  (r.data, match clash with
    | some v => s.baleWrite w v.toNat
    | none => s)

/-- A write of a dword of the MSI-X table (R539). -/
def State.msixWrite (s : State) (off : Nat) (v : Nat) : State :=
  let set (x : MsixVec) : MsixVec :=
    if off % 16 == 0 then { x with addr := x.addr / 2 ^ 32 * 2 ^ 32 + v }
    else if off % 16 == 4 then { x with addr := x.addr % 2 ^ 32 + v * 2 ^ 32 }
    else if off % 16 == 8 then { x with data := v }
    else { x with masked := bit v 0 }
  (s.modHost fun h => { h with vecs := vmod set h.vecs (off / 16) }).flushVectors

/-- A read of a dword of the MSI-X table. -/
def State.msixRead (s : State) (off : Nat) : Nat :=
  let x := vget {} s.host.vecs (off / 16)
  if off % 16 == 0 then x.addr % 2 ^ 32 else if off % 16 == 4 then x.addr / 2 ^ 32
  else if off % 16 == 8 then x.data else b2n x.masked

/-- The first dword of the pending-bit array. -/
def State.pendingBits (s : State) : Nat :=
  (List.range 32).foldl (fun a i => a + b2n (vget {} s.host.vecs i).pend * 2 ^ i) 0

/-- A whole dword written below the bale window of BAR0 (R537). -/
def State.controlWrite (s : State) (off v : Nat) : State :=
  if 0xE000 ≤ off && off < 0xE200 then s.msixWrite (off - 0xE000) v
  else s.regWrite (0xF000000 + off) (BitVec.ofNat 32 v)

/-- A whole dword read below the bale window of BAR0 (R537, R541). -/
def State.controlRead (s : State) (off : Nat) : Nat × State :=
  if 0xE000 ≤ off && off < 0xE200 then (s.msixRead (off - 0xE000), s)
  else if off == 0xF000 then (s.pendingBits, s)
  else if 0x800 ≤ off && off < 0x1000 then (fieldAt (vget [] s.host.records ((off - 0x800) / 32)) (off % 32) 4, s)
  else s.regRead (0xF000000 + off)

/-- A dword of BAR0 written (R538). -/
def State.bar0Write (s : State) (off : Nat) (lanes : List (Option Byte)) (clash : List (Nat × Word)) : State :=
  if 0x10000 ≤ off then s.hostBaleWrite ((off - 0x10000) / 4) lanes (clashOf ((off - 0x10000) / 4) clash)
  else if whole lanes then s.controlWrite off (mergeLanes 0 lanes)
  else s

/-- A dword of BAR0 read (R538). -/
def State.bar0Read (s : State) (off : Nat) (full : Bool) (clash : List (Nat × Word)) : Nat × State :=
  if 0x10000 ≤ off then s.hostBaleRead ((off - 0x10000) / 4) (clashOf ((off - 0x10000) / 4) clash)
  else if full then s.controlRead off
  else (0xFFFFFFFF, s)

/-! ### BAR2 -/

/-- The address that FAB_VIOL_ADDR shows for an access of the host. -/
def hostAddr (bar off : Nat) : Nat := bar * 2 ^ 28 + off

/-- The host owns the UART or check-value unit at an offset of BAR2 (R46). -/
def State.hostOwns (s : State) (off : Nat) : Bool :=
  if off < 0x8000 then s.get (UART_OWNER.owner (off / 0x1000)) == 0x20
  else s.get (CVU_OWNER.owner ((off - 0x10000) / 0x400)) == 0x20

/-- The offset of BAR2 lies in a UART or a check-value unit. -/
def isUnit (off : Nat) : Bool := decide (off < 0x8000) || (decide (0x10000 ≤ off) && decide (off < 0x14000))

/-- The host page shows the local-time register at an offset (R394). -/
def State.pageShows (s : State) (o : Nat) : Bool :=
  decide (o ≤ 0x5C) || (decide (0x100 ≤ o) && decide (o < 0x1C0)) ||
    (decide (0xA00 ≤ o) && decide (o < 0xB00) && (o % 0x40 == 0x20 || o % 0x40 == 0x24 || decide (0x30 ≤ o % 0x40))) ||
    (decide (0x600 ≤ o) && decide (o < 0xA00) && s.is (CAP_CFG.host ((o - 0x600) / 0x40)) &&
      (o % 0x40 == 0x04 || (decide (0x10 ≤ o % 0x40) && decide (o % 0x40 < 0x20))))

/-- An access to a capture channel that the host page shows breaks its status-then-data sequence (R379). -/
def State.pageTouch (s : State) (o : Nat) : State :=
  if 0x600 ≤ o && o < 0xA00 && s.pageShows o then s.modLtu fun u => { u with capSq := vmod (fun _ => false) u.capSq ((o - 0x600) / 0x40) }
  else s

/-- A dword of BAR2 written (R46, R394, R538). One that is not whole is discarded before its unit is asked for its owner, and
counts as no refused access, nor does such a read: DEDUCED, log entry 66. -/
def State.bar2Write (s : State) (off : Nat) (lanes : List (Option Byte)) : State :=
  if !whole lanes then s
  else
    let v : Word := BitVec.ofNat 32 (mergeLanes 0 lanes)
    if isUnit off then
      if s.hostOwns off then s.regWrite (0xE000000 + off) v else s.refuse 0x20 (hostAddr 2 off)
    else
      let o := off - 0x20000
      if off < 0x20000 then s
      else if 0x600 ≤ o && o < 0xA00 && o % 0x40 == 0x04 && s.pageShows o then s.regWrite (0x8000000 + o) v
      else s.pageTouch o

/-- A dword of BAR2 read (R46, R394, R538). -/
def State.bar2Read (s : State) (off : Nat) (full : Bool) : Nat × State :=
  if !full then (0xFFFFFFFF, s)
  else if isUnit off then
    if s.hostOwns off then s.regRead (0xE000000 + off) else (0xFFFFFFFF, s.refuse 0x20 (hostAddr 2 off))
  else if 0x20000 ≤ off && off < 0x21000 && s.pageShows (off - 0x20000) then s.regRead (0x8000000 + (off - 0x20000))
  else (0, s)

/-! ### BAR4 -/

/-- The granary address of a slot of BAR4 (R88). -/
def slotAddr (off : Nat) : Nat := off / 0x100000 * bayWords + off % 0x100000 / 8

/-- A slot of BAR4 read: data, check bits as stored and status, or ones (R46, R104). -/
def State.slotRead (s : State) (off : Nat) : Nat × State :=
  match s.granGrant 0x20 (slotAddr off) false with
  | none => (2 ^ 64 - 1, s.refuse 0x20 (hostAddr 4 off))
  | some (bay, w) =>
    let raw := s.granRaw bay w
    let r := granLoad raw w
    let status := if r.syn.bad then 2 else if r.syn.corrected then 1 else 0
    (r.data + raw.toNat / 2 ^ 40 * 2 ^ 40 + status * 2 ^ 48, (s.granReadAt 0x20 bay w).2)

/-- A slot of BAR4 written whole. -/
def State.slotWrite (s : State) (off v : Nat) : State :=
  match s.granGrant 0x20 (slotAddr off) true with
  | none => s.refuse 0x20 (hostAddr 4 off)
  | some (bay, w) => s.granWriteAt bay w (v % 2 ^ 40)

/-- Half a slot of BAR4 written: a read-modify-write, discarded when its read is uncorrectable (R104). -/
def State.halfWrite (s : State) (off v : Nat) : State :=
  match s.granGrant 0x20 (slotAddr off) true with
  | none => s.refuse 0x20 (hostAddr 4 off)
  | some (bay, w) =>
    let r := s.granReadAt 0x20 bay w
    if r.1.error then r.2
    else if off % 8 == 0 then r.2.granWriteAt bay w (r.1.data / 2 ^ 32 * 2 ^ 32 + v)
    else r.2.granWriteAt bay w (r.1.data % 2 ^ 32 + v % 256 * 2 ^ 32)

/-- Dwords of BAR4 written: an aligned pair is a 64-bit write. A partial dword is discarded: DEDUCED, log entry 24. -/
def State.bar4Write (s : State) : List (Nat × List (Option Byte)) → State
  | (a, x) :: (b, y) :: rest =>
    if a % 8 == 0 && whole x && whole y then (s.slotWrite a (mergeLanes 0 x + mergeLanes 0 y * 2 ^ 32)).bar4Write rest
    else (if whole x then s.halfWrite a (mergeLanes 0 x) else s).bar4Write ((b, y) :: rest)
  | [(a, x)] => if whole x then s.halfWrite a (mergeLanes 0 x) else s
  | [] => s
  termination_by structural l => l

/-- Dwords of BAR4 read: an aligned pair is a 64-bit read, and a dword alone shows its half of the slot. -/
def State.bar4Read {α : Type} (s : State) : List (Nat × List (Option α)) → List Byte × State
  | (a, x) :: (b, y) :: rest =>
    if a % 8 == 0 && whole x && whole y then
      let r := s.slotRead a
      let q := r.2.bar4Read rest
      (le 8 r.1 ++ q.1, q.2)
    else
      let r := if whole x then s.slotRead (a / 8 * 8) else (2 ^ 64 - 1, s)
      let q := r.2.bar4Read ((b, y) :: rest)
      (takeLanes (r.1 / 2 ^ (8 * (a % 8))) x ++ q.1, q.2)
  | [(a, x)] =>
    let r := if whole x then s.slotRead (a / 8 * 8) else (2 ^ 64 - 1, s)
    (takeLanes (r.1 / 2 ^ (8 * (a % 8))) x, r.2)
  | [] => ([], s)
  termination_by structural l => l

/-! ### Requests -/

/-- The size of a BAR; the others are not claimed (R537). -/
def barSize (bar : Nat) : Nat := if bar == 0 then 0x20000 else if bar == 2 then 0x100000 else if bar == 4 then 0x4000000 else 0

/-- Bytes written in a BAR, dword by dword in ascending order (R538). -/
def State.barWrite (s : State) (bar address : Nat) (l : List (Option Byte)) (clash : List (Nat × Word)) : State :=
  let d := (dwords address l).filter fun x => decide (x.1 < barSize bar) && x.2.any Option.isSome
  if bar == 4 then s.bar4Write d
  else s.each d fun s x => if bar == 0 then s.bar0Write x.1 x.2 clash else s.bar2Write x.1 x.2

/-- Dwords of BAR0 or BAR2 read in ascending order. -/
def State.barReads (s : State) (bar : Nat) (clash : List (Nat × Word)) : List (Nat × List (Option Unit)) → List Byte × State
  | [] => ([], s)
  | (a, x) :: rest =>
    let r := if bar == 0 then s.bar0Read a (whole x) clash else s.bar2Read a (whole x)
    let q := r.2.barReads bar clash rest
    (takeLanes r.1 x ++ q.1, q.2)

/-- Bytes read in a BAR, dword by dword in ascending order (R538). -/
def State.barRead (s : State) (bar address length : Nat) (clash : List (Nat × Word)) : List Byte × State :=
  let d := (dwords address (List.replicate length (some ()))).filter fun x => decide (x.1 < barSize bar)
  if bar == 4 then s.bar4Read d else s.barReads bar clash d

/-- How a request completes. -/
def State.completes (s : State) (c : Completion) : State := s.modHost fun h => { h with completion := c }

/-- A dword of configuration space (R536): identity, the command register and class code; the rest is a free value (log
entry 3). -/
def State.cfgWord (s : State) (offset : Nat) : Nat × State :=
  if offset / 4 == 0 then (0x48401F3C, s)
  else if offset / 4 == 2 then (0x11800001, s)
  else if offset / 4 == 1 then
    (s.freeVal % 2 ^ 32 / 8 * 8 + 2 * b2n s.host.memEn + 4 * b2n s.host.busMaster, s.nextFree)
  else (s.freeVal % 2 ^ 32, s.nextFree)

/-- Entry to D3hot loses the link; the return to D0 brings it back (R554). -/
def State.setPower (s : State) (d3 : Bool) : State :=
  if d3 && s.host.linkUp then s.linkLoss 5
  else if !d3 && s.host.d3hot then s.modHost fun h => { h with d3hot := false, linkUp := true }
  else s

/-- A request of the host on a live link (R537, R538, R553). Without the memory-space enable the BARs are not claimed:
PRESUMED, log entry 25. -/
def State.hostRequest (s : State) (t : Tlp) (clash : List (Nat × Word)) : State := match t with
  | .memRead bar a n =>
    if !s.host.linkUp || !s.host.memEn then s.completes .abort
    else let r := s.barRead bar.val a n clash; r.2.completes (.data r.1)
  | .memWrite bar a l =>
    if !s.host.linkUp || !s.host.memEn then s.completes .posted else (s.barWrite bar.val a l clash).completes .posted
  | .cfgRead o =>
    if !s.is HL_STATUS.ready then s.completes .retry
    else let r := s.cfgWord o; r.2.completes (.data (le 4 r.1))
  | .cfgCommand m b =>
    if !s.is HL_STATUS.ready then s.completes .retry
    else ((s.modHost fun h => { h with memEn := m, busMaster := b }).flushVectors).completes (.data [])
  | .cfgMsix e m =>
    if !s.is HL_STATUS.ready then s.completes .retry
    else ((s.modHost fun h => { h with msixEn := e, funcMask := m }).flushVectors).completes (.data [])
  | .cfgPower d =>
    if !s.is HL_STATUS.ready then s.completes .retry else (s.setPower d).completes (.data [])

/-- How a request completes during a freeze (R528). -/
def frozenCompletion : Tlp → Completion
  | .memRead .. => .abort
  | .memWrite .. => .posted
  | _ => .retry

/-- HOST_TLP (R538): a request of the host at the PCIe endpoint; in D3hot only configuration requests are served. -/
def execHostTlp (tlp : Tlp) (clash : List (Nat × Word)) (s : State) : Result := whilePowered s fun s =>
  if s.host.spi || s.host.perst || !(s.host.linkUp || s.host.d3hot) then .next s
  else if s.frozen then .next (s.completes (frozenCompletion tlp))
  else .next (s.hostRequest tlp clash)

/-! ### The SPI target -/

/-- The check that ends a transaction's header or data (R556). -/
def spiCrc (l : List Byte) : List Byte := (checkWire 2 (checkOf 2 0 [] l)).map (BitVec.ofNat 8)

/-- A header's status before its data are looked at: count, operation, space and alignment (R556). -/
def spiStatus (h : List Byte) : Nat :=
  if byteAt h 6 + 256 * byteAt h 7 == 0 || 256 < byteAt h 6 + 256 * byteAt h 7 then 0x10
  else if !(byteAt h 0 == 1 || byteAt h 0 == 2) || !(byteAt h 1 == 0 || byteAt h 1 == 2 || byteAt h 1 == 4) ||
    byteAt h 2 % 4 != 0 then 0x11
  else 0

/-- A whole transaction (R556): the status, and for a read the data with their check. -/
def State.spiRun (s : State) (l : List Byte) (clash : List (Nat × Word)) : State :=
  let head := l.take 8
  let count := fieldAt head 6 2
  let body := if byteAt head 0 == 2 then 8 + 4 * count else 8
  let s := s.modHost fun h => { h with linkUp := true }
  let out (s : State) (b : List Byte) : State := s.modHost fun h => { h with spiOut := 0x5A :: b }
  if l.length < body + 2 then s.modHost fun h => { h with spiOut := [] }
  else if (l.drop body).take 2 != spiCrc (l.take body) then out s [0x40]
  else if spiStatus head != 0 then out s [BitVec.ofNat 8 (spiStatus head)]
  else if byteAt head 0 == 2 then
    out (s.barWrite (byteAt head 1) (fieldAt head 2 4) (((l.drop 8).take (4 * count)).map some) clash) [0x00]
  else
    let r := s.barRead (byteAt head 1) (fieldAt head 2 4) (4 * count) clash
    let data : List Byte := 0x00 :: r.1 ++ List.replicate (4 * count - r.1.length) 0x00
    out r.2 (data ++ spiCrc data)

/-- SPI_TRANSACTION (R529, R555, R556): the bytes that the host sent before SPI_CS_N rose; a transaction cut short is
discarded, and while the device is frozen the target answers busy. -/
def execSpiTransaction (mosi : List Byte) (clash : List (Nat × Word)) (s : State) : Result := whilePowered s fun s =>
  if !s.host.spi then .next s
  else if s.frozen then .next (s.modHost fun h => { h with spiOut := [0xFF] })
  else .next (s.spiRun mosi clash)

end Sys2Proof.Machine
end

