-- ==== Sys2Proof/Machine/Interconnect.lean ====
section
/-! DEFINITION. The crossbar (R21 to R27): classes and their demotion, arbitration at a target, and the access that each
granted word carries out. -/

namespace Sys2Proof.Machine

/-- One word of a request on its way: the initiator, the class it is carried with, the target, the word to write if any,
the address that a refusal reports, and the cycles after the request's presentation at which its port issues it. -/
structure FabWord where
  initiator : Nat
  cls       : Cls
  target    : FabTarget
  write     : Option Nat
  address   : Nat
  due       : Nat := 0
  deriving DecidableEq, Repr

/-! ### Classes -/

/-- The host's class-H addresses (R24, R27): the class-H rings and the class-H doorbell. -/
def hostClassH : FabTarget → Bool
  | .bale w => decide (0x100 ≤ w) && decide (w < 0x1100)
  | .register a => a == HL_DB 0
  | _ => false

/-- The class that the address gives a host access (R27). -/
def hostClass (t : FabTarget) : Cls :=
  if hostClassH t then .H else match t with
  | .bale _ => .A
  | .register a => if a / 0x1000000 == 0xF then .A else .B
  | _ => .B

/-- A register of a block. -/
def inBlock (block : Nat) : FabTarget → Bool
  | .register a => a / 0x1000000 == block
  | _ => false

/-- A target that the class-H use of a steward pair covers (R24): class-H state in the mirrored pair, the class-H mailbox, the
local time unit with the time servo, and the silo's port, whose path R32 counts among those of class H. -/
def pairClassH (t : FabTarget) : Bool := hostClassH t || inBlock 0x8 t || match t with
  | .granary a => match granAddr a with
    | .single bay _ => bay == 60 || bay == 61
    | _ => false
  | .silo => true
  | _ => false

/-- The initiator may issue class H to the target (R24). The session state and ranging marks of the access-radio baseband lie
in its own block, in its bays and in the local time unit, the timestamps of the MAC DMA in its block and there: DEDUCED, log
entry 68. -/
def State.entitled (s : State) (initiator : Nat) (t : FabTarget) : Bool :=
  let own := match t with
    | .granary a => match granAddr a with
      | .single bay _ => s.get (BAY_OWNER.owner_id bay) == initiator
      | _ => false
    | _ => false
  if initiator == 0x01 || initiator == 0x03 then pairClassH t
  else if initiator == 0x0B then inBlock 0x8 t || inBlock 0xA t || own
  else if initiator == 0x0C then inBlock 0x8 t || inBlock 0x9 t
  else initiator == 0x20 && hostClassH t

/-- The class that a request asks for (R27): a host access has the one of its address, and the audit asks for class C only. -/
def reqAsked (r : FabReq) : Cls :=
  if r.initiator == 0x0D then .C else if r.initiator == 0x20 && r.cls != .H then hostClass r.target else r.cls

/-- A class-H request carried as class A, and counted (R24, R26). -/
def State.demote (s : State) (initiator : Nat) : State :=
  ((s.bump FAB_H_DEMOTE.count).flag FAB_STATUS.demote_seen).put FAB_STATUS.last_demote_id initiator

/-- Words of a request. -/
def reqSize (r : FabReq) : Nat := if r.writes.isEmpty then r.reads else r.writes.length

/-- The class that the initiator's port gives a request (R24, R26), and the state after: a port issues one class-H word in
any 16 cycles, and splits a longer transfer under that rule (R25). The count runs from the last request carried as class H;
one that was carried as class A does not begin it again: DEDUCED, log entry 66. -/
def State.portClass (s : State) (r : FabReq) : Cls × State :=
  if reqAsked r != .H then (reqAsked r, s)
  else if !s.entitled r.initiator r.target then (.A, s.demote r.initiator)
  else
    let last := sparseGet (fun _ => 0) s.fab.hIssue r.initiator
    if last != 0 && s.fab.cycle < last - 1 + 16 then (.A, s.demote r.initiator)
    else (.H, s.modFab fun f => { f with hIssue := sparseSet (fun _ => 0) f.hIssue r.initiator (f.cycle + 16 * (reqSize r - 1) + 1) })

/-! ### Words -/

/-- The target i words on. -/
def targetNext (t : FabTarget) (i : Nat) : FabTarget := match t with
  | .granary a => .granary (a + i)
  | .bale w => .bale (w + i)
  | .register a => .register (a + 4 * i)
  | .silo => .silo

/-- The words of a request, in order; of class H one in any 16 cycles (R25). -/
def reqWords (r : FabReq) (c : Cls) : List FabWord :=
  (List.range (reqSize r)).map fun i =>
    ⟨r.initiator, c, targetNext r.target i, if r.writes.isEmpty then none else some (r.writes.getD i 0),
      r.address + i * (if r.initiator == 0x20 then 8 else 1), if c == .H then 16 * i else 0⟩

/-- The number of a target at the crossbar: a bay (the mirrored pair as BAY_60), the bale's ports, a register block, the
silo's request port. -/
def State.targetOf (s : State) (w : FabWord) : Nat := match w.target with
  | .granary a => s.bayTarget a
  | .bale _ => if w.initiator == 0x20 then 64 else 65
  | .register a => 0x100 + a / 0x1000000
  | .silo => 66

/-- A register that the initiator reaches: a UART or a check-value unit its owner; the host its control pages; a kernel
none (R46, R239). -/
def State.reaches (s : State) (initiator a : Nat) : Bool :=
  if 0xE000000 ≤ a && a < 0xE008000 then s.get (UART_OWNER.owner ((a - 0xE000000) / 0x1000)) == initiator
  else if 0xE010000 ≤ a && a < 0xE014000 then s.get (CVU_OWNER.owner ((a - 0xE010000) / 0x400)) == initiator
  else if initiator == 0x20 then a / 0x1000000 == 0xF
  else !(decide (0x1C ≤ initiator) && decide (initiator ≤ 0x1F)) && decide (a < 0x10000000)

/-- A refused access of a kernel raises its access fault (R46). -/
def State.kernelRefused (s : State) (initiator address : Nat) : State :=
  if 0x1C ≤ initiator && initiator ≤ 0x1F && (s.core (initiator - 0x10)).running then
    s.raiseNow (initiator - 0x10) 3 (s.core (initiator - 0x10)).pc address
  else s

/-- The bale serves the host, and of the pairs the one with the duties of the control pair (R39, R110). -/
def State.servesBale (s : State) (initiator : Nat) : Bool :=
  initiator == 0x20 || initiator == (if s.stw.controlOn == 0 then 0x01 else 0x03)

/-- The access that a granted word carries out: data, error, refused, and the state after. A word of the bale for an initiator
that it does not serve, and a register out of reach, is discarded and reads as ones: DEDUCED, log entry 26. -/
def State.fabAccess (s : State) (w : FabWord) : Nat × Bool × Bool × State := match w.target, w.write with
  | .granary a, x =>
    let r := s.granAccess w.initiator a w.address x
    (r.1, r.2.1, r.2.2.1, if r.2.2.1 then r.2.2.2.kernelRefused w.initiator w.address else r.2.2.2)
  | .bale i, x =>
    if !s.servesBale w.initiator || 16384 ≤ i then (0xFFFFFFFF, false, true, s)
    else match x with
      | some v => (0, false, false, s.baleWrite i v)
      | none => let r := s.baleRead i; (r.data, r.syn.bad, false, s.baleCount r)
  | .register a, x =>
    if s.reaches w.initiator a then match x with
      | some v => (0, false, false, s.regWrite a (BitVec.ofNat 32 v))
      | none => let r := s.regRead a; (r.1, false, false, r.2)
    else if 0xE000000 ≤ a && a < 0xE014000 then
      (0xFFFFFFFF, false, true, (s.refuse w.initiator w.address).kernelRefused w.initiator w.address)
    else (0xFFFFFFFF, false, true, s)
  | .silo, some _ => (0, false, false, s)
  | .silo, none => (Config.siloRead s.free, false, false, s.nextFree)

/-- The port of an initiator is answered. -/
def State.fabAnswer (s : State) (w : FabWord) (data : Nat) (error refused : Bool) : State :=
  s.modFab fun f => { f with resp := f.resp ++ [⟨w.initiator, w.cls, w.address, data, error, refused⟩] }

/-- A granted word is carried out, and its port answered. A host write of a bale word that meets a write of the other port in
the same cycle is discarded (R111). -/
def State.fabServe (s : State) (w : FabWord) (clash : Bool) : State :=
  if clash then (s.baleClash (match w.target with
    | .bale i => i
    | _ => 0)).fabAnswer w 0 false false
  else
    let r := s.fabAccess w
    r.2.2.2.fabAnswer w r.1 r.2.1 r.2.2.1

/-! ### Arbitration -/

/-- Of the waiting words of a class, the first of the initiator that follows the last one granted, in ascending rotation
(R22, R23). -/
def nextWord (last : Nat) (c : Cls) (ws : List FabWord) : Option FabWord :=
  (ws.filter fun w => w.cls == c).foldl (fun best w => match best with
    | none => some w
    | some b => if (w.initiator + 127 - last) % 64 < (b.initiator + 127 - last) % 64 then some w else some b) none

/-- The classes of A, B and C with a word waiting and turns left. -/
def FabArb.ready (a : FabArb) (ws : List FabWord) : List Cls :=
  [Cls.A, Cls.B, Cls.C].filter fun c => (ws.any fun w => w.cls == c) && a.left c != 0

/-- The word granted next at a target, and the arbitration state after. Within a round, class A goes before B and B
before C: DESIGN CHOICE, log entry 27. -/
def State.grant (s : State) (a : FabArb) (ws : List FabWord) : Option (FabWord × FabArb) :=
  match nextWord a.lastH .H ws with
  | some w => some (w, a.took w.initiator .H)
  | none =>
    let a := if (a.ready ws).isEmpty then s.refill a else a
    match a.ready ws with
    | [] => none
    | c :: _ => (nextWord (a.last c) c ws).map fun w => (w, a.took w.initiator c)

/-- The cycle at which the first of some words has been issued. -/
def firstDue : List FabWord → Nat
  | [] => 0
  | [w] => w.due
  | w :: ws => min w.due (firstDue ws)

/-- The words that wait at a target in the order of their grants, one per cycle, with their cycles from the presentation on,
and the arbitration state after; at most as many as the number given. -/
def State.arbitrate (s : State) : Nat → FabArb → Nat → List FabWord → List (Nat × FabWord) × FabArb
  | 0, a, _, _ => ([], a)
  | n + 1, a, cycle, ws =>
    let cycle := max cycle (firstDue ws)
    match s.grant a (ws.filter fun w => decide (w.due ≤ cycle)) with
    | none => ([], a)
    | some (w, a) =>
      let r := s.arbitrate n a (cycle + 1) (ws.erase w)
      ((cycle, w) :: r.1, r.2)

/-- Where a granted word stands among those of all targets: by its cycle, and in one cycle the words that write the bale
last, so that a read there returns the value held before (R111). -/
def grantKey (x : Nat × FabWord) : Nat := 2 * x.1 + b2n (match x.2.target with
  | .bale _ => x.2.write.isSome
  | _ => false)

/-- A granted word put in its place. -/
def insertGrant (x : Nat × FabWord) : List (Nat × FabWord) → List (Nat × FabWord)
  | [] => [x]
  | y :: ys => if grantKey x < grantKey y then x :: y :: ys else y :: insertGrant x ys

/-- A host write of a bale word and a write of the same word by the other port are granted in one cycle (R111). -/
def baleMeets (x : Nat × FabWord) (all : List (Nat × FabWord)) : Bool := match x.2.target with
  | .bale _ => x.2.initiator == 0x20 && x.2.write.isSome &&
    all.any fun y => y.1 == x.1 && y.2.initiator != 0x20 && y.2.write.isSome && y.2.target == x.2.target
  | _ => false

/-- Words presented together: each target arbitrates its own, and the granted words are carried out in the order of their
grants. -/
def State.present1 (s : State) (ws : List FabWord) : State :=
  let placed := ws.map fun w => (s.targetOf w, w)
  let r := (placed.map Prod.fst).eraseDups.foldl (fun (r : List (Nat × FabWord) × State) t =>
    let mine := (placed.filter fun x => x.1 == t).map Prod.snd
    let g := s.arbitrate mine.length (sparseGet arbDefault s.fab.arb t) 0 mine
    (g.1.foldl (fun l x => insertGrant x l) r.1, r.2.modFab fun f => { f with arb := sparseSet arbDefault f.arb t g.2 })) ([], s)
  let served := r.1.filter fun x => s.servesBale x.2.initiator
  r.2.each r.1 fun s x => s.fabServe x.2 (baleMeets x served)

/-- A request for the granary. -/
def toGranary (r : FabReq) : Bool := match r.target with
  | .granary _ => true
  | _ => false

/-- Only the initiators have ports (R21, R90), and the port of a held pair is closed (R39). -/
def State.portOpen (s : State) (initiator : Nat) : Bool :=
  if !isInitiator initiator then false
  else if initiator == 0x01 then s.stw.pair0 == .running else if initiator == 0x03 then s.stw.pair1 == .running else true

/-- Requests carried to their targets; before the end of the granary's initialisation those for it wait (R89). -/
def State.fabPresent (s : State) (reqs : List FabReq) : State :=
  let reqs := reqs.filter fun r => s.portOpen r.initiator
  let wait := !s.is GRAN_STATUS.init_done
  let s := if wait then s.modFab fun f => { f with waiting := f.waiting ++ reqs.filter toGranary } else s
  let now := if wait then reqs.filter fun r => !toGranary r else reqs
  let p := now.foldl (fun (p : List FabWord × State) r => let c := p.2.portClass r; (p.1 ++ reqWords r c.1, c.2)) ([], s)
  p.2.present1 p.1

/-- INTERCONNECT_REQUEST (R22 to R27, R46): requests presented together, with the cycles elapsed since the last command. -/
def execInterconnectRequest (elapsed : Nat) (reqs : List FabReq) (s : State) : Result := whileLive s fun s =>
  .next ((s.modFab fun f => { f with cycle := f.cycle + elapsed, resp := [] }).fabPresent reqs)

/-- GRANARY_INIT_DONE (R89): the requests that waited at the crossbar go on. -/
def execGranaryInitDone (s : State) : Result := whileLive s fun s =>
  if s.is GRAN_STATUS.init_done then .next s
  else
    let reqs := s.fab.waiting
    .next (((s.flag GRAN_STATUS.init_done).modFab fun f => { f with waiting := [], resp := [] }).fabPresent reqs)

end Sys2Proof.Machine
end

