-- ==== Sys2Proof/Machine/Pins.lean ====
section
/-! DEFINITION. The levels at the output pins, as functions of the state (R373, R381 to R384, R416, R438, R450, R452, R458, R461,
R463 to R466, R480, R483, R520, R557, R584, R586). Where the spec only bounds when a pin follows the state, it follows at once
(log entry 76). -/

namespace Sys2Proof.Machine

/-- What an output pin is driven to. -/
inductive Level where
  | low
  | high
  | highZ
  deriving DecidableEq, Repr

def Level.ofBool (b : Bool) : Level := if b then .high else .low

/-- An output of the VIO18 bank: high impedance while the bank is unpowered or under HIGHZ, low in reset (R483, R522, R584). -/
def State.vioPin (s : State) (level : Bool) : Level :=
  if !s.pwr.powered || s.sec.tap.ir == 0x05 then .highZ else if s.pwr.inReset then .low else Level.ofBool level

def State.uwbBandSelPin (s : State) : Level := s.vioPin s.uwbBandSel
def State.uwbTrswPin (s : State) : Level := s.vioPin s.uwb.trsw
def State.coexReqPin (s : State) : Level := s.vioPin s.uwb.coexReq
def State.coexPriPin (s : State) : Level := s.vioPin s.uwb.coexPri
def State.trigOutPin (s : State) (p : Fin 4) : Level := s.vioPin s.ltu.pin[p]

/-- HOST_IRQ_N is an open-drain output, asserted low (R557, R584). -/
def State.hostIrqPin (s : State) : Level :=
  if !s.pwr.powered || s.pwr.inReset || s.sec.tap.ir == 0x05 then .highZ else if s.hostIrq then .low else .highZ

/-- A time pulse is at its active level during its high time; the pin is low in reset and while the main domain is off
(R384, R584, R586). -/
def State.tpPin (s : State) (k : Fin 4) : Level :=
  if !s.pwr.aon then .highZ
  else if !s.pwr.powered || s.pwr.inReset then .low
  else if s.sec.tap.ir == 0x05 then .highZ
  else Level.ofBool ((s.pulse k).high != s.is (TP_CFG.active_low k))

/-- PWR_EN while the VSYS bank is powered (R480, R586). -/
def State.pwrEnPin (s : State) : Level := Level.ofBool s.pwr.powered

/-- SEAL_OUT (R520). -/
def State.sealOutPin (s : State) : Level := if s.pwr.aon then Level.ofBool s.sec.sealOut else .highZ

/-- ANT_BIAS is connected to ANT_VSUP; a short opens the switch until the retry (R130, R584). -/
def State.antBias (s : State) : Bool := s.pwr.powered && !s.pwr.inReset && s.biasOn && !s.fe.shortOpen

/-! ### UART pins -/

/-- The levels of a character on UART_n_TX after its start bit (R452, R464). -/
def State.charLevels (s : State) (n b : Nat) : List Bool :=
  let (nd, np, ns) := s.charShape n
  let inverse := s.cardMode n && s.is (UART_CARD.conv n)
  let ones := popCount nd b
  let odd := !s.cardMode n && s.get (UART_CTRL.parity n) == 2
  let data := (List.range nd).map fun i => bit (if inverse then inverseByte b else b) i
  data ++ (if np == 0 then [] else [((ones % 2 == 1) != odd) != inverse]) ++ List.replicate ns true

/-- The line as the transmitter drives it: a character, a break, the error signal of card mode, or idle (R450, R452, R461,
R466). -/
def State.txLine (s : State) (n : Nat) : Bool :=
  let u := s.uart n
  let bit := max 1 (s.bitTime u.divTx)
  let past (t : Option Time) : Option Time := match t with
    | some t => if t ≤ s.ltu.now then some (s.ltu.now - t) else none
    | none => none
  if !s.perClock n then true
  else if u.brk then match past u.txAt with
    | some t => decide (s.get (UART_BRK_TX.len n) * bit ≤ 16 * t)
    | none => true
  else match u.shift, past u.txAt with
    | some b, some t => if t < bit then false else (s.charLevels n b).getD (t / bit - 1) true
    | _, _ => match past u.rxAt with
      | some t => !(s.cardMode n && u.rxBad != 0 && decide (21 * bit ≤ 2 * t) && decide (2 * t < 23 * bit))
      | none => true

/-- An output of the VSYS bank: high impedance while the main domain is in reset or off (R584, R586). -/
def State.vsysPin (s : State) (level : Bool) : Level :=
  if !s.pwr.powered || s.pwr.inReset || s.sec.tap.ir == 0x05 then .highZ else Level.ofBool level

/-- UART_n_TX: open-drain in card mode (R463, R584). -/
def State.uartTxPin (s : State) (n : Fin 8) : Level :=
  if s.cardMode n && s.txLine n then .highZ else s.vsysPin (s.txLine n)

/-- UART_n_RTS_N is low while RTS is asserted (R458). -/
def State.uartRtsPin (s : State) (n : Fin 8) : Level := s.vsysPin (!s.is (UART_STATUS.rts n))

/-- UART_n_RST follows UART_CARD.rst, and is low in reset (R463, R584). -/
def State.uartRstPin (s : State) (n : Fin 4) : Level :=
  if !s.pwr.powered || s.sec.tap.ir == 0x05 then .highZ
  else if s.pwr.inReset then .low else Level.ofBool (s.is (UART_CARD.rst n))

/-- The divisor of 112.5 MHz at which UART_n_CK runs; none while it is stopped low (R450, R463). -/
def State.uartCkDiv (s : State) (n : Fin 4) : Option Nat :=
  if s.pwr.powered && !s.pwr.inReset && s.perClock n && s.cardMode n && s.is (UART_CARD.ck_en n) then
    some (s.get (UART_CARD.ck_div n)) else none

end Sys2Proof.Machine
end

