-- ==== Sys2Proof/Machine/SerialTimes.lean ====
section
/-! DEFINITION. Commands of the UARTs and the check-value units that come at an instant, to which they bring the clock (R452,
R461, R466, R469, R470, R475). -/

namespace Sys2Proof.Machine

/-- UART_TX_CHAR (R452, R458, R461, R466): at the end of the character in the shifter. `low` is the card's error signal or a
readback mismatch, and `cts` the level that CTS_N is sampled at. -/
def execUartTxChar (uart : Fin 8) (cts low : Bool) (s : State) : Result := whileLive s fun s =>
  let n := uart.val
  let s := s.when ((s.uart n).shift.isSome && s.perClock n) (fun s => s.advanceTo (s.txStop n))
  if s.perClock n then .next (s.txChar n cts low) else .next s

/-- UART_BREAK_DONE (R461): the break and its delimiter have been sent, len and del ticks after its start. -/
def execUartBreakDone (uart : Fin 8) (s : State) : Result := whileLive s fun s =>
  let n := uart.val
  let u := s.uart n
  if !u.brk || !s.perClock n then .next s
  else
    let ticks := s.get (UART_BRK_TX.len n) + s.get (UART_BRK_TX.del n)
    let s := s.advanceTo (u.txAt.getD s.ltu.now + s.bitTime (ticks * u.divTx) / 16)
    .next (((s.put (UART_BRK_TX.busy n) 0).modUart n fun u => { u with brk := false }).showUart n)

/-- LIN_RESPONSE_START (R469): resp_space bit times after the identifier, a publisher's data and checksum, or the end with TX
underrun. -/
def execLinResponseStart (uart : Fin 8) (s : State) : Result := whileLive s fun s => match (s.uart uart).lin with
  | some f =>
    if f.phase != .publish || !f.bytes.isEmpty then .next s
    else
      let s := s.advanceTo (f.pidAt + s.bitTime (s.get (UART_LIN_CFG.resp_space uart) * f.div))
      let u := s.uart uart
      if u.tx.length < f.len then .next (s.linEnd uart 7)
      else
        let data := u.tx.take f.len
        .next ((s.modUart uart fun u => { u with
          tx := u.tx.drop f.len, lin := some { f with bytes := data }, ahead := data ++ [linSum f.pid f.enh data] }).showUart uart)
  | none => .next s

/-- LIN_TIMEOUT (R470): 1.4 × (34 + 10 × (len + 1)) bit times after the break began. -/
def execLinTimeout (uart : Fin 8) (s : State) : Result := whileLive s fun s => match (s.uart uart).lin with
  | some f =>
    let s := s.advanceTo (f.began + s.bitTime (14 * (34 + 10 * (f.len + 1)) * f.div) / 10)
    .next (s.linEnd uart (if f.phase == .subscribe && f.bytes.isEmpty then 5 else 6))
  | none => .next s

/-- CVU_DONE (R475): 4 CK_PER cycles after the last byte, the check of an unbound unit's frame is in CVU_RESULT. -/
def execCvuDone (unit : Fin 16) (s : State) : Result := whileLive s fun s =>
  if !(s.cvu unit).ready || !s.locked then .next s
  else
    let s := s.advanceTo ((s.cvu unit).readyAt + 16 * s.ltu.inc)
    let u := s.cvu unit
    let v := s.cvuCheck unit
    .next ((s.put (CVU_RESULT.value unit) v).cvuEnd unit (u.mode != 2 || u.check == checkWire u.sel v))

end Sys2Proof.Machine
end

