-- ==== Sys2Proof/Machine/System.lean ====
section
/-! DEFINITION. The system messages (R565 to R567) and the diagnostics messages (R578, R579) that no other file holds. -/

namespace Sys2Proof.Machine

/-! ### System, group 0x01 -/

/-- PING (R565): the value and the time of receipt. -/
def execPing (r : Req) (p : List Byte) (s : State) : Result :=
  .next (s.serve ⟨.H, 0x0101, 0⟩ r p [isLength p 4] fun q s => s.answer q (ansOk (p ++ timeBytes s.ltu.now)))

/-- What GET_INFO answers (R565). -/
def State.infoBytes (s : State) : List Byte :=
  le 2 (s.get HL_ID.part) ++ le 1 (s.get HL_ID.revision) ++ le 1 (s.get HL_ID.layout) ++ le 1 (s.get HL_FW_VER.major) ++
    le 1 (s.get HL_FW_VER.minor) ++ le 1 (s.get HL_FW_VER.patch) ++ le 1 s.fw.slot ++ deviceIdBytes ++ le 1 s.mode ++
    le 1 s.lifecycle ++ le 2 (s.get STW_STATUS.single_pair + 2 * s.get PWR_CFG.auto_promote + 4 * s.get SEC_SEAL_STATUS.broken)

/-- GET_INFO (R565). -/
def execGetInfo (r : Req) (p : List Byte) (s : State) : Result :=
  .next (s.serve ⟨.A, 0x0102, 0⟩ r p [isLength p 0] fun q s => s.answer q (ansOk s.infoBytes))

def State.modFw (s : State) (f : FwState → FwState) : State := { s with fw := f s.fw }

/-- FW_CHUNK (R564, R565, R567): a chunk of an image of at most 1 MiB. -/
def execFwChunk (r : Req) (p : List Byte) (s : State) : Result :=
  .next (s.serve ⟨.C, 0x0106, 0⟩ r p [hasLength p 5, if p.length ≤ 1004 then none else some (ansLength 0)] fun q s =>
    if s.lifecycle == 4 then s.answer q (s.ansState blkLifecycle)
    else if fieldAt p 0 4 != s.fw.stage.length then
      (s.modFw fun f => { f with stage := [] }).answer q (ansSequence s.fw.stage.length)
    else if 0x100000 < s.fw.stage.length + (p.length - 4) then (s.modFw fun f => { f with stage := [] }).answer q (ansLength 0)
    else (s.modFw fun f => { f with stage := f.stage ++ p.drop 4 }).answer q (ansOk []))

/-- FW_COMMIT (R565, R567): the staged image goes to its verification; a length that is not the image's is CHECK_ERROR. -/
def execFwCommit (r : Req) (p : List Byte) (s : State) : Result :=
  .next (s.serve ⟨.C, 0x0107, 0⟩ r p [isLength p 4] fun q s =>
    if s.lifecycle == 4 then s.answer q (s.ansState blkLifecycle)
    else if s.fw.commit.isSome then s.answer q ansBusy
    else if fieldAt p 0 4 != s.fw.stage.length then (s.modFw fun f => { f with stage := [] }).answer q ansCheck
    else (s.accept q).modFw fun f => { f with stage := [], commit := some (f.stage, q) })

/-- FW_COMMIT_DONE (R567): the image is verified, checked against the minimum version, and written over the slot that does
not run; it runs from the next main-domain reset. -/
def execFwCommitDone (written : Bool) (s : State) : Result := whileLive s fun s => match s.fw.commit with
  | none => .next s
  | some (image, q) =>
    let s := s.modFw fun f => { f with commit := none }
    let v := (Config.fwVersion (some image)).toNat
    if !Config.fwVerifies image then .next (s.answer q ansCheck)
    else if v < Config.fwMinimum then .next (s.answer q (s.ansState blkRollback))
    else if !written then .next (s.answer q (ansFault 3))
    else .next ((s.modFw fun f => { f with
      slots := vmod (fun _ => some image) f.slots (1 - f.slot), next := 1 - f.slot }).answer q (ansOk (le 4 v)))

/-! ### Diagnostics, group 0x09 -/

/-- REG_READ (R578): words of a register block, without the effect that a read may have. -/
def execRegRead (r : Req) (p : List Byte) (s : State) : Result :=
  let b := byteAt p 0
  let off := fieldAt p 2 2
  let n := fieldAt p 4 2
  .next (s.serve ⟨.C, 0x0901, 0⟩ r p
    [isLength p 8, okArg 0 (decide (1 ≤ b) && decide (b ≤ 0x0C)), isZero p 1 1,
      okArg 2 (off % 4 == 0 && decide (off < blockEnd b)),
      okArg 4 (decide (1 ≤ n) && decide (n ≤ 128) && decide (off + 4 * n ≤ blockEnd b)), isZero p 6 2] fun q s =>
    s.answer q (ansOk ((List.range n).flatMap fun i => le 4 (s.peek (b * 0x1000000 + off + 4 * i)))))

/-- COUNTERS (R579). -/
def execCounters (r : Req) (p : List Byte) (s : State) : Result :=
  .next (s.serve ⟨.C, 0x0904, 0⟩ r p [isLength p 0] fun q s =>
    s.answer q (ansOk (s.host.counters.toList.flatMap (le 4))))

/-- An entry of the event log in the layout of R541. An event off vector 0 has no number, and one with more than 8 bytes of
payload no data field of its own: log entry 5. -/
def logBytes (i : Nat) (e : LogEntry) : List Byte :=
  recordBytes e.event.code (e.number.getD (Config.logNumber i)) e.time
    (if e.event.data.length ≤ 8 then e.event.data else le 8 (Config.logData e.event.data))

/-- The entries of the log, the first numbered i. -/
def logFrom : Nat → List LogEntry → List Byte
  | _, [] => []
  | i, e :: l => logBytes i e ++ logFrom (i + 1) l

/-- EVENT_LOG (R578): the last 256 events, oldest first. -/
def execEventLog (r : Req) (p : List Byte) (s : State) : Result :=
  .next (s.serve ⟨.C, 0x0905, 0⟩ r p [isLength p 0] fun q s => s.chunks q (logFrom 0 s.host.log))

/-- COUNTERS_CLEAR (R579). -/
def execCountersClear (r : Req) (p : List Byte) (s : State) : Result :=
  .next (s.serve ⟨.A, 0x0906, 0⟩ r p [isLength p 0] fun q s =>
    (s.modHost fun h => { h with counters := Vector.replicate 16 0 }).answer q (ansOk []))

end Sys2Proof.Machine
end

