-- ==== Sys2Proof/Machine/Dispatch.lean ====
section
/-! DEFINITION. One arm for each command: a direct call of its meaning. -/

namespace Sys2Proof.Machine

def exec (i : Instr) (s : State) : Host.Outcome State Fault Refusal :=
  match i with
  | .interconnectRequest elapsed reqs => Sys2Proof.Machine.execInterconnectRequest elapsed reqs s
  | .clearCount => Sys2Proof.Machine.execClearCount s
  | .ceRewrite bay word => Sys2Proof.Machine.execCeRewrite bay word s
  | .mirrorRepair word => Sys2Proof.Machine.execMirrorRepair word s
  | .lockstepMismatch pair memory => Sys2Proof.Machine.execLockstepMismatch pair memory s
  | .heartbeatLost pair => Sys2Proof.Machine.execHeartbeatLost pair s
  | .deferredReturn bay => Sys2Proof.Machine.execDeferredReturn bay s
  | .dcoCalDone => Sys2Proof.Machine.execDcoCalDone s
  | .freqAcquired demand => Sys2Proof.Machine.execFreqAcquired demand s
  | .lockWindowEnd count safe ticks demand => Sys2Proof.Machine.execLockWindowEnd count safe ticks demand s
  | .phaseAligned => Sys2Proof.Machine.execPhaseAligned s
  | .gatesOpen => Sys2Proof.Machine.execGatesOpen s
  | .relock ticks => Sys2Proof.Machine.execRelock ticks s
  | .refMissing => Sys2Proof.Machine.execRefMissing s
  | .coastExpiry ticks => Sys2Proof.Machine.execCoastExpiry ticks s
  | .refReturn error ticks demand => Sys2Proof.Machine.execRefReturn error ticks demand s
  | .phaseWalk error remaining demand ticks => Sys2Proof.Machine.execPhaseWalk error remaining demand ticks s
  | .walkDone => Sys2Proof.Machine.execWalkDone s
  | .refJump error remaining ticks => Sys2Proof.Machine.execRefJump error remaining ticks s
  | .syncInEdge edge => Sys2Proof.Machine.execSyncInEdge edge s
  | .syncWaitExpiry => Sys2Proof.Machine.execSyncWaitExpiry s
  | .laneSyncCmd edge => Sys2Proof.Machine.execLaneSyncCmd edge s
  | .syncLanded => Sys2Proof.Machine.execSyncLanded s
  | .clkbEnable => Sys2Proof.Machine.execClkbEnable s
  | .clkbChannelWrite channel => Sys2Proof.Machine.execClkbChannelWrite channel s
  | .bFreqAcquired demand => Sys2Proof.Machine.execBFreqAcquired demand s
  | .bLockWindowEnd count demand => Sys2Proof.Machine.execBLockWindowEnd count demand s
  | .granaryInitDone => Sys2Proof.Machine.execGranaryInitDone s
  | .bayGo bay => Sys2Proof.Machine.execBayGo bay s
  | .handoverStart bay => Sys2Proof.Machine.execHandoverStart bay s
  | .handoverDone bay => Sys2Proof.Machine.execHandoverDone bay s
  | .lendableClear bay => Sys2Proof.Machine.execLendableClear bay s
  | .groupEnable group => Sys2Proof.Machine.execGroupEnable group s
  | .groupMembersWrite group value => Sys2Proof.Machine.execGroupMembersWrite group value s
  | .groupDisable group => Sys2Proof.Machine.execGroupDisable group s
  | .groupLeave group => Sys2Proof.Machine.execGroupLeave group s
  | .auditSegmentStart => Sys2Proof.Machine.execAuditSegmentStart s
  | .auditCopyDone => Sys2Proof.Machine.execAuditCopyDone s
  | .auditTestDone faulty => Sys2Proof.Machine.execAuditTestDone faulty s
  | .auditWritebackDone => Sys2Proof.Machine.execAuditWritebackDone s
  | .auditDisable => Sys2Proof.Machine.execAuditDisable s
  | .clearCounts => Sys2Proof.Machine.execClearCounts s
  | .baleCollClear => Sys2Proof.Machine.execBaleCollClear s
  | .gnssEnable => Sys2Proof.Machine.execGnssEnable s
  | .fgCalStart => Sys2Proof.Machine.execFgCalStart s
  | .fgCalDone => Sys2Proof.Machine.execFgCalDone s
  | .sampleRelease => Sys2Proof.Machine.execSampleRelease s
  | .gnssDisable => Sys2Proof.Machine.execGnssDisable s
  | .agcWindowEnd => Sys2Proof.Machine.execAgcWindowEnd s
  | .blankAssert cycle => Sys2Proof.Machine.execBlankAssert cycle s
  | .blankDeassert cycle => Sys2Proof.Machine.execBlankDeassert cycle s
  | .blankPostEnd => Sys2Proof.Machine.execBlankPostEnd s
  | .blankStuck => Sys2Proof.Machine.execBlankStuck s
  | .antMeasure current => Sys2Proof.Machine.execAntMeasure current s
  | .antRetry => Sys2Proof.Machine.execAntRetry s
  | .bgCalUpdate => Sys2Proof.Machine.execBgCalUpdate s
  | .laneEnable lane => Sys2Proof.Machine.execLaneEnable lane s
  | .laneRestart lane => Sys2Proof.Machine.execLaneRestart lane s
  | .laneStart lane => Sys2Proof.Machine.execLaneStart lane s
  | .laneDisable lane => Sys2Proof.Machine.execLaneDisable lane s
  | .ncoFreqWrite lane inc => Sys2Proof.Machine.execNcoFreqWrite lane inc s
  | .filterRequest lane sel fadeLen => Sys2Proof.Machine.execFilterRequest lane sel fadeLen s
  | .fadeStart lane => Sys2Proof.Machine.execFadeStart lane s
  | .fadeEnd lane => Sys2Proof.Machine.execFadeEnd lane s
  | .bankWrite lane bank target value => Sys2Proof.Machine.execBankWrite lane bank target value s
  | .notchDetect lane => Sys2Proof.Machine.execNotchDetect lane s
  | .notchEngage lane notch => Sys2Proof.Machine.execNotchEngage lane notch s
  | .notchRelease lane notch => Sys2Proof.Machine.execNotchRelease lane notch s
  | .notchFreqWrite lane notch freq => Sys2Proof.Machine.execNotchFreqWrite lane notch freq s
  | .passLatch => Sys2Proof.Machine.execPassLatch s
  | .passAbort => Sys2Proof.Machine.execPassAbort s
  | .thrDisable => Sys2Proof.Machine.execThrDisable s
  | .freeA => Sys2Proof.Machine.execFreeA s
  | .freeB => Sys2Proof.Machine.execFreeB s
  | .roundStart => Sys2Proof.Machine.execRoundStart s
  | .blockEnd => Sys2Proof.Machine.execBlockEnd s
  | .roundDone => Sys2Proof.Machine.execRoundDone s
  | .peakSearchDone => Sys2Proof.Machine.execPeakSearchDone s
  | .channelStart channel => Sys2Proof.Machine.execChannelStart channel s
  | .channelRun channel => Sys2Proof.Machine.execChannelRun channel s
  | .channelStop channel => Sys2Proof.Machine.execChannelStop channel s
  | .sweepEnd channel => Sys2Proof.Machine.execSweepEnd channel s
  | .loopUpdate => Sys2Proof.Machine.execLoopUpdate s
  | .loopUpdateApply channel => Sys2Proof.Machine.execLoopUpdateApply channel s
  | .codeRamWrite sheaf word value => Sys2Proof.Machine.execCodeRamWrite sheaf word value s
  | .sheafDisable => Sys2Proof.Machine.execSheafDisable s
  | .lostTimeout channel => Sys2Proof.Machine.execLostTimeout channel s
  | .nop core => Sys2Proof.Machine.execNop core s
  | .br core cc target => Sys2Proof.Machine.execBr core cc target s
  | .call core cc target => Sys2Proof.Machine.execCall core cc target s
  | .ret core cc => Sys2Proof.Machine.execRet core cc s
  | .reti core => Sys2Proof.Machine.execReti core s
  | .brr core cc k => Sys2Proof.Machine.execBrr core cc k s
  | .loop core n last => Sys2Proof.Machine.execLoop core n last s
  | .loopr core src last => Sys2Proof.Machine.execLoopr core src last s
  | .rpt core n1 => Sys2Proof.Machine.execRpt core n1 s
  | .rptr core src => Sys2Proof.Machine.execRptr core src s
  | .rot core => Sys2Proof.Machine.execRot core s
  | .halt core => Sys2Proof.Machine.execHalt core s
  | .mv core mv => Sys2Proof.Machine.execMv core mv s
  | .mov core dst src mv => Sys2Proof.Machine.execMov core dst src mv s
  | .ldi core dst imm => Sys2Proof.Machine.execLdi core dst imm s
  | .add core dd ds dt mv => Sys2Proof.Machine.execAdd core dd ds dt mv s
  | .sub core dd ds dt mv => Sys2Proof.Machine.execSub core dd ds dt mv s
  | .adds core dd ds dt mv => Sys2Proof.Machine.execAdds core dd ds dt mv s
  | .subs core dd ds dt mv => Sys2Proof.Machine.execSubs core dd ds dt mv s
  | .and core dd ds dt mv => Sys2Proof.Machine.execAnd core dd ds dt mv s
  | .or core dd ds dt mv => Sys2Proof.Machine.execOr core dd ds dt mv s
  | .xor core dd ds dt mv => Sys2Proof.Machine.execXor core dd ds dt mv s
  | .not core dd ds mv => Sys2Proof.Machine.execNot core dd ds mv s
  | .neg core dd ds mv => Sys2Proof.Machine.execNeg core dd ds mv s
  | .abs core dd ds mv => Sys2Proof.Machine.execAbs core dd ds mv s
  | .cmp core ds dt mv => Sys2Proof.Machine.execCmp core ds dt mv s
  | .addi core dd ds imm mv => Sys2Proof.Machine.execAddi core dd ds imm mv s
  | .asl core dd ds k mv => Sys2Proof.Machine.execAsl core dd ds k mv s
  | .asr core dd ds k mv => Sys2Proof.Machine.execAsr core dd ds k mv s
  | .lsr core dd ds k mv => Sys2Proof.Machine.execLsr core dd ds k mv s
  | .nrm core dd ds mv => Sys2Proof.Machine.execNrm core dd ds mv s
  | .mul core aa ds dt third mv => Sys2Proof.Machine.execMul core aa ds dt third mv s
  | .mac core aa ds dt third mv => Sys2Proof.Machine.execMac core aa ds dt third mv s
  | .nmac core aa ds dt third mv => Sys2Proof.Machine.execNmac core aa ds dt third mv s
  | .mulm core aa ds dt third mv => Sys2Proof.Machine.execMulm core aa ds dt third mv s
  | .macm core aa ds dt third mv => Sys2Proof.Machine.execMacm core aa ds dt third mv s
  | .macu core aa ds dt third mv => Sys2Proof.Machine.execMacu core aa ds dt third mv s
  | .clr core aa mv => Sys2Proof.Machine.execClr core aa mv s
  | .aadd core aa ab mv => Sys2Proof.Machine.execAadd core aa ab mv s
  | .asub core aa ab mv => Sys2Proof.Machine.execAsub core aa ab mv s
  | .amov core aa ab mv => Sys2Proof.Machine.execAmov core aa ab mv s
  | .aneg core aa ab mv => Sys2Proof.Machine.execAneg core aa ab mv s
  | .aabs core aa ab mv => Sys2Proof.Machine.execAabs core aa ab mv s
  | .ashl core aa ab k mv => Sys2Proof.Machine.execAshl core aa ab k mv s
  | .ashr core aa ab k mv => Sys2Proof.Machine.execAshr core aa ab k mv s
  | .ext core dd ab k mv => Sys2Proof.Machine.execExt core dd ab k mv s
  | .dep core aa ds k mv => Sys2Proof.Machine.execDep core aa ds k mv s
  | .acmp core aa ab mv => Sys2Proof.Machine.execAcmp core aa ab mv s
  | .cmul core aa ds dt third mv => Sys2Proof.Machine.execCmul core aa ds dt third mv s
  | .cmac core aa ds dt third mv => Sys2Proof.Machine.execCmac core aa ds dt third mv s
  | .cmacc core aa ds dt third mv => Sys2Proof.Machine.execCmacc core aa ds dt third mv s
  | .cnmac core aa ds dt third mv => Sys2Proof.Machine.execCnmac core aa ds dt third mv s
  | .cpk core dd ab k mv => Sys2Proof.Machine.execCpk core dd ab k mv s
  | .cunp core dd ds mv => Sys2Proof.Machine.execCunp core dd ds mv s
  | .cadd core dd ds dt mv => Sys2Proof.Machine.execCadd core dd ds dt mv s
  | .csub core dd ds dt mv => Sys2Proof.Machine.execCsub core dd ds dt mv s
  | .cconj core dd ds mv => Sys2Proof.Machine.execCconj core dd ds mv s
  | .smax core u mv => Sys2Proof.Machine.execSmax core u mv s
  | .smin core u mv => Sys2Proof.Machine.execSmin core u mv s
  | .smaxd core ds dt u mv => Sys2Proof.Machine.execSmaxd core ds dt u mv s
  | .smind core ds dt u mv => Sys2Proof.Machine.execSmind core ds dt u mv s
  | .sinit core mode mv => Sys2Proof.Machine.execSinit core mode mv s
  | .clrf core mask mv => Sys2Proof.Machine.execClrf core mask mv s
  | .ei core mv => Sys2Proof.Machine.execEi core mv s
  | .di core mv => Sys2Proof.Machine.execDi core mv s
  | .fence core mv => Sys2Proof.Machine.execFence core mv s
  | .windowReadData core => Sys2Proof.Machine.execWindowReadData core s
  | .windowWriteDone core => Sys2Proof.Machine.execWindowWriteDone core s
  | .interruptEntry core => Sys2Proof.Machine.execInterruptEntry core s
  | .watchdogExpiry core => Sys2Proof.Machine.execWatchdogExpiry core s
  | .wdgKick core => Sys2Proof.Machine.execWdgKick core s
  | .doorbell core value => Sys2Proof.Machine.execDoorbell core value s
  | .dqDataRead core => Sys2Proof.Machine.execDqDataRead core s
  | .updDataWrite core value => Sys2Proof.Machine.execUpdDataWrite core value s
  | .notify core value => Sys2Proof.Machine.execNotify core value s
  | .feedWidxRead core => Sys2Proof.Machine.execFeedWidxRead core s
  | .feedOverrunClear core => Sys2Proof.Machine.execFeedOverrunClear core s
  | .winCfgWrite core window base en => Sys2Proof.Machine.execWinCfgWrite core window base en s
  | .kernelLoadDone core => Sys2Proof.Machine.execKernelLoadDone core s
  | .kernelStopDone core => Sys2Proof.Machine.execKernelStopDone core s
  | .reportEpoch solution => Sys2Proof.Machine.execReportEpoch solution s
  | .detectorExpiry detector => Sys2Proof.Machine.execDetectorExpiry detector s
  | .captureStart => Sys2Proof.Machine.execCaptureStart s
  | .captureEnd => Sys2Proof.Machine.execCaptureEnd s
  | .snapCommitDone => Sys2Proof.Machine.execSnapCommitDone s
  | .scheduleWake entry => Sys2Proof.Machine.execScheduleWake entry s
  | .parkedReturn rtc => Sys2Proof.Machine.execParkedReturn rtc s
  | .timeNowRead => Sys2Proof.Machine.execTimeNowRead s
  | .slewWrite value => Sys2Proof.Machine.execSlewWrite value s
  | .slewDone => Sys2Proof.Machine.execSlewDone s
  | .stepArm => Sys2Proof.Machine.execStepArm s
  | .stepCancel => Sys2Proof.Machine.execStepCancel s
  | .stepApply => Sys2Proof.Machine.execStepApply s
  | .timeSolution solution => Sys2Proof.Machine.execTimeSolution solution s
  | .gnssLossTimeout => Sys2Proof.Machine.execGnssLossTimeout s
  | .spoofHoldEnd => Sys2Proof.Machine.execSpoofHoldEnd s
  | .leapApply => Sys2Proof.Machine.execLeapApply s
  | .triggerEnable trigger => Sys2Proof.Machine.execTriggerEnable trigger s
  | .triggerFire trigger => Sys2Proof.Machine.execTriggerFire trigger s
  | .trigOutEnd trigger => Sys2Proof.Machine.execTrigOutEnd trigger s
  | .captureEdge channel rising tick tap close => Sys2Proof.Machine.execCaptureEdge channel rising tick tap close s
  | .capResultRead channel => Sys2Proof.Machine.execCapResultRead channel s
  | .capOverrunClear channel => Sys2Proof.Machine.execCapOverrunClear channel s
  | .tpDecision pulse => Sys2Proof.Machine.execTpDecision pulse s
  | .tpLeadingEdge pulse => Sys2Proof.Machine.execTpLeadingEdge pulse s
  | .tpTrailingEdge pulse => Sys2Proof.Machine.execTpTrailingEdge pulse s
  | .timeRelationWrite rtc => Sys2Proof.Machine.execTimeRelationWrite rtc s
  | .rtcAlarm rtc => Sys2Proof.Machine.execRtcAlarm rtc s
  | .rtcCalDone count => Sys2Proof.Machine.execRtcCalDone count s
  | .rtcHandover rtc => Sys2Proof.Machine.execRtcHandover rtc s
  | .wideWrite which low => Sys2Proof.Machine.execWideWrite which low s
  | .linkChange up mbit full => Sys2Proof.Machine.execLinkChange up mbit full s
  | .frameRx => Sys2Proof.Machine.execFrameRx s
  | .announceRx msg => Sys2Proof.Machine.execAnnounceRx msg s
  | .syncRx msg => Sys2Proof.Machine.execSyncRx msg s
  | .followUpRx msg => Sys2Proof.Machine.execFollowUpRx msg s
  | .delayReqRx msg => Sys2Proof.Machine.execDelayReqRx msg s
  | .delayRespRx msg => Sys2Proof.Machine.execDelayRespRx msg s
  | .pdelayReqRx msg => Sys2Proof.Machine.execPdelayReqRx msg s
  | .pdelayRespRx msg => Sys2Proof.Machine.execPdelayRespRx msg s
  | .pdelayRespFollowUpRx msg => Sys2Proof.Machine.execPdelayRespFollowUpRx msg s
  | .syncTx ball => Sys2Proof.Machine.execSyncTx ball s
  | .announceTx => Sys2Proof.Machine.execAnnounceTx s
  | .delayReqTx ball => Sys2Proof.Machine.execDelayReqTx ball s
  | .pdelayReqTx ball => Sys2Proof.Machine.execPdelayReqTx ball s
  | .bmca => Sys2Proof.Machine.execBmca s
  | .announceTimeout entry => Sys2Proof.Machine.execAnnounceTimeout entry s
  | .syncTimeout => Sys2Proof.Machine.execSyncTimeout s
  | .slewPart => Sys2Proof.Machine.execSlewPart s
  | .activityCommit temp supply => Sys2Proof.Machine.execActivityCommit temp supply s
  | .stateRaise => Sys2Proof.Machine.execStateRaise s
  | .txEnd => Sys2Proof.Machine.execTxEnd s
  | .rxFrame frame => Sys2Proof.Machine.execRxFrame frame s
  | .rxWindowClose => Sys2Proof.Machine.execRxWindowClose s
  | .firstPathDone path => Sys2Proof.Machine.execFirstPathDone path s
  | .rangingRoundEnd handle => Sys2Proof.Machine.execRangingRoundEnd handle s
  | .roundTimeout handle => Sys2Proof.Machine.execRoundTimeout handle s
  | .tempCalDue temp => Sys2Proof.Machine.execTempCalDue temp s
  | .calStart => Sys2Proof.Machine.execCalStart s
  | .calDone temp => Sys2Proof.Machine.execCalDone temp s
  | .gntChange level => Sys2Proof.Machine.execGntChange level s
  | .listenWindow => Sys2Proof.Machine.execListenWindow s
  | .uartRxChar uart samples => Sys2Proof.Machine.execUartRxChar uart samples s
  | .uartBreakRx uart len => Sys2Proof.Machine.execUartBreakRx uart len s
  | .uartStuck uart => Sys2Proof.Machine.execUartStuck uart s
  | .uartStuckEnd uart len => Sys2Proof.Machine.execUartStuckEnd uart len s
  | .uartTxChar uart cts low => Sys2Proof.Machine.execUartTxChar uart cts low s
  | .uartDataRead uart => Sys2Proof.Machine.execUartDataRead uart s
  | .uartDataWrite uart value => Sys2Proof.Machine.execUartDataWrite uart value s
  | .uartStatusRead uart => Sys2Proof.Machine.execUartStatusRead uart s
  | .flushRx uart => Sys2Proof.Machine.execFlushRx uart s
  | .flushTx uart => Sys2Proof.Machine.execFlushTx uart s
  | .uartBreakSend uart => Sys2Proof.Machine.execUartBreakSend uart s
  | .uartBreakDone uart => Sys2Proof.Machine.execUartBreakDone uart s
  | .linHeaderSend uart => Sys2Proof.Machine.execLinHeaderSend uart s
  | .linBreakDetect uart departure => Sys2Proof.Machine.execLinBreakDetect uart departure s
  | .linPid uart pid => Sys2Proof.Machine.execLinPid uart pid s
  | .linResponseStart uart => Sys2Proof.Machine.execLinResponseStart uart s
  | .linTimeout uart => Sys2Proof.Machine.execLinTimeout uart s
  | .uartWake uart => Sys2Proof.Machine.execUartWake uart s
  | .cvuStart unit => Sys2Proof.Machine.execCvuStart unit s
  | .cvuAbort unit => Sys2Proof.Machine.execCvuAbort unit s
  | .cvuDataWrite unit value => Sys2Proof.Machine.execCvuDataWrite unit value s
  | .cvuDone unit => Sys2Proof.Machine.execCvuDone unit s
  | .toVbak => Sys2Proof.Machine.execToVbak s
  | .toVsys => Sys2Proof.Machine.execToVsys s
  | .vbakLow => Sys2Proof.Machine.execVbakLow s
  | .aonPowerLoss => Sys2Proof.Machine.execAonPowerLoss s
  | .aonPowerUp onVbak => Sys2Proof.Machine.execAonPowerUp onVbak s
  | .shutdownStart pfail rtc => Sys2Proof.Machine.execShutdownStart pfail rtc s
  | .mainPowerStart => Sys2Proof.Machine.execMainPowerStart s
  | .mainResetRelease strap hostSel rtc => Sys2Proof.Machine.execMainResetRelease strap hostSel rtc s
  | .railFault => Sys2Proof.Machine.execRailFault s
  | .extReset => Sys2Proof.Machine.execExtReset s
  | .earlyPfail pfail => Sys2Proof.Machine.execEarlyPfail pfail s
  | .frozenPfail => Sys2Proof.Machine.execFrozenPfail s
  | .modeTransitionDone => Sys2Proof.Machine.execModeTransitionDone s
  | .hostWake => Sys2Proof.Machine.execHostWake s
  | .bootDone => Sys2Proof.Machine.execBootDone s
  | .presPress => Sys2Proof.Machine.execPresPress s
  | .presRelease => Sys2Proof.Machine.execPresRelease s
  | .presWindowExpiry => Sys2Proof.Machine.execPresWindowExpiry s
  | .sealCheck rtc level first second => Sys2Proof.Machine.execSealCheck rtc level first second s
  | .trngFail => Sys2Proof.Machine.execTrngFail s
  | .authVerifyDone => Sys2Proof.Machine.execAuthVerifyDone s
  | .lockoutEnd rtc => Sys2Proof.Machine.execLockoutEnd rtc s
  | .nonceExpiry => Sys2Proof.Machine.execNonceExpiry s
  | .serviceTimeout => Sys2Proof.Machine.execServiceTimeout s
  | .freeze ticks => Sys2Proof.Machine.execFreeze ticks s
  | .thaw refPeriods rtcPeriods => Sys2Proof.Machine.execThaw refPeriods rtcPeriods s
  | .tapReset => Sys2Proof.Machine.execTapReset s
  | .idcode => Sys2Proof.Machine.execIdcode s
  | .samplePreload sampled preload => Sys2Proof.Machine.execSamplePreload sampled preload s
  | .extest => Sys2Proof.Machine.execExtest s
  | .clamp => Sys2Proof.Machine.execClamp s
  | .highz => Sys2Proof.Machine.execHighz s
  | .auth => Sys2Proof.Machine.execAuth s
  | .authOpen => Sys2Proof.Machine.execAuthOpen s
  | .authClose => Sys2Proof.Machine.execAuthClose s
  | .tapAuthPassword password => Sys2Proof.Machine.execTapAuthPassword password s
  | .tapAuthChallenge nonce => Sys2Proof.Machine.execTapAuthChallenge nonce s
  | .tapAuthResponse scope sigR sigS => Sys2Proof.Machine.execTapAuthResponse scope sigR sigS s
  | .dbgReg block offset value => Sys2Proof.Machine.execDbgReg block offset value s
  | .frzRead command => Sys2Proof.Machine.execFrzRead command s
  | .dbgStatus word => Sys2Proof.Machine.execDbgStatus word s
  | .bypass => Sys2Proof.Machine.execBypass s
  | .hostTlp tlp clash => Sys2Proof.Machine.execHostTlp tlp clash s
  | .linkUp speed x2 => Sys2Proof.Machine.execLinkUp speed x2 s
  | .hostLinkLoss cause => Sys2Proof.Machine.execHostLinkLoss cause s
  | .spiTimeout => Sys2Proof.Machine.execSpiTimeout s
  | .hlDb cls reqProd rspCons => Sys2Proof.Machine.execHlDb cls reqProd rspCons s
  | .ringInit => Sys2Proof.Machine.execRingInit s
  | .ringInitDone => Sys2Proof.Machine.execRingInitDone s
  | .evtConsWrite value => Sys2Proof.Machine.execEvtConsWrite value s
  | .hlTime => Sys2Proof.Machine.execHlTime s
  | .msixUnmask vector => Sys2Proof.Machine.execMsixUnmask vector s
  | .irqModExpiry cls => Sys2Proof.Machine.execIrqModExpiry cls s
  | .spiTransaction mosi clash => Sys2Proof.Machine.execSpiTransaction mosi clash s
  | .devReset key rtc => Sys2Proof.Machine.execDevReset key rtc s
  | .responseRelease cls => Sys2Proof.Machine.execResponseRelease cls s
  | .registerWrite address value => Sys2Proof.Machine.execRegisterWrite address value s
  | .ping r p => Sys2Proof.Machine.execPing r p s
  | .getInfo r p => Sys2Proof.Machine.execGetInfo r p s
  | .setMode r p => Sys2Proof.Machine.execSetMode r p s
  | .powerCfg r p => Sys2Proof.Machine.execPowerCfg r p s
  | .wakeAlarm r p => Sys2Proof.Machine.execWakeAlarm r p s
  | .fwChunk r p => Sys2Proof.Machine.execFwChunk r p s
  | .fwCommit r p => Sys2Proof.Machine.execFwCommit r p s
  | .laneSet r p => Sys2Proof.Machine.execLaneSet r p s
  | .signalAdd r p => Sys2Proof.Machine.execSignalAdd r p s
  | .signalDrop r p => Sys2Proof.Machine.execSignalDrop r p s
  | .channelPolicy r p => Sys2Proof.Machine.execChannelPolicy r p s
  | .reportCfg r p => Sys2Proof.Machine.execReportCfg r p s
  | .aiding r p => Sys2Proof.Machine.execAiding r p s
  | .navAiding r p => Sys2Proof.Machine.execNavAiding r p s
  | .corrections r p => Sys2Proof.Machine.execCorrections r p s
  | .search r p => Sys2Proof.Machine.execSearch r p s
  | .declare r p => Sys2Proof.Machine.execDeclare r p s
  | .navDataGet r p => Sys2Proof.Machine.execNavDataGet r p s
  | .snapArm r p => Sys2Proof.Machine.execSnapArm r p s
  | .snapAbort r p => Sys2Proof.Machine.execSnapAbort r p s
  | .snapInfo r p => Sys2Proof.Machine.execSnapInfo r p s
  | .snapList r p => Sys2Proof.Machine.execSnapList r p s
  | .snapLoad r p => Sys2Proof.Machine.execSnapLoad r p s
  | .snapFix r p => Sys2Proof.Machine.execSnapFix r p s
  | .snapSchedule r p => Sys2Proof.Machine.execSnapSchedule r p s
  | .snapPolicy r p => Sys2Proof.Machine.execSnapPolicy r p s
  | .snapExport r p => Sys2Proof.Machine.execSnapExport r p s
  | .snapDelete r p => Sys2Proof.Machine.execSnapDelete r p s
  | .snapCommit r p => Sys2Proof.Machine.execSnapCommit r p s
  | .timeGet r p => Sys2Proof.Machine.execTimeGet r p s
  | .timeCfg r p => Sys2Proof.Machine.execTimeCfg r p s
  | .utcSet r p => Sys2Proof.Machine.execUtcSet r p s
  | .trigArm r p => Sys2Proof.Machine.execTrigArm r p s
  | .trigCancel r p => Sys2Proof.Machine.execTrigCancel r p s
  | .capCfg r p => Sys2Proof.Machine.execCapCfg r p s
  | .capRead r p => Sys2Proof.Machine.execCapRead r p s
  | .tpCfg r p => Sys2Proof.Machine.execTpCfg r p s
  | .netCfg r p => Sys2Proof.Machine.execNetCfg r p s
  | .netLat r p => Sys2Proof.Machine.execNetLat r p s
  | .netAsym r p => Sys2Proof.Machine.execNetAsym r p s
  | .netRealign r p => Sys2Proof.Machine.execNetRealign r p s
  | .netInfo r p => Sys2Proof.Machine.execNetInfo r p s
  | .uwbCfg r p => Sys2Proof.Machine.execUwbCfg r p s
  | .uwbCal r p => Sys2Proof.Machine.execUwbCal r p s
  | .uwbPsdu r p => Sys2Proof.Machine.execUwbPsdu r p s
  | .uwbTx r p => Sys2Proof.Machine.execUwbTx r p s
  | .uwbRx r p => Sys2Proof.Machine.execUwbRx r p s
  | .uwbStop r p => Sys2Proof.Machine.execUwbStop r p s
  | .sessionCreate r p => Sys2Proof.Machine.execSessionCreate r p s
  | .sessionStart r p => Sys2Proof.Machine.execSessionStart r p s
  | .sessionStop r p => Sys2Proof.Machine.execSessionStop r p s
  | .sessionDelete r p => Sys2Proof.Machine.execSessionDelete r p s
  | .sessionPsdu r p => Sys2Proof.Machine.execSessionPsdu r p s
  | .remoteIntervals r p => Sys2Proof.Machine.execRemoteIntervals r p s
  | .regWrite r p => Sys2Proof.Machine.execRegWrite r p s
  | .regReadRegulatory r p => Sys2Proof.Machine.execRegReadRegulatory r p s
  | .antDelay r p => Sys2Proof.Machine.execAntDelay r p s
  | .listenCfg r p => Sys2Proof.Machine.execListenCfg r p s
  | .delegate r p => Sys2Proof.Machine.execDelegate r p s
  | .returnBlock r p => Sys2Proof.Machine.execReturnBlock r p s
  | .owners r p => Sys2Proof.Machine.execOwners r p s
  | .secGet r p => Sys2Proof.Machine.execSecGet r p s
  | .lifecycle r p => Sys2Proof.Machine.execLifecycle r p s
  | .keyInstall r p salt => Sys2Proof.Machine.execKeyInstall r p salt s
  | .certRead r p => Sys2Proof.Machine.execCertRead r p s
  | .certInstall r p => Sys2Proof.Machine.execCertInstall r p s
  | .secMin r p => Sys2Proof.Machine.execSecMin r p s
  | .authChallenge r p nonce => Sys2Proof.Machine.execAuthChallenge r p nonce s
  | .authResponse r p => Sys2Proof.Machine.execAuthResponse r p s
  | .authPassword r p => Sys2Proof.Machine.execAuthPassword r p s
  | .sealReq r p => Sys2Proof.Machine.execSealReq r p s
  | .marketLock r p => Sys2Proof.Machine.execMarketLock r p s
  | .vendorDebugOff r p => Sys2Proof.Machine.execVendorDebugOff r p s
  | .debug r p => Sys2Proof.Machine.execDebug r p s
  | .regRead r p => Sys2Proof.Machine.execRegRead r p s
  | .signalStatus r p => Sys2Proof.Machine.execSignalStatus r p s
  | .acqSummary r p => Sys2Proof.Machine.execAcqSummary r p s
  | .counters r p => Sys2Proof.Machine.execCounters r p s
  | .eventLog r p => Sys2Proof.Machine.execEventLog r p s
  | .countersClear r p => Sys2Proof.Machine.execCountersClear r p s
  | .pairRetest r p => Sys2Proof.Machine.execPairRetest r p s
  | .kernelLoad r p => Sys2Proof.Machine.execKernelLoad r p s
  | .kernelStart r p => Sys2Proof.Machine.execKernelStart r p s
  | .kernelStop r p => Sys2Proof.Machine.execKernelStop r p s
  | .kernelUnload r p => Sys2Proof.Machine.execKernelUnload r p s
  | .kernelStatus r p => Sys2Proof.Machine.execKernelStatus r p s
  | .kernelFeed r p => Sys2Proof.Machine.execKernelFeed r p s
  | .kernelDoorbell r p => Sys2Proof.Machine.execKernelDoorbell r p s
  | .kernelTrig r p => Sys2Proof.Machine.execKernelTrig r p s
  | .alignmentMarker => Sys2Proof.Machine.execAlignmentMarker s
  | .coexReqAssert => Sys2Proof.Machine.execCoexReqAssert s
  | .wakeMaskRelease uart => Sys2Proof.Machine.execWakeMaskRelease uart s
  | .laneFeedWord core => Sys2Proof.Machine.execLaneFeedWord core s
  | .fwCommitDone written => Sys2Proof.Machine.execFwCommitDone written s
  | .provisionDone done => Sys2Proof.Machine.execProvisionDone done s
  | .pairRetestDone pass => Sys2Proof.Machine.execPairRetestDone pass s
  | .snapLoadDone => Sys2Proof.Machine.execSnapLoadDone s

end Sys2Proof.Machine
end

