-- ==== Sys2Proof/Machine/Idle.lean ====
section
/-! DEFINITION. What the control pair does of its own accord: requests deferred by a mode transition (R498, R561), the
pending mode request (R500), and the requests of the rings (R543, R545, R547 to R551). -/

namespace Sys2Proof.Machine

/-! ### The message set -/

/-- The requests of group 0x01: their class and meaning, by the low byte of the opcode. -/
def group01 : Nat → Option (Cls × (Req → List Byte → State → Result))
  | 0x01 => some (.H, execPing)
  | 0x02 => some (.A, execGetInfo)
  | 0x03 => some (.A, execSetMode)
  | 0x04 => some (.A, execPowerCfg)
  | 0x05 => some (.A, execWakeAlarm)
  | 0x06 => some (.C, execFwChunk)
  | 0x07 => some (.C, execFwCommit)
  | _ => none

/-- The requests of group 0x02: their class and meaning, by the low byte of the opcode. -/
def group02 : Nat → Option (Cls × (Req → List Byte → State → Result))
  | 0x01 => some (.A, execLaneSet)
  | 0x02 => some (.A, execSignalAdd)
  | 0x03 => some (.A, execSignalDrop)
  | 0x04 => some (.A, execChannelPolicy)
  | 0x05 => some (.A, execReportCfg)
  | 0x06 => some (.A, execAiding)
  | 0x07 => some (.B, execNavAiding)
  | 0x08 => some (.B, execCorrections)
  | 0x09 => some (.A, execSearch)
  | 0x0A => some (.A, execDeclare)
  | 0x0B => some (.C, execNavDataGet)
  | _ => none

/-- The requests of group 0x03: their class and meaning, by the low byte of the opcode. -/
def group03 : Nat → Option (Cls × (Req → List Byte → State → Result))
  | 0x01 => some (.A, execSnapArm)
  | 0x02 => some (.A, execSnapAbort)
  | 0x03 => some (.C, execSnapInfo)
  | 0x04 => some (.C, execSnapList)
  | 0x05 => some (.B, execSnapLoad)
  | 0x06 => some (.A, execSnapFix)
  | 0x07 => some (.A, execSnapSchedule)
  | 0x08 => some (.A, execSnapPolicy)
  | 0x09 => some (.C, execSnapExport)
  | 0x0A => some (.B, execSnapDelete)
  | 0x0B => some (.B, execSnapCommit)
  | _ => none

/-- The requests of group 0x04: their class and meaning, by the low byte of the opcode. -/
def group04 : Nat → Option (Cls × (Req → List Byte → State → Result))
  | 0x01 => some (.H, execTimeGet)
  | 0x02 => some (.A, execTimeCfg)
  | 0x03 => some (.A, execUtcSet)
  | 0x04 => some (.H, execTrigArm)
  | 0x05 => some (.H, execTrigCancel)
  | 0x06 => some (.A, execCapCfg)
  | 0x07 => some (.H, execCapRead)
  | 0x08 => some (.A, execTpCfg)
  | _ => none

/-- The requests of group 0x05: their class and meaning, by the low byte of the opcode. -/
def group05 : Nat → Option (Cls × (Req → List Byte → State → Result))
  | 0x01 => some (.A, execNetCfg)
  | 0x02 => some (.A, execNetLat)
  | 0x03 => some (.A, execNetAsym)
  | 0x04 => some (.A, execNetRealign)
  | 0x05 => some (.C, execNetInfo)
  | _ => none

/-- The requests of group 0x06: their class and meaning, by the low byte of the opcode. -/
def group06 : Nat → Option (Cls × (Req → List Byte → State → Result))
  | 0x01 => some (.A, execUwbCfg)
  | 0x02 => some (.A, execUwbCal)
  | 0x03 => some (.A, execUwbPsdu)
  | 0x04 => some (.A, execUwbTx)
  | 0x05 => some (.A, execUwbRx)
  | 0x06 => some (.A, execUwbStop)
  | 0x07 => some (.A, execSessionCreate)
  | 0x08 => some (.A, execSessionStart)
  | 0x09 => some (.A, execSessionStop)
  | 0x0A => some (.A, execSessionDelete)
  | 0x0B => some (.A, execSessionPsdu)
  | 0x0C => some (.A, execRemoteIntervals)
  | 0x0D => some (.A, execRegWrite)
  | 0x0E => some (.C, execRegReadRegulatory)
  | 0x0F => some (.A, execAntDelay)
  | 0x10 => some (.A, execListenCfg)
  | _ => none

/-- The requests of group 0x07: their class and meaning, by the low byte of the opcode. -/
def group07 : Nat → Option (Cls × (Req → List Byte → State → Result))
  | 0x01 => some (.A, execDelegate)
  | 0x02 => some (.A, execReturnBlock)
  | 0x03 => some (.C, execOwners)
  | _ => none

/-- The requests of group 0x08: their class and meaning, by the low byte of the opcode. -/
def group08 : Nat → Option (Cls × (Req → List Byte → State → Result))
  | 0x01 => some (.A, execSecGet)
  | 0x02 => some (.A, execLifecycle)
  | 0x03 => some (.A, fun r p s => execKeyInstall r p (BitVec.ofNat 128 s.freeVal) s.nextFree)
  | 0x04 => some (.C, execCertRead)
  | 0x05 => some (.C, execCertInstall)
  | 0x06 => some (.A, execSecMin)
  | 0x07 => some (.A, fun r p s => execAuthChallenge r p (BitVec.ofNat 256 s.freeVal) s.nextFree)
  | 0x08 => some (.A, execAuthResponse)
  | 0x09 => some (.A, execAuthPassword)
  | 0x0A => some (.A, execSealReq)
  | 0x0B => some (.A, execMarketLock)
  | 0x0C => some (.A, execVendorDebugOff)
  | 0x0D => some (.A, execDebug)
  | _ => none

/-- The requests of group 0x09: their class and meaning, by the low byte of the opcode. -/
def group09 : Nat → Option (Cls × (Req → List Byte → State → Result))
  | 0x01 => some (.C, execRegRead)
  | 0x02 => some (.C, execSignalStatus)
  | 0x03 => some (.C, execAcqSummary)
  | 0x04 => some (.C, execCounters)
  | 0x05 => some (.C, execEventLog)
  | 0x06 => some (.A, execCountersClear)
  | 0x07 => some (.A, execPairRetest)
  | _ => none

/-- The requests of group 0x0A: their class and meaning, by the low byte of the opcode. -/
def group0A : Nat → Option (Cls × (Req → List Byte → State → Result))
  | 0x01 => some (.C, execKernelLoad)
  | 0x02 => some (.A, execKernelStart)
  | 0x03 => some (.A, execKernelStop)
  | 0x04 => some (.A, execKernelUnload)
  | 0x05 => some (.A, execKernelStatus)
  | 0x06 => some (.A, execKernelFeed)
  | 0x07 => some (.A, execKernelDoorbell)
  | 0x08 => some (.A, execKernelTrig)
  | _ => none

/-- The requests of the message set (R559). -/
def requestOf (op : Nat) : Option (Cls × (Req → List Byte → State → Result)) := match op / 256 with
  | 0x01 => group01 (op % 256)
  | 0x02 => group02 (op % 256)
  | 0x03 => group03 (op % 256)
  | 0x04 => group04 (op % 256)
  | 0x05 => group05 (op % 256)
  | 0x06 => group06 (op % 256)
  | 0x07 => group07 (op % 256)
  | 0x08 => group08 (op % 256)
  | 0x09 => group09 (op % 256)
  | 0x0A => group0A (op % 256)
  | _ => none

/-- A request of the set is run; one that the set does not hold changes nothing. The salt or the nonce that a request
draws from the TRNG is a free value (log entry 3). -/
def State.runRequest (s : State) (op : Nat) (r : Req) (p : List Byte) : State := match requestOf op with
  | some x => s.run (x.2 r p)
  | none => s

/-! ### Request rings -/

/-- A class's request ring may be taken from: a request waits, the ring is not halted, no response of the class is held,
and its response ring has room for two messages, the next one of 1,024 bytes: DESIGN CHOICE, log entry 28. -/
def State.ringReady (s : State) (c : Cls) : Bool :=
  let q := vget {} s.host.reqs (clsNum c)
  let r := vget {} s.host.rsps (clsNum c)
  let ring := rspRingId c
  q.posted != q.taken && !bit (s.get HL_STATUS.halted) (clsNum c) && r.held.isEmpty &&
    decide (r.live.length + 2 ≤ ringDepth ring) && (ringPlace (ringSize ring) (ringDepth ring) r.live r.offset 1024).isSome

/-- The class that each turn of seven belongs to (R551). -/
def turnClass (t : Nat) : Cls := if t % 7 < 4 then .A else if t % 7 < 6 then .B else .C

/-- The class to take from, and the turn after: class H first, then the next turn whose class is ready (R551). -/
def State.nextClass (s : State) : Option (Cls × Nat) :=
  if s.ringReady .H then some (.H, s.host.turn)
  else (firstThat (fun t => s.ringReady (turnClass t)) ((List.range 7).map (· + s.host.turn))).map fun t =>
    (turnClass t, (t + 1) % 7)

/-- Words of the bale counted as they are read (R112). -/
def State.readCounts (s : State) (w n : Nat) : State := s.each (List.range n) fun s i => s.baleCount (s.baleRead (w + i))

/-- What the generic checks make of a request (R549): a response and no more, or a request to run. -/
inductive Check where
  | answer (seq : Nat) (a : Answer)
  | run
  deriving DecidableEq, Repr

/-- The generic checks on the bytes of a message whose length is good (R549, checks 2 to 6). The offset that a BAD_ARG for
a header field carries is a free value (log entry 3). -/
def checkMessage (c : Cls) (expected open' : Nat) (b : List Byte) : Check :=
  let n := b.length
  let seq := fieldAt b 4 2
  let ring := reqRingId c
  if fieldAt b (n - 4) 4 != crc32c (le 4 (ring * 2 ^ 24 + seq) ++ b.take (n - 4)) then .answer expected ansCheck
  else if byteAt b 2 != clsNum c || byteAt b 3 % 8 != 0 || byteAt b 8 != 0 then .answer seq (ansArg (open' % 65536))
  else if seq != expected then .answer seq (ansSequence expected)
  else match requestOf (fieldAt b 6 2) with
    | none => .answer seq ⟨0x12, []⟩
    | some x => if x.1 == c then .run else .answer seq (ansArg (open' % 65536))

/-- The next request of a ring is taken (R543, R549): it is checked, the position moves on, and it is answered or run. -/
def State.takeMessage (s : State) (c : Cls) : State :=
  let i := clsNum c
  let ring := reqRingId c
  let q := vget {} s.host.reqs i
  let first := leVal ((s.baleGet ((ringBase ring + q.offset) / 4) 1).take 2)
  let off := if first == 0 then 0 else q.offset
  let w := (ringBase ring + off) / 4
  let s := if first == 0 then s.readCounts ((ringBase ring + q.offset) / 4) 1 else s
  let head := s.baleGet w 4
  let n := fieldAt head 0 2
  let reqOf (seq : Nat) : OpenReq := ⟨c, seq, fieldAt head 12 4, fieldAt head 6 2, s.host.epoch⟩
  let move (f : ReqRing → ReqRing) (s : State) : State := s.modHost fun h => { h with reqs := vmod f h.reqs i }
  if n < 20 || 1024 < n || ringSize ring < off + n then
    let s := (s.readCounts w 4).put HL_STATUS.halted (s.get HL_STATUS.halted ||| 2 ^ i)
    let s := (s.ringError ring 1).answer (reqOf q.expected) (ansLength 0)
    move (fun x => { x with expected := (x.expected + 1) % 65536 }) s
  else
    let b := (s.baleGet w ((n + 3) / 4)).take n
    let s := s.readCounts w ((n + 3) / 4)
    let stop := if off + roundUp16 n == ringSize ring then 0 else off + roundUp16 n
    let check := checkMessage c q.expected s.freeVal b
    let seq := fieldAt b 4 2
    let next := match check with
      | .answer _ a => if a.status == 0x41 then (seq + 1) % 65536 else (q.expected + 1) % 65536
      | _ => (q.expected + 1) % 65536
    let s := (move (fun x => { x with taken := (x.taken + 1) % 65536, offset := stop, expected := next }) s).descriptor ring
      (q.taken + 1) stop
    match check with
    | .answer sq a => s.nextFree.answer (reqOf sq) a
    | .run => s.runRequest (fieldAt b 6 2) ⟨seq, fieldAt b 12 4⟩ ((b.take (n - 4)).drop 16)

/-! ### The idle step -/

/-- The oldest deferred request runs again, for the initialisation of the rings under which it was taken (R498, R561). -/
def State.runDeferred (s : State) (d : Deferred) (rest : List Deferred) : State :=
  let s := s.modHost fun h => { h with deferred := rest, runAs := some d.epoch }
  (s.runRequest d.op ⟨d.seq, d.tag⟩ d.payload).modHost fun h => { h with runAs := none }

/-- What the control pair does next: a deferred request, the pending mode request, or a request of the rings; otherwise
nothing. -/
def State.idle (s : State) : State :=
  if !s.served then s
  else match s.pwr.move, s.host.deferred with
    | none, d :: rest => s.runDeferred d rest
    | _, _ =>
      if s.pwr.move.isNone && s.pwr.slot.isSome then s.takeSlot
      else if !s.is HL_STATUS.ready || !s.ringsOpen then s
      else match s.nextClass with
        | none => s
        | some (c, t) => (s.modHost fun h => { h with turn := t }).takeMessage c

end Sys2Proof.Machine
end

