-- ==== Sys2Proof/Machine/Step.lean ====
section
/-! DEFINITION. One step: the command at the front of the queue, or what the control pair does of its own accord. -/

namespace Sys2Proof.Machine

/-- A step: the command at the front of the queue is executed with the rest of the queue; on an empty queue the control
pair takes a deferred request, the pending mode request or a request of the rings, and otherwise nothing happens (log
entry 1). -/
def step (s : State) : Host.Outcome State Fault Refusal := match s.pending with
  | [] => .next s.idle
  | c :: rest => exec c { s with pending := rest }

/-- The command that a word spells is put at the front of the queue. The table gives no row any bits, so no word spells
one. -/
def State.withFetchWord (s : State) (nbits w : Nat) : State := match decodeTableWord nbits w with
  | some c => { s with pending := c :: s.pending }
  | none => s

end Sys2Proof.Machine
end

