-- ==== Sys2Proof/Safety.lean ====
section
/-! DEFINITION. What the statements speak of: the canonical form of the memories, and when a request or a core is ready. -/

namespace Sys2Proof.Machine

/-- Every memory of the state has its canonical form: the registers, the granary, the bale, and the local memories of the
DSP cores. -/
def Memory.wf (s : State) : Bool :=
  sparseWf regReset s.regs && sparseWf granDefault s.gran.words && sparseWf baleDefault s.gran.bale &&
    sparseWf xyDefault s.dsp.x && sparseWf xyDefault s.dsp.y && sparseWf progDefault s.dsp.prog

/-- No receive or transmit FIFO of a UART holds more than its 64 entries (R456). -/
def State.fifosHold (s : State) : Prop := ∀ n < 8, (s.uart n).rx.length ≤ 64 ∧ (s.uart n).tx.length ≤ 64

/-- The event log holds at most its 256 entries (R578). -/
def State.logHolds (s : State) : Prop := s.host.log.length ≤ 256

/-- The registers that a report to the host may change: the causes of interrupts, and the event page's counts. -/
def reportRegisters : List Nat := [HL_IRQ_CAUSE, HL_EVT_PROD, HL_EVT_LOST]

/-- From s to t only reports to the host were made: an event, a response or an interrupt. All that may differ is the host
link's own state, the bale, and the registers of reports; the memories stay canonical. -/
structure ReportsOnly (s t : State) : Prop where
  fab     : t.fab = s.fab
  stw     : t.stw = s.stw
  gran    : t.gran = { s.gran with bale := t.gran.bale }
  fe      : t.fe = s.fe
  lanes   : t.lanes = s.lanes
  thr     : t.thr = s.thr
  clk     : t.clk = s.clk
  shf     : t.shf = s.shf
  dsp     : t.dsp = s.dsp
  nav     : t.nav = s.nav
  snap    : t.snap = s.snap
  ltu     : t.ltu = s.ltu
  net     : t.net = s.net
  uwb     : t.uwb = s.uwb
  uarts   : t.uarts = s.uarts
  cvus    : t.cvus = s.cvus
  pwr     : t.pwr = s.pwr
  sec     : t.sec = s.sec
  fw      : t.fw = s.fw
  free    : t.free = s.free
  pending : t.pending = s.pending
  wf      : Memory.wf s = true → Memory.wf t = true
  word    : Memory.wf s = true → ∀ a, a ∉ reportRegisters → t.word a = s.word a

/-- The firmware takes a request whose lowest mode is the one given: it is served, the device is not RETIRED, the mode is high
enough, and no change of mode is under way (R496, R498, R516, R561). -/
structure State.takes (s : State) (mode : Nat) : Prop where
  served : s.served = true
  life   : s.lifecycle ≠ 4
  mode   : mode ≤ s.mode
  still  : s.pwr.move = none

/-- Core n runs and is about to fetch an instruction with nothing else under way: no stall, halt, delay slot, repeat, loop or
write in its pipeline, and no interrupt that would be taken. -/
structure DspPlain (s : State) (n : Nat) : Prop where
  core     : n < 16
  clock    : s.coreClock = true
  running  : (s.core n).running = true
  stall    : (s.core n).stall = none
  halted   : (s.core n).halted = false
  skipTo   : (s.core n).skipTo = none
  delay    : (s.core n).delay = 0
  rep      : (s.core n).rep = none
  reti     : (s.core n).afterReti = false
  stopping : (s.core n).stopping = false
  doomed   : (s.core n).doomed = none
  levels   : (s.core n).bankLevels = []
  pend     : (s.core n).pend = []
  quiet    : s.dueVector n = none

/-- The two moves of an instruction that makes none. -/
def noMoves : Moves := ⟨0, 0⟩

/-- The number in a data register of core n under the mapping in force, and the physical number of the register. -/
def State.dspReg (s : State) (n i : Nat) : Nat := (vget 0 (s.core n).file.d (dspMap (s.core n).file.mapping i)).toNat
def State.dspPhys (s : State) (n i : Nat) : Nat := dspMap (s.core n).file.mapping i

/-- The 48 bits of an accumulator of core n. -/
def State.dspAcc (s : State) (n i : Nat) : Nat := (vget 0 (s.core n).file.acc i).toNat

/-! ### Moves -/

/-- The effective address of a move byte of core n (R251, R252). -/
def State.moveEa (s : State) (n m : Nat) : Nat := ((s.core n).file.address (bits m 5 3)).1

/-- A move byte makes no move, or one in the core's X or Y memory; the word that it loads is clean. -/
def State.moveReady (s : State) (n : Nat) (y : Bool) (m : Nat) : Prop :=
  m = 0 ∨ (s.moveEa n m < 0x8000 ∧ (bit m 0 = true → (eccLoad 20 (s.xyRaw y n (s.moveEa n m))).syn = .clean))

/-- The address of program memory that a third operand is read from (R255). -/
def State.thirdAt (s : State) (n : Nat) : Nat := ((s.core n).file.address 7).1 % 2 ^ 14

/-- Core n is ready for an instruction with the moves given and, or not, a third operand: all are in its local memories, and
the words that they read are clean. -/
structure DspReady (s : State) (n : Nat) (mv : Moves) (third : Bool) : Prop where
  plain : DspPlain s n
  x     : s.moveReady n false mv.x.toNat
  y     : s.moveReady n true mv.y.toNat
  third : third = true → (eccLoad 40 (s.progRaw n (s.thirdAt n))).syn = .clean

/-- The store of a move byte. -/
def State.moveStore (s : State) (n : Nat) (y : Bool) (m : Nat) : State :=
  if m = 0 || bit m 0 then s else s.xyPut y n (s.moveEa n m) (s.dspReg n (bits m 1 4))

/-- The stores of an instruction's moves. -/
def State.moveStores (s : State) (n : Nat) (mv : Moves) : State :=
  (s.moveStore n false mv.x.toNat).moveStore n true mv.y.toNat

/-- The load of a move byte, which lands three cycles after the fetch. -/
def State.moveLoad (s : State) (n : Nat) (y : Bool) (m : Nat) : List DspWrite :=
  if m ≠ 0 && bit m 0 then
    [⟨(s.core n).slot + 3, .d (s.dspPhys n (bits m 1 4)), s.xyRaw y n (s.moveEa n m) % 2 ^ 20⟩]
  else []

/-- The pointers that moves and a third operand post-modify, one cycle after the fetch (R252, R261). -/
def State.movePointers (s : State) (n : Nat) (mv : Moves) (third : Bool) : List DspWrite :=
  ((List.range 8).filter fun k => (mv.x.toNat != 0 && bits mv.x.toNat 5 3 == k) || (mv.y.toNat != 0 && bits mv.y.toNat 5 3 == k) ||
    (third && k == 7)).map fun k => ⟨(s.core n).slot + 1, .p k, ((s.core n).file.address k).2⟩

/-- The word that an instruction's X move loads from X memory, extended to 40 bits as its search sees it (R260). -/
def State.searchLoad (s : State) (n : Nat) (mv : Moves) (u : Bool) : Option Nat :=
  if mv.x.toNat ≠ 0 && bit mv.x.toNat 0 then some (extend40 u (s.xyRaw false n (s.moveEa n mv.x.toNat) % 2 ^ 20)) else none

/-- The result of smax or smin: a search with the loaded word, or no search (R260). -/
def searchX (least u : Bool) (mx : Nat) (cand : Option Nat) (ea : Nat) : List DspOut := match cand with
  | some v => searchOut least u mx v ea
  | none => [setFlags true fC 0]

/-- The halves of a third operand, in d6 and d7 (R255). -/
def State.thirdLoad (s : State) (n : Nat) (third : Bool) : List DspWrite :=
  if third then
    [⟨(s.core n).slot + 3, .d 6, s.progRaw n (s.thirdAt n) % 2 ^ 40 / 2 ^ 20⟩,
     ⟨(s.core n).slot + 3, .d 7, s.progRaw n (s.thirdAt n) % 2 ^ 40 % 2 ^ 20⟩]
  else []

/-- Results of an operation in the pipeline: stage E lands three cycles after the fetch, stage W four (R261). -/
def State.outWrites (s : State) (n : Nat) (outs : List DspOut) : List DspWrite :=
  outs.map fun o => ⟨(s.core n).slot + (if o.1 then 4 else 3), o.2.1, o.2.2⟩

/-- Every write of an instruction with its moves, in the order of landing. -/
def State.allWrites (s : State) (n : Nat) (mv : Moves) (third : Bool) (outs : List DspOut) : List DspWrite :=
  s.movePointers n mv third ++ s.thirdLoad n third ++ s.moveLoad n false mv.x.toNat ++ s.moveLoad n true mv.y.toNat ++
    s.outWrites n outs

/-- The state after core n fetched an instruction: its stores are made, its writes are in the pipeline, the program counter has
advanced, a third operand has cost a cycle (R255), and nothing else has changed. -/
def State.issued (s : State) (n : Nat) (mv : Moves) (third : Bool) (outs : List DspOut) : State :=
  (s.moveStores n mv).modCore n fun c =>
    { (if third then c.noteStall (c.slot + 2) else c) with
      pc := (c.pc + 1) % 16384
      slot := c.slot + 1
      pend := s.allWrites n mv third outs
      lcache := false
      repeating := false }

/-- The note of an instruction whose R stage reads what an interrupt entry in the next slot would change: a mov from sr or a loop
counter (R261, R286). -/
def State.lastOf (s : State) (n w : Nat) (mv : Moves) : DspLast :=
  ⟨(s.core n).slot, w, (s.core n).file.mapping, s.moveEa n mv.x.toNat, s.moveEa n mv.y.toNat⟩
def DspCore.noted (c : DspCore) (w : Nat) (l : DspLast) : DspCore := if readsBank w then { c with last := some l } else c

/-- The state after core n fetched a control instruction at its program counter, with the instruction's effect on the core. -/
def State.stepped (s : State) (n : Nat) (f : DspCore → DspCore) : State := s.modCore n fun c =>
  f { c with
    pc := (c.pc + 1) % 16384
    slot := c.slot + 1
    lcache := false
    repeating := false }

/-- The effect of a taken branch: two delay slots, then the target; a loop cache that was being filled is not (R264, R277). -/
def DspCore.jumping (c : DspCore) (target : Nat) : DspCore :=
  { c with
    delay := 2
    after := .jump target
    filling := c.cacheOk && c.filling }

/-- The register file of core n with the pointers of the moves given post-modified. -/
def State.movedFile (s : State) (n : Nat) (mv : Moves) : DspFile :=
  (s.movePointers n mv false).foldl (fun f w => f.write w.target w.value) (s.core n).file

/-- What mov reads from a register code (R241, R262): the pointers as the moves leave them, and sr with no loop, no repeat and no
loop cache. -/
def State.dspCode (s : State) (n : Nat) (mv : Moves) (code : Nat) : Nat :=
  (s.movedFile n mv).read ({ s.core n with lcache := false, repeating := false }.srRead (s.core n).file.sr.toNat) (s.core n).bank (s.core n).file.mapping code

/-- The register file of core n once every write in its pipeline has landed (R261). -/
def State.landed (s : State) (n : Nat) : DspFile :=
  (s.core n).pend.foldl (fun f w => f.write w.target w.value) (s.core n).file

/-- The move of an instruction in X memory, or in Y memory; and whether a move byte stores (R251). -/
def moveOf (mv : Moves) (y : Bool) : Nat := if y then mv.y.toNat else mv.x.toNat
def storesWord (m : Nat) : Bool := m != 0 && !bit m 0

/-! ### Domains and groups of commands -/

/-- The commands that the clock root and the host's interface take through a freeze (R76, R528). -/
def clockRootCommand : Instr → Bool
  | .dcoCalDone .. | .freqAcquired .. | .lockWindowEnd .. | .phaseAligned .. | .gatesOpen .. | .relock .. | .refMissing ..
  | .coastExpiry .. | .refReturn .. | .phaseWalk .. | .walkDone .. | .refJump .. | .syncInEdge .. | .syncWaitExpiry ..
  | .laneSyncCmd .. | .syncLanded .. | .authVerifyDone .. | .thaw .. | .hostTlp .. | .spiTransaction ..
  | .alignmentMarker .. => true
  | _ => false

/-- The commands of the always-on domain, of the supplies and of the debug port, which need no main domain (R17, R507). -/
def alwaysOnCommand : Instr → Bool
  | .scheduleWake .. | .rtcAlarm .. | .gntChange .. | .uartWake .. | .toVbak .. | .toVsys .. | .vbakLow ..
  | .aonPowerLoss .. | .aonPowerUp .. | .mainPowerStart .. | .mainResetRelease .. | .railFault .. | .extReset ..
  | .earlyPfail .. | .frozenPfail .. | .hostWake .. | .bootDone .. | .presPress .. | .presRelease ..
  | .presWindowExpiry .. | .sealCheck .. | .lockoutEnd .. | .nonceExpiry .. | .serviceTimeout .. | .tapReset ..
  | .idcode .. | .samplePreload .. | .extest .. | .clamp .. | .highz .. | .auth .. | .authOpen .. | .authClose ..
  | .tapAuthPassword .. | .tapAuthChallenge .. | .tapAuthResponse .. | .dbgReg .. | .frzRead .. | .dbgStatus ..
  | .bypass .. | .hostLinkLoss .. | .wakeMaskRelease .. => true
  | _ => false

/-- The requests of the GNSS, snapshot, local-time, network, radio, delegation and kernel groups (R559). -/
def operationalRequest : Instr → Option Req
  | .laneSet r _ => some r
  | .signalAdd r _ => some r
  | .signalDrop r _ => some r
  | .channelPolicy r _ => some r
  | .reportCfg r _ => some r
  | .aiding r _ => some r
  | .navAiding r _ => some r
  | .corrections r _ => some r
  | .search r _ => some r
  | .declare r _ => some r
  | .navDataGet r _ => some r
  | .snapArm r _ => some r
  | .snapAbort r _ => some r
  | .snapInfo r _ => some r
  | .snapList r _ => some r
  | .snapLoad r _ => some r
  | .snapFix r _ => some r
  | .snapSchedule r _ => some r
  | .snapPolicy r _ => some r
  | .snapExport r _ => some r
  | .snapDelete r _ => some r
  | .snapCommit r _ => some r
  | .timeGet r _ => some r
  | .timeCfg r _ => some r
  | .utcSet r _ => some r
  | .trigArm r _ => some r
  | .trigCancel r _ => some r
  | .capCfg r _ => some r
  | .capRead r _ => some r
  | .tpCfg r _ => some r
  | .netCfg r _ => some r
  | .netLat r _ => some r
  | .netAsym r _ => some r
  | .netRealign r _ => some r
  | .netInfo r _ => some r
  | .uwbCfg r _ => some r
  | .uwbCal r _ => some r
  | .uwbPsdu r _ => some r
  | .uwbTx r _ => some r
  | .uwbRx r _ => some r
  | .uwbStop r _ => some r
  | .sessionCreate r _ => some r
  | .sessionStart r _ => some r
  | .sessionStop r _ => some r
  | .sessionDelete r _ => some r
  | .sessionPsdu r _ => some r
  | .remoteIntervals r _ => some r
  | .regWrite r _ => some r
  | .regReadRegulatory r _ => some r
  | .antDelay r _ => some r
  | .listenCfg r _ => some r
  | .delegate r _ => some r
  | .returnBlock r _ => some r
  | .owners r _ => some r
  | .kernelLoad r _ => some r
  | .kernelStart r _ => some r
  | .kernelStop r _ => some r
  | .kernelUnload r _ => some r
  | .kernelStatus r _ => some r
  | .kernelFeed r _ => some r
  | .kernelDoorbell r _ => some r
  | .kernelTrig r _ => some r
  | _ => none

end Sys2Proof.Machine
end

