-- ==== Sys2Proof/Certificates/Slice0/Obligations.lean ====
section
/-! DEFINITION. The statements for the provers. Those named …Complete say, for every command of a family, under which
conditions on the state and the operands it has its own effect, and what state that is; the others say what holds of every
state or command. -/

open Sys2Proof Sys2Proof.Machine

/-- R22, R26, R38, R39, R42: a presentation at the crossbar, the clearing of its counts, a pair declared hung while the
other runs, and the end of a retest. The clauses rest on the choices of log entries 2, 27, 33, 50, which are the
model's own. -/
def Obligations.CrossbarAndPairCommandsComplete : Prop := ∀ s : State, s.mainLive = true →
  (∀ elapsed reqs, exec (.interconnectRequest elapsed reqs) s =
    .next ((s.modFab fun f => { f with cycle := f.cycle + elapsed, resp := [] }).fabPresent reqs)) ∧
  (exec .clearCount s = .next ((s.put FAB_H_DEMOTE.count 0).put FAB_VIOL_COUNT.count 0)) ∧
  (∀ (pair : Fin 2) (memory : Bool) (cause : Nat) (u t : State), s.pairState pair = .running → s.pairState (1 - pair) = .running →
    u = (((((s.setPair pair .held).modStw fun w =>
      { w with controlOn := 1 - pair.val, navOn := 1 - pair.val }).put (pairOk pair) 0).flag STW_STATUS.single_pair).flag
      HL_STATUS.single_pair).put STW_STATUS.last_cause cause →
    t = ((u.takeOverBurst (if pair = 0 then 3 else 1) pair).journalReplay.bump STW_STATUS.failover_count).emit (evPairFailover pair cause) →
    (cause = (if memory then 2 else 1) → exec (.lockstepMismatch pair memory) s = .next t) ∧
    (cause = 3 → exec (.heartbeatLost pair) s = .next t)) ∧
  (∀ (k : Nat) (pass : Bool), s.heldPair = some k → s.pairState k = .retesting →
    exec (.pairRetestDone pass) s = .next (s.stw.retests.foldl (fun s q => s.answer q (ansOk (le 4 (if pass then 0 else 1))))
      (if pass
        then ((s.setPair k .running).modStw fun w => { w with retests := [] }).flag (pairOk k)
        else (s.setPair k .held).modStw fun w => { w with retests := [] })))

/-- R46, R91: what an access to the granary does where nothing grants it, and where a write is granted. -/
def Obligations.RefusedGranaryAccess : Prop := ∀ (s : State) (id a addr : Nat) (x : Option Nat), Memory.wf s = true →
  (s.granGrant id a x.isSome = none → ∃ t, s.granAccess id a addr x = (2 ^ 40 - 1, false, true, t) ∧
    t.gran.words = s.gran.words ∧ t.get FAB_STATUS.last_viol_id = id % 64 ∧ t.get FAB_STATUS.violation_seen = 1 ∧
    t.get FAB_VIOL_ADDR.address = addr % 2 ^ 32 ∧
    t.get FAB_VIOL_COUNT.count = min (s.get FAB_VIOL_COUNT.count + 1) (2 ^ 32 - 1)) ∧
  (∀ bay w v, x = some v → s.granGrant id a true = some (bay, w) →
    s.granAccess id a addr x = (0, false, false, s.granWriteAt bay w v))

/-- R59 to R64, R74, R76: calibration, acquisition, the lock windows, the placement of the marker and the opening of the
gates, each in the phase of the lock sequence in which it has its effect. The clauses rest on the choices of log
entries 3, 32, which are the model's own. -/
def Obligations.LockSequenceCompletes : Prop := ∀ s : State, s.pwr.powered = true → s.pwr.inReset = false →
  (s.clk.phase = .calibrating → exec .dcoCalDone s =
    .next ((s.flag CLK_STATUS.cal_done).modClk fun c => { c with phase := .acquiring })) ∧
  (∀ demand, s.clk.phase = .acquiring → s.clk.missing = false → exec (.freqAcquired demand) s =
    .next (((s.flag CLK_STATUS.ref_present).ceiling demand).modClk fun c => { c with phase := .counting, inTol := 0 })) ∧
  (∀ count safe ticks demand, s.clk.phase = .counting → s.is CLK_STATUS.coasting = false → ∀ t : State,
    t = ((((s.put CLK_WINDOW.last_count count.toNat).put CLK_WINDOW.last_in_tol
      (b2n (decide (23997 ≤ count.toNat) && decide (count.toNat ≤ 24003)))).put CLK_SAFE_MEAS.count safe.toNat).flag
      CLK_SAFE_MEAS.valid).ceiling demand →
    (¬ (23997 ≤ count.toNat ∧ count.toNat ≤ 24003) →
      exec (.lockWindowEnd count safe ticks demand) s = .next (t.modClk fun c => { c with inTol := 0 })) ∧
    (23997 ≤ count.toNat ∧ count.toNat ≤ 24003 → s.clk.inTol = 0 →
      exec (.lockWindowEnd count safe ticks demand) s = .next (t.modClk fun c => { c with inTol := 1 })) ∧
    (23997 ≤ count.toNat ∧ count.toNat ≤ 24003 → s.clk.inTol ≠ 0 →
      exec (.lockWindowEnd count safe ticks demand) s = .next t.declareLock)) ∧
  (s.clk.phase = .aligning →
    (s.clk.continuous = true → exec .phaseAligned s = .next s.loadDither) ∧
    (s.clk.continuous = false → s.is CLK_SYNC_CFG.marker_src = true → exec .phaseAligned s =
      .next (s.modClk fun c => { c with phase := .waitSync, delay := s.get CLK_SYNC_CFG.marker_delay })) ∧
    (s.clk.continuous = false → s.is CLK_SYNC_CFG.marker_src = false → exec .phaseAligned s =
      .next ((s.put CLK_STATUS.marker_coherent 0).modClk fun c => { c with continuous := true }).loadDither)) ∧
  (s.clk.phase = .waitGates → s.frozen = false → exec .gatesOpen s = .next s.ltuGates.gatesOpen) ∧
  (s.clk.phase = .waitSync → exec .syncWaitExpiry s =
    .next ((((s.flag CLK_EVENT.marker_free).put CLK_STATUS.marker_coherent 0).modClk fun c => { c with continuous := true }).loadDither))

/-- R63, R66 to R71: how lock is lost and kept: a command, missing edges, an expired coast, the edge that returns, walks
and jumps. The clauses rest on the choices of log entries 3, 32, which are the model's own. -/
def Obligations.ReferenceEventsComplete : Prop := ∀ s : State, s.pwr.powered = true → s.pwr.inReset = false →
  (∀ ticks, exec (.relock ticks) s = .next (s.loseLock 4 ticks)) ∧
  (∀ t : State, s.clk.missing = false → s.lockHeld = true → t.lockHeld = true →
    t = ((((s.flag CLK_EVENT.ref_missing).put CLK_STATUS.ref_present 0).put CLK_SAFE_MEAS.valid 0).modClk fun c =>
      { c with missing := true, coast := ((s.get CLK_CTRL.coast_periods)), inTol := 0 }) →
    exec .refMissing s = .next (t.flag CLK_STATUS.coasting)) ∧
  (∀ (ticks : Fin 12) (t : State), s.clk.missing = true → t = s.breakContinuity.bLost → exec (.coastExpiry ticks) s =
    .next (if t.lockHeld then t.loseLock 2 ticks else if t.onRef then t.tickFrom 2 else t)) ∧
  (∀ (error demand : BitVec 16) (ticks : Fin 12) (t : State),
    t = ((((s.flag CLK_STATUS.ref_present).modClk (fun c => { c with missing := false })).ceiling demand).edgeCount error.toInt).edgeB
      error.toInt → s.clk.missing = true → exec (.refReturn error ticks demand) s =
    .next (if t.is CLK_STATUS.coasting then (t.put CLK_STATUS.coasting 0).edgeError 0 error.toInt ticks else t)) ∧
  (∀ error remaining demand ticks, s.lockHeld = true → s.clk.missing = false → exec (.phaseWalk error remaining demand ticks) s =
    .next ((((s.ceiling demand).edgeCount error.toInt).edgeB error.toInt).edgeError (s.walkLeft remaining) error.toInt ticks)) ∧
  (s.clk.missing = false → s.is CLK_STATUS.walking = true → exec .walkDone s =
    .next ((s.put CLK_STATUS.walking 0).modClk fun c => { c with walk := 0 }).ltuWalkEnd) ∧
  (∀ error remaining ticks, ∀ t : State, t = (s.edgeCount error.toInt).edgeB error.toInt → s.clk.missing = false → t.lockHeld = true →
    520 < mag (s.walkLeft remaining + error.toInt) → exec (.refJump error remaining ticks) s = .next (t.refJump error.toInt ticks))

/-- R54, R57, R59, R77 to R80, R120: requests of a lane sync, its landing, and the alignment marker. The clauses rest on
the choices of log entries 3, 32, which are the model's own. -/
def Obligations.SyncAndMarkerCommandsComplete : Prop := ∀ s : State, s.pwr.powered = true → s.pwr.inReset = false →
  (∀ (edge : Fin 32) (t : State), s.locked = true → s.clk.sync = none →
    t = s.modClk (fun c => { c with sync := some (if edge.val ≤ 24 then 1 else 2) }) →
    exec (.laneSyncCmd edge) s = .next t ∧
    (s.clk.phase ≠ .waitSync → s.is CLK_SYNC_CFG.lane_sync_en = true → exec (.syncInEdge edge) s = .next t)) ∧
  (∀ edge : Fin 32, s.locked = false →
    exec (.laneSyncCmd edge) s = .next ((s.flag CLK_EVENT.sync_ignored).bump CLK_SYNC_COUNT.ignored)) ∧
  (∀ edge : Fin 32, s.clk.phase = .waitSync → s.is CLK_SYNC_CFG.lane_sync_en = false → exec (.syncInEdge edge) s =
    .next (((s.put CLK_STATUS.marker_coherent 1).modClk fun c => { c with continuous := true }).loadDither)) ∧
  (∀ (n : Nat) (t : State), s.clk.sync = some n → s.locked = true → s.frozen = false → t = s.passMarkers n → t.clk.sync = some 0 →
    exec .syncLanded s =
    .next ((((t.flag CLK_EVENT.sync_landed).bump CLK_SYNC_COUNT.landed).modClk fun c => { c with sync := none }).allOrigins .sync)) ∧
  (s.is CLK_STATUS.ref_present = true → s.frozen = false →
    (s.locked = true → s.onFab = true → exec .alignmentMarker s = .next (s.passMarkers 1)) ∧
    (s.locked = false → exec .alignmentMarker s = .next
      (if (s.rootMarkers 1).onRef && !(s.rootMarkers 1).frozen then (s.rootMarkers 1).refTicks 32 else s.rootMarkers 1)))

/-- R83: ADPLL-B is enabled, moved to another channel, acquires and locks. The clauses rest on the choices of log entry
31, which are the model's own. -/
def Obligations.RadioClockCommandsComplete : Prop := ∀ s : State, s.mainLive = true →
  (s.clk.bPhase = .off → exec .clkbEnable s = .next (s.bStart (s.get CLKB_CTRL.channel))) ∧
  (∀ channel, exec (.clkbChannelWrite channel) s = .next
    (if s.is CLKB_CTRL.enable then s.bLost.bStart (b2n channel) else s.put CLKB_CTRL.channel (b2n channel))) ∧
  (∀ demand, s.clk.bPhase = .acquiring → s.is CLK_STATUS.ref_present = true → s.frozen = false → exec (.bFreqAcquired demand) s =
    .next ((if 25000 < demand.toInt then s.flag CLK_EVENT.ceiling_hit else s).modClk fun c => { c with bPhase := .counting, bInTol := 0 })) ∧
  (∀ (count : BitVec 12) (demand : BitVec 16) (u t : State), s.clk.bPhase = .counting →
    u = (if 25000 < demand.toInt then s.flag CLK_EVENT.ceiling_hit else s) → t = u.put CLKB_STATUS.last_count count.toNat →
    (¬ (3327 ≤ count.toNat ∧ count.toNat ≤ 3329) → exec (.bLockWindowEnd count demand) s = .next (t.modClk fun c => { c with bInTol := 0 })) ∧
    (3327 ≤ count.toNat ∧ count.toNat ≤ 3329 → s.clk.bInTol = 0 →
      exec (.bLockWindowEnd count demand) s = .next (t.modClk fun c => { c with bInTol := 1 })) ∧
    (3327 ≤ count.toNat ∧ count.toNat ≤ 3329 → s.clk.bInTol ≠ 0 → exec (.bLockWindowEnd count demand) s =
      .next ((((t.flag CLKB_STATUS.locked).put CLKB_STATUS.active_channel (u.get CLKB_CTRL.channel)).flag CLK_EVENT.b_lock).modClk fun c => { c with
        bPhase := .locked, bInTol := 0, bSeed := u.get CLKB_DITHER.seed, bLfsr := u.get CLKB_DITHER.seed, bModState := 0 }).radioLocked))

/-- R89, R101, R102, R111: the end of the initialisation, write-backs and repairs, and the clearing of counts. -/
def Obligations.GranaryRepairCommandsComplete : Prop := ∀ s : State, s.mainLive = true →
  (s.is GRAN_STATUS.init_done = false → exec .granaryInitDone s =
    .next (((s.flag GRAN_STATUS.init_done).modFab fun f => { f with waiting := [], resp := [] }).fabPresent s.fab.waiting)) ∧
  (∀ (bay : Fin 64) (word : Fin 131072) (p : Nat × Nat) (r : EccRead), s.gran.rewrites.contains (bay.val, word.val) = true →
    p = s.wordPlace bay word → r = granLoad (s.granRaw p.1 p.2) word →
    exec (.ceRewrite bay word) s = .next ((if r.syn.corrected then s.granPut p.1 p.2 (granStore r.data word) else s).modGran fun g =>
      { g with rewrites := g.rewrites.filter fun x => x != (bay.val, word.val) })) ∧
  (∀ (word : Fin 131072) (r : Repair) (t : State), firstThat (fun (r : Repair) => r.word == word.val) s.gran.repairs = some r →
    t = (if r.to60 then s.granPut 60 r.word (granStore r.data r.word) else s) → exec (.mirrorRepair word) s =
    .next ((if r.to61 then t.granPut 61 r.word (granStore r.data r.word) else t).modGran fun g =>
      { g with repairs := g.repairs.filter fun x => x.word != r.word })) ∧
  (exec .baleCollClear s = .next ((s.put BALE_COLL.collision 0).put BALE_COLL_COUNT.count 0)) ∧
  (∀ t : State, t = (List.range 64).foldl (fun s n => (s.put (BAY_STATUS.ce_count n) 0).put (BAY_STATUS.ue_count n) 0) s →
    exec .clearCounts s = .next ((t.put AUD_COUNT.faults 0).put AUD_COUNT.discards 0))

/-- R48, R92 to R95, R612: a hand-over is begun, starts, and ends with the bay clear where it is cleared and owned by
next_id; a return that waited starts; lendable is taken away. -/
def Obligations.BayHandoverCommandsComplete : Prop := ∀ s : State, s.mainLive = true →
  (∀ bay : Fin 64, s.is (BAY_OWNER.in_group bay) = false → s.is (BAY_OWNER.busy bay) = false →
    bay ≠ 60 → bay ≠ 61 → bay ≠ 63 → s.get (BAY_OWNER.next_id bay) ∉ [0x0D, 0x3E, 0x3F] → exec (.bayGo bay) s =
    .next ((s.flag (BAY_OWNER.busy bay)).modGran fun g =>
      { g with handover := vmod (fun _ => (if s.auditHolds bay then Handover.waiting else Handover.running)
        (s.clears bay) (s.get (BAY_OWNER.next_id bay))) g.handover bay })) ∧
  (∀ (bay : Fin 64) (clear : Bool) (owner : Nat), vget .none s.gran.handover bay = .waiting clear owner → s.auditHolds bay = false →
    exec (.handoverStart bay) s =
    .next (s.modGran fun g => { g with handover := vmod (fun _ => .running clear owner) g.handover bay })) ∧
  (∀ (bay : Fin 64) (t : State), s.handoverRuns bay = true → s.frozen = false → t = ((s.handoverEnds bay).mapBay bay).bayAnswers bay →
    exec (.handoverDone bay) s = .next (((([12, 13, 14, 15].foldl (fun s n => s.modKernel n fun k => { k with
      returning := if t.get (BAY_OWNER.owner_id bay.val) == 0x01 then k.returning.filter (· != bay.val) else k.returning }) t).unloadsEnd).fixReady))) ∧
  (∀ (bay : Fin 64) (clear : Bool) (owner : Nat) (t u : State), vget .none s.gran.handover bay = .running clear owner →
    t = (if clear then s.bayClear bay else s) → u = (((t.put (BAY_OWNER.owner_id bay) owner).put (BAY_OWNER.busy bay) 0).flag
      GRAN_EVENT.handover_done).modGran (fun g => { g with
        handover := vmod (fun _ => .none) g.handover bay
        rewrites := if clear then g.rewrites.filter (fun x => x.1 != bay.val) else g.rewrites }) →
    s.handoverEnds bay = if owner = 8 ∨ owner = 9 then u else u.dropSnaps bay 1) ∧
  (∀ bay : Fin 64, vget false s.gran.deferred bay = true → s.is (BAY_OWNER.busy bay) = false → exec (.deferredReturn bay) s =
    .next ((s.modGran fun g => { g with deferred := vmod (fun _ => false) g.deferred bay }).handTo bay 0x01 false)) ∧
  (∀ (bay : Fin 64) (t : State), t = s.put (BAY_OWNER.lendable bay) 0 → exec (.lendableClear bay) s = .next (t.lendEnds bay))

/-- R97, R99: a group is enabled where its rules hold and refused elsewhere, its members change, and it is disabled and
left. -/
def Obligations.GroupCommandsComplete : Prop := ∀ s : State, s.mainLive = true →
  (∀ (group : Fin 16) (t : State), s.is (GRP_CFG.enable group) = false →
    (s.get (GRP_CFG.base_bay group) % groupSize (s.get (GRP_CFG.size group)) = 0 →
      (s.groupBays group).all (s.bayJoins group) = true → membersOk (s.word (GRP_MEMBERS group)).toNat = true →
      t = ((s.flag (GRP_CFG.enable group)).put (GRP_CFG.refused group) 0).modGran (fun g =>
        { g with leaving := vmod (fun l => l.filter fun n => !(s.groupBays group).contains n) g.leaving group }) →
      exec (.groupEnable group) s = .next ((t.groupBays group).foldl (fun s n => s.flag (BAY_OWNER.in_group n)) t)) ∧
    (s.get (GRP_CFG.base_bay group) % groupSize (s.get (GRP_CFG.size group)) ≠ 0 → exec (.groupEnable group) s =
      .next ((s.flag (GRP_CFG.refused group)).flag GRAN_EVENT.group_error))) ∧
  (∀ (group : Fin 16) (value : Word), exec (.groupMembersWrite group value) s = .next (s.membersWrite group value)) ∧
  (∀ group : Fin 16, s.is (GRP_CFG.enable group) = true → exec (.groupDisable group) s =
    .next ((s.put (GRP_CFG.enable group) 0).modGran fun g =>
      { g with leaving := vmod (fun l => l ++ s.groupBays group) g.leaving group })) ∧
  (∀ (group : Fin 16) (bays : List Nat), vget [] s.gran.leaving group = bays → bays.any s.auditHolds = false →
    exec (.groupLeave group) s = .next ((bays.foldl (fun s n => s.put (BAY_OWNER.in_group n) 0) s).modGran fun g =>
      { g with leaving := vmod (fun _ => []) g.leaving group }))

/-- R105 to R108: the audit visits a segment, copies it to the shadow, reports what the march found, and copies it back. -/
def Obligations.AuditCommandsComplete : Prop := ∀ s : State, s.mainLive = true →
  (∀ (p : Nat) (t : State), s.is AUD_CFG.enable = true → s.is AUD_STATUS.active = false → s.is GRAN_STATUS.init_done = true →
    p = (if s.gran.audit.fresh then 0 else (s.get AUD_STATUS.bay * 32 + s.get AUD_STATUS.segment + 1) % 2048) →
    t = ((s.put AUD_STATUS.bay (p / 32)).put AUD_STATUS.segment (p % 32)).modGran (fun g =>
      { g with audit := { g.audit with fresh := false } }) →
    (t.treatment (p / 32) (p % 32) = .skip → exec .auditSegmentStart s = .next t.auditVisited) ∧
    (t.treatment (p / 32) (p % 32) = .scrub → exec .auditSegmentStart s = .next (t.scrub (p / 32) (p % 32)).auditVisited) ∧
    (t.treatment (p / 32) (p % 32) = .borrow → exec .auditSegmentStart s =
      .next ((((t.flag AUD_STATUS.active).flag (BAY_STATUS.borrowed (p / 32))).put (BAY_STATUS.phase (p / 32)) 1).modGran fun g =>
        { g with audit := { g.audit with borrow := some ⟨p / 32, p % 32⟩ } }))) ∧
  (∀ (b : Borrow) (src dst : Nat), s.gran.audit.borrow = some b → s.get (BAY_STATUS.phase b.bay) = 1 →
    src = b.bay * bayWords + b.seg * segWords → dst = 63 * bayWords + s.gran.audit.slot * segWords → exec .auditCopyDone s =
    .next (((s.scrub b.bay b.seg).put (BAY_STATUS.phase b.bay) 2).modGran fun g => { g with
      words := sparseFill granDefault (fun a => sparseGet granDefault g.words (a - dst + src)) g.words dst segWords })) ∧
  (∀ (faulty : List (Fin 4096)) (b : Borrow) (t : State), s.gran.audit.borrow = some b → s.get (BAY_STATUS.phase b.bay) = 2 →
    t = (faulty.foldl (fun s w => s.auditFault b.bay (b.seg * segWords + w.val)) s).modGran (fun g => { g with
      words := sparseFill granDefault (fun _ => 0) g.words (b.bay * bayWords + b.seg * segWords) segWords }) →
    (b.bay ≠ 63 → exec (.auditTestDone faulty) s = .next (t.put (BAY_STATUS.phase b.bay) 3)) ∧
    (b.bay = 63 → exec (.auditTestDone faulty) s = .next (t.auditRelease 63).auditVisited)) ∧
  (∀ (faulty : List (Fin 4096)) (b : Borrow) (t : State), s.gran.audit.borrow = some b → s.get (BAY_STATUS.phase b.bay) ≠ 2 →
    s.gran.audit.stopped = true → t = faulty.foldl (fun s w => s.auditFault b.bay (b.seg * segWords + w.val)) s →
    exec (.auditTestDone faulty) s = .next (t.modGran fun g => { g with audit := { g.audit with stopped := false } })) ∧
  (∀ (b : Borrow) (src dst : Nat), s.gran.audit.borrow = some b → s.get (BAY_STATUS.phase b.bay) = 3 → b.bay ≠ 63 →
    src = 63 * bayWords + s.gran.audit.slot * segWords → dst = b.bay * bayWords + b.seg * segWords → exec .auditWritebackDone s =
    .next ((s.modGran fun g => { g with
      words := sparseFill granDefault (fun a => sparseGet granDefault g.words (a - dst + src)) g.words dst segWords }).auditRelease b.bay).auditVisited) ∧
  (exec .auditDisable s = .next ((s.put AUD_CFG.enable 0).modGran fun g =>
    { g with audit := { g.audit with stopping := g.audit.borrow.isSome } }))

/-- R121, R122, R126, R130, R131, R133, R135: the receiver chain starts and stops, is calibrated and releases samples,
closes a gain window, and supervises its antenna. The clauses rest on the choices of log entries 3, 34, which are the
model's own. -/
def Obligations.FrontEndCommandsComplete : Prop := ∀ s : State, s.mainLive = true →
  (∀ u t : State, u = s.flag FE_CTRL.gnss_en → u.is FE_CTRL.gnss_en = true → s.fe.chain = .off → u.locked = true → u.mode ≠ 4 →
    t = u.modFe (fun f => { f with chain := .starting, commanded := false }) →
    exec .gnssEnable s = .next (if t.is FE_CAL_STATUS.coef_valid then t else t.flag FE_CAL_STATUS.fg_running)) ∧
  (s.is FE_CAL_STATUS.fg_running = false → exec .fgCalStart s = .next
    ((s.flag FE_CAL_STATUS.fg_running).modFe fun f => { f with commanded := f.chain == .released }).feRecord) ∧
  (∀ t : State, s.is FE_CAL_STATUS.fg_running = true →
    t = ((s.put FE_CAL_STATUS.fg_running 0).flag FE_CAL_STATUS.coef_valid).flag FE_EVENT.cal_done →
    exec .fgCalDone s = .next (t.modFe fun f => { f with coef := newCoef t.free, commanded := false }).nextFree.feRecord) ∧
  (s.fe.chain = .starting → s.locked = true → s.is FE_CAL_STATUS.coef_valid = true → s.is FE_CAL_STATUS.fg_running = false →
    exec .sampleRelease s = .next ((s.put FE_GAIN.agc_settled 0).modFe fun f => { f with
      chain := .released, acq := some {}, agcFrom := 8 * s.cycleNow
      nextCode := if s.get FE_CTRL.agc_mode == 0 then some ({} : AgcSearch).trial else none }).feRecord) ∧
  (exec .gnssDisable s = .next (((s.put FE_CTRL.gnss_en 0).modFe fun f =>
    { f with chain := .off, acq := none, nextCode := none, attack := false, commanded := false }).feRecord).antOff) ∧
  (∀ (t u v : State) (w : AgcWindow), s.fe.chain = .released → s.locked = true → t = s.toCycle ((s.fe.agcFrom + 65536) / 8) →
    w = t.agcWindow → u = t.modFe (fun f => { f with agcFrom := f.agcFrom + 65536 }) →
    v = (((u.put FE_AGC_STATUS.last_rms (min w.rms 1023)).put FE_AGC_STATUS.last_clips (min w.clips 0x3FFF)).put
      FE_AGC_STATUS.window_valid (b2n w.valid)).overloadWindow w.clips → v.fe.acq = none →
    exec .agcWindowEnd s = .next (if v.get FE_CTRL.agc_mode = 0 ∧ w.valid = true then v.agcDecide w else v)) ∧
  (∀ (current : Fin 401) (t : State), s.biasOn = true → s.fe.shortOpen = false → t = s.put FE_ANT_STATUS.current current →
    t.get FE_ANT_CFG.open_ma ≤ current.val → current.val ≤ 4 * t.get FE_ANT_CFG.short_ma → ∀ u : State, u = t.modFe (fun f => { f with okRun := min (f.okRun + 1) 3, openRun := 0, decide1 := false }) →
    exec (.antMeasure current) s = .next (if s.fe.decide1 ∨ u.fe.okRun = 3 then u.antState 1 else u)) ∧
  (s.fe.shortOpen = true → exec .antRetry s =
    .next (s.modFe fun f => { f with shortOpen := false, decide1 := true, okRun := 0, openRun := 0 })) ∧
  (∀ t : State, t = s.toMarker → s.bgLive = true → t.bgLive = true → (∀ c, t.fe.bgAt = some c → c + 450000 ≤ t.clk.cycle) →
    exec .bgCalUpdate s = .next
      ((t.bump FE_CAL_STATUS.updates).modFe fun f => { f with coef := nextCoef t.free f.coef, bgAt := some t.clk.cycle }).nextFree.feRecord)

/-- R127 to R129: GNSS_BLANK: the pin moves whatever the blanking does; while it is acted on an interval begins, is
extended, ends, and is cut short when it is stuck. The clauses rest on the choices of log entry 34, which are the
model's own. -/
def Obligations.BlankingCommandsComplete : Prop := ∀ s : State, s.mainLive = true →
  (∀ (cycle : Fin 375) (c : Nat) (t u : State), c = s.clk.cycle + cycle → t = s.toCycle c →
    u = t.modFe (fun f => { f with pin := !t.is FE_CTRL.blank_active_low }) →
    (t.blankLive = false → exec (.blankAssert cycle) s = .next u) ∧
    (t.blankLive = true → t.fe.blank = .ignoring → exec (.blankAssert cycle) s = .next u) ∧
    (t.blankLive = true → t.fe.blank = .idle → (∀ x l, t.fe.blanks = x :: l → x.2 ≤ c - t.get FE_BLANK_CFG.pre) →
      exec (.blankAssert cycle) s = .next ((u.bump FE_BLANK_COUNT.intervals).modFe fun f =>
        { f with blank := .active, blankEa := c, blankFrom := c - t.get FE_BLANK_CFG.pre })) ∧
    (t.blankLive = true → t.fe.blank = .idle → ∀ a b l, t.fe.blanks = (a, b) :: l → c - t.get FE_BLANK_CFG.pre < b →
      exec (.blankAssert cycle) s = .next (u.modFe fun f =>
        { f with blank := .active, blankEa := c, blankFrom := min a (c - t.get FE_BLANK_CFG.pre), blanks := l })) ∧
    (t.blankLive = true → t.fe.blank = .post → c - t.get FE_BLANK_CFG.pre < t.fe.blankEnd →
      exec (.blankAssert cycle) s = .next (u.modFe fun f => { f with blank := .active }))) ∧
  (∀ (cycle : Fin 375) (c : Nat) (t u : State), c = s.clk.cycle + cycle → t = s.toCycle c →
    u = t.modFe (fun f => { f with pin := t.is FE_CTRL.blank_active_low }) → t.blankLive = true → t.fe.blank = .active →
    exec (.blankDeassert cycle) s = .next (if t.get FE_BLANK_CFG.post = 0
      then u.modFe (fun f => { f with blank := .idle, blanks := (f.blankFrom, c) :: f.blanks })
      else u.modFe fun f => { f with blank := .post, blankEnd := c + t.get FE_BLANK_CFG.post })) ∧
  (∀ t : State, s.fe.blank = .post → t = s.toCycle s.fe.blankEnd → exec .blankPostEnd s =
    .next (t.modFe fun f => { f with blank := .idle, blanks := (f.blankFrom, s.fe.blankEnd) :: f.blanks })) ∧
  (∀ t : State, s.fe.blank = .active → t = s.toCycle s.blankLimit → t.fe.blank = .active → exec .blankStuck s =
    .next ((((t.modFe fun f => { f with blank := .ignoring, blanks := (f.blankFrom, t.blankLimit) :: f.blanks }).bump
      FE_BLANK_COUNT.stuck).flag FE_EVENT.blank_stuck).emit evBlankStuck))

/-- R139, R148 to R150, R160, R164: a lane is enabled, restarted, started at its marker and disabled; its oscillator is
written, its filter requested and faded, and its loadable banks written. The clauses rest on the choices of log entry
34, which are the model's own. -/
def Obligations.LaneCommandsComplete : Prop := ∀ (s : State), s.mainLive = true → ∀ lane : Fin 12,
  (s.is (LANE_CTRL.enable lane) = false → exec (.laneEnable lane) s =
    .next ((s.flag (LANE_CTRL.enable lane)).laneStartAsk lane)) ∧
  (s.is (LANE_STATUS.running lane) = true → exec (.laneRestart lane) s = .next (s.laneStartAsk lane)) ∧
  (∀ t : State, s.is (LANE_STATUS.start_pending lane) = true → s.locked = true → t = s.passMarkers ((s.lane lane).startIn.getD 0) →
    t.is (LANE_STATUS.start_pending lane) = true → exec (.laneStart lane) s = .next ((t.newOrigin lane .start).laneAnswer lane)) ∧
  (exec (.laneDisable lane) s = .next (s.laneStop lane)) ∧
  (∀ inc, exec (.ncoFreqWrite lane inc) s = .next ((s.setWord (LANE_NCO_FREQ lane) inc).laneSetNow lane)) ∧
  (∀ (sel : Fin 64) (fadeLen : Fin 8192),
    (33 < sel.val → exec (.filterRequest lane sel fadeLen) s = .next (s.flag (LANE_EVENT.sel_ignored lane))) ∧
    (sel.val ≤ 33 → s.is (LANE_STATUS.running lane) = true → s.is (LANE_FIR_STATUS.fading lane) = false →
      s.get (LANE_FIR_STATUS.current lane) ≠ sel → exec (.filterRequest lane sel fadeLen) s =
      .next ((s.fadeTo lane sel (clampNat 16 4096 fadeLen) false).showLocks lane))) ∧
  (∀ f : Fade, (s.lane lane).fade = some f → f.done = none → s.is (LANE_STATUS.running lane) = true → s.locked = true →
    exec (.fadeStart lane) s = .next (s.toFormed lane (max (s.lane lane).path.formed
      (ceilDiv (8 * f.ready - 967 - 8 * (s.lane lane).origin + 1) (s.laneD lane) - 1)))) ∧
  (∀ (k : Nat) (f : Fade) (t : State), s.is (LANE_STATUS.running lane) = true → s.locked = true → s.fadeLast lane = some k →
    t = ((s.toLeft lane k).flag (LANE_EVENT.fade_done lane)).modLane lane (fun x => { x with ends := x.ends.drop 1 }) →
    (t.lane lane).fade = some f → exec (.fadeEnd lane) s =
    .next (if f.done = some f.len then ((t.fadeOver lane).showGd lane).showLocks lane else t)) ∧
  (∀ (bank : Fin 2) (target : BankTarget) (value : Word), s.filterInUse lane (0x20 + bank) = true →
    exec (.bankWrite lane bank target value) s = .next ((s.bump (LANE_COUNT.bank_busy lane)).flag (LANE_EVENT.bank_busy lane))) ∧
  (∀ (bank : Fin 2) (value : Word), s.filterInUse lane (0x20 + bank) = false →
    (∀ t, exec (.bankWrite lane bank (.coef t) value) s = .next (s.put (LANE_COEF.coef lane bank t.val) value.toNat)) ∧
    exec (.bankWrite lane bank .config value) s =
      .next ((s.put (LANE_BANK_CFG.taps lane bank) (clampNat 1 128 (bits value.toNat 0 8))).put (LANE_BANK_CFG.gd lane bank)
        (bits value.toNat 8 11)))

/-- R152, R153: the notches of a running lane: in a complete spectrum the lines above the threshold are taken or counted
unserved, a notch engages, is released, and its tracker restarts from a written frequency. The clauses rest on the
choices of log entry 34, which are the model's own. -/
def Obligations.NotchCommandsComplete : Prop := ∀ (s : State), s.mainLive = true → ∀ lane : Fin 12,
  (∀ (t u : State) (b : List (BitVec 16 × BitVec 16)), s.is (LANE_STATUS.running lane) = true → s.locked = true →
    t = (if (s.lane lane).win.ready.isSome then s
      else s.toFormed lane ((s.lane lane).path.formed + (4095 - (s.lane lane).win.block.length))) →
    (t.lane lane).win.ready = some b → u = (List.range 4).foldl (fun s j => s.notchLevel lane j) t →
    exec (.notchDetect lane) s = .next (((sortLines ((spectrum b).zipIdx.map fun x => (x.2, x.1))).filter fun x =>
      dbAtLeast x.2 (medianBin (spectrum b)) (u.get (LANE_WIN_CFG.j_thresh lane)) && decide (0 < x.2) && u.binClear lane x.1).foldl
        (fun s x => s.detectLine lane (medianBin (spectrum b)) x.1 x.2) (u.modLane lane fun x => { x with win := { x.win with ready := none } }))) ∧
  (∀ (notch : Fin 4) (n : Nat) (t : State), (s.notch lane notch).wait = some n → s.is (LANE_STATUS.running lane) = true → s.locked = true →
    t = (if n = 0 then s else s.toFormed lane ((s.lane lane).path.formed + (n - 1))) → exec (.notchEngage lane notch) s =
    .next (((t.flag (LANE_NOTCH.engaged lane notch)).flag (LANE_EVENT.notch_change lane)).modNotch lane notch fun x =>
      { x with wait := none })) ∧
  (∀ notch : Fin 4, s.get (LANE_NOTCH.mode lane notch) = 1 → s.is (LANE_NOTCH.engaged lane notch) = true → s.locked = true →
    s.get (LANE_WIN_CFG.release lane) * 3600000 ≤ (s.notch lane notch).low * s.laneD lane → exec (.notchRelease lane notch) s =
    .next ((s.put (LANE_NOTCH.engaged lane notch) 0).flag (LANE_EVENT.notch_change lane))) ∧
  (∀ (notch : Fin 4) (freq : BitVec 24), exec (.notchFreqWrite lane notch freq) s =
    .next ((s.put (LANE_NOTCH.freq lane notch) freq.toNat).modNotch lane notch fun n => { n with rate := 0 }))

/-- R175 to R186, R193, R199: a pass is latched, starts a round, takes blocks, ends its round and is searched; it is
aborted and disabled, and its sum groups are released. The clauses rest on the choices of log entries 8, 34, which are
the model's own. -/
def Obligations.ThresherCommandsComplete : Prop := ∀ s : State, s.mainLive = true →
  (exec .passLatch s = .next (s.latchPass none)) ∧
  (∀ p, s.thr.running = some p → exec .passAbort s =
    .next (((s.abortJobs p).flag THR_EVENT.pass_done).flag THR_EVENT.aborted).nextPass) ∧
  (exec .thrDisable s = .next s.thrDisable) ∧
  (exec .freeA s = .next (s.freeGroup (s.get THR_PASS_CFG.grp_a))) ∧
  (exec .freeB s = .next (s.freeGroup (s.get THR_PASS_CFG.grp_b))) ∧
  (∀ (p : ThrPass) (time : Time) (t : State), s.thr.running = some p → p.phase = .waitStart → s.locked = true → s.onFab = true →
    s.roundTime p = some (time, t) → exec .roundStart s =
    .next ((((((t.put THR_T0_SEC_LO.sec_lo (tSec time)).put THR_T0_SEC_HI.sec_hi (tSec time / 2 ^ 32)).put THR_T0_NS.ns (tNs time)).put
      THR_T0_FRAC.frac (tFrac time)).modThr fun x =>
        { x with running := x.running.map fun p => { p with phase := .running, tR := time, block := 0 } }).showThr.showJobs)) ∧
  (∀ (p q : ThrPass) (t : State), s.roundRuns = some p → t = s.blockDrain p → t.roundRuns = some q →
    (q.jobs.all fun j => j.round != q.round || j.ended.isSome) = false → exec .blockEnd s =
    .next ((t.roundBlocks q q.jobs).2.modThr fun x =>
      { x with running := some { q with jobs := (t.roundBlocks q q.jobs).1, block := q.block + 1 } }).showJobs) ∧
  (∀ (p : ThrPass) (mine : List ThrJob) (t u : State), s.thr.running = some p → p.phase = .running →
    mine = p.jobs.filter (fun j => j.round == p.round) → (mine.all fun j => j.ended.isSome) = true →
    t = ((((s.flag THR_EVENT.round_done).put THR_ROUND_INFO.round p.round).put THR_ROUND_INFO.group
      (b2n (p.dual && p.round % 2 == 1))).put THR_ROUND_INFO.tiles (mine.foldl (fun a j => a + j.tiles) 0)).modThr (fun t => { t with
        held := vmod (fun _ => true) t.held (p.group p.round)
        toSearch := mine, group := p.group p.round, tR := p.tR, k := p.k
        results := if p.round == 0 then [] else t.results }) →
    u = (List.range 12).foldl (fun s n => s.dspRaise n 7) t →
    exec .roundDone s = .next (if p.round + 1 = p.rounds then (u.passOver p).nextPass
      else u.passWaits { p with round := p.round + 1, notBefore := p.inputEnd })) ∧
  (∀ t : State, t = (s.searchRound s.thr.toSearch).modThr (fun t => { t with toSearch := [] }) → t.snap.fixFor = none →
    exec .peakSearchDone s = .next t)

/-- R203, R212, R226, R230 to R233, R239: a channel starts, runs, sweeps a block, takes a loop update and stops; the code
RAM is written; the sheaves are disabled. The clauses rest on the choices of log entries 9, 10, 34, which are the
model's own. -/
def Obligations.ChannelCommandsComplete : Prop := ∀ s : State, s.mainLive = true →
  (∀ channel : Fin 512, exec (.channelStart channel) s = .next (s.chanStart channel).2) ∧
  (∀ channel : Fin 512, s.chanState channel = 1 → s.locked = true → s.is SHF_CTRL.enable = true →
    exec (.channelRun channel) s = .next (s.chanRun channel)) ∧
  (∀ (channel : Fin 512) (t : State), t = s.finishBlocks channel → exec (.channelStop channel) s =
    .next ((t.pairSlots channel).foldl (fun s c => s.chanEnd false c) t)) ∧
  (∀ (channel : Fin 512) (n : Nat) (t : State), s.chanState channel = 2 → s.sheavesRun = true → s.pairOdd channel = false →
    t = State.toBlock channel 4 s → t.blockReady channel = true → t.sheavesRun = true → t.sweepsDue (channel / 8) = n + 1 →
    t.sweepNext (channel / 8) = some channel.val → exec (.sweepEnd channel) s = .next (t.chanDoes channel fun u c x =>
      u.sweepBlock c (t.loftWords (t.get (SHF_CH_CFG.lane channel)) (t.chan channel).word (t.blockEnd channel)) x)) ∧
  (∀ (core : Nat) (w : List Nat) (rest : List (Nat × List Nat)) (c : Nat) (t : State), s.shf.net = (core, w) :: rest → s.locked = true →
    c = bits (w.getD 0 0) 0 9 → t = s.modShf (fun h => { h with net := rest }) →
    (t.chanState c ≠ 2 → exec .loopUpdate s = .next (t.bump SHF_COUNT.upd_discard)) ∧
    (t.chanState c = 2 → t.get (SHF_CH_CFG.dsp c) = core → t.pairOdd c = false → (t.chan c).waiting = none →
      exec .loopUpdate s = .next (t.setChan c { t.chan c with waiting := some (updFields w) }))) ∧
  (∀ channel : Fin 512, s.chanState channel = 2 → s.pairOdd channel = false → s.sheavesRun = true →
    exec (.loopUpdateApply channel) s = .next (s.chanDoes channel fun s c x => s.blockBegins c x)) ∧
  (∀ (channel : Fin 512) (t : State), s.chanState channel = 2 → s.sheavesRun = true → s.pairOdd channel = false →
    t = State.toBlock channel 4 s → exec (.sweepEnd channel) s = .next (if t.blockReady channel && t.sheavesRun
      then State.sweepTo channel (t.sweepsDue (channel / 8)) t else t)) ∧
  (∀ (channel : Fin 512) (r r' : ShfChan × State), s.chanState channel = 2 → s.pairOdd channel = false → s.sheavesRun = true →
    (s.chan channel).pair = false → r = s.fanNow channel { s.chan channel with inBlock := 0 } → r' = r.2.endIntegration channel r.1 →
    exec (.loopUpdateApply channel) s =
      .next (((if r.2.boundReached channel r.1 then r'.2.updAt channel false r'.1 else r').2.updAt channel true
          (if r.2.boundReached channel r.1 then r'.2.updAt channel false r'.1 else r').1).2.setChan channel
        ((if r.2.boundReached channel r.1 then r'.2.updAt channel false r'.1 else r').2.updAt channel true
          (if r.2.boundReached channel r.1 then r'.2.updAt channel false r'.1 else r').1).1)) ∧
  (∀ (sheaf : Fin 64) (word : Fin 2048) (value : Word), exec (.codeRamWrite sheaf word value) s = .next (s.codeRamWrite sheaf word value.toNat)) ∧
  (exec .sheafDisable s = .next (((s.shf.chans.map Prod.fst).foldl (fun s c => s.chanStop c) s).put SHF_CTRL.enable 0)) ∧
  (∀ (channel : Fin 512) (t : State), s.chanState channel = 2 → (s.lockOf channel).lock = 5 →
    t = s.advanceTo ((s.lockOf channel).since + second) → t.chanState channel = 2 → (t.lockOf channel).lock = 5 → exec (.lostTimeout channel) s =
    .next ((t.chanStop channel).emit (evChannel 3 (t.get (SHF_CH_CODE.signal channel)) (t.get (SHF_CH_CODE.sat channel)) channel)))

/-- R267, R272: the arithmetic, logic and shift instructions of a DSP core that is ready for them: results and flags land
as the table of R267 says, with the moves of the same word. The clauses rest on the choices of log entry 33, which are
the model's own. -/
def Obligations.DspArithmeticCompletes : Prop := ∀ s : State, ∀ core : Fin 16,
  (∀ dd ds dt mv, DspReady s core mv false → exec (.add core dd ds dt mv) s =
      .next (s.issued core mv false (sumOut (s.dspPhys core dd) (s.dspReg core ds) (s.dspReg core dt) false))) ∧
  (∀ dd ds dt mv, DspReady s core mv false → exec (.sub core dd ds dt mv) s =
      .next (s.issued core mv false (diffOut (s.dspPhys core dd) (s.dspReg core ds) (s.dspReg core dt) false))) ∧
  (∀ dd ds dt mv, DspReady s core mv false → exec (.adds core dd ds dt mv) s =
      .next (s.issued core mv false (sumOut (s.dspPhys core dd) (s.dspReg core ds) (s.dspReg core dt) true))) ∧
  (∀ dd ds dt mv, DspReady s core mv false → exec (.subs core dd ds dt mv) s =
      .next (s.issued core mv false (diffOut (s.dspPhys core dd) (s.dspReg core ds) (s.dspReg core dt) true))) ∧
  (∀ dd ds dt mv, DspReady s core mv false → exec (.and core dd ds dt mv) s =
      .next (s.issued core mv false (logicOut (s.dspPhys core dd) (s.dspReg core ds &&& s.dspReg core dt)))) ∧
  (∀ dd ds dt mv, DspReady s core mv false → exec (.or core dd ds dt mv) s =
      .next (s.issued core mv false (logicOut (s.dspPhys core dd) (s.dspReg core ds ||| s.dspReg core dt)))) ∧
  (∀ dd ds dt mv, DspReady s core mv false → exec (.xor core dd ds dt mv) s =
      .next (s.issued core mv false (logicOut (s.dspPhys core dd) (s.dspReg core ds ^^^ s.dspReg core dt)))) ∧
  (∀ dd ds mv, DspReady s core mv false → exec (.not core dd ds mv) s =
      .next (s.issued core mv false (logicOut (s.dspPhys core dd) (2 ^ 20 - 1 - s.dspReg core ds)))) ∧
  (∀ dd ds mv, DspReady s core mv false → exec (.neg core dd ds mv) s =
      .next (s.issued core mv false (negOut (s.dspPhys core dd) (s.dspReg core ds)))) ∧
  (∀ dd ds mv, DspReady s core mv false → exec (.abs core dd ds mv) s =
      .next (s.issued core mv false (absOut (s.dspPhys core dd) (s.dspReg core ds)))) ∧
  (∀ ds dt mv, DspReady s core mv false → exec (.cmp core ds dt mv) s =
      .next (s.issued core mv false (cmpOut (s.dspReg core ds) (s.dspReg core dt)))) ∧
  (∀ dd ds imm mv, DspReady s core mv false → exec (.addi core dd ds imm mv) s =
      .next (s.issued core mv false (sumOut (s.dspPhys core dd) (s.dspReg core ds) (unsigned 20 (signed 6 imm.toNat)) false))) ∧
  (∀ dd ds k mv, DspReady s core mv false → exec (.asl core dd ds k mv) s =
      .next ((if k = 0 then s.nextFree else s).issued core mv false (aslOut (s.dspPhys core dd) (s.dspReg core ds) k s.freeVal))) ∧
  (∀ dd ds k mv, DspReady s core mv false → exec (.asr core dd ds k mv) s =
      .next ((if k = 0 then s.nextFree else s).issued core mv false (asrOut (s.dspPhys core dd) (s.dspReg core ds) k s.freeVal))) ∧
  (∀ dd ds k mv, DspReady s core mv false → exec (.lsr core dd ds k mv) s =
      .next ((if k = 0 then s.nextFree else s).issued core mv false (lsrOut (s.dspPhys core dd) (s.dspReg core ds) k s.freeVal))) ∧
  (∀ dd ds mv, DspReady s core mv false → exec (.nrm core dd ds mv) s =
      .next (s.issued core mv false (logicOut (s.dspPhys core dd) (signRun (s.dspReg core ds) (bit (s.dspReg core ds) 19) 19))))

/-- R256, R254, R255: the multiplications, into or onto an accumulator, with the third operand where it is asked for. The
clauses rest on the choices of log entry 33, which are the model's own. -/
def Obligations.DspMultipliesComplete : Prop := ∀ s : State, ∀ core : Fin 16,
  (∀ aa ds dt third mv, DspReady s core mv third → exec (.mul core aa ds dt third mv) s =
      .next (s.issued core mv third (accOut aa (signed 20 (s.dspReg core ds) * signed 20 (s.dspReg core dt))))) ∧
  (∀ aa ds dt third mv, DspReady s core mv third → exec (.mac core aa ds dt third mv) s =
      .next (s.issued core mv third (accOut aa (signed 48 (s.dspAcc core aa) + signed 20 (s.dspReg core ds) * signed 20 (s.dspReg core dt))))) ∧
  (∀ aa ds dt third mv, DspReady s core mv third → exec (.nmac core aa ds dt third mv) s =
      .next (s.issued core mv third (accOut aa (signed 48 (s.dspAcc core aa) - signed 20 (s.dspReg core ds) * signed 20 (s.dspReg core dt))))) ∧
  (∀ aa ds dt third mv, DspReady s core mv third → exec (.mulm core aa ds dt third mv) s =
      .next (s.issued core mv third (accOut aa (signed 20 (s.dspReg core ds) * (s.dspReg core dt : Int))))) ∧
  (∀ aa ds dt third mv, DspReady s core mv third → exec (.macm core aa ds dt third mv) s =
      .next (s.issued core mv third (accOut aa (signed 48 (s.dspAcc core aa) + signed 20 (s.dspReg core ds) * (s.dspReg core dt : Int))))) ∧
  (∀ aa ds dt third mv, DspReady s core mv third → exec (.macu core aa ds dt third mv) s =
      .next (s.issued core mv third (accOut aa (signed 48 (s.dspAcc core aa) + (s.dspReg core ds : Int) * (s.dspReg core dt : Int)))))

/-- R258, R267: the accumulator instructions. The clauses rest on the choices of log entry 33, which are the model's own. -/
def Obligations.DspAccumulatorsComplete : Prop := ∀ s : State, ∀ core : Fin 16,
  (∀ aa mv, DspReady s core mv false → exec (.clr core aa mv) s =
      .next (s.issued core mv false (accOut aa 0))) ∧
  (∀ aa ab mv, DspReady s core mv false → exec (.aadd core aa ab mv) s =
      .next (s.issued core mv false (accOut aa (signed 48 (s.dspAcc core aa) + signed 48 (s.dspAcc core ab))))) ∧
  (∀ aa ab mv, DspReady s core mv false → exec (.asub core aa ab mv) s =
      .next (s.issued core mv false (accOut aa (signed 48 (s.dspAcc core aa) - signed 48 (s.dspAcc core ab))))) ∧
  (∀ aa ab mv, DspReady s core mv false → exec (.amov core aa ab mv) s =
      .next (s.issued core mv false (accOut aa (signed 48 (s.dspAcc core ab))))) ∧
  (∀ aa ab mv, DspReady s core mv false → exec (.aneg core aa ab mv) s =
      .next (s.issued core mv false (accOut aa (-signed 48 (s.dspAcc core ab))))) ∧
  (∀ aa ab mv, DspReady s core mv false → exec (.aabs core aa ab mv) s =
      .next (s.issued core mv false (accOut aa ((signed 48 (s.dspAcc core ab)).natAbs : Nat)))) ∧
  (∀ aa ab k mv, DspReady s core mv false → exec (.ashl core aa ab k mv) s =
      .next (s.issued core mv false (accOut aa (signed 48 (s.dspAcc core ab) * 2 ^ k.val)))) ∧
  (∀ aa ab k mv, DspReady s core mv false → exec (.ashr core aa ab k mv) s =
      .next (s.issued core mv false (accOut aa (signed 48 (s.dspAcc core ab) / 2 ^ k.val)))) ∧
  (∀ dd ab k mv, DspReady s core mv false → exec (.ext core dd ab k mv) s =
      .next (s.issued core mv false (extOut (s.dspPhys core dd) (s.dspAcc core ab) k))) ∧
  (∀ aa ds k mv, DspReady s core mv false → exec (.dep core aa ds k mv) s =
      .next (s.issued core mv false (accOut aa (signed 20 (s.dspReg core ds) * 2 ^ min k.val 28)))) ∧
  (∀ aa ab mv, DspReady s core mv false → exec (.acmp core aa ab mv) s =
      .next (s.issued core mv false (acmpOut (s.dspAcc core aa) (s.dspAcc core ab))))

/-- R258, R259, R267: the instructions on complex words and pairs of words. The clauses rest on the choices of log entry
33, which are the model's own. -/
def Obligations.DspComplexWordsComplete : Prop := ∀ s : State, ∀ core : Fin 16,
  (∀ aa ds dt third mv, DspReady s core mv third → exec (.cmul core aa ds dt third mv) s =
      .next (s.issued core mv third (pairOut aa (cI (s.dspReg core ds) * cI (s.dspReg core dt) - cQ (s.dspReg core ds) * cQ (s.dspReg core dt)) (cI (s.dspReg core ds) * cQ (s.dspReg core dt) + cQ (s.dspReg core ds) * cI (s.dspReg core dt))))) ∧
  (∀ aa ds dt third mv, DspReady s core mv third → exec (.cmac core aa ds dt third mv) s =
      .next (s.issued core mv third (pairOut aa (signed 48 (s.dspAcc core (aa.val / 2 * 2)) + (cI (s.dspReg core ds) * cI (s.dspReg core dt) - cQ (s.dspReg core ds) * cQ (s.dspReg core dt))) (signed 48 (s.dspAcc core (aa.val / 2 * 2 + 1)) + (cI (s.dspReg core ds) * cQ (s.dspReg core dt) + cQ (s.dspReg core ds) * cI (s.dspReg core dt)))))) ∧
  (∀ aa ds dt third mv, DspReady s core mv third → exec (.cmacc core aa ds dt third mv) s =
      .next (s.issued core mv third (pairOut aa (signed 48 (s.dspAcc core (aa.val / 2 * 2)) + (cI (s.dspReg core ds) * cI (s.dspReg core dt) + cQ (s.dspReg core ds) * cQ (s.dspReg core dt))) (signed 48 (s.dspAcc core (aa.val / 2 * 2 + 1)) + (cQ (s.dspReg core ds) * cI (s.dspReg core dt) - cI (s.dspReg core ds) * cQ (s.dspReg core dt)))))) ∧
  (∀ aa ds dt third mv, DspReady s core mv third → exec (.cnmac core aa ds dt third mv) s =
      .next (s.issued core mv third (pairOut aa (signed 48 (s.dspAcc core (aa.val / 2 * 2)) - (cI (s.dspReg core ds) * cI (s.dspReg core dt) - cQ (s.dspReg core ds) * cQ (s.dspReg core dt))) (signed 48 (s.dspAcc core (aa.val / 2 * 2 + 1)) - (cI (s.dspReg core ds) * cQ (s.dspReg core dt) + cQ (s.dspReg core ds) * cI (s.dspReg core dt)))))) ∧
  (∀ dd ab k mv, DspReady s core mv false → exec (.cpk core dd ab k mv) s =
      .next (s.issued core mv false (cpkOut (s.dspPhys core dd) (s.dspAcc core (ab.val / 2 * 2)) (s.dspAcc core (ab.val / 2 * 2 + 1)) k))) ∧
  (∀ dd ds mv, DspReady s core mv false → exec (.cunp core dd ds mv) s =
      .next (s.issued core mv false ([(false, .d (s.dspPhys core (dd.val / 2 * 2)), unsigned 20 (cI (s.dspReg core ds))), (false, .d (s.dspPhys core (dd.val / 2 * 2 + 1)), unsigned 20 (cQ (s.dspReg core ds)))]))) ∧
  (∀ dd ds dt mv, DspReady s core mv false → exec (.cadd core dd ds dt mv) s =
      .next (s.issued core mv false (packOut (s.dspPhys core dd) (cI (s.dspReg core ds) + cI (s.dspReg core dt)) (cQ (s.dspReg core ds) + cQ (s.dspReg core dt))))) ∧
  (∀ dd ds dt mv, DspReady s core mv false → exec (.csub core dd ds dt mv) s =
      .next (s.issued core mv false (packOut (s.dspPhys core dd) (cI (s.dspReg core ds) - cI (s.dspReg core dt)) (cQ (s.dspReg core ds) - cQ (s.dspReg core dt))))) ∧
  (∀ dd ds mv, DspReady s core mv false → exec (.cconj core dd ds mv) s =
      .next (s.issued core mv false (packOut (s.dspPhys core dd) (cI (s.dspReg core ds)) (-cQ (s.dspReg core ds)))))

/-- R249, R260, R267: the searches, the transfers, the flag instructions and the fence. The clauses rest on the choices of
log entry 33, which are the model's own. -/
def Obligations.DspSearchesAndTransfersComplete : Prop := ∀ s : State, ∀ core : Fin 16,
  (∀ ds dt u mv, DspReady s core mv false → exec (.smaxd core ds dt u mv) s =
      .next (s.issued core mv false (searchOut false u (s.core core).file.mx.toNat (extend40 u (s.dspReg core ds)) (s.dspReg core dt)))) ∧
  (∀ ds dt u mv, DspReady s core mv false → exec (.smind core ds dt u mv) s =
      .next (s.issued core mv false (searchOut true u (s.core core).file.mx.toNat (extend40 u (s.dspReg core ds)) (s.dspReg core dt)))) ∧
  (∀ u mv, DspReady s core mv false → exec (.smax core u mv) s =
      .next (s.issued core mv false (searchX false u (s.core core).file.mx.toNat (s.searchLoad core mv u) (s.moveEa core mv.x.toNat)))) ∧
  (∀ u mv, DspReady s core mv false → exec (.smin core u mv) s =
      .next (s.issued core mv false (searchX true u (s.core core).file.mx.toNat (s.searchLoad core mv u) (s.moveEa core mv.x.toNat)))) ∧
  (∀ mode mv, DspReady s core mv false → exec (.sinit core mode mv) s =
      .next (s.issued core mv false ([(true, .mx, sinitMx mode), (true, .mi, 0xFFFFF)]))) ∧
  (∀ mv, DspReady s core mv false → exec (.mv core mv) s =
      .next (s.issued core mv false ([]))) ∧
  (∀ (dst src : Fin 128) mv, DspReady s core mv false → dspCodeOk dst = true → dspCodeOk src = true → exec (.mov core dst src mv) s =
      .next ((s.issued core mv false ([(false, dspTarget (s.core core).bank (s.core core).file.mapping dst, s.dspCode core mv src)])).modCore core fun c =>
        c.noted (encV 0x041 dst src mv) (s.lastOf core (encV 0x041 dst src mv) mv))) ∧
  (∀ mask mv, DspReady s core mv false → exec (.clrf core mask mv) s =
      .next (s.issued core mv false ([(false, .sr (mask.val * 2 ^ 5), 0)]))) ∧
  (∀ mv, DspReady s core mv false → exec (.ei core mv) s =
      .next (s.issued core mv false ([(false, .sr 0x200, 0x200)]))) ∧
  (∀ mv, DspReady s core mv false → exec (.di core mv) s =
      .next (s.issued core mv false ([(false, .sr 0x200, 0)]))) ∧
  (∀ mv, DspReady s core mv false → (s.core core).writes = [] → exec (.fence core mv) s =
      .next (s.issued core mv false ([]))) ∧
  (∀ (dst : Fin 128) (imm : Word20), DspReady s core noMoves false → dspCodeOk dst = true → exec (.ldi core dst imm) s =
      .next (s.issued core noMoves false [(false, dspTarget (s.core core).bank (s.core core).file.mapping dst, imm.toNat)]))

/-- R264, R267, R269 to R281: branches, calls, returns, loops, repeats, rotations and halts, taken and not taken. The
clauses rest on the choices of log entry 33, which are the model's own. -/
def Obligations.DspControlCompletes : Prop := ∀ s : State, ∀ core : Fin 16,
  (DspPlain s core → exec (.nop core) s =
      .next (s.stepped core id)) ∧
  (DspPlain s core → bit (s.core core).file.sr.toNat 8 = true → exec (.rot core) s =
      .next (s.stepped core fun c => { c with
        pend := [⟨c.slot, .rrb, (c.file.rrb.toNat + 7) % 8⟩] })) ∧
  (DspPlain s core → bit (s.core core).file.sr.toNat 8 = false → exec (.rot core) s =
      .next (s.stepped core id)) ∧
  (∀ (cc : Fin 16) target, DspPlain s core → cc ≤ 0xB → dspCond cc (s.core core).file.sr.toNat = true → exec (.br core cc target) s =
      .next (s.stepped core (·.jumping target))) ∧
  (∀ (cc : Fin 16) target, DspPlain s core → cc ≤ 0xB → dspCond cc (s.core core).file.sr.toNat = false → exec (.br core cc target) s =
      .next (s.stepped core ({ · with delay := 2, after := .goOn }))) ∧
  (∀ (cc : Fin 16) (k : Fin 8), DspPlain s core → cc ≤ 0xB → dspCond cc (s.core core).file.sr.toNat = true → exec (.brr core cc k) s =
      .next (s.stepped core (·.jumping ((vget 0 (s.core core).file.p k).toNat % 16384)))) ∧
  (∀ (cc : Fin 16) (k : Fin 8), DspPlain s core → cc ≤ 0xB → dspCond cc (s.core core).file.sr.toNat = false → exec (.brr core cc k) s =
      .next (s.stepped core ({ · with delay := 2, after := .goOn }))) ∧
  (∀ (cc : Fin 16) target, DspPlain s core → cc ≤ 0xB → dspCond cc (s.core core).file.sr.toNat = true → (s.core core).stack.length < 16 → exec (.call core cc target) s =
      .next (s.stepped core fun c =>
        { c.jumping target with stack := ((s.core core).pc + 3) % 16384 :: c.stack })) ∧
  (∀ (cc : Fin 16) target, DspPlain s core → cc ≤ 0xB → dspCond cc (s.core core).file.sr.toNat = false → exec (.call core cc target) s =
      .next (s.stepped core ({ · with delay := 2, after := .goOn }))) ∧
  (∀ (cc : Fin 16), DspPlain s core → cc ≤ 0xB → dspCond cc (s.core core).file.sr.toNat = true → (s.core core).stack ≠ [] → exec (.ret core cc) s =
      .next (s.stepped core fun c =>
        { c.jumping ((s.core core).stack.headD 0) with stack := c.stack.tail })) ∧
  (∀ (cc : Fin 16), DspPlain s core → cc ≤ 0xB → dspCond cc (s.core core).file.sr.toNat = false → exec (.ret core cc) s =
      .next (s.stepped core ({ · with delay := 2, after := .goOn }))) ∧
  (DspPlain s core → exec (.reti core) s =
      .next (s.stepped core fun c => { c with
        delay := 2, after := .reti (s.get (INT_RET.ret_pc core)), leaveAt := some ((s.core core).slot + 3)
        pend := [⟨(s.core core).slot + 3, .sr srWritable, s.get (INT_SAVED_SR.sr core)⟩] })) ∧
  (∀ (n : Fin 65536) (last : Fin 16384), DspPlain s core → n ≠ 0 → (s.core core).pc < last → exec (.loop core n last) s =
      .next (s.stepped core (·.startLevel ((s.core core).pc + 1) last n))) ∧
  (∀ (src : Fin 128) (last : Fin 16384), DspPlain s core → dspCodeOk src = true → (s.core core).pc < last → s.dspCode core noMoves src ≠ 0 → exec (.loopr core src last) s =
      .next (s.stepped core (·.startLevel ((s.core core).pc + 1) last (s.dspCode core noMoves src)))) ∧
  (∀ (src : Fin 128) (last : Fin 16384), DspPlain s core → dspCodeOk src = true → (s.core core).pc < last → s.dspCode core noMoves src = 0 → exec (.loopr core src last) s =
      .next (s.stepped core ({ · with skipTo := some ((last + 1) % 16384) }))) ∧
  (∀ (n1 : Fin 256), DspPlain s core → exec (.rpt core n1) s =
      .next (s.stepped core ({ · with rep := some (n1 + 1, (s.core core).pc) }))) ∧
  (∀ (src : Fin 128), DspPlain s core → dspCodeOk src = true → exec (.rptr core src) s =
      .next (s.stepped core ({ · with rep := some (min (s.dspCode core noMoves src) 256, (s.core core).pc) }))) ∧
  (DspPlain s core → exec (.halt core) s =
      .next (s.stepped core ({ · with delay := 2, after := .halt })))

/-- R225, R226, R249, R250, R282 to R301: windows answer, interrupts enter, watchdogs expire and are kicked, doorbells,
queues and feeds are read and written. The clauses rest on the choices of log entries 3, 33, 34, which are the model's
own. -/
def Obligations.CoreInterfaceCommandsComplete : Prop := ∀ s : State, s.mainLive = true →
  (∀ (core : Fin 16) (w t : Nat) (fl : DspFlight), s.coreClock = true → (s.core core).stall = some (.read w t, fl) →
    exec (.windowReadData core) s = .next (s.readArrives core w t fl)) ∧
  (∀ (core : Fin 16), ((s.writeCompletes core).core core).stall = none → exec (.windowWriteDone core) s = .next (s.writeCompletes core)) ∧
  (∀ (core : Fin 16) (fl : DspFlight), (s.writeCompletes core).coreClock = true →
    ((s.writeCompletes core).core core).stall = some (.fifthWrite, fl) →
    exec (.windowWriteDone core) s = .next ((s.writeCompletes core).dspResume core fl)) ∧
  (∀ (core : Fin 16) (fl : DspFlight), (s.writeCompletes core).coreClock = true → ((s.writeCompletes core).core core).stall = some (.fence, fl) ∨
    ((s.writeCompletes core).core core).stall = some (.readBehind, fl) → ((s.writeCompletes core).core core).writes = [] →
    exec (.windowWriteDone core) s = .next ((s.writeCompletes core).dspResume core fl)) ∧
  (∀ (core : Fin 16) (v : Nat), s.coreClock = true → (s.core core).running = true →
    (s.core core).pend = [] → (s.core core).held = false → (s.core core).stopping = false → s.dueVector core = some v →
    exec (.interruptEntry core) s = .next (s.enterVector core v)) ∧
  (∀ core : Fin 16, s.coreClock = true → (s.core core).running = true → s.get (WDG_CTRL.period_us core) ≠ 0 →
    ∀ t : State,
    t = s.toCycle ((s.core core).wdg + 450 * s.get (WDG_CTRL.period_us core)) →
    exec (.watchdogExpiry core) s = .next ((t.modCore core fun c => { c with wdg := t.cycleNow }).dspRaise core 5)) ∧
  (∀ core : Fin 16, s.coreClock = true → exec (.wdgKick core) s = .next (s.modCore core fun c => { c with wdg := s.cycleNow })) ∧
  (∀ (core : Fin 16) (value : Word20), exec (.doorbell core value) s = .next ((s.put (DOORBELL.value core) value.toNat).dspRaise core 9)) ∧
  (∀ (core : Fin 12) (oldest : List Nat) (rest : List (List Nat)), s.coreClock = true → (s.core core).dumps = oldest :: rest →
    exec (.dqDataRead core) s = .next ((s.modCore core fun c => if c.dumpWord = 25 then { c with dumps := rest, dumpWord := 0 }
      else { c with dumpWord := c.dumpWord + 1 }).showDumps core)) ∧
  (∀ (core : Fin 12) (value : Word20), s.coreClock = true → ((s.core core).updWords.length = 8 → exec (.updDataWrite core value) s =
      .next ((s.modCore core fun c => { c with updWords := [] }).modShf fun x =>
        { x with net := x.net ++ [(core.val, (s.core core).updWords ++ [value.toNat])] })) ∧
    ((s.core core).updWords.length ≠ 8 → exec (.updDataWrite core value) s =
      .next (s.modCore core fun c => { c with updWords := (s.core core).updWords ++ [value.toNat] }))) ∧
  (∀ (core : Fin 16) (value : Word20) (t : State), s.coreClock = true → t = s.modCore core (fun c => { c with notified := some value.toNat }) →
    (isOpenCore core = false → exec (.notify core value) s = .next t) ∧
    (isOpenCore core = true → s.host.linkUp = true → exec (.notify core value) s =
      .next (t.emit (evKernelEvent core (s.kernel core).id value.toNat))) ∧
    (isOpenCore core = true → s.host.linkUp = false → exec (.notify core value) s = .next (t.tally 4 1))) ∧
  (∀ core : Fin 16, isOpenCore core = true → s.coreClock = true → exec (.feedWidxRead core) s =
    .next ((s.put (FEED_WORD_LO.word_lo core) (s.core core).feedNext).put (FEED_WORD_HI.word_hi core) ((s.core core).feedNext / 2 ^ 20))) ∧
  (∀ core : Fin 16, isOpenCore core = true → s.coreClock = true → exec (.feedOverrunClear core) s =
    .next ((s.put (FEED_STATUS.overrun core) 0).put (FEED_STATUS.drops core) 0)) ∧
  (∀ (core : Fin 16) (window : Fin 4) (base : Fin 512) (en : Bool), exec (.winCfgWrite core window base en) s =
    .next ((s.put (WIN_CFG.base core window) base).put (WIN_CFG.en core window) (b2n en)))

/-- R295 to R300, R580, R607: kernels are loaded chunk by chunk, checked, started, stopped and unloaded; their status,
feeds, doorbells and triggers. The clauses rest on the choices of log entries 11, 42, 46, which are the model's own. -/
def Obligations.KernelRequestsComplete : Prop := ∀ s : State,
  (∀ (r : Req) (p : List Byte) (bay : Nat), s.takes 5 → 5 ≤ p.length → p.length ≤ 1004 → isOpenCore (byteAt p 0) = true → s.sec.kernelKey ≠ none → (s.kernel (byteAt p 0)).state = .empty → s.stagingBay = some bay → fieldAt p 1 3 = 0 → 24 ≤ (p.drop 4).length → exec (.kernelLoad r p) s =
      .next (s.takeChunk (s.open ⟨.C, 0x0A01, 5⟩ r) (byteAt p 0) ⟨bay, [], 0, none⟩ (p.drop 4))) ∧
  (∀ (r : Req) (p : List Byte) (l : KernelLoad), s.takes 5 → 5 ≤ p.length → p.length ≤ 1004 → isOpenCore (byteAt p 0) = true → s.sec.kernelKey ≠ none → (s.kernel (byteAt p 0)).state = .loading → (s.kernel (byteAt p 0)).load = some l → l.checking = none → fieldAt p 1 3 ≠ 0 → fieldAt p 1 3 = l.bytes.length → exec (.kernelLoad r p) s =
      .next (s.takeChunk (s.open ⟨.C, 0x0A01, 5⟩ r) (byteAt p 0) l (p.drop 4))) ∧
  (∀ (r : Req) (p : List Byte) (t : State), s.takes 5 → p.length = 4 → isOpenCore (byteAt p 0) = true → fieldAt p 1 3 = 0 → (s.kernel (byteAt p 0)).state = .loaded ∨ (s.kernel (byteAt p 0)).state = .stopped ∨ (s.kernel (byteAt p 0)).state = .faulted → t = (s.coreReset (byteAt p 0)).put (WDG_CTRL.period_us (byteAt p 0)) (s.kernel (byteAt p 0)).wdgUs → exec (.kernelStart r p) s =
      .next (((t.modCore (byteAt p 0) fun c => { c with
        running := true, pc := (s.kernel (byteAt p 0)).entry }).modKernel (byteAt p 0)
          fun k => { k with state := .running }).answer (s.open ⟨.A, 0x0A02, 5⟩ r) (ansOk []))) ∧
  (∀ (r : Req) (p : List Byte), s.takes 5 → p.length = 4 → isOpenCore (byteAt p 0) = true → fieldAt p 1 3 = 0 → (s.kernel (byteAt p 0)).state = .running → exec (.kernelStop r p) s =
      .next ((s.modCore (byteAt p 0) fun c => { c with stopping := true }).modKernel (byteAt p 0) fun k =>
        { k with stops := k.stops ++ [(s.open ⟨.A, 0x0A03, 5⟩ r)] })) ∧
  (∀ (core : Fin 4) (t : State), s.mainLive = true → ((s.kernel (12 + core)).stops ≠ [] ∨ (s.kernel (12 + core)).unloading = true) → s.frozen = false →
    ¬ ((s.core (12 + core)).running = true ∧ (s.core (12 + core)).held = true) → (s.core (12 + core)).writes = [] →
    t = (s.kernel (12 + core)).stops.foldl (fun s q => s.answer q (ansOk [])) ((s.holdCore (12 + core)).modKernel (12 + core) fun k =>
      { k with state := if k.state == .running then .stopped else k.state, stops := [] }) →
    exec (.kernelStopDone core) s = .next (if (s.kernel (12 + core)).unloading then t.unloadCore (12 + core) else t)) ∧
  (∀ (r : Req) (p : List Byte), s.takes 0 → p.length = 4 → isOpenCore (byteAt p 0) = true → fieldAt p 1 3 = 0 → (s.kernel (byteAt p 0)).state = .running → exec (.kernelUnload r p) s =
      .next (((s.modCore (byteAt p 0) fun c => { c with stopping := true }).accept (s.open ⟨.A, 0x0A04, 0⟩ r)).modKernel (byteAt p 0) fun k =>
        { k with unloading := true, unloads := k.unloads ++ [(s.open ⟨.A, 0x0A04, 0⟩ r)] })) ∧
  (∀ (r : Req) (p : List Byte), s.takes 0 → p.length = 4 → isOpenCore (byteAt p 0) = true → fieldAt p 1 3 = 0 → (s.kernel (byteAt p 0)).state = .loaded ∨ (s.kernel (byteAt p 0)).state = .stopped ∨ (s.kernel (byteAt p 0)).state = .faulted → exec (.kernelUnload r p) s =
      .next (((s.accept (s.open ⟨.A, 0x0A04, 0⟩ r)).modKernel (byteAt p 0) fun k => { k with unloads := k.unloads ++ [(s.open ⟨.A, 0x0A04, 0⟩ r)] }).unloadCore (byteAt p 0))) ∧
  (∀ (r : Req) (p : List Byte), s.takes 0 → p.length = 0 → exec (.kernelStatus r p) s =
      .next (s.answer (s.open ⟨.A, 0x0A05, 0⟩ r) (ansOk ([12, 13, 14, 15].flatMap fun n =>
        le 1 (s.kernel n).state.code ++ le 1 (s.get (INT_FAULT_PC.vector n)) ++ le 2 (s.get (INT_FAULT_PC.pc n)) ++ le 4 (s.kernel n).id)))) ∧
  (∀ (r : Req) (p : List Byte), s.takes 5 → p.length = 4 → isOpenCore (byteAt p 0) = true → byteAt p 1 < 12 → byteAt p 2 < 8 → byteAt p 3 = 1 → s.kernelLoaded (byteAt p 0) = true → exec (.kernelFeed r p) s =
      .next ((s.put (FEED_CFG.granted (byteAt p 0)) 0).answer (s.open ⟨.A, 0x0A06, 5⟩ r) (ansOk []))) ∧
  (∀ (r : Req) (p : List Byte) (u t : State), s.takes 5 → p.length = 4 → isOpenCore (byteAt p 0) = true → byteAt p 1 < 12 → byteAt p 2 < 8 → byteAt p 3 = 0 → s.kernelLoaded (byteAt p 0) = true → (s.kernel (byteAt p 0)).wantFeed = true → s.is (FEED_CFG.granted (byteAt p 0)) = false → u = s.runLane (byteAt p 1) → t = ((u.flag (FEED_CFG.granted (byteAt p 0))).put (FEED_CFG.lane (byteAt p 0)) (byteAt p 1)).put (FEED_CFG.q (byteAt p 0)) (byteAt p 2) → exec (.kernelFeed r p) s =
      .next (((t.put (FEED_STATUS.lane_stopped (byteAt p 0)) (b2n (!t.is (LANE_STATUS.running (byteAt p 1))))).modCore (byteAt p 0) fun c =>
        { c with feedNext := u.feedFrom (byteAt p 1) (byteAt p 2) }).answer (s.open ⟨.A, 0x0A06, 5⟩ r) (ansOk []))) ∧
  (∀ (r : Req) (p : List Byte), s.takes 5 → p.length = 8 → isOpenCore (byteAt p 0) = true → fieldAt p 1 3 = 0 → fieldAt p 4 4 < 0x100000 → (s.kernel (byteAt p 0)).state = .running → exec (.kernelDoorbell r p) s =
      .next (((s.put (DOORBELL.value (byteAt p 0)) (fieldAt p 4 4)).dspRaise (byteAt p 0) 9).answer (s.open ⟨.A, 0x0A07, 5⟩ r) (ansOk []))) ∧
  (∀ (r : Req) (p : List Byte), s.takes 5 → p.length = 4 → isOpenCore (byteAt p 0) = true → byteAt p 1 < 24 → byteAt p 2 < 2 → fieldAt p 3 1 = 0 → (s.kernel (byteAt p 0)).state ≠ .empty → (s.kernel (byteAt p 0)).state ≠ .loading → exec (.kernelTrig r p) s =
      .next (((s.put ⟨TRIG_ROUTE (byteAt p 1), (TRIG_ROUTE.dsp (byteAt p 1)).lo + byteAt p 0, 1⟩ (b2n (byteAt p 2 == 1))).modKernel (byteAt p 0) fun k =>
        { k with triggers := if byteAt p 2 == 1 then k.triggers ||| 2 ^ byteAt p 1 else k.triggers - (k.triggers &&& 2 ^ byteAt p 1) }).answer
          (s.open ⟨.A, 0x0A08, 5⟩ r) (ansOk []))) ∧
  (∀ (core : Fin 4) (l : KernelLoad) (q : OpenReq), s.mainLive = true → s.frozen = false → (s.kernel (12 + core)).load = some l → l.checking = some q →
    s.imageVerifies l.bytes = true → s.sec.secMin ≤ fieldAt l.bytes 12 4 → exec (.kernelLoadDone core) s =
      .next ((((s.copyImage (12 + core) l.bytes).modKernel (12 + core) fun k => { k with
        state := .loaded, load := none, id := fieldAt l.bytes 8 4, version := fieldAt l.bytes 12 4, entry := fieldAt l.bytes 22 2
        wdgUs := fieldAt l.bytes 26 2, maxBays := byteAt l.bytes 24, wantFeed := bit (byteAt l.bytes 6) 0 })).answer q (ansOk []))) ∧
  (∀ (core : Fin 4) (n l : Nat) (w : BitVec 23) (y : Word20) (u t x : State), s.mainLive = true → n = 12 + core → l = s.get (FEED_CFG.lane n) →
    s.is (FEED_CFG.granted n) = true → s.is (FEED_STATUS.lane_stopped n) = false → s.locked = true → s.is (LANE_STATUS.running l) = true →
    u = s.toLeft l (s.core n).feedNext → u.busWord l (u.core n).feedNext = some w →
    t = u.modCore n (fun c => { c with feedNext := (c.feedNext + 2 ^ u.get (FEED_CFG.q n)) % 2 ^ 40 }) →
    x = (if bit w.toNat 22 then t.flag (FEED_STATUS.ovl_seen n) else t) → y = (if bit w.toNat 20 || bit w.toNat 21 then 0 else w.setWidth 20) →
    (t.is (FEED_CFG.run n) = false → exec (.laneFeedWord core) s = .next t) ∧
    (t.is (FEED_CFG.run n) = true → (u.get (FEED_WIDX.widx n) + 1) % 2048 = x.get (FEED_RIDX.ridx n) → exec (.laneFeedWord core) s =
      .next ((x.bump (FEED_STATUS.drops n)).flag (FEED_STATUS.overrun n))) ∧
    (t.is (FEED_CFG.run n) = true → (u.get (FEED_WIDX.widx n) + 1) % 2048 ≠ x.get (FEED_RIDX.ridx n) → exec (.laneFeedWord core) s =
      .next (((x.modCore n fun c => { c with feedBuf := sparseSet (fun _ => 0) c.feedBuf (u.get (FEED_WIDX.widx n)) y }).put (FEED_WIDX.widx n)
          ((u.get (FEED_WIDX.widx n) + 1) % 2048)).queueRaise n)))

/-- R329 to R346, R570: snapshots are armed, captured and ended, committed, loaded, listed, fixed, scheduled, exported and
deleted. The clauses rest on the choices of log entries 3, 11, 12, 28, 34, which are the model's own. -/
def Obligations.SnapshotCommandsComplete : Prop := ∀ s : State,
  (∀ (r : Req) (p : List Byte), s.takes 5 → p.length = 20 → 1 ≤ byteAt p 0 → byteAt p 0 ≤ 12 → byteAt p 1 < 2 → 2 ≤ byteAt p 2 → byteAt p 2 ≤ 64 → byteAt p 3 < 24 ∨ byteAt p 3 = 0xFF → fieldAt p 5 3 = 0 → ((armLanes p).all fun l => decide (l < 12)) = true → s.snap.capture = none → ((armLanes p).all fun l => s.is (LANE_STATUS.running l)) = true → s.gleanerBays (byteAt p 4) (divUp (s.captureWords (armLanes p) (byteAt p 1) (byteAt p 2)) 131072) = true → exec (.snapArm r p) s =
      .next ((s.accept (s.open ⟨.A, 0x0301, 5⟩ r)).modSnap fun n => { n with
        capture := some { req := some (s.open ⟨.A, 0x0301, 5⟩ r), entry := 0xFF, lanes := armLanes p, quant := byteAt p 1, lengthMs := byteAt p 2, trigger := byteAt p 3,
                          firstBay := byteAt p 4, armedAt := s.ltu.now } })) ∧
  (∀ (c : Capture) (time : Time) (run : CaptureRun) (t : State), s.mainLive = true → s.snap.capture = some c → c.run = none → s.frozen = false →
    s.locked = true → s.onFab = true → s.captureAt c = some (time, t) →
    run = { tStart := time, cycle := t.clk.cycle, gainCode := t.get FE_GAIN.code, tUnc := t.uncNow
            lanes := c.lanes.map fun l => (t.laneD l, t.get (LANE_NCO_FREQ.inc l)) } →
    (t.is FE_GAIN.agc_settled = true →
      exec .captureStart s = .next (t.modSnap fun n => { n with capture := some { c with run := some run } }).showBgHeld) ∧
    (t.is FE_GAIN.agc_settled = false → exec .captureStart s =
      .next (((t.modSnap fun n => { n with capture := none }).showBgHeld).answerTo c.req (ansAborted 5)))) ∧
  (∀ (c : Capture) (r q : CaptureRun) (u v : State) (x : Captured × State) (bays : Nat) (header : List Byte), s.mainLive = true →
    s.snap.capture = some c → c.run = some r → u = (if r.ends.isSome then s else s.advanceTo (c.endTime r)).captureEnds →
    q = u.captureRun.getD r → x = (u.captureDrain c q).captured c q → bays = divUp (x.1.total c.quant) bayWords →
    header = snapHeader c q x.1 x.2.snap.nextId bays (x.2.freeVal % 2 ^ 32) → v = x.2.nextFree.storeCapture c x.1 header →
    exec .captureEnd s = .next (((((v.modSnap fun n => { n with
      nextId := (x.2.snap.nextId + 1) % 2 ^ 32
      commit := if c.req.isNone then some ⟨x.2.snap.nextId, c.firstBay, none⟩ else n.commit }).captureOver).snapStands
        ⟨x.2.snap.nextId, c.firstBay, bays⟩).emit (evSnapDone x.2.snap.nextId (fieldAt header 6 2) c.entry)).answerTo c.req
          (ansOk (le 4 x.2.snap.nextId ++ le 2 (fieldAt header 6 2) ++ le 2 0)))) ∧
  (∀ (c : SnapMove) (r : List Byte × State) (bytes : List Byte) (kept : List NvSnap × Nat) (t : State), s.mainLive = true →
    s.snap.commit = some c → r = s.compact c.firstBay → bytes = markHeld r.1 →
    kept = (if r.2.snap.policy = 0 then r.2.dropOldest (pagesOf bytes) (r.2.snap.nv.filter fun x => x.id != c.id).length
      (r.2.snap.nv.filter fun x => x.id != c.id) else (r.2.snap.nv.filter fun x => x.id != c.id, 0)) →
    pagesUsed kept.1 + pagesOf bytes ≤ 1024 →
    t = ((r.2.modSnap fun n => { n with commit := none }).modSnap fun n => { n with nv := kept.1 ++ [⟨c.id, bytes⟩] }).tally 11 kept.2 →
    exec .snapCommitDone s =
      .next ((t.snapWrites (t.get (BAY_OWNER.owner_id c.firstBay)) c.firstBay 1 (words32 1 (bytes.drop 4))).answerTo c.req (ansOk []))) ∧
  (∀ (m : SnapMove) (x : NvSnap) (hd : List Byte) (t : State), s.mainLive = true → s.snap.load = some m → s.nvSnap m.id = some x →
    hd = (x.bytes.take 38 ++ le 1 m.firstBay ++ x.bytes.drop 39).take 320 →
    t = ((((s.modSnap fun n => { n with load := none }).gleanerWrite m.firstBay 80
        (words32 (2 * fieldAt hd 36 2) (x.bytes.drop 320) ++ List.replicate (2048 - 2 * fieldAt hd 36 2) 0)).gleanerWrite m.firstBay 2128
        ((List.range (headerWords hd)).map fun i => fieldAt (x.bytes.drop (320 + 4 * (2 * fieldAt hd 36 2))) (5 * i) 5)).gleanerWrite m.firstBay 0
        (words32 80 hd)) →
    exec .snapLoadDone s = .next ((((t.dropSnaps m.firstBay (byteAt hd 39)).modSnap fun n => { n with
      inBays := n.inBays.filter (fun b => b.id != m.id) ++ [⟨m.id, m.firstBay, byteAt hd 39⟩] })).answerTo m.req (ansOk []))) ∧
  (∀ (r : Req) (p : List Byte), s.takes 0 → p.length = 0 → exec (.snapAbort r p) s =
      .next ((if s.capturing then s.cutCapture fun _ => true else s).answer (s.open ⟨.A, 0x0302, 0⟩ r) (ansOk []))) ∧
  (∀ (r : Req) (p : List Byte) (h : List Byte × State), s.takes 0 → p.length = 4 → s.holdsSnap (fieldAt p 0 4) = true → h = s.anyHeader (fieldAt p 0 4) → exec (.snapInfo r p) s =
      .next (h.2.answer (s.open ⟨.C, 0x0303, 0⟩ r) (ansOk h.1))) ∧
  (∀ (r : Req) (p : List Byte) (l : List Byte × State), s.takes 0 → p.length = 0 → l = s.listBays (s.snap.inBays.filter s.snapHeld) → exec (.snapList r p) s =
      .next (l.2.chunks (s.open ⟨.C, 0x0304, 0⟩ r) (l.1 ++ (s.snap.nv.map fun x =>
        le 4 x.id ++ le 1 1 ++ le 1 (b2n (s.exporting x.id)) ++ le 2 0 ++ le 8 (fieldAt x.bytes 16 8)).flatten))) ∧
  (∀ (r : Req) (p : List Byte) (x : NvSnap), s.takes 5 → p.length = 8 → byteAt p 4 < 64 → fieldAt p 5 3 = 0 → s.nvSnap (fieldAt p 0 4) = some x → s.moving = false → s.captureRun = none → s.gleanerBays (byteAt p 4) (divUp (2128 + headerWords x.bytes) bayWords) = true → exec (.snapLoad r p) s =
      .next (s.modSnap fun n => { n with load := some ⟨fieldAt p 0 4, byteAt p 4, some (s.open ⟨.B, 0x0305, 5⟩ r)⟩ })) ∧
  (∀ (r : Req) (p : List Byte) (b : BaySnap) (h : List Byte × State), s.takes 5 → p.length = 4 → s.baySnap (fieldAt p 0 4) = some b → h = s.headerAt b.firstBay → h.2.nav.orbit = true → fieldAt h.1 40 4 ≤ 2000000000 → h.2.thr.queued = none → h.2.snap.fixFor = none → exec (.snapFix r p) s =
      .next ((((List.range b.nBays).map (b.firstBay + ·)).foldl (fun s bay =>
        if s.get (BAY_OWNER.owner_id bay) = 0x08 then s else s.handTo bay 0x08 false)
        ((h.2.accept (s.open ⟨.A, 0x0306, 5⟩ r)).modSnap fun n => { n with fixFor := some (fieldAt p 0 4, (s.open ⟨.A, 0x0306, 5⟩ r)), fixPass := false })).fixReady)) ∧
  (∀ (r : Req) (p : List Byte), s.takes 4 → p.length = 20 → byteAt p 0 < 8 → byteAt p 1 = 1 → 1 ≤ byteAt p 2 → byteAt p 2 ≤ 14 → byteAt p 3 < 2 → 2 ≤ byteAt p 4 → byteAt p 4 ≤ 64 → fieldAt p 5 3 = 0 → 60 ≤ fieldAt p 8 4 → fieldAt p 8 4 ≤ 86400 → exec (.snapSchedule r p) s =
      .next ((s.modSnap fun n => { n with schedule := vmod (fun _ =>
        ⟨true, byteAt p 2, byteAt p 3, byteAt p 4, fieldAt p 8 4, fieldAt p 12 8⟩) n.schedule (byteAt p 0) }).answer (s.open ⟨.A, 0x0307, 4⟩ r) (ansOk []))) ∧
  (∀ (r : Req) (p : List Byte), s.takes 4 → p.length = 20 → byteAt p 0 < 8 → byteAt p 1 = 0 → fieldAt p 5 3 = 0 → exec (.snapSchedule r p) s =
      .next ((s.modSnap fun n => { n with schedule := vmod (fun _ =>
        ⟨false, byteAt p 2, byteAt p 3, byteAt p 4, fieldAt p 8 4, fieldAt p 12 8⟩) n.schedule (byteAt p 0) }).answer (s.open ⟨.A, 0x0307, 4⟩ r) (ansOk []))) ∧
  (∀ (r : Req) (p : List Byte), s.takes 0 → p.length = 4 → byteAt p 0 < 2 → fieldAt p 1 3 = 0 → exec (.snapPolicy r p) s =
      .next ((s.modSnap fun n => { n with policy := byteAt p 0 }).answer (s.open ⟨.A, 0x0308, 0⟩ r) (ansOk []))) ∧
  (∀ (r : Req) (p : List Byte) (b : BaySnap) (k : List Byte × State) (c : List Byte) (t : State), s.takes 0 → p.length = 4 → s.sec.exportKey ≠ none → s.baySnap (fieldAt p 0 4) = some b → s.snap.load = none → k = s.compact b.firstBay → c = k.2.container (fieldAt p 0 4) k.1 → t = ((k.2.modSnap fun x => { x with
        counter := (k.2.snap.counter + 1) % 2 ^ 64
        counterNv := if k.2.snap.counter % 65536 = 0 then (k.2.snap.counter + 65536) % 2 ^ 64 else x.counterNv }).accept (s.open ⟨.C, 0x0309, 0⟩ r)).chunks (s.open ⟨.C, 0x0309, 0⟩ r) c → exec (.snapExport r p) s =
      .next (t.modSnap fun x => { x with outgoing := if (vget {} t.host.rsps 3).held.isEmpty then none else some (fieldAt p 0 4, (s.open ⟨.C, 0x0309, 0⟩ r)) })) ∧
  (∀ (r : Req) (p : List Byte), s.takes 0 → p.length = 4 → s.holdsSnap (fieldAt p 0 4) = true → s.exporting (fieldAt p 0 4) = false → s.moving = false → exec (.snapDelete r p) s =
      .next ((s.modSnap fun n => { n with
        inBays := n.inBays.filter fun b => b.id != fieldAt p 0 4
        nv := n.nv.filter fun b => b.id != fieldAt p 0 4 }).answer (s.open ⟨.B, 0x030A, 0⟩ r) (ansOk []))) ∧
  (∀ (r : Req) (p : List Byte) (b : BaySnap) (h : List Byte × State), s.takes 5 → p.length = 4 → s.baySnap (fieldAt p 0 4) = some b → h = s.headerAt b.firstBay → h.2.moving = false → (h.2.snap.policy = 1 → pagesUsed (s.snap.nv.filter fun x => x.id != fieldAt p 0 4) + divUp (compactLength h.1) 4096 ≤ 1024) → exec (.snapCommit r p) s =
      .next (h.2.modSnap fun n => { n with commit := some ⟨fieldAt p 0 4, b.firstBay, some (s.open ⟨.B, 0x030B, 5⟩ r)⟩ }))

/-- R306, R317, R325, R504, R568: position reports, detector expiry, scheduled wakes, corrections and navigation aiding.
The clauses rest on the choices of log entries 3, 11, 34, which are the model's own. -/
def Obligations.NavigationCommandsComplete : Prop := ∀ s : State,
  (∀ (solution : NavSolution) (t : State), s.mainLive = true → 5 ≤ s.mode → s.frozen = false →
    ((s.nav.period = 0 ∨ s.reportsMade = false) → exec (.reportEpoch solution) s = .next (s.decoded solution)) ∧
    (s.nav.period ≠ 0 → s.reportsMade = true →
      t = (((((s.advanceTo s.nextReport).decoded solution).exclusions solution).detect solution s.nextReport).compareDeclared solution
        s.nextReport) → ∀ fix : Nat, fix = t.fixType solution s.nextReport →
        exec (.reportEpoch solution) s = .next (((t.trackFix solution s.nextReport).sendReport solution (match t.nav.declared with
          | some d => declaredBody d (t.solutionBody solution s.nextReport fix)
          | none => t.solutionBody solution s.nextReport fix)).modNav fun n => { n with
            lastTov := some s.nextReport
            lastFix := if fix == 0 then n.lastFix else some (solution.lat, solution.lon, solution.height) }))) ∧
  (∀ (detector : Fin 8) (t : State), s.mainLive = true → bit s.nav.detMask detector = true →
    t = (s.advanceTo (vget 0 s.nav.detLast detector + 10 * second)).modNav (fun n => { n with detMask := n.detMask - 2 ^ detector.val }) →
    exec (.detectorExpiry detector) s = .next (if t.nav.detMask = 0 then t.modNav fun n => { n with clearAt := t.ltu.now } else t)) ∧
  (∀ (entry : Fin 8), s.pwr.asleep = true → s.pwr.powered = false → s.mode = 3 → (vget {} s.snap.schedule entry).enable = true →
    exec (.scheduleWake entry) s = .next (((s.modSnap fun n => { n with parkedRun := some entry.val }).put PWR_WAKE.cause 6).modPwr
      fun p => { p with powered := true, asleep := false, capWake := true })) ∧
  (∀ rtc : BitVec 48, s.mainLive = true → s.pwr.capWake = true → s.captureRun = none → s.captureDue = false → s.snap.commit = none → s.pwr.bootAfter = false →
    exec (.parkedReturn rtc) s = .next ((((s.modSnap fun n => { n with parkedRun := none, capture := none }).writeRelation rtc.toNat
      (s.edgeAfter s.ltu.now)).nextFree).mainOff 3 true)) ∧
  (∀ (r : Req) (p : List Byte) (fs mine : List (Nat × List Byte)), s.takes 5 → 1 ≤ p.length → rtcmFrames p.length p = .frames fs → mine = fs.filter (fun f => isRtk f.1 || isSsr f.1) → exec (.corrections r p) s =
      .next ((mine.foldl State.takeFrame (s.tally 8 (fs.length - mine.length))).answer (s.open ⟨.B, 0x0208, 5⟩ r) (ansOk (le 2 mine.length ++ le 2 0)))) ∧
  (∀ (r : Req) (p : List Byte) (fs mine : List (Nat × List Byte)), s.takes 5 → 1 ≤ p.length → rtcmFrames p.length p = .frames fs → mine = fs.filter (fun f => isOrbit f.1) → exec (.navAiding r p) s =
      .next ((mine.foldl (fun s _ => s.modNav fun n => { n with orbit := true }) (s.tally 8 (fs.length - mine.length))).answer (s.open ⟨.B, 0x0207, 5⟩ r)
        (ansOk (le 2 mine.length ++ le 2 0))))

/-- R353 to R369, R392: slews, steps, time solutions, losses and holds of a source, leap seconds, and the RTC. The clauses
rest on the choices of log entries 3, 14, 34, which are the model's own. -/
def Obligations.LocalClockCommandsComplete : Prop := ∀ s : State, s.mainLive = true →
  (exec .timeNowRead s = .next (s.putTimeRec TIME_NOW_SEC_LO.sec_lo TIME_NOW_SEC_HI.sec_hi TIME_NOW_NS.ns TIME_NOW_FRAC.frac s.clockNow)) ∧
  (∀ value : Word, exec (.slewWrite value) s = .next (s.setSlew value.toInt)) ∧
  (∀ cap : Nat, s.is TIME_STATUS.slewing = true → s.onFab = true → s.net.parts = 0 → cap = max 1 s.slewCap →
    exec .slewDone s = .next (s.passMarkers (1 + (mag (s.ltu.slewRem - s.ltu.slewNow) + cap - 1) / cap))) ∧
  (exec .stepArm s = .next (s.armStep (s.getInt TIME_STEP_SEC.step_sec * second + s.get TIME_STEP_NS.step_ns * nanosecond))) ∧
  (exec .stepCancel s = .next (((s.put TIME_STEP_CTRL.pending 0).put TIME_STATUS.step_pending 0).modLtu fun u => { u with step := none })) ∧
  (∀ (p : StepArmed) (t u v : State) (new : Time), s.ltu.step = some p → s.onFab = true → s.frozen = false →
    t = s.passMarkers (s.intervalsTo (p.second * second)) → new = addTime t.ltu.now p.delta →
    u = ((t.cutCapture fun _ => true).cancelStep.modLtu fun u => { u with
      now := new, markT := new, slewRem := 0, slewNow := 0
      resume := some (max (p.second * second) (addTime (p.second * second) p.delta))
      uncAt := addTime u.uncAt p.delta
      tp := vmap (fun t => { t with stepped := true, wrote := none }) u.tp }).recordMark →
    v = (((u.put TIME_SLEW.offset 0).put TIME_STATUS.slewing 0).flag TIME_EVENT.step_done).passedTriggers t.ltu.now new →
    exec .stepApply s = .next ((v.emit (evStep (p.delta / (nanosecond : Int) / 1000000000)
      (p.delta / (nanosecond : Int) % 1000000000).toNat v.ltu.now)).discontinuity 1)) ∧
  (∀ (solution : TimeSolution) (t0 t u v : State) (good : Bool), s.onFab = true → s.frozen = false → solution.utc = none →
    good = (decide (solution.unc ≤ 100) && ((decide (1 ≤ solution.fixType.val) && decide (solution.fixType.val ≤ 7)) || solution.fixType.val == 9)) →
    t0 = s.modLtu (fun u => { u with solAt := u.now }) →
    (s.is TIME_STATUS.spoof_hold = true → exec (.timeSolution solution) s = .next t0) ∧
    (s.is TIME_STATUS.spoof_hold = false → t = (t0.modLtu fun u => { u with
        qual := if good then min 15 (t0.ltu.qual + 1) else 0
        gnss := u.gnss || decide (max 1 (t0.get TIME_SRC_CFG.qual_count) ≤ if good then min 15 (t0.ltu.qual + 1) else 0) }).chooseSource →
      (t.get TIME_STATUS.source ≠ 0 → exec (.timeSolution solution) s = .next t) ∧
      (t.get TIME_STATUS.source = 0 → v = ((t.modLtu fun u => { u with waits := false }).showDegraded).setUnc solution.unc →
        u = (if t0.get TIME_STATUS.source = 0 ∧ v.ltu.reenter = false then v.steer else v.enterSource solution.error) →
        exec (.timeSolution solution) s = .next (u.hstateSave u.stw.controlOn u.free)))) ∧
  (∀ t : State, s.ltu.gnss = true → t = s.advanceTo (s.ltu.solAt + s.get TIME_SRC_CFG.loss_timeout * 100000000 * nanosecond) →
    exec .gnssLossTimeout s = .next (t.modLtu fun u => { u with gnss := false, qual := 0 }).chooseSource) ∧
  (∀ t : State, s.nav.detMask = 0 → s.is TIME_STATUS.spoof_hold = true →
    t = s.advanceTo (s.nav.clearAt + s.get TIME_SRC_CFG.spoof_hold * second) →
    exec .spoofHoldEnd s = .next (t.put TIME_STATUS.spoof_hold 0).chooseSource) ∧
  (∀ (leap : Nat) (offset : Int) (t : State), s.get TIME_UTC.leap = leap → leap ≠ 0 →
    offset = s.getInt TIME_UTC.offset + (if leap = 1 then 1 else -1) →
    t = s.advanceTo (addTime (monthDay (s.get TIME_UTC.leap_month + 1) * 86400 * second) (offset * (second : Nat))) →
    exec .leapApply s = .next ((t.putInt TIME_UTC.offset offset).put TIME_UTC.leap 0)) ∧
  (∀ (rtc : BitVec 48) (t : Time), s.frozen = false → s.get TIME_STATUS.tick_src ≠ 2 → t = s.edgeAfter (gridFrom 0 second s.ltu.now) →
    exec (.timeRelationWrite rtc) s = .next ((s.nextFree.advanceTo t).writeRelation rtc.toNat t)) ∧
  (∀ rtc : BitVec 48, s.frozen = false → s.get TIME_STATUS.tick_src = 2 → exec (.timeRelationWrite rtc) s =
    .next (s.writeRelation rtc.toNat s.ltu.now)) ∧
  (∀ count : BitVec 30, s.is CLK_STATUS.locked = true → exec (.rtcCalDone count) s =
    .next ((s.put TIME_RTC_CAL.count count.toNat).flag TIME_RTC_CAL.valid)) ∧
  (∀ (rtc : BitVec 48) (u v : State) (t : Time), s.get TIME_STATUS.tick_src = 2 → s.is CLK_STATUS.ref_present = true →
    u = s.rtcTo (max rtc.toNat (s.rtcCount + 1)) → t = u.ltu.now + u.incRef / 2 →
    v = (u.modLtu fun x => { x with now := t, markT := t, refT := t, te := t }).tickFrom 1 →
    exec (.rtcHandover rtc) s = .next (if v.ltu.uncBase = 0xFFFFFFFF then v else v.setUnc (v.uncNow + 13)).chooseSource)

/-- R371 to R383, R608: triggers, captures, time pulses and wide writes. The clauses rest on the choices of log entry 34,
which are the model's own. -/
def Obligations.TriggerAndCaptureCommandsComplete : Prop := ∀ s : State, s.mainLive = true →
  (∀ trigger : Fin 32, s.is (TRIG_CFG.en trigger) = false → exec (.triggerEnable trigger) s = .next (s.armTrigger trigger)) ∧
  (∀ (j : Fin 32) (t u : State), s.is (TRIG_CFG.en j) = true → s.frozen = false → (s.trigger j).late = false → s.onFab = true →
    (s.trigger j).per = 0 → t = s.advanceTo (s.trigTime j) → (t.trigger j).per = 0 →
    u = ((((t.flag (TRIG_CFG.fired j)).modTrig j fun x => { x with late := false }).put (TRIG_T_NS.late j) 0).put (TRIG_CFG.en j) 0).fireTargets j
      (s.trigTime j) false →
    exec (.triggerFire j) s = .next (u.fireOutput j (s.trigTime j))) ∧
  (∀ (j : Fin 32) (t u : State), s.is (TRIG_CFG.en j) = true → s.frozen = false → (s.trigger j).late = false → s.onFab = true →
    t = s.advanceTo (s.trigTime j) → (t.trigger j).per ≠ 0 →
    u = (((((t.flag (TRIG_CFG.fired j)).modTrig j fun x => { x with late := false }).put (TRIG_T_NS.late j) 0).setTrigTime j
      (s.trigTime j + (t.trigger j).per * nanosecond)).bumpBy (TRIG_ROUTE.skipped j) 0).fireTargets j (s.trigTime j) false →
    exec (.triggerFire j) s = .next (u.fireOutput j (s.trigTime j))) ∧
  (∀ (j : Fin 32) (w : Nat) (t : State), (s.trigger j).active = true → w = max 1 (s.get (TRIG_CFG.width_ticks j)) * s.incNow →
    t = (match (s.trigger j).lead with
      | some e => s.advanceTo (e.tick + w)
      | none => s) → exec (.trigOutEnd j) s = .next (t.modTrig j fun x => { x with
      active := false, trail := x.lead.map fun e => ⟨e.tick + w, e.tap⟩ }).showPins) ∧
  (∀ (i : Fin 16) (rising close : Bool) (tick : Fin 375) (tap : Fin 128), s.is (CAP_CFG.en i) = true → s.frozen = false →
    s.get (CAP_CFG.src i) < 0x15 → s.capSelects i rising = true →
    (close = true → exec (.captureEdge i rising tick tap close) s = .next (s.bump (CAP_STATUS.missed i))) ∧
    (close = false → ∀ t : State, t = s.advanceTo (if s.onFab then s.ltu.markT + tick.val * s.incNow else s.ltu.now + 1) →
      exec (.captureEdge i rising tick tap close) s = .next (t.capture i rising (t.capTime tick tap)))) ∧
  (∀ i : Fin 16, exec (.capResultRead i) s = .next ((s.put (CAP_STATUS.valid i) 0).modLtu fun u => { u with capSq := vmod (fun _ => false) u.capSq i })) ∧
  (∀ i : Fin 16, exec (.capOverrunClear i) s = .next ((s.put (CAP_STATUS.overrun i) 0).put (CAP_STATUS.missed i) 0)) ∧
  (∀ (k : Fin 4) (t : Time), s.is (TP_CFG.en k) = true → s.frozen = false → t = s.nextInstant k →
    exec (.tpDecision k) s = .next ((s.advanceTo (min t (addTime t (-(s.cable k))))).tpDecide k t)) ∧
  (∀ (k : Fin 4) (r : TpRecord) (l : List TpRecord) (u : State), (s.pulse k).shown = r :: l → (s.pulse k).high = false → s.onFab = true →
    u = s.advanceTo (addTime r.label (-(s.cable k))) →
    exec (.tpLeadingEdge k) s = .next (u.modPulse k fun p => { p with high := true, lead := some (u.place (addTime r.label (-(s.cable k)))) })) ∧
  (∀ (k : Fin 4) (r : TpRecord) (l : List TpRecord) (u : State) (t : Time), (s.pulse k).shown = r :: l → (s.pulse k).high = true → s.onFab = true →
    t = addTime (addTime r.label (-(s.cable k))) ((s.pulse k).width * nanosecond : Nat) → u = s.advanceTo t →
    exec (.tpTrailingEdge k) s = .next ((u.modPulse k fun p => { p with
      trail := some (u.place t), shown := p.shown.drop 1, high := false }).tpComplete k r)) ∧
  (∀ (w : Wide) (low : Word), exec (.wideWrite w low) s = .next (s.wideWrite w low.toNat))

/-- R610: the RTC reaches the alarm while it is enabled; whichever RTC count the edge brings. The clauses rest on the
choices of log entry 34, which are the model's own. -/
def Obligations.RtcAlarmFires : Prop := ∀ (s u : State) (rtc : BitVec 48),
  u = (if s.pwr.aon then s.rtcTo rtc.toNat else s) → u.is TIME_RTC_ALARM_HI.en = true →
    s.get TIME_RTC_ALARM_LO.alarm_lo + s.get TIME_RTC_ALARM_HI.alarm_hi * 2 ^ 32 ≤ u.rtcCount →
    exec (.rtcAlarm rtc) s = .next (if (u.put TIME_RTC_ALARM_HI.en 0).is PWR_CFG.wake_rtc then (u.put TIME_RTC_ALARM_HI.en 0).wake 1 0
      else u.put TIME_RTC_ALARM_HI.en 0)

/-- R369, R379, R571: the requests of the local-time group. The clauses rest on the choices of log entry 35, which are the
model's own. -/
def Obligations.TimeRequestsComplete : Prop := ∀ s : State,
  (∀ (r : Req) (p : List Byte), s.takes 0 → p.length = 0 → exec (.timeGet r p) s =
      .next ((s.answer (s.open ⟨.H, 0x0401, 0⟩ r) (ansOk (timeBytes s.clockNow ++ le 4 s.uncNow ++ le 2 (s.get TIME_UTC.offset) ++ le 1 (s.get TIME_UTC.leap) ++
        le 1 (s.get TIME_STATUS.source) ++ le 1 (s.get TIME_STATUS.degraded + 2 * s.get TIME_STATUS.slewing + 4 * s.get TIME_STATUS.step_pending +
          8 * s.get TIME_STATUS.spoof_hold + 16 * s.get TIME_UTC.valid) ++ le 1 (s.get TIME_STATUS.tick_src) ++ le 2 (s.get TIME_UTC.leap_month)))).commitH (s.open ⟨.H, 0x0401, 0⟩ r).key)) ∧
  (∀ (r : Req) (p : List Byte) (u v : State), s.takes 0 → p.length = 12 → byteAt p 5 < 4 → fieldAt p 10 2 = 0 → u = ((s.put TIME_CTRL.step_threshold (clampNat 1 1048575 (fieldAt p 0 4))).put TIME_CTRL.slew_max (max 1 (byteAt p 4))) → v = ((((u.put TIME_SRC_CFG.gnss_en (byteAt p 5)).put TIME_SRC_CFG.ptp_en (byteAt p 5 / 2)).put TIME_SRC_CFG.loss_timeout (max 1 (byteAt p 6))).put TIME_SRC_CFG.qual_count (clampNat 1 15 (byteAt p 7))) → exec (.timeCfg r p) s =
      .next (((v.put TIME_SRC_CFG.rtc_drift (max 1 (byteAt p 8))).put TIME_SRC_CFG.spoof_hold (max 1 (byteAt p 9))).chooseSource.answer (s.open ⟨.A, 0x0402, 0⟩ r) (ansOk []))) ∧
  (∀ (r : Req) (p : List Byte), s.takes 0 → p.length = 8 → byteAt p 2 < 3 → fieldAt p 3 1 = 0 → (byteAt p 2 = 0 ∨ (fieldAt p 4 2 ≤ 8191 ∧ s.utcMonth (sfieldAt p 0 2) ≤ fieldAt p 4 2)) → fieldAt p 6 2 = 0 → exec (.utcSet r p) s =
      .next ((s.takeUtc 1 (sfieldAt p 0 2) (byteAt p 2) (fieldAt p 4 2)).answer (s.open ⟨.A, 0x0403, 0⟩ r) (ansOk []))) ∧
  (∀ (r : Req) (p : List Byte) (u v : State), s.takes 4 → p.length = 28 → byteAt p 0 < 24 → byteAt p 1 < 32 → fieldAt p 12 4 < 1000000000 → okPeriod (fieldAt p 20 8) = true → s.trigServes (byteAt p 0) = false → u = ((((s.put (TRIG_CFG.en (byteAt p 0)) 0).put (TRIG_ROUTE.host (byteAt p 0)) (byteAt p 1)).put (TRIG_CFG.out_en (byteAt p 0)) (byteAt p 1 / 2)).put (TRIG_CFG.out_pin (byteAt p 0)) (byteAt p 1 / 4)).put (TRIG_CFG.out_low (byteAt p 0)) (byteAt p 1 / 16) → v = ((((u.put (TRIG_CFG.width_ticks (byteAt p 0)) (max 1 (fieldAt p 2 2))).setTrigTime (byteAt p 0) (timeAt p 4)).put (TRIG_PER_LO.per_lo (byteAt p 0)) (fieldAt p 20 8)).put (TRIG_PER_HI.per_hi (byteAt p 0)) (fieldAt p 20 8 / 2 ^ 32)) → exec (.trigArm r p) s =
      .next ((((v.modTrig (byteAt p 0) fun x => { x with per := fieldAt p 20 8 }).armTrigger (byteAt p 0)).answer (s.open ⟨.H, 0x0404, 4⟩ r) (ansOk [])).commitH (s.open ⟨.H, 0x0404, 4⟩ r).key)) ∧
  (∀ (r : Req) (p : List Byte), s.takes 4 → p.length = 4 → byteAt p 0 < 24 → fieldAt p 1 3 = 0 → s.trigServes (byteAt p 0) = false → exec (.trigCancel r p) s =
      .next ((((s.put (TRIG_CFG.en (byteAt p 0)) 0).modTrig (byteAt p 0) fun x => { x with late := false }).answer (s.open ⟨.H, 0x0405, 4⟩ r) (ansOk [])).commitH (s.open ⟨.H, 0x0405, 4⟩ r).key)) ∧
  (∀ (r : Req) (p : List Byte) (i : Nat) (u v x : State), s.takes 4 → p.length = 36 → byteAt p 0 < 16 → byteAt p 1 < 0x15 → byteAt p 2 < 4 → byteAt p 3 < 16 → fieldAt p 12 4 < 1000000000 → fieldAt p 28 4 < 1000000000 → i = byteAt p 0 → u = (((s.put (CAP_CFG.src i) (byteAt p 1)).put (CAP_CFG.edge i) (max 1 (byteAt p 2))).put (CAP_CFG.en i) (byteAt p 3)) → v = ((u.put (CAP_CFG.win_en i) (byteAt p 3 / 2)).put (CAP_CFG.host_irq i) (byteAt p 3 / 4)).put (CAP_CFG.host i) (byteAt p 3 / 8) → x = v.putTimeRec (CAP_OPEN_SEC_LO.sec_lo i) (CAP_OPEN_SEC_HI.sec_hi i) (CAP_OPEN_NS.ns i) (CAP_OPEN_FRAC.frac i) (timeAt p 4) → exec (.capCfg r p) s =
      .next (((x.putTimeRec (CAP_CLOSE_SEC_LO.sec_lo i) (CAP_CLOSE_SEC_HI.sec_hi i) (CAP_CLOSE_NS.ns i) (CAP_CLOSE_FRAC.frac i) (timeAt p 20)).modLtu
        fun u => { u with capSq := vmod (fun _ => false) u.capSq i }).answer (s.open ⟨.A, 0x0406, 4⟩ r) (ansOk []))) ∧
  (∀ (r : Req) (p : List Byte) (i : Nat), s.takes 4 → p.length = 4 → byteAt p 0 < 16 → fieldAt p 1 3 = 0 → i = byteAt p 0 → exec (.capRead r p) s =
      .next (((s.capRead i).answer (s.open ⟨.H, 0x0407, 4⟩ r) (ansOk (le 1 (s.get (CAP_STATUS.valid i)) ++ le 1 (s.get (CAP_STATUS.rising i)) ++
        le 1 (s.get (CAP_STATUS.missed i)) ++ le 1 (s.get (CAP_STATUS.outside i)) ++
        le 4 (s.get (CAP_RESULT_SEC_LO.sec_lo i)) ++ le 4 (s.get (CAP_RESULT_SEC_HI.sec_hi i)) ++
        le 4 (s.get (CAP_RESULT_NS.ns i) + s.get (CAP_RESULT_NS.coarse i) * 2 ^ 30) ++ le 4 (s.get (CAP_RESULT_FRAC.frac i))))).commitH (s.open ⟨.H, 0x0407, 4⟩ r).key)) ∧
  (∀ (r : Req) (p : List Byte) (k f : Nat) (u v : State), s.takes 4 → p.length = 36 → byteAt p 0 < 4 → byteAt p 1 < 128 → fieldAt p 2 2 = 0 → fieldAt p 17 3 = 0 → k = byteAt p 0 → f = byteAt p 1 → u = ((((s.put (TP_CFG.gate k) (min 2 (f / 2 % 4))).put (TP_CFG.active_low k) (f / 8)).put (TP_CFG.utc_align k) (f / 16)).put (TP_CFG.event k) (f / 32)).put (TP_CFG.status_evt k) (f / 64) → v = ((u.setTpPeriod k (fieldAt p 4 8)).setTpWidth k (fieldAt p 12 5)).setTpPhase k (fieldAt p 20 8) → exec (.tpCfg r p) s =
      .next ((((v.put (TP_CABLE.cable k) (fieldAt p 28 4)).put (TP_UNC_LIMIT.limit k) (fieldAt p 32 4)).setTpEnable k (bit f 0)).answer (s.open ⟨.A, 0x0408, 4⟩ r) (ansOk [])))

/-- R395 to R409: messages received and sent, the foreign masters, the best-master decision, timeouts and slews of the
port. The clauses rest on the choices of log entries 16, 34, which are the model's own. -/
def Obligations.NetworkPortCommandsComplete : Prop := ∀ s : State, s.mainLive = true →
  (s.netRuns = true → exec .bmca s = .next s.bmca) ∧
  (∀ (mbit : Fin 3) (t u : State), mbit ≠ 0 → s.mode ≠ 4 → s.is NET_STATUS.link = false →
    t = ((s.flag NET_EVENT.link_change).put NET_STATUS.link 1).put NET_STATUS.speed (b2n (mbit.val == 2)) →
    u = (t.put NET_LAT.tx_lat (if b2n (mbit.val == 2) = 1 then s.net.lat1000 else s.net.lat100).1).put NET_LAT.rx_lat
      (if b2n (mbit.val == 2) = 1 then s.net.lat1000 else s.net.lat100).2 →
    exec (.linkChange true mbit true) s = .next u.netRestart) ∧
  (∀ (mbit : Fin 3) (full : Bool), s.mode ≠ 4 → s.is NET_STATUS.link = true →
    exec (.linkChange false mbit full) s = .next ((s.flag NET_EVENT.link_change).put NET_STATUS.link 0).netRestart) ∧
  (s.netRuns = true → exec .frameRx s = .next s.netDiscard) ∧
  (∀ (msg : Announce) (k : Nat), s.netRuns = true → msg.domain.toNat = s.netDomain → firstThat (fun k => match vget none s.net.masters k with
      | some m => m.identity == msg.identity.toNat && m.port == msg.port.toNat
      | none => false) (List.range 8) = none → firstThat (fun k => (vget none s.net.masters k).isNone) (List.range 8) = some k →
    exec (.announceRx msg) s = .next (s.modNet fun n => { n with
      masters := vmod (fun _ => some (announced msg s.ltu.now none)) n.masters k }).showFms) ∧
  (∀ (msg : Announce), s.netRuns = true → msg.domain.toNat = s.netDomain → firstThat (fun k => match vget none s.net.masters k with
      | some m => m.identity == msg.identity.toNat && m.port == msg.port.toNat
      | none => false) (List.range 8) = none → firstThat (fun k => (vget none s.net.masters k).isNone) (List.range 8) = none →
    exec (.announceRx msg) s = .next (s.fmRefuse msg)) ∧
  (∀ (entry : Fin 8) (m : Master) (t u : State), s.netRuns = true → vget none s.net.masters entry = some m →
    t = s.advanceTo (m.last + s.get NET_INTERVALS.announce_timeout * s.announceLen) →
    u = t.modNet (fun n => { n with masters := vmod (fun _ => none) n.masters entry }) → exec (.announceTimeout entry) s =
    .next (if t.net.sel = some entry.val then ((u.selectMaster none).portState 4).showFms else u.showFms)) ∧
  (∀ (msg : EventMsg) (t : State), s.netRuns = true → msg.domain.toNat = s.netDomain → s.fromMaster msg.identity.toNat = true → s.onFab = true → t = s.advanceTo msg.ball →
    exec (.syncRx msg) s = .next (if msg.twoStep then t.modNet fun n => { n with
      sync := some (msg.identity.toNat, msg.seq.toNat, (t.rxTime msg.ball - corrUnits msg.corr).toNat, 0) }
      else t.syncDone msg.origin (t.rxTime msg.ball - corrUnits msg.corr))) ∧
  (∀ (msg : GeneralMsg) (id seq : Nat) (t2 : Nat) (x : Int), s.netRuns = true → msg.domain.toNat = s.netDomain → s.net.sync = some (id, seq, t2, x) → id = msg.identity.toNat → seq = msg.seq.toNat →
    s.fromMaster id = true → exec (.followUpRx msg) s =
    .next ((s.modNet fun n => { n with sync := none }).syncDone ((msg.time : Int) + corrUnits msg.corr) t2)) ∧
  (∀ (msg : EventMsg) (t : State), s.netRuns = true → msg.domain.toNat = s.netDomain → s.isMaster = true → s.gptp = false → s.onFab = true → t = s.advanceTo msg.ball →
    exec (.delayReqRx msg) s = .next (t.netSend 0x9 msg.seq.toNat (s.rxTime msg.ball).toNat false none)) ∧
  (∀ (msg : GeneralMsg) (t3 : Nat), s.netRuns = true → msg.domain.toNat = s.netDomain → s.net.delayReq = some t3 → s.fromMaster msg.identity.toNat = true →
    (msg.seq.toNat + 1) % 65536 = s.net.seqReq → s.gptp = false → exec (.delayRespRx msg) s =
    .next (s.modNet fun n => { n with delayReq := none, exchange := some (t3, (msg.time : Int) - corrUnits msg.corr) })) ∧
  (∀ (msg : EventMsg) (t u : State), s.netSends = true → s.gptp = true → msg.domain.toNat = s.netDomain → t = s.advanceTo msg.ball →
    u = t.netSend 0x3 msg.seq.toNat (t.rxTime msg.ball).toNat (!t.is NET_CTRL.one_step) none → exec (.pdelayReqRx msg) s =
    .next (if t.is NET_CTRL.one_step then (u.modNet fun n => { n with tx := n.tx.map fun m => { m with corr := t.freeVal % 2 ^ 48 } }).nextFree
      else u)) ∧
  (∀ (msg : EventMsg) (t1 : Nat) (t : State), s.netRuns = true → msg.domain.toNat = s.netDomain → s.gptp = true → s.net.pdReq = some t1 → s.onFab = true →
    (msg.seq.toNat + 1) % 65536 = s.net.seqPd → t = s.advanceTo msg.ball → exec (.pdelayRespRx msg) s = .next (if msg.twoStep then
      t.modNet fun n => { n with pdResp := some ((msg.origin : Int) + corrUnits msg.corr, t.rxTime msg.ball) }
      else t.peerDelay t1 msg.origin ((msg.origin : Int) + corrUnits msg.corr) (t.rxTime msg.ball))) ∧
  (∀ (msg : GeneralMsg) (t1 : Nat) (t2 t4 : Int), s.netRuns = true → msg.domain.toNat = s.netDomain → s.gptp = true → s.net.pdReq = some t1 → s.net.pdResp = some (t2, t4) →
    (msg.seq.toNat + 1) % 65536 = s.net.seqPd → exec (.pdelayRespFollowUpRx msg) s =
    .next (s.peerDelay t1 t2 ((msg.time : Int) + corrUnits msg.corr) t4)) ∧
  (∀ (ball : Time) (t : State), s.netSends = true → s.isMaster = true → t = s.advanceTo ball → exec (.syncTx ball) s =
    .next ((t.netSend 0x0 t.net.seqSync (t.txTime ball).toNat (!t.is NET_CTRL.one_step) none).modNet fun n =>
      { n with seqSync := (n.seqSync + 1) % 65536 })) ∧
  (∀ t : State, s.netSends = true → s.isMaster = true → t = s.showClass → exec .announceTx s =
    .next ((t.netSend 0xB t.net.seqAnn t.ltu.now false (some t.ownDataset)).modNet fun n => { n with seqAnn := (n.seqAnn + 1) % 65536 })) ∧
  (∀ (ball : Time) (t : State), s.netSends = true → s.isSlave = true → s.gptp = false → t = s.advanceTo ball → exec (.delayReqTx ball) s =
    .next ((t.netSend 0x1 t.net.seqReq (t.txTime ball).toNat false none).modNet fun n =>
      { n with seqReq := (n.seqReq + 1) % 65536, delayReq := some (t.txTime ball).toNat })) ∧
  (∀ (ball : Time) (t : State), s.netSends = true → s.gptp = true → t = s.advanceTo ball → exec (.pdelayReqTx ball) s =
    .next ((t.netSend 0x2 t.net.seqPd (t.txTime ball).toNat false none).modNet fun n =>
      { n with seqPd := (n.seqPd + 1) % 65536, pdReq := some (t.txTime ball).toNat, pdResp := none })) ∧
  (s.is NET_STATUS.qualified = true → s.netRuns = true → exec .syncTimeout s = .next
    (s.advanceTo (s.net.usedAt + s.get NET_INTERVALS.sync_timeout * s.syncLen)).netUnqualify) ∧
  (∀ (next : Int) (t : State), t = (if s.net.parts ≠ 0 ∧ s.onFab = true then s.passMarkers s.partMarkers else s) → t.net.parts ≠ 0 →
    mag (t.getInt TIME_SLEW.offset) < 4194304 * 256 →
    next = clampInt (-2147483647) 2147483647 (t.getInt TIME_SLEW.offset + t.net.parts) → exec .slewPart s =
    .next ((t.setSlew next).modNet fun n => { n with parts := t.getInt TIME_SLEW.offset + n.parts - next }))

/-- R397, R408, R413, R572: the requests of the network-time group. The clauses rest on the choices of log entry 35, which
are the model's own. -/
def Obligations.NetworkRequestsComplete : Prop := ∀ s : State,
  (∀ (r : Req) (p : List Byte) (f : Nat) (t u v : State), s.takes 5 → p.length = 16 → byteAt p 0 < 128 → byteAt p 0 / 2 % 4 < 3 → byteAt p 1 < 128 → -5 ≤ sfieldAt p 2 1 → sfieldAt p 2 1 ≤ 1 → byteAt p 3 ≤ 4 → -5 ≤ sfieldAt p 4 1 → sfieldAt p 4 1 ≤ 5 → 2 ≤ byteAt p 5 → byteAt p 5 ≤ 10 → 2 ≤ byteAt p 6 → byteAt p 6 ≤ 15 → fieldAt p 9 1 = 0 → f = byteAt p 0 → t = ((((((s.put NET_CTRL.enable f).put NET_CTRL.role (f / 2)).put NET_CTRL.profile (f / 8)).put NET_CTRL.transport (f / 16)).put NET_CTRL.one_step (f / 32)).put NET_CTRL.policy (f / 64)) → u = (((((t.put NET_CTRL.domain (byteAt p 1)).put NET_INTERVALS.log_sync (byteAt p 2)).put NET_INTERVALS.log_announce (byteAt p 3)).put NET_INTERVALS.log_delay (byteAt p 4)).put NET_INTERVALS.announce_timeout (byteAt p 5)).put NET_INTERVALS.sync_timeout (byteAt p 6) → v = (((u.put NET_DATASET.priority1 (byteAt p 7)).put NET_DATASET.priority2 (byteAt p 8)).put NET_DATASET.hold_limit (max 1 (fieldAt p 10 2))).modNet (fun n => { n with ipv4 := fieldAt p 12 4 }) → exec (.netCfg r p) s =
      .next ((if (s.is NET_CTRL.enable, s.is NET_CTRL.profile, s.is NET_CTRL.transport, s.get NET_CTRL.domain) =
        (v.is NET_CTRL.enable, v.is NET_CTRL.profile, v.is NET_CTRL.transport, v.get NET_CTRL.domain) ∧ s.word NET_INTERVALS = v.word NET_INTERVALS
        then v else v.netRestart).showClass.answer (s.open ⟨.A, 0x0501, 5⟩ r) (ansOk []))) ∧
  (∀ (r : Req) (p : List Byte), s.takes 0 → p.length = 8 → exec (.netLat r p) s =
      .next ((s.modNet fun n => { n with lat100 := (fieldAt p 0 2, fieldAt p 2 2), lat1000 := (fieldAt p 4 2, fieldAt p 6 2) }).answer (s.open ⟨.A, 0x0502, 0⟩ r) (ansOk []))) ∧
  (∀ (r : Req) (p : List Byte) (v : Int) (t : State), s.takes 0 → p.length = 8 → byteAt p 4 < 4 → fieldAt p 5 3 = 0 → (bit (byteAt p 4) 0 = true → s.is NET_STATUS.meas_valid = true) → v = (if bit (byteAt p 4) 0 then holdInt32 (s.getInt NET_ASYM.correction + s.getInt NET_ASYM_MEAS.asym) else sfieldAt p 0 4) → t = (if bit (byteAt p 4) 1 then (s.setAsym v).modNet (fun n => { n with asymNv := unsigned 32 v }) else s.setAsym v) → exec (.netAsym r p) s =
      .next (t.answer (s.open ⟨.A, 0x0503, 0⟩ r) (ansOk (le 4 (unsigned 32 v))))) ∧
  (∀ (r : Req) (p : List Byte), s.takes 5 → p.length = 0 → exec (.netRealign r p) s =
      .next (s.realign.answer (s.open ⟨.A, 0x0504, 5⟩ r) (ansOk []))) ∧
  (∀ (r : Req) (p : List Byte) (entry : Nat → List Byte), s.takes 0 → p.length = 0 → entry = (fun k => match vget none s.net.masters k with
      | some m => le 1 1 ++ le 1 (bits (s.word (NET_FM k)).toNat 0 8) ++ le 8 m.identity ++ le 2 m.port ++ le 1 m.clockClass ++ le 1 m.accuracy ++ le 2 m.variance ++ le 1 m.prio1 ++ le 1 m.prio2 ++ le 2 m.steps
      | none => le 20 0) → exec (.netInfo r p) s =
      .next (s.answer (s.open ⟨.C, 0x0505, 0⟩ r) (ansOk (le 4 (s.word NET_STATUS).toNat ++ le 4 (s.get NET_OFFSET.offset) ++ le 4 (s.get NET_MPD.mpd) ++
        le 4 (s.get NET_ASYM_MEAS.asym) ++ ((List.range 8).map entry).flatten))))

/-- R418 to R446: the radio raises its state, calibrates, commits and ends activities, receives, ends rounds, listens and
asks for the antenna. The clauses rest on the choices of log entries 3, 17, 34, 41, which are the model's own. -/
def Obligations.RadioCommandsComplete : Prop := ∀ s : State, s.mainLive = true →
  (∀ (ch : Nat), s.nextChannel = some ch → s.radioOn = true → s.uwb.live = none → s.radioState < 3 → exec .stateRaise s = .next
    (if s.calibrated ch = false then s.calBegin ch 2 else if s.bLockedOn (chanIdx ch) = true then s.put UWB_STATUS.state 2 else s.tune ch)) ∧
  (∀ temp : BitVec 8, s.frozen = false → s.calibrated s.radioChannel = true → s.is UWB_STATUS.cal_due = false →
    s.get UWB_CTRL.cal_temp ≤ mag (temp.toInt - vget 0 s.uwb.calTemp (chanIdx s.radioChannel)) →
    exec (.tempCalDue temp) s = .next ((s.flag UWB_STATUS.cal_due).modUwb fun u => { u with calDueAt := s.ltu.now })) ∧
  (∀ ch : Nat, s.radioOn = true → s.uwb.live = none → s.radioState < 3 → s.uwb.calAsk = some ch →
    exec .calStart s = .next (s.calBegin ch s.radioState)) ∧
  (s.radioOn = true → s.uwb.live = none → s.radioState < 3 → s.uwb.calAsk = none → s.is UWB_STATUS.cal_due = true → s.radioState ≠ 0 →
    (s.uwb.acts.any fun a => decide (s.commitOf a < s.ltu.now + 150 * microsecond)) = false →
    exec .calStart s = .next (s.calBegin s.radioChannel s.radioState)) ∧
  (∀ (temp : BitVec 8) (c : RadioCal) (t u : State), s.uwb.cal = some c →
    t = (((s.flag (if c.channel = 9 then UWB_STATUS.cal_ch9 else UWB_STATUS.cal_ch5)).flag CLKB_STATUS.cal_done).put UWB_STATUS.cal_due 0).flag UWB_EVENT.cal_done →
    u = t.modUwb (fun u => { u with
      cal := none, calReqs := [], calTemp := vmod (fun _ => temp.toInt) u.calTemp (chanIdx c.channel) }) →
    exec (.calDone temp) s = .next (s.uwb.calReqs.foldl (fun s q => s.answer q (ansOk []))
      (if c.back = 2 then (u.put UWB_STATUS.state 1).tune c.channel else u.radioTo c.back))) ∧
  (∀ (temp : BitVec 8) (supply : BitVec 16) (a : RadioAct) (t : State), s.nextAct = some a → s.uwb.live = none → s.frozen = false →
    a.time.isSome = true → a.slot = none → t = (s.advanceTo (s.commitOf a)).modUwb (fun u => { u with acts := u.acts.erase a }) →
    t.commitBar a = none → ∀ v, v = (if a.tx then t.transmit a temp.toNat supply.toNat else t.receive a) →
    exec (.activityCommit temp supply) s = .next (if v.uwb.live.isNone then v.coexRelease else v)) ∧
  (∀ (l : RadioLive) (t : State), s.uwb.live = some l → l.act.tx = true → l.act.slot = none →
    t = ((s.advanceTo l.stop).charge l.start l.stop).radioIdle l.act.ret → exec .txEnd s =
    .next (t.answerTo l.act.req (ansOk (timeBytes l.mark ++ le 1 l.code ++ le 1 (min 255 l.clip) ++ le 1 (b2n l.atMax) ++ le 1 0 ++
      le 4 ((l.stop - l.start) / microsecond))))) ∧
  (∀ (frame : RadioFrame) (l k : RadioLive) (c m x : Time) (t : State), s.radioState = 4 → s.frozen = false → s.uwb.live = some l →
    m = s.markTime frame.rmarker → t = (s.advanceTo (m + l.act.phy.tail frame.psdu.length)).keepImpulse → t.uwb.live = some k →
    k.act.listen = false → x = m - t.rxDelay k.act.phy.channel → k.act.close = some c →
    (k.start ≤ x → x < c → exec (.rxFrame frame) s =
      .next ((t.modUwb fun u => { u with heard := u.heard ++ [(k.act, frame)] }).radioIdle k.act.ret)) ∧
    (∀ d : State, d = (t.flag UWB_EVENT.out_window).modUwb (fun u => { u with outside := u.outside + 1 }) →
      (x < k.start ∨ c + k.act.phy.shr ≤ x → exec (.rxFrame frame) s = .next d) ∧
      (k.start ≤ x → c ≤ x → x < c + k.act.phy.shr → exec (.rxFrame frame) s = .next (d.windowOver k)))) ∧
  (∀ (l : RadioLive) (c : Time) (t : State), s.uwb.live = some l → l.act.tx = false → l.act.close = some c → l.act.listen = false → l.act.slot = none →
    t = ((s.advanceTo c).radioIdle l.act.ret).radioNote stLate → exec .rxWindowClose s =
    .next (t.answerTo l.act.req ⟨stLate, recordOf (t.sessionId l.act) l.act.tag stLate (16 * b2n (l.act.phy.stsCfg == 0)) 0 0 0 0 0 0 []⟩)) ∧
  (∀ (path : FirstPath) (a : RadioAct) (f : RadioFrame) (rest : List (RadioAct × RadioFrame)) (t : State), s.uwb.heard = (a, f) :: rest →
    a.phy.stsCfg = 0 → a.listen = false → a.slot = none → t = s.modUwb (fun u => { u with heard := rest }) →
    exec (.firstPathDone path) s = .next (t.answerTo a.req ⟨if f.fcsOk then stOk else stCheck, recordOf (t.sessionId a) a.tag
      (if f.fcsOk then stOk else stCheck) (b2n f.fcsOk + 8 * b2n f.overload + 16) (t.markTime path.time - t.rxDelay a.phy.channel) path.power.toNat
      f.rxPower.toNat 0 0 path.cfo.toNat f.psdu⟩)) ∧
  (∀ (handle : Fin 16) (x : Session) (r : Round), s.session handle = some x → x.round = some r → s.roundBusy handle = false → s.frozen = false →
    (r.status ≠ 0 ∨ x.remoteSrc = true ∨ r.remote.isSome = true ∨ x.deletion.isSome = true) →
    exec (.rangingRoundEnd handle) s = .next ((s.roundResult x r false).afterRound x r.r)) ∧
  (∀ (handle : Fin 16) (x : Session) (r : Round) (rest : List Round), s.session handle = some x → x.waiting = r :: rest →
    exec (.roundTimeout handle) s = .next (((s.advanceTo r.deadline).modSession handle fun y => { y with waiting := rest }).roundResult x r true)) ∧
  (∀ (l : Listen) (t : State), s.uwb.listen = some l → s.radioOn = true → s.mode = 4 → s.uwb.live = none → s.radioState ≠ 5 → s.radioClock = true →
    s.bLockedOn (chanIdx l.channel) = true → t = (match s.uwb.nextWindow with
      | some t => s.advanceTo (gridFrom t (l.period * 1000 * microsecond) s.ltu.now)
      | none => s) → exec .listenWindow s = .next ((t.modUwb fun u =>
        { u with nextWindow := some (t.ltu.now + l.period * 1000 * microsecond) }).receive ⟨false, none, 0,
      ⟨l.channel, if l.code ≤ 24 then 0 else 1, l.code, 0, 0, 0, 2, l.stsCfg, 1, 1⟩, 0, t.get UWB_CTRL.ret_default, some t.ltu.now,
      some (t.ltu.now + l.window * 100 * microsecond), [], none, none, true⟩)) ∧
  (∀ (a : RadioAct) (high : Bool), s.nextAct = some a → s.is UWB_COEX_CFG.en = true → s.frozen = false →
    high = ((s.mergedRun a (s.uwb.acts.erase a) s.uwb.acts.length).any fun b => match b.session.bind s.session with
      | some x => decide (s.get UWB_COEX_CFG.pri_thresh ≤ x.prio)
      | none => false) →
    exec .coexReqAssert s = .next ((s.advanceTo (s.commitOf a - s.get UWB_COEX_CFG.lead_us * microsecond)).modUwb fun u =>
      { u with coexPri := high || (u.coexReq && u.coexPri), coexReq := true })) ∧
  (∀ (level : Bool) (t : State), t = (s.modUwb fun u => { u with gntPin := level }).showGnt → t.uwb.live = none → exec (.gntChange level) s = .next t)

/-- R420 to R446, R574: the requests of the radio group: configuration, frames, sessions, the regulatory store and delays.
The clauses rest on the choices of log entries 3, 11, 35, 41, which are the model's own. -/
def Obligations.RadioRequestsComplete : Prop := ∀ s : State,
  (∀ (r : Req) (p : List Byte) (c : Nat) (t u : State), s.takes 4 → p.length = 8 → byteAt p 0 ≤ 1 → fieldAt p 5 3 = 0 → c = byteAt p 3 → t = (((((s.put UWB_CTRL.enable (byteAt p 0)).put UWB_CTRL.ret_default (min 2 (byteAt p 1))).put UWB_CTRL.cal_temp (clampNat 1 31 (byteAt p 2))).put UWB_COEX_CFG.en c).put UWB_COEX_CFG.gnt_mode (min 2 (bits c 1 2))) → u = (((t.put UWB_COEX_CFG.gnt_active_low (bits c 3 1)).put UWB_COEX_CFG.pri_thresh (bits c 4 3)).put UWB_COEX_CFG.lead_us (byteAt p 4)).showGnt → exec (.uwbCfg r p) s =
      .next ((if byteAt p 0 = 0 ∧ u.uwb.live = none ∧ u.uwb.cal = none then u.radioTo 0 else u).answer (s.open ⟨.A, 0x0601, 4⟩ r) (ansOk []))) ∧
  (∀ (r : Req) (p : List Byte), s.takes 5 → p.length = 4 → among (byteAt p 0) [5, 9] = true → fieldAt p 1 3 = 0 → exec (.uwbCal r p) s =
      .next ((s.accept (s.open ⟨.A, 0x0602, 5⟩ r)).modUwb fun u => { u with calAsk := some (byteAt p 0), calReqs := u.calReqs ++ [(s.open ⟨.A, 0x0602, 5⟩ r)] })) ∧
  (∀ (r : Req) (p : List Byte), s.takes 5 → 8 ≤ p.length → byteAt p 0 ≤ 3 → fieldAt p 1 1 = 0 → fieldAt p 2 2 ≤ 998 → fieldAt p 4 2 + (p.length - 8) ≤ fieldAt p 2 2 → fieldAt p 6 2 = 0 → exec (.uwbPsdu r p) s =
      .next ((s.modUwb fun u => { u with
        buffers := vmod (fun b => patch b (fieldAt p 2 2) (fieldAt p 4 2) (p.drop 8)) u.buffers (byteAt p 0) }).answer (s.open ⟨.A, 0x0603, 5⟩ r) (ansOk []))) ∧
  (∀ (r : Req) (p : List Byte) (b : List Byte), s.takes 5 → 44 ≤ p.length → p.length = (if bit (byteAt p 23) 1 then 44 else 44 + fieldAt p 40 2) → okPhy p 8 = none → s.okSession p (phyAt p 8).stsCfg = none → okRet p 22 = none → bit (byteAt p 23) 0 = true → b = vget [] s.uwb.buffers (bits (byteAt p 23) 2 2) → ((phyAt p 8).fits (fieldAt p 40 2) && (!bit (byteAt p 23) 1 || decide (fieldAt p 40 2 ≤ b.length)) && (bit (byteAt p 23) 1 || decide (fieldAt p 40 2 ≤ 960))) = true → fieldAt p 42 2 = 0 → s.barred (phyAt p 8).channel = false → exec (.uwbTx r p) s =
      .next (s.queueAct (s.open ⟨.A, 0x0604, 5⟩ r) ⟨true, s.sessionOf p, fieldAt p 4 4, phyAt p 8, sfieldAt p 20 2, s.retOf (byteAt p 22), none, none,
        if bit (byteAt p 23) 1 then b.take (fieldAt p 40 2) else p.drop 44, some (s.open ⟨.A, 0x0604, 5⟩ r), none, false⟩)) ∧
  (∀ (r : Req) (p : List Byte) (b : List Byte), s.takes 5 → 44 ≤ p.length → p.length = (if bit (byteAt p 23) 1 then 44 else 44 + fieldAt p 40 2) → okPhy p 8 = none → s.okSession p (phyAt p 8).stsCfg = none → okRet p 22 = none → bit (byteAt p 23) 0 = false → fieldAt p 32 4 < 1000000000 → b = vget [] s.uwb.buffers (bits (byteAt p 23) 2 2) → ((phyAt p 8).fits (fieldAt p 40 2) && (!bit (byteAt p 23) 1 || decide (fieldAt p 40 2 ≤ b.length)) && (bit (byteAt p 23) 1 || decide (fieldAt p 40 2 ≤ 960))) = true → fieldAt p 42 2 = 0 → s.barred (phyAt p 8).channel = false → exec (.uwbTx r p) s =
      .next (s.queueAct (s.open ⟨.A, 0x0604, 5⟩ r) ⟨true, s.sessionOf p, fieldAt p 4 4, phyAt p 8, sfieldAt p 20 2, s.retOf (byteAt p 22), some (timeAt p 24), none,
        if bit (byteAt p 23) 1 then b.take (fieldAt p 40 2) else p.drop 44, some (s.open ⟨.A, 0x0604, 5⟩ r), none, false⟩)) ∧
  (∀ (r : Req) (p : List Byte), s.takes 5 → p.length = 56 → okPhy p 8 = none → s.okSession p (phyAt p 8).stsCfg = none → okRet p 20 = none → fieldAt p 22 2 = 0 → bit (byteAt p 21) 0 = false → fieldAt p 32 4 < 1000000000 → fieldAt p 48 4 < 1000000000 → timeAt p 24 < timeAt p 40 → exec (.uwbRx r p) s =
      .next (s.queueAct (s.open ⟨.A, 0x0605, 5⟩ r) ⟨false, s.sessionOf p, fieldAt p 4 4, phyAt p 8, 0, s.retOf (byteAt p 20), some (timeAt p 24), some (timeAt p 40), [],
        some (s.open ⟨.A, 0x0605, 5⟩ r), none, false⟩)) ∧
  (∀ (r : Req) (p : List Byte), s.takes 5 → p.length = 4 → exec (.uwbStop r p) s =
      .next ((s.stopActs fun a => a.req.isSome && a.tag == fieldAt p 0 4).answer (s.open ⟨.A, 0x0606, 5⟩ r) (ansOk []))) ∧
  (∀ (r : Req) (p : List Byte), s.takes 5 → s.sessionArgs p = none → s.sessionBar p = none → exec (.sessionCreate r p) s =
      .next (((s.modUwb fun u => { u with sessions := u.sessions ++ [s.newSession p] }).showSessions).answer (s.open ⟨.A, 0x0607, 5⟩ r)
        (ansOk (le 1 (s.newSession p).handle ++ le 3 0)))) ∧
  (∀ (r : Req) (p : List Byte) (x : Session), s.takes 5 → p.length = 24 → fieldAt p 4 4 = 0 → fieldAt p 16 4 < 1000000000 → s.sessionById (fieldAt p 0 4) = some x → x.state ≠ .active → exec (.sessionStart r p) s =
      .next (((s.modSession x.handle fun y => { y with state := .active, t0 := timeAt p 8, stopping := false, waiting := [] }).planRound x.handle 0).answer
        (s.open ⟨.A, 0x0608, 5⟩ r) (ansOk []))) ∧
  (∀ (r : Req) (p : List Byte) (x : Session), s.takes 5 → p.length = 4 → s.sessionById (fieldAt p 0 4) = some x → x.state = .active → x.begun = true → exec (.sessionStop r p) s =
      .next ((s.modSession x.handle fun y => { y with stopping := true }).answer (s.open ⟨.A, 0x0609, 5⟩ r) (ansOk []))) ∧
  (∀ (r : Req) (p : List Byte) (x : Session), s.takes 5 → p.length = 4 → s.sessionById (fieldAt p 0 4) = some x → x.state = .active → x.begun = false → exec (.sessionStop r p) s =
      .next (((s.dropRound x.handle).modSession x.handle fun y => { y with state := .stopped }).answer (s.open ⟨.A, 0x0609, 5⟩ r) (ansOk []))) ∧
  (∀ (r : Req) (p : List Byte) (x : Session) (t : State), s.takes 0 → p.length = 4 → s.sessionById (fieldAt p 0 4) = some x → t = (s.accept (s.open ⟨.A, 0x060A, 0⟩ r)).modSession x.handle (fun y => { y with deletion := some (s.open ⟨.A, 0x060A, 0⟩ r) }) → exec (.sessionDelete r p) s =
      .next (if x.begun then t else t.dropSession x.handle)) ∧
  (∀ (r : Req) (p : List Byte) (x : Session), s.takes 5 → 8 ≤ p.length → p.length = 8 + fieldAt p 6 2 → fieldAt p 5 1 = 0 → s.sessionById (fieldAt p 0 4) = some x → (x.slots.any fun y => y.1 == byteAt p 4 && y.2) = true → x.phy.fits (fieldAt p 6 2) = true → exec (.sessionPsdu r p) s =
      .next ((s.modSession x.handle fun y => { y with
        psdus := y.psdus.filter (fun z => z.1 != byteAt p 4) ++ [(byteAt p 4, p.drop 8)] }).answer (s.open ⟨.A, 0x060B, 5⟩ r) (ansOk []))) ∧
  (∀ (r : Req) (p : List Byte) (x : Session) (w : Round), s.takes 5 → p.length = 16 → s.sessionById (fieldAt p 0 4) = some x → firstThat (fun y => y.r == fieldAt p 4 4) x.waiting = some w → s.ltu.now ≤ w.deadline → exec (.remoteIntervals r p) s =
      .next (((s.modSession x.handle fun y => { y with waiting := y.waiting.filter fun z => z.r != fieldAt p 4 4 }).answer (s.open ⟨.A, 0x060C, 5⟩ r) (ansOk [])).roundResult x
        { w with remote := some (fieldAt p 8 4, fieldAt p 12 4) } false)) ∧
  (∀ (r : Req) (p : List Byte) (t : State), s.takes 0 → p.length = 32 → fieldAt p 0 4 = 0x47525957 → fieldAt p 4 2 = 1 → fieldAt p 6 2 ≤ 3 → s.sec.marketFuse = false ∧ s.lifecycle ≠ 2 ∨ s.sec.marketFuse = true ∧ (∃ c, s.regStore = some c ∧ tighter c p = true) → t = ((s.writeStore p).uwb.sessions.filter fun x => x.state == .active && (s.writeStore p).barred x.phy.channel).foldl State.lockSession (s.writeStore p) → exec (.regWrite r p) s =
      .next (t.answer (s.open ⟨.A, 0x060D, 0⟩ r) (ansOk (le 4 (fieldAt (t.regStore.getD []) 32 4))))) ∧
  (∀ (r : Req) (p : List Byte) (c : List Byte), s.takes 0 → p.length = 0 → s.regStore = some c → exec (.regReadRegulatory r p) s =
      .next (s.answer (s.open ⟨.C, 0x060E, 0⟩ r) (ansOk c))) ∧
  (∀ (r : Req) (p : List Byte), s.takes 0 → p.length = 12 → among (byteAt p 0) [5, 9] = true → fieldAt p 1 3 = 0 → s.lifecycle ≠ 2 → exec (.antDelay r p) s =
      .next ((s.modUwb fun u => { u with
        delays := vmod (fun _ => (fieldAt p 4 4, fieldAt p 8 4)) u.delays (chanIdx (byteAt p 0)) }).answer (s.open ⟨.A, 0x060F, 0⟩ r) (ansOk []))) ∧
  (∀ (r : Req) (p : List Byte), s.takes 4 → p.length = 24 → among (byteAt p 0) [5, 9] = true → 9 ≤ byteAt p 1 → byteAt p 1 ≤ 32 → among (byteAt p 2) [0, 3] = true → fieldAt p 3 1 = 0 → 2 ≤ fieldAt p 4 2 → fieldAt p 4 2 ≤ 100 → 20 ≤ fieldAt p 6 2 → fieldAt p 6 2 ≤ 2000 → exec (.listenCfg r p) s =
      .next ((s.modUwb fun u => { u with
        listen := some ⟨byteAt p 0, byteAt p 1, byteAt p 2, fieldAt p 4 2, fieldAt p 6 2, (p.drop 8).take 8, (p.drop 16).take 8⟩
        nextWindow := none }).answer (s.open ⟨.A, 0x0610, 4⟩ r) (ansOk [])))

/-- R452 to R478: characters and breaks received and sent, FIFOs read, written and flushed, and LIN frames. The clauses
rest on the choices of log entries 29, 43, which are the model's own. -/
def Obligations.SerialPortCommandsComplete : Prop := ∀ s : State, s.mainLive = true →
  (∀ (uart : Fin 8) (samples : BitVec 12) (v nd np ns : Nat) (t : State), s.perClock uart = true → s.is (UART_CTRL.rx_en uart) = true → s.is (UART_STATUS.stuck uart) = false →
    s.is (UART_BRK_RX.isOpen uart) = false → v = samples.toNat → s.charShape uart = (nd, np, ns) → v % 2 = 0 →
    bits v 0 (1 + nd + np + ns) ≠ 0 → t = (s.modUart uart fun u => { u with divRx := s.charDivisor uart u }) → t.cardMode uart = false → t.linMode uart = false →
    exec (.uartRxChar uart samples) s = .next (t.rxEntry uart {
      data := bits v 1 nd
      pe := np == 1 && (popCount 8 (bits v 1 nd) + bits v (1 + nd) np) % 2 == (if s.get (UART_CTRL.parity uart) == 1 then 1 else 0)
      fe := bits v (1 + nd + np) ns != 2 ^ ns - 1 })) ∧
  (∀ (uart : Fin 8) (samples : BitVec 12) (v : Nat) (t : State), s.perClock uart = true → s.is (UART_CTRL.rx_en uart) = true → s.is (UART_STATUS.stuck uart) = false →
    s.is (UART_BRK_RX.isOpen uart) = false → v = samples.toNat → v % 2 = 0 → s.cardMode uart = true →
    t = (s.modUart uart fun u => { u with divRx := s.charDivisor uart u }) →
    exec (.uartRxChar uart samples) s = .next (if t.sending uart = true then t else (t.cardHeard uart).cardChar uart (bits v 1 8) (bits v 9 1))) ∧
  (∀ (uart : Fin 8) (len : Nat) (t : State), s.is (UART_BRK_RX.isOpen uart) = true → s.is (UART_STATUS.stuck uart) = false → s.perClock uart = true →
    t = s.breakOver uart len → (t.linMode uart = false ∨ 176 ≤ len) → exec (.uartBreakRx uart len) s = .next t) ∧
  (∀ (uart : Fin 8) (len : Nat) (t : State), s.is (UART_BRK_RX.isOpen uart) = true → s.is (UART_STATUS.stuck uart) = false → s.perClock uart = true → len < 176 →
    t = s.breakOver uart len → t.linMode uart = true → (t.uart uart).lin.isSome = true →
    exec (.uartBreakRx uart len) s = .next (t.linEnd uart 8)) ∧
  (∀ (uart : Fin 8) (t : State), s.is (UART_STATUS.stuck uart) = false → s.is (UART_CTRL.rx_en uart) = true → s.perClock uart = true → (s.uart uart).lin = none →
    t = ((s.flag (UART_STATUS.stuck uart)).flag (UART_BRK_RX.isOpen uart)).uartEvent uart (UART_EVENT.stuck uart) → (t.uart uart).lin = none →
    exec (.uartStuck uart) s = .next t) ∧
  (∀ (uart : Fin 8) (len : Nat), s.is (UART_STATUS.stuck uart) = true →
    exec (.uartStuckEnd uart len) s = .next (((s.put (UART_STATUS.stuck uart) 0).uartEvent uart (UART_EVENT.stuck_end uart)).breakOver uart len)) ∧
  (∀ (uart : Fin 8) (low : Bool) (t : State), s.perClock uart = true → (s.uart uart).shift = none →
    t = (s.put (UART_STATUS.cts uart) 1).breakBegin uart → (t.uart uart).shift = none → t.is (UART_BRK_TX.busy uart) = false → t.txFree uart = true →
    exec (.uartTxChar uart true low) s = .next (t.txTake uart)) ∧
  (∀ (uart : Fin 8) (low : Bool) (b : Nat) (q t : State), s.perClock uart = true → (s.uart uart).shift.isSome = true →
    q = s.advanceTo (s.txStop uart) → (q.uart uart).shift = some b → q.perClock uart = true → t = ((((q.put (UART_STATUS.cts uart) 0).txEnd uart b low)).breakBegin uart) → t.txFree uart = false →
    (t.uart uart).tx ≠ [] → exec (.uartTxChar uart false low) s = .next t) ∧
  (∀ (uart : Fin 8) (e : RxEntry) (rest : List RxEntry), (s.uart uart).rx = e :: rest →
    exec (.uartDataRead uart) s = .next ((s.uartPop uart rest).cvuRoom uart)) ∧
  (∀ uart : Fin 8, (s.uart uart).rx = [] → exec (.uartDataRead uart) s = .next (s.uartTouch uart)) ∧
  (∀ (uart : Fin 8) (value : Word) (t : State), t = s.uartTouch uart → (s.uart uart).tx.length < 64 →
    exec (.uartDataWrite uart value) s = .next ((t.modUart uart fun u => { u with tx := u.tx ++ [value.toNat % 256] }).showUart uart)) ∧
  (∀ uart : Fin 8, exec (.uartStatusRead uart) s = .next (s.modUart uart fun u => { u with seq := true })) ∧
  (∀ uart : Fin 8, exec (.flushRx uart) s = .next (((s.uartTouch uart).modUart uart fun u => { u with rx := [] }).showUart uart)) ∧
  (∀ uart : Fin 8, exec (.flushTx uart) s = .next (((s.uartTouch uart).modUart uart fun u => { u with tx := [] }).showUart uart)) ∧
  (∀ uart : Fin 8, s.is (UART_BRK_TX.busy uart) = false → exec (.uartBreakSend uart) s = .next (((s.flag (UART_BRK_TX.busy uart)).breakBegin uart).showUart uart)) ∧
  (∀ (uart : Fin 8) (u : UartState) (t : State), s.uart uart = u → u.brk = true → s.perClock uart = true →
    t = s.advanceTo (u.txAt.getD s.ltu.now + s.bitTime ((s.get (UART_BRK_TX.len uart) + s.get (UART_BRK_TX.del uart)) * u.divTx) / 16) →
    exec (.uartBreakDone uart) s = .next (((t.put (UART_BRK_TX.busy uart) 0).modUart uart fun u => { u with brk := false }).showUart uart)) ∧
  (∀ (uart : Fin 8) (pid : Nat) (f : LinFrame), s.linMode uart = true → s.is (UART_LIN_CFG.master uart) = true → (s.uart uart).lin = none → pid = linPid (s.get (UART_LIN_HDR.id uart)) →
    f = { pid := pid, div := s.divisor uart, began := s.ltu.now } →
    exec (.linHeaderSend uart) s = .next ((((s.flag (UART_BRK_TX.busy uart)).modUart uart fun u =>
      { u with lin := some f, ahead := [0x55, pid] }).breakBegin uart).showUart uart)) ∧
  (∀ (uart : Fin 8) (departure : BitVec 16) (div : Nat) (f : LinFrame) (t : State), s.linMode uart = true → s.is (UART_LIN_CFG.master uart) = false → s.perClock uart = true → s.is (UART_CTRL.rx_en uart) = true →
    div = (if s.is (UART_LIN_CFG.auto_sync uart) = true then ((s.divisor uart : Int) * (10000 + departure.toInt) / 10000).toNat else s.divisor uart) →
    f = { div := div, began := s.ltu.now - s.bitTime (20 * div) } → t = (s.modUart uart fun u => { u with lin := some f, divRx := div }) →
    exec (.linBreakDetect uart departure) s =
      .next (if (if s.is (UART_LIN_CFG.auto_sync uart) = true then 1400 else 200) < mag departure.toInt then t.linEnd uart 4 else t)) ∧
  (∀ (uart : Fin 8) (pid : BitVec 8) (f : LinFrame), (s.uart uart).lin = some f → f.phase = .header → s.is (UART_LIN_CFG.master uart) = false →
    exec (.linPid uart pid) s = .next (s.linPidSeen uart pid.toNat)) ∧
  (∀ (uart : Fin 8) (f : LinFrame) (u : UartState) (data : List Nat) (t : State), (s.uart uart).lin = some f → f.phase = .publish → f.bytes = [] →
    t = s.advanceTo (f.pidAt + s.bitTime (s.get (UART_LIN_CFG.resp_space uart) * f.div)) → u = t.uart uart → f.len ≤ u.tx.length →
    data = u.tx.take f.len → exec (.linResponseStart uart) s = .next ((t.modUart uart fun u => { u with
      tx := u.tx.drop f.len, lin := some { f with bytes := data }, ahead := data ++ [linSum f.pid f.enh data] }).showUart uart)) ∧
  (∀ (uart : Fin 8) (f : LinFrame) (t : State), (s.uart uart).lin = some f →
    t = s.advanceTo (f.pidAt + s.bitTime (s.get (UART_LIN_CFG.resp_space uart) * f.div)) → f.phase = .publish → f.bytes = [] → (t.uart uart).tx.length < f.len →
    exec (.linResponseStart uart) s = .next (t.linEnd uart 7)) ∧
  (∀ (uart : Fin 8) (f : LinFrame) (t : State), (s.uart uart).lin = some f → t = s.advanceTo (f.began + s.bitTime (14 * (34 + 10 * (f.len + 1)) * f.div) / 10) →
    exec (.linTimeout uart) s = .next (t.linEnd uart (if f.phase == .subscribe && f.bytes.isEmpty then 5 else 6)))

/-- R475, R476: the check-value units start, take data, finish and abort. -/
def Obligations.CheckUnitCommandsComplete : Prop := ∀ s : State, s.mainLive = true →
  (∀ (unit : Fin 16) (u : CvuState), s.get (CVU_CFG.port unit) < 8 →
    u = { sel := s.get (CVU_CFG.sel unit), mode := s.get (CVU_CFG.mode unit), ctxEn := s.is (CVU_CFG.ctx_en unit)
          inc := s.is (CVU_CFG.ctx_inc unit), again := s.is (CVU_CFG.repeat unit), port := none
          pid := s.get (CVU_CFG.pid unit), len := s.get (CVU_LEN.len unit), out := (s.cvu unit).out } →
    exec (.cvuStart unit) s = .next ((((s.modCvu unit fun _ => u).flag (CVU_STATUS.armed unit))).showFed unit)) ∧
  (∀ unit : Fin 16, (s.cvu unit).fed = [] → (s.cvu unit).check = [] → exec (.cvuAbort unit) s = .next
    (((s.modCvu unit fun u => { u with again := false }).put (CVU_STATUS.armed unit) 0).modCvu unit fun u =>
      { u with fed := [], check := [], ready := false })) ∧
  (∀ unit : Fin 16, s.is (CVU_STATUS.armed unit) = true → (s.cvu unit).fed ≠ [] → exec (.cvuAbort unit) s = .next
    ((((s.modCvu unit fun u => { u with again := false }).cvuEnd unit false).put (CVU_STATUS.armed unit) 0).modCvu unit fun u =>
      { u with fed := [], check := [], ready := false })) ∧
  (∀ (unit : Fin 16) (value : Word), exec (.cvuDataWrite unit value) s = .next ((le 4 value.toNat).foldl (fun s b => s.cvuFeed unit b) s)) ∧
  (∀ (unit : Fin 16) (u : CvuState) (v : Nat) (t : State), (s.cvu unit).ready = true → s.locked = true →
    t = s.advanceTo ((s.cvu unit).readyAt + 16 * s.ltu.inc) → u = t.cvu unit → v = t.cvuCheck unit → exec (.cvuDone unit) s =
    .next ((t.put (CVU_RESULT.value unit) v).cvuEnd unit (u.mode != 2 || u.check == checkWire u.sel v)))

/-- R471 to R502, R611: supplies are lost and return, the device shuts down, is reset and wakes. The clauses rest on the
choices of log entries 32, 33, 45, which are the model's own. -/
def Obligations.SupplyAndWakeEventsComplete : Prop := ∀ s : State,
  (s.pwr.aon = true → s.is PWR_STATUS.on_vbak = false → s.pwr.powered = true →
    exec .toVbak s = .next (((s.flag PWR_STATUS.on_vbak).put PWR_STATUS.vsys_ok 0).flag PWR_EVENT.to_vbak)) ∧
  (s.pwr.aon = true → s.is PWR_STATUS.on_vbak = true → exec .toVsys s = .next ((s.put PWR_STATUS.on_vbak 0).flag PWR_EVENT.to_vsys) ∧
    exec .vbakLow s = .next ((s.put PWR_STATUS.on_vbak 0).flag PWR_EVENT.to_vsys)) ∧
  (s.pwr.aon = true → exec .aonPowerLoss s = .next
    ((if s.pwr.powered then s.mainOff 1 false else s).aonClear.modPwr fun p => { p with aon := false, asleep := false, downIn := 0 })) ∧
  (∀ onVbak : Bool, s.pwr.aon = false → exec (.aonPowerUp onVbak) s = .next
    (((s.aonClear.put PWR_STATUS.on_vbak (b2n onVbak)).put PWR_STATUS.mode 1).modPwr fun p => { p with aon := true, downIn := 0 })) ∧
  (∀ (pfail : Bool) (rtc : BitVec 48) (t : State), s.mainLive = true → t = (s.powerFails pfail).shutdownSteps rtc.toNat →
    exec (.shutdownStart pfail rtc) s = .next (((t.modeEvent 1 t.mode 4).mainOff 1 true).flag PWR_EVENT.shutdown)) ∧
  (s.pwr.aon = true → s.pwr.powered = false → s.pwr.asleep = false → exec .mainPowerStart s =
    .next (((s.put PWR_STATUS.pfail 0).flag PWR_STATUS.vsys_ok).modPwr fun p => { p with powered := true })) ∧
  (s.pwr.powered = true → exec .railFault s = .next (((s.mainReset false).put PWR_STATUS.rails_ok 0).flag PWR_EVENT.rail_fault) ∧
    exec .extReset s = .next (((s.mainReset false).flag PWR_EVENT.ext_reset).modPwr fun p => { p with sysRst := true })) ∧
  (∀ pfail : Bool, s.pwr.powered = true → s.pwr.inReset = true → exec (.earlyPfail pfail) s = .next ((s.powerFails pfail).mainOff 1 s.pwr.orderly)) ∧
  (s.frozen = true → exec .frozenPfail s = .next (((s.flag PWR_STATUS.pfail).mainOff 1 false).flag PWR_EVENT.frozen_loss)) ∧
  (s.is PWR_CFG.wake_host = true → exec .hostWake s = .next (s.wake 2 0)) ∧
  (∀ uart : Fin 8, s.pwr.asleep = true → s.pwr.powered = false → s.is ⟨PWR_UART_WAKE, 4 * uart.val, 1⟩ = true → bit (s.get PWR_WAKE.wake_masked) uart = false →
    exec (.uartWake uart) s = .next ((s.put PWR_WAKE.wake_masked (s.get PWR_WAKE.wake_masked + 2 ^ uart.val)).wake 3 uart)) ∧
  (∀ uart : Fin 8, bit (s.get PWR_WAKE.wake_masked) uart = true → exec (.wakeMaskRelease uart) s =
    .next ((s.put PWR_WAKE.wake_masked (s.get PWR_WAKE.wake_masked - 2 ^ uart.val)).put (UART_STATUS.wake_masked uart) 0))

/-- R481, R500, R501: the main domain leaves its reset, boots, and changes its power mode step by step. The clauses rest
on the choices of log entries 40, 45, which are the model's own. -/
def Obligations.StartAndModeChangesComplete : Prop := ∀ s : State,
  (∀ (strap hostSel : Bool) (rtc : BitVec 48) (t u v : State), s.pwr.aon = true → s.pwr.powered = true → s.pwr.inReset = true →
    t = ((s.mainClear.setRtc rtc.toNat).flag PWR_STATUS.rails_ok) → u = ((t.modPwr fun p => { p with inReset := false, sysRst := false }).strapAt strap) →
    v = ((u.put HL_ID.spi (b2n hostSel)).modHost fun h => { h with spi := hostSel }) → ∀ w x : State,
    w = ((v.put HL_STATUS.lifecycle v.lifecycle).put NET_ASYM.correction v.net.asymNv) →
    x = ({ w with fw := { w.fw with slot := w.fw.next } }.showStore.showGnt) → (x.reloadTime x.pwr.orderly).pwr.capWake = false →
    exec (.mainResetRelease strap hostSel rtc) s = .next ((x.reloadTime x.pwr.orderly).modPwr fun p => { p with
      boot := some (bootCause (x.reloadTime x.pwr.orderly).pwr.downIn), capWake := false })) ∧
  (∀ (previous cause : Nat) (t u : State), s.pwr.boot = some (previous, cause) → s.pwr.inReset = false → s.pwr.powered = true → s.frozen = false → cause ≠ 2 →
    t = (((s.modPwr fun p => { p with boot := none }).setMode (bootMode (s.get PWR_CFG.boot_mode))).uartsRestore) →
    u = (((t.put HL_FW_VER.patch t.fwVersion.toNat).put HL_FW_VER.minor (t.fwVersion.toNat / 256)).put HL_FW_VER.major (t.fwVersion.toNat / 65536)) →
    exec .bootDone s = .next ((u.afterAonLoss.flag HL_STATUS.ready).modeEvent u.mode previous cause)) ∧
  (∀ (v : ModeMove) (m : Nat) (t : State), s.mainLive = true → s.pwr.move = some v → 4 ≤ v.goal →
    m = (if s.mode < v.goal then s.mode + 1 else if v.goal < s.mode then s.mode - 1 else s.mode) →
    t = (s.modeHop m).modeEvent m s.mode v.cause → exec .modeTransitionDone s = .next (if m = v.goal then
      ((t.put PWR_STATUS.settling 0).modPwr fun p => { p with move := none }).answerTo v.req (ansOk (le 4 m)) else t)) ∧
  (∀ (v : ModeMove) (t : State), s.mainLive = true → s.pwr.move = some v → v.goal < 4 →
    t = (s.modPwr fun p => { p with move := none }).answerTo v.req (ansOk (le 4 v.goal)) →
    exec .modeTransitionDone s = .next ((t.modeEvent v.goal s.mode v.cause).enterDormant v.goal))

/-- R515, R564 to R567: the requests of the system group, the end of a firmware commit and of provisioning. The clauses
rest on the choices of log entries 11, 19, 35, 38, which are the model's own. -/
def Obligations.SystemRequestsComplete : Prop := ∀ s : State,
  (∀ (r : Req) (p : List Byte), s.takes 0 → p.length = 4 → exec (.ping r p) s =
      .next ((s.answer (s.open ⟨.H, 0x0101, 0⟩ r) (ansOk (p ++ timeBytes s.ltu.now))).commitH (s.open ⟨.H, 0x0101, 0⟩ r).key)) ∧
  (∀ (r : Req) (p : List Byte), s.takes 0 → p.length = 0 → exec (.getInfo r p) s =
      .next (s.answer (s.open ⟨.A, 0x0102, 0⟩ r) (ansOk s.infoBytes))) ∧
  (∀ (r : Req) (p : List Byte), s.takes 0 → p.length = 4 → 2 ≤ byteAt p 0 → byteAt p 0 ≤ 7 → fieldAt p 1 3 = 0 → s.powerFailing = false → s.pwr.slot = none → s.host.deferred = [] → exec (.setMode r p) s =
      .next (s.startMode (s.open ⟨.A, 0x0103, 0⟩ r) (byteAt p 0))) ∧
  (∀ (r : Req) (p : List Byte), s.takes 0 → p.length = 4 → byteAt p 0 < 2 → 4 ≤ byteAt p 1 → byteAt p 1 ≤ 7 → byteAt p 2 < 4 → fieldAt p 3 1 = 0 → exec (.powerCfg r p) s =
      .next (((((s.put PWR_CFG.auto_promote (byteAt p 0)).put PWR_CFG.boot_mode (byteAt p 1)).put PWR_CFG.wake_host (byteAt p 2)).put PWR_CFG.wake_rtc
        (byteAt p 2 / 2)).answer (s.open ⟨.A, 0x0104, 0⟩ r) (ansOk []))) ∧
  (∀ (r : Req) (p : List Byte), s.takes 0 → p.length = 8 → byteAt p 6 < 2 → fieldAt p 7 1 = 0 → exec (.wakeAlarm r p) s =
      .next ((((s.put TIME_RTC_ALARM_LO.alarm_lo (fieldAt p 0 4)).put TIME_RTC_ALARM_HI.alarm_hi (fieldAt p 4 2)).put TIME_RTC_ALARM_HI.en
        (byteAt p 6)).answer (s.open ⟨.A, 0x0105, 0⟩ r) (ansOk []))) ∧
  (∀ (r : Req) (p : List Byte), s.takes 0 → 5 ≤ p.length → p.length ≤ 1004 → fieldAt p 0 4 = s.fw.stage.length → s.fw.stage.length + (p.length - 4) ≤ 0x100000 → exec (.fwChunk r p) s =
      .next ((s.modFw fun f => { f with stage := f.stage ++ p.drop 4 }).answer (s.open ⟨.C, 0x0106, 0⟩ r) (ansOk []))) ∧
  (∀ (r : Req) (p : List Byte), s.takes 0 → p.length = 4 → s.fw.commit = none → fieldAt p 0 4 = s.fw.stage.length → exec (.fwCommit r p) s =
      .next ((s.accept (s.open ⟨.C, 0x0107, 0⟩ r)).modFw fun f => { f with stage := [], commit := some (f.stage, (s.open ⟨.C, 0x0107, 0⟩ r)) })) ∧
  (∀ (image : List Byte) (q : OpenReq), s.mainLive = true → s.fw.commit = some (image, q) → Config.fwVerifies image = true →
    Config.fwMinimum ≤ (Config.fwVersion (some image)).toNat → exec (.fwCommitDone true) s = .next ((s.modFw fun f => { f with
      commit := none, slots := vmod (fun _ => some image) f.slots (1 - f.slot), next := 1 - f.slot }).answer q
        (ansOk (le 4 (Config.fwVersion (some image)).toNat)))) ∧
  (∀ q : OpenReq, s.mainLive = true → s.sec.provision = some q → exec (.provisionDone true) s =
    .next (((s.modSec fun c => { c with provision := none, positionKey := true, cert := none }).blow 1).answer q (ansOk (le 4 1))))

/-- R512 to R532: presence, the seal, lockouts, nonces, verification, freeze and thaw. The clauses rest on the choices of
log entries 11, 20, 38, 39, which are the model's own. -/
def Obligations.MonitorEventsComplete : Prop := ∀ s : State, s.pwr.aon = true →
  (exec .presPress s = .next ((s.flag SEC_PRES.pressed).wake 4 0)) ∧
  (s.is SEC_PRES.pressed = true → exec .presRelease s = .next (((s.put SEC_PRES.pressed 0).flag SEC_PRES.window).put SEC_PRES.remaining_ms 30000)) ∧
  (exec .presWindowExpiry s = .next ((s.put SEC_PRES.remaining_ms 0).put SEC_PRES.window (s.get SEC_PRES.via_strap))) ∧
  (∀ (rtc : BitVec 48) (level first second : Bool) (t : State), s.is SEC_SEAL_CFG.en = true → s.sec.aonLost = false → rtc.toNat % 3277 = 0 →
    t = (s.rtcTo (rtc.toNat + 2)).modSec (fun c => { c with sealOut := !level }) →
    ((first = level ∧ second = !level) → exec (.sealCheck rtc level first second) s = .next t) ∧
    ((first ≠ level ∨ second ≠ !level) → t.is SEC_SEAL_STATUS.broken = false →
      exec (.sealCheck rtc level first second) s = .next ((t.sealBreak 1 rtc.toNat).wake 5 0))) ∧
  (∀ (rtc : BitVec 48) (t : State), t = s.rtcTo rtc.toNat → t.lockoutEnd ≠ 0 → t.lockoutEnd ≤ rtc.toNat → t.pwr.powered = true → t.pwr.inReset = false →
    exec (.lockoutEnd rtc) s = .next ((((t.put SEC_LOCKOUT_LO.end_lo 0).put SEC_LOCKOUT_HI.end_hi 0).put SEC_STATE.debug 0).emit (evDebugState 0 0))) ∧
  (exec .nonceExpiry s = .next ((s.put SEC_AUTH.nonce_valid 0).modSec fun c => { c with nonce := none })) ∧
  (s.lifecycle = 3 → exec .serviceTimeout s = .next s.endDebug) ∧
  (s.mainLive = true → exec .trngFail s = .next ((s.put SEC_STATE.trng_ok 0).flag SEC_EVENT.trng_fail)) ∧
  (∀ (a : AuthRun) (rest : List AuthRun) (t : State), s.pwr.powered = true → s.pwr.inReset = false → s.sec.auths = a :: rest → t = s.modSec (fun c => { c with auths := rest }) →
    (t.authMatches a = false → exec .authVerifyDone s = .next (((((t.setFailures (min 31 (t.get SEC_AUTH.failures + 1))).put SEC_AUTH.last_result 2).flag
      SEC_EVENT.auth_fail).startLockout (min 31 (t.get SEC_AUTH.failures + 1))).authAnswer a ansCheck)) ∧
    (t.authMatches a = true → t.lifecycle = 2 → exec .authVerifyDone s = .next ((((((((t.setFailures 0).put SEC_AUTH.last_result 1).put SEC_LOCKOUT_LO.end_lo
      0).put SEC_LOCKOUT_HI.end_hi 0).toLifecycle 3).openDebug (if a.response then scopeVendor else scopeCustomer))).authAnswer a
        (ansOk (le 1 (if a.response then scopeVendor else scopeCustomer) ++ le 3 0))))) ∧
  (∀ (ticks : Fin 12), s.mainLive = true → 4 ≤ s.mode → s.mode ≤ 7 → (s.lifecycle ≠ 2 ∧ s.lifecycle ≠ 3 ∨ s.is SEC_DBG_CFG.freeze_field = true) →
    exec (.freeze ticks) s = .next (s.freeze ticks)) ∧
  (∀ (n rtc : BitVec 48) (t u v w : State), s.pwr.powered = true → s.pwr.inReset = false → s.frozen = true → s.clk.phase = .locked → s.host.lossAtThaw = none →
    t = (((s.put SEC_STATE.frozen 0).put PWR_STATUS.mode s.sec.before).flag SEC_EVENT.thaw).thawClock n.toNat rtc.toNat →
    u = ((t.passedTriggers s.ltu.now t.ltu.now).tpThaw s.ltu.now t.ltu.now).discontinuity 2 →
    v = ((u.gatesOpen.showGnt).thawRadio).modeEvent s.sec.before 8 3 → v.host.lossAtThaw = none →
    w = v.modHost (fun h => { h with lossAtThaw := none }) →
    exec (.thaw n rtc) s = .next (w.replay.flushVectors.sealSend.tapCheck))

/-- R522, R523, R530: the instructions of the debug port. The clauses rest on the choices of log entries 3, 11, 38, 44,
which are the model's own. -/
def Obligations.DebugPortCommandsComplete : Prop := ∀ s : State, s.pwr.powered = true →
  (exec .tapReset s = .next (s.modTap fun t => { t with ir := 0x01, range := {} })) ∧
  (exec .idcode s = .next ((s.tapSelect 0x01).tapOut 0x1484018B)) ∧
  (∀ sampled preload : List Bool, exec (.samplePreload sampled preload) s =
    .next (((s.tapSelect 0x02).tapOut (scanBits sampled)).modTap fun t => { t with cells := preload })) ∧
  (tapAllows 0x03 s.lifecycle s.debugOpen s.frozen = true → exec .extest s = .next (s.modTap fun t => { t with ir := 0x03 })) ∧
  (tapAllows 0x04 s.lifecycle s.debugOpen s.frozen = true → exec .clamp s = .next (s.modTap fun t => { t with ir := 0x04 })) ∧
  (tapAllows 0x05 s.lifecycle s.debugOpen s.frozen = true → exec .highz s = .next (s.modTap fun t => { t with ir := 0x05 })) ∧
  (exec .auth s = .next (s.modTap fun t => { t with ir := 0x10 })) ∧
  (exec .bypass s = .next (s.modTap fun t => { t with ir := 0xFF })) ∧
  (s.sec.tap.ir = 0x10 → s.lifecycle ≠ 2 → s.lifecycle ≠ 3 → s.present = true → s.debugOpen = false → exec .authOpen s =
    .next ((s.openDebug scopeFull).tapAnswer (ansOk (le 1 1 ++ le 3 0)))) ∧
  (s.sec.tap.ir = 0x10 → exec .authClose s = .next (s.endDebug.tapAnswer (ansOk (le 1 (s.endDebug.get SEC_STATE.debug) ++ le 3 0)))) ∧
  (∀ nonce : BitVec 256, s.sec.tap.ir = 0x10 → s.lifecycle = 2 → s.sec.vendorOff = false → s.lockoutEnd = 0 → s.is SEC_STATE.trng_ok = true →
    exec (.tapAuthChallenge nonce) s = .next (((s.flag SEC_AUTH.nonce_valid).modSec fun c => { c with nonce := some (be 32 nonce.toNat) }).tapAnswer
      (ansOk (be 32 nonce.toNat ++ deviceIdBytes)))) ∧
  (∀ password : BitVec 128, s.sec.tap.ir = 0x10 → s.lifecycle = 2 → s.lockoutEnd = 0 → s.present = true → s.sec.password ≠ none →
    exec (.tapAuthPassword password) s = .next (s.modSec fun c => { c with auths := c.auths ++ [⟨none, false, be 16 password.toNat, []⟩] })) ∧
  (∀ (scope : Word) (r v : BitVec 256) (n : List Byte), s.sec.tap.ir = 0x10 → s.lifecycle = 2 → s.lockoutEnd = 0 → s.present = true → s.sec.nonce = some n →
    exec (.tapAuthResponse scope r v) s = .next (s.dropNonce.modSec fun c =>
      { c with auths := c.auths ++ [⟨none, true, le 4 scope.toNat ++ be 32 r.toNat ++ be 32 v.toNat, n⟩] })) ∧
  (∀ (block : BitVec 8) (offset : BitVec 24) (v : Word) (t : State), s.debugOpen = true → s.frozen = false → t = s.modTap (fun t => { t with ir := 0x11 }) →
    isBlock block.toNat = true → t.maskedReg (block.toNat * 0x1000000 + offset.toNat) = false →
    exec (.dbgReg block offset (some v)) s = .next (t.regWrite (block.toNat * 0x1000000 + offset.toNat) v) ∧
    exec (.dbgReg block offset none) s = .next ((t.regRead (block.toNat * 0x1000000 + offset.toNat)).2.tapOut (t.regRead (block.toNat * 0x1000000 + offset.toNat)).1)) ∧
  (∀ word : Fin 12, exec (.dbgStatus word) s = .next ((s.modTap fun t => { t with ir := 0x13 }).tapOut
    (s.peek (0xC000000 + 4 * word.val)))) ∧
  (∀ (command : BitVec 64) (t : State), s.debugOpen = true → s.frozen = true → t = (s.modTap fun t => { t with ir := 0x12 }).flag SEC_FREEZE_STATUS.readout →
    command.toNat % 256 ≠ 0 → exec (.frzRead command) s = .next ((t.tapOut 0).modTap fun t => { t with
      range := ⟨bits command.toNat 0 8, bits command.toNat 8 8, bits command.toNat 16 24, bits command.toNat 40 24⟩ })) ∧
  (∀ (command : BitVec 64) (t : State) (g : FrzRange), s.debugOpen = true → s.frozen = true → t = (s.modTap fun t => { t with ir := 0x12 }).flag SEC_FREEZE_STATUS.readout →
    command.toNat % 256 = 0 → t.sec.tap.range = g → g.left ≠ 0 → g.region ≠ 5 → exec (.frzRead command) s = .next ((t.tapOut (t.frzWord g.region g.unit g.next)).modTap fun t => { t with
      range := { g with next := g.next + 1, left := g.left - 1 } }))

/-- R11, R31, R394, R488, R538 to R556: host accesses, link events, doorbells, rings, interrupt moderation, SPI and
resets. The clauses rest on the choices of log entries 22, 24, 25, 28, 29, 30, 37, which are the model's own. -/
def Obligations.HostLinkEventsComplete : Prop := ∀ s : State, s.mainLive = true →
  (∀ (t : Tlp) (clash : List (Nat × Word)), s.frozen = false → s.host.spi = false → s.host.perst = false → s.host.linkUp = true → s.host.memEn = true →
    s.is HL_STATUS.ready = true →
    exec (.hostTlp t clash) s = .next (match t with
      | .memRead bar a n => (s.barRead bar.val a n clash).2.completes (.data (s.barRead bar.val a n clash).1)
      | .memWrite bar a l => (s.barWrite bar.val a l clash).completes .posted
      | .cfgRead o => (s.cfgWord o).2.completes (.data (le 4 (s.cfgWord o).1))
      | .cfgCommand m b => ((s.modHost fun h => { h with memEn := m, busMaster := b }).flushVectors).completes (.data [])
      | .cfgMsix e m => ((s.modHost fun h => { h with msixEn := e, funcMask := m }).flushVectors).completes (.data [])
      | .cfgPower d => (s.setPower d).completes (.data []))) ∧
  (∀ (speed : Fin 4) (x2 : Bool), s.host.spi = false → speed.val ≠ 0 → exec (.linkUp speed x2) s =
    .next ((((s.modHost fun h => { h with linkUp := true, perst := false, d3hot := false }).put HL_HP_STATUS.speed speed.val).put HL_HP_STATUS.width
      (b2n x2)).flushVectors)) ∧
  (∀ cause : Fin 5, s.frozen = false → s.host.spi = false → s.host.linkUp = true → exec (.hostLinkLoss cause) s = .next (s.linkLoss (cause.val + 1))) ∧
  (s.host.spi = true → s.host.linkUp = true → s.get HL_RING_CTRL.spi_timeout ≠ 0 → exec .spiTimeout s = .next (s.linkLoss 6)) ∧
  (∀ (cls : Cls) (req rsp : BitVec 16), exec (.hlDb cls req rsp) s = .next (s.ringDoorbell cls req.toNat rsp.toNat)) ∧
  (∀ cls : Cls, exec (.responseRelease cls) s = .next (s.releaseAll cls)) ∧
  ((s.host.spi = true ∨ s.host.linkUp = true) → exec .ringInit s = .next (s.modHost fun h => { h with initRun := true })) ∧
  (∀ t : State, s.host.initRun = true → t = ((((s.emptyRings.layoutRings).modHost fun h => { h with initRun := false }).put HL_STATUS.halted 0).put HL_STATUS.init_needed 0) →
    exec .ringInitDone s = .next ((t.put HL_EVT_CONS.cons (t.get HL_EVT_PROD.prod)).sealSend)) ∧
  (∀ value : BitVec 16, (value.toNat + 65536 - s.get HL_EVT_CONS.cons) % 65536 ≤ (s.get HL_EVT_PROD.prod + 65536 - s.get HL_EVT_CONS.cons) % 65536 →
    exec (.evtConsWrite value) s = .next (s.put HL_EVT_CONS.cons value.toNat)) ∧
  (∀ value : BitVec 16, (s.get HL_EVT_PROD.prod + 65536 - s.get HL_EVT_CONS.cons) % 65536 < (value.toNat + 65536 - s.get HL_EVT_CONS.cons) % 65536 →
    exec (.evtConsWrite value) s = .next s) ∧
  (exec .hlTime s = .next (s.putTimeRec HL_TIME_SEC_LO.sec_lo HL_TIME_SEC_HI.sec_hi HL_TIME_NS.ns HL_TIME_FRAC.frac s.clockNow)) ∧
  (∀ vector : Fin 32, exec (.msixUnmask vector) s = .next
    (s.modHost fun h => { h with vecs := vmod (fun x => { x with masked := false }) h.vecs vector.val }).flushVectors) ∧
  (∀ (cls : Fin 3) (u t : State), vget false s.host.modRun cls = true →
    u = s.advanceTo (vget 0 s.host.modAt cls + s.get HL_IRQ_MOD.interval_us * microsecond) → vget false u.host.modPend cls = true →
    t = (u.modHost fun h => { h with modPend := vmod (fun _ => false) h.modPend cls }).sendVector (cls.val + 1) →
    exec (.irqModExpiry cls) s = .next (t.modHost fun h => { h with
      modRun := vmod (fun _ => decide (s.get HL_IRQ_MOD.interval_us ≠ 0)) h.modRun cls, modAt := vmod (fun _ => t.ltu.now) h.modAt cls })) ∧
  (∀ (cls : Fin 3) (u : State), vget false s.host.modRun cls = true →
    u = s.advanceTo (vget 0 s.host.modAt cls + s.get HL_IRQ_MOD.interval_us * microsecond) → vget false u.host.modPend cls = false →
    exec (.irqModExpiry cls) s = .next (u.modHost fun h => { h with modRun := vmod (fun _ => false) h.modRun cls })) ∧
  (∀ (mosi : List Byte) (clash : List (Nat × Word)), s.host.spi = true → s.frozen = false → exec (.spiTransaction mosi clash) s = .next (s.spiRun mosi clash)) ∧
  (∀ rtc : BitVec 48, exec (.devReset 0xA5 rtc) s = .next ((s.shutdownSteps rtc.toNat).mainReset true)) ∧
  (∀ (key : BitVec 8) (rtc : BitVec 48), key ≠ 0xA5 → exec (.devReset key rtc) s = .next s) ∧
  (∀ address value : Word, exec (.registerWrite address value) s = .next (s.regWrite address.toNat value))

/-- R235, R326, R568, R569, R578: the requests of the GNSS group and its read-outs. The clauses rest on the choices of log
entries 9, 15, 35, which are the model's own. -/
def Obligations.GnssRequestsComplete : Prop := ∀ s : State,
  (∀ (r : Req) (p : List Byte), s.takes 5 → p.length = 4 → byteAt p 0 < 12 → byteAt p 1 = 0 → fieldAt p 2 2 = 0 → exec (.laneSet r p) s =
      .next ((s.laneStop (byteAt p 0)).answer (s.open ⟨.A, 0x0201, 5⟩ r) (ansOk (le 4 0)))) ∧
  (∀ (r : Req) (p : List Byte) (x : Preset) (others : List Nat) (t : State), s.takes (if byteAt p 1 != 0 && decide (3 ≤ (s.lanesUsed.filter (· != byteAt p 0)).length) then 6 else 5) → p.length = 4 → byteAt p 0 < 12 → byteAt p 1 ≤ 14 → fieldAt p 2 2 = 0 → presetOf (byteAt p 1) = some x → others = ((s.lanesUsed.filter (· != byteAt p 0)).filterMap fun k => if s.is (LANE_STATUS.running k) then (s.lane k).cfg.map DecCfg.d else some (s.decFields k).d) → aggregateOk (x.a * x.b :: others) = true → t = (((s.answerTo (s.lane (byteAt p 0)).req (ansAborted 6)).programPreset (byteAt p 0) x).modLane (byteAt p 0) fun y => { y with req := some (s.open ⟨.A, 0x0201, (if byteAt p 1 != 0 && decide (3 ≤ (s.lanesUsed.filter (· != byteAt p 0)).length) then 6 else 5)⟩ r) }) → exec (.laneSet r p) s =
      .next (if t.is (LANE_STATUS.running (byteAt p 0)) = true then t.laneRestart (byteAt p 0) else t.laneEnable (byteAt p 0))) ∧
  (∀ (r : Req) (p : List Byte) (lane c : Nat) (t : State), s.takes (if 64 ≤ ((s.shf.chans.map Prod.fst).filter fun c => s.chanState c != 0).length then 6 else 5) → p.length = 4 → sigTracked (byteAt p 0) = true → s.laneFor (byteAt p 0) = some lane → byteAt p 1 ≠ 0 → Config.hasTemplate (byteAt p 0) (byteAt p 1) = true → okIntegration (byteAt p 0) (byteAt p 1) (byteAt p 2) (bit (byteAt p 3) 0) = true → byteAt p 3 < 4 → s.request (byteAt p 0) (byteAt p 1) (byteAt p 2) (bit (byteAt p 3) 0) (bit (byteAt p 3) 1) lane = (.admitted c, t) → exec (.signalAdd r p) s =
      .next (t.answer (s.open ⟨.A, 0x0202, (if 64 ≤ ((s.shf.chans.map Prod.fst).filter fun c => s.chanState c != 0).length then 6 else 5)⟩ r) (ansOk (le 2 c ++ le 2 0)))) ∧
  (∀ (r : Req) (p : List Byte) (cs : List Nat), s.takes 5 → p.length = 4 → sigTracked (byteAt p 0) = true → fieldAt p 2 2 = 0 → cs = ((s.shf.chans.map Prod.fst).filter fun c => s.chanState c != 0 && !s.pairOdd c &&
      s.get (SHF_CH_CODE.signal c) == byteAt p 0 && (byteAt p 1 == 0 || s.get (SHF_CH_CODE.sat c) == byteAt p 1)) → exec (.signalDrop r p) s =
      .next ((cs.foldl (fun s c => s.chanStop c) s).answer (s.open ⟨.A, 0x0203, 5⟩ r) (ansOk (le 2 cs.length ++ le 2 0)))) ∧
  (∀ (r : Req) (p : List Byte) (t : State), s.takes 0 → p.length = 28 → byteAt p 0 < 2 → fieldAt p 1 1 = 0 → (∀ i < 24, byteAt p (4 + i) ≤ 7) → t = ((s.modNav fun n => { n with
      preempt := byteAt p 0 == 1, prio := Vector.ofFn fun i => if i.val = 0 then 0 else byteAt p (3 + i.val) }).modShf fun x => { x with drop := fieldAt p 2 2 }) → exec (.channelPolicy r p) s =
      .next (((t.shf.chans.map Prod.fst).foldl (fun s c => s.put (SHF_CH_CFG.prio c) (vget 0 s.nav.prio (s.get (SHF_CH_CODE.signal c)))) t).answer (s.open ⟨.A, 0x0204, 0⟩ r) (ansOk []))) ∧
  (∀ (r : Req) (p : List Byte), s.takes 5 → p.length = 16 → okReportPeriod (fieldAt p 0 4) = true → 5 ≤ byteAt p 12 → byteAt p 12 ≤ 9 → byteAt p 13 < 16 → byteAt p 14 < 2 → fieldAt p 15 1 = 0 → (s.is STW_STATUS.single_pair = false ∨ fieldAt p 0 4 = 0 ∨ 100 ≤ fieldAt p 0 4) → exec (.reportCfg r p) s =
      .next ((s.modNav fun n => { n with
        period := fieldAt p 0 4, hal := fieldAt p 4 4, val := fieldAt p 8 4, pirExp := byteAt p 12, corrEn := byteAt p 13
        osnmaEn := byteAt p 14 == 1 }).answer (s.open ⟨.A, 0x0205, 5⟩ r) (ansOk []))) ∧
  (∀ (r : Req) (p : List Byte), s.takes 5 → p.length = 32 → okLat (sfieldAt p 0 8) = true → okLon (sfieldAt p 8 8) = true → exec (.aiding r p) s =
      .next ((s.modNav fun n => { n with aiding := some p, refTol := fieldAt p 28 4 }).answer (s.open ⟨.A, 0x0206, 5⟩ r) (ansOk []))) ∧
  (∀ (r : Req) (p : List Byte) (t u : State), s.takes (if bit (byteAt p 0) 0 then 7 else 5) → byteAt p 0 < 2 → 2 ≤ byteAt p 1 → byteAt p 1 ≤ 9 → 1 ≤ byteAt p 4 → byteAt p 4 ≤ 64 → fieldAt p 5 3 = 0 → p.length = 8 + 2 * byteAt p 4 → s.is THR_CTRL.enable = true → s.thr.queued = none → (s.searchPlan (searchList p)).length ≤ 64 → t = (((((((List.range 64).foldl (fun s j => s.put (THR_JOB_CFG.valid j) 0) s).nextFree.modThr fun t => { t with pjob := byteAt p 1 }).writeJobs 0 (s.searchPlan (searchList p))).accept
      (s.open ⟨.A, 0x0209, (if bit (byteAt p 0) 0 then 7 else 5)⟩ r)).put THR_PASS_CFG.k (clampNat 1 1024 (fieldAt p 2 2))).put THR_PASS_CFG.source 0).put THR_PASS_CFG.start_mode 0 → u = (t.put THR_EVENT.cfg_error 0).latchPass (some (s.open ⟨.A, 0x0209, (if bit (byteAt p 0) 0 then 7 else 5)⟩ r)) → exec (.search r p) s =
      .next (if u.is THR_EVENT.cfg_error then u.answer (s.open ⟨.A, 0x0209, (if bit (byteAt p 0) 0 then 7 else 5)⟩ r) (ansAborted 8) else u.put THR_EVENT.cfg_error (b2n (t.is THR_EVENT.cfg_error)))) ∧
  (∀ (r : Req) (p : List Byte) (d : Declared), s.takes 5 → p.length = 32 → okLat (sfieldAt p 0 8) = true → okLon (sfieldAt p 8 8) = true → byteAt p 28 < 2 → fieldAt p 29 3 = 0 → d = ⟨sfieldAt p 0 8, sfieldAt p 8 8, sfieldAt p 16 4, fieldAt p 20 4, fieldAt p 24 4, none⟩ → exec (.declare r p) s =
      .next ((s.modNav fun n => { n with declared := if byteAt p 28 == 1 then none else some d }).answer (s.open ⟨.A, 0x020A, 5⟩ r) (ansOk []))) ∧
  (∀ (r : Req) (p : List Byte) (d : NavData), s.takes 5 → p.length = 4 → byteAt p 0 < 7 → byteAt p 2 < 3 → fieldAt p 3 1 = 0 → firstThat (fun x => x.system == byteAt p 0 && x.sat == byteAt p 1 && x.kind == byteAt p 2) s.nav.data = some d → exec (.navDataGet r p) s =
      .next (s.chunks (s.open ⟨.C, 0x020B, 5⟩ r) (timeBytes d.time ++ le 2 d.nbits ++ le 2 0 ++ d.bits))) ∧
  (∀ (r : Req) (p : List Byte), s.takes 5 → p.length = 0 → exec (.signalStatus r p) s =
      .next (s.chunks (s.open ⟨.C, 0x0902, 5⟩ r) (((s.shf.chans.map Prod.fst).filter fun c => s.chanState c != 0).map fun c =>
        le 1 (s.get (SHF_CH_CODE.signal c)) ++ le 1 (s.get (SHF_CH_CODE.sat c)) ++ le 1 (s.lockOf c).lock ++ le 1 0 ++ le 2 (s.lockOf c).cn0 ++
          le 2 0 ++ le 4 (min 0xFFFFFFFF ((s.ltu.now - (s.lockOf c).since) / (1000000 * nanosecond)))).flatten)) ∧
  (∀ (r : Req) (p : List Byte), s.takes 5 → p.length = 0 → exec (.acqSummary r p) s =
      .next (s.chunks (s.open ⟨.C, 0x0903, 5⟩ r) (s.thr.results.map fun x =>
        (x.drop 1).take 3 ++ le 1 0 ++ (x.drop 18).take 2 ++ le 2 0 ++ (x.drop 20).take 16).flatten))

/-- R45, R48, R575: bays, UARTs and check-value units are delegated and returned, and their owners listed. The clauses
rest on the choices of log entry 35, which are the model's own. -/
def Obligations.OwnershipRequestsComplete : Prop := ∀ s : State,
  (∀ (r : Req) (p : List Byte), s.takes 4 → p.length = 4 → byteAt p 0 = 0 → byteAt p 1 < 8 → byteAt p 2 = 0x20 → exec (.delegate r p) s =
      .next (((s.accept (s.open ⟨.A, 0x0701, 4⟩ r)).put (UART_OWNER.owner (byteAt p 1)) 0x20).answer (s.open ⟨.A, 0x0701, 4⟩ r) (ansOk []))) ∧
  (∀ (r : Req) (p : List Byte), s.takes 4 → p.length = 4 → byteAt p 0 = 1 → byteAt p 1 < 16 → byteAt p 2 = 0x20 → exec (.delegate r p) s =
      .next (((s.accept (s.open ⟨.A, 0x0701, 4⟩ r)).put (CVU_OWNER.owner (byteAt p 1)) 0x20).answer (s.open ⟨.A, 0x0701, 4⟩ r) (ansOk []))) ∧
  (∀ (r : Req) (p : List Byte), s.takes (if byteAt p 1 ≤ 55 then 5 else 4) → p.length = 4 → byteAt p 0 = 2 → byteAt p 1 < 64 → byteAt p 1 ≠ 60 → byteAt p 1 ≠ 61 → byteAt p 1 ≠ 63 → outsideOwner (byteAt p 2) = true → (s.get (BAY_OWNER.owner_id (byteAt p 1)) ≠ byteAt p 2 ∨ s.is (BAY_OWNER.busy (byteAt p 1)) = true) → s.bayOwned (byteAt p 1) (byteAt p 2) = false → (ownerCore (byteAt p 2)).bind (s.coreRefuses · (byteAt p 1)) = none → exec (.delegate r p) s =
      .next (s.delegateBay (s.open ⟨.A, 0x0701, (if byteAt p 1 ≤ 55 then 5 else 4)⟩ r) (byteAt p 1) (byteAt p 2) (bit (byteAt p 3) 0))) ∧
  (∀ (r : Req) (p : List Byte), s.takes 0 → p.length = 4 → byteAt p 0 = 0 → byteAt p 1 < 8 → fieldAt p 2 2 = 0 → s.get (UART_OWNER.owner (byteAt p 1)) = 0x20 → exec (.returnBlock r p) s =
      .next (((s.accept (s.open ⟨.A, 0x0702, 0⟩ r)).uartReturn (byteAt p 1)).answer (s.open ⟨.A, 0x0702, 0⟩ r) (ansOk []))) ∧
  (∀ (r : Req) (p : List Byte), s.takes 0 → p.length = 4 → byteAt p 0 = 1 → byteAt p 1 < 16 → fieldAt p 2 2 = 0 → s.get (CVU_OWNER.owner (byteAt p 1)) = 0x20 → exec (.returnBlock r p) s =
      .next (((s.accept (s.open ⟨.A, 0x0702, 0⟩ r)).cvuReturn (byteAt p 1)).answer (s.open ⟨.A, 0x0702, 0⟩ r) (ansOk []))) ∧
  (∀ (r : Req) (p : List Byte), s.takes 0 → p.length = 4 → byteAt p 0 = 2 → byteAt p 1 < 64 → fieldAt p 2 2 = 0 → s.bayOut (byteAt p 1) = true → exec (.returnBlock r p) s =
      .next (((s.accept (s.open ⟨.A, 0x0702, 0⟩ r)).bayHome (byteAt p 1)).modGran fun g =>
        { g with waits := g.waits ++ [(byteAt p 1, (s.open ⟨.A, 0x0702, 0⟩ r))] })) ∧
  (∀ (r : Req) (p : List Byte), s.takes 0 → p.length = 0 → exec (.owners r p) s =
      .next (s.answer (s.open ⟨.C, 0x0703, 0⟩ r) (ansOk ((List.range 8).flatMap (fun n => le 1 (s.get (UART_OWNER.owner n))) ++
        (List.range 16).flatMap (fun c => le 1 (s.get (CVU_OWNER.owner c))) ++ (List.range 64).flatMap fun b => le 1 (s.get (BAY_OWNER.owner_id b))))))

/-- R436, R509 to R524, R576: the requests of the security group. The clauses rest on the choices of log entries 3, 11,
23, 35, 38, which are the model's own. -/
def Obligations.SecurityRequestsComplete : Prop := ∀ s : State,
  (∀ (r : Req) (p : List Byte), s.takes 0 → p.length = 0 → s.lifecycle ≤ 3 → exec (.secGet r p) s =
      .next (s.answer (s.open ⟨.A, 0x0801, 0⟩ r) (ansOk (le 4 (s.word SEC_STATE).toNat ++ le 4 (s.showPres.word SEC_PRES).toNat ++ le 4 (s.word SEC_SEAL_STATUS).toNat ++
        le 4 (s.word SEC_AUTH).toNat ++ le 8 s.lockoutEnd ++ le 2 s.sec.exportGen ++ le 2 s.sec.transportGen ++ le 4 s.sec.secMin)))) ∧
  (∀ (r : Req) (p : List Byte), s.takes 0 → p.length = 4 → byteAt p 0 = 2 → fieldAt p 1 3 = 0 → s.lifecycle = 3 → exec (.lifecycle r p) s =
      .next (s.endDebug.answer (s.open ⟨.A, 0x0802, 0⟩ r) (ansOk (le 4 2)))) ∧
  (∀ (r : Req) (p : List Byte), s.takes 0 → p.length = 4 → byteAt p 0 = 1 → fieldAt p 1 3 = 0 → s.lifecycle = 0 → s.present = true → s.sec.provision = none → s.is SEC_STATE.trng_ok = true → exec (.lifecycle r p) s =
      .next ((s.accept (s.open ⟨.A, 0x0802, 0⟩ r)).modSec fun c => { c with provision := some (s.open ⟨.A, 0x0802, 0⟩ r) })) ∧
  (∀ (r : Req) (p : List Byte), s.takes 0 → p.length = 4 → byteAt p 0 = 2 → fieldAt p 1 3 = 0 → s.lifecycle = 1 → s.present = true → s.sec.provision = none → exec (.lifecycle r p) s =
      .next ((((s.blow 2).closeDebug).strapOff.tapCheck).answer (s.open ⟨.A, 0x0802, 0⟩ r) (ansOk (le 4 2)))) ∧
  (∀ (r : Req) (p : List Byte), s.takes 0 → p.length = 4 → byteAt p 0 = 4 → fieldAt p 1 3 = 0 → (s.lifecycle = 0 ∨ s.lifecycle = 1 ∨ s.lifecycle = 3) → s.present = true → s.sec.provision = none → exec (.lifecycle r p) s =
      .next (s.retire.answer (s.open ⟨.A, 0x0802, 0⟩ r) (ansOk (le 4 4)))) ∧
  (∀ (r : Req) (p : List Byte) (salt : BitVec 128), s.takes 0 → byteAt p 0 = 1 → byteAt p 1 = 0 → p.length = 68 → fieldAt p 2 2 = 64 → (s.lifecycle = 0 ∨ s.lifecycle = 1 ∨ s.lifecycle = 3 ∧ s.present = true) → exec (.keyInstall r p salt) s =
      .next ((s.modSec fun c => { c with kernelKey := some (p.drop 4), kernelGen := c.kernelGen + 1 }).answer (s.open ⟨.A, 0x0803, 0⟩ r) (ansGen (s.sec.kernelGen + 1)))) ∧
  (∀ (r : Req) (p : List Byte) (salt : BitVec 128), s.takes 0 → byteAt p 0 = 5 → byteAt p 1 = 0 → p.length = 20 → fieldAt p 2 2 = 16 → (s.lifecycle = 0 ∨ s.lifecycle = 1 ∨ s.lifecycle = 3 ∧ s.present = true) → s.is SEC_STATE.trng_ok = true → exec (.keyInstall r p salt) s =
      .next ((s.modSec fun c => { c with
        password := some (be 16 salt.toNat, Config.sha256 (be 16 salt.toNat ++ p.drop 4)), passwordGen := c.passwordGen + 1 }).answer (s.open ⟨.A, 0x0803, 0⟩ r)
          (ansGen (s.sec.passwordGen + 1)))) ∧
  (∀ (r : Req) (p : List Byte) (salt : BitVec 128), s.takes 0 → byteAt p 0 = 2 → byteAt p 1 = 0 → p.length = 36 → fieldAt p 2 2 = 32 → (s.lifecycle = 0 ∨ s.lifecycle = 1) → exec (.keyInstall r p salt) s =
      .next ((s.modSec fun c => { c with exportKey := some (p.drop 4), exportGen := c.exportGen + 1 }).answer (s.open ⟨.A, 0x0803, 0⟩ r) (ansGen (s.sec.exportGen + 1)))) ∧
  (∀ (r : Req) (p : List Byte) (salt : BitVec 128) (k v : List Byte), s.takes 0 → byteAt p 0 = 2 → byteAt p 1 = 1 → p.length = 44 → fieldAt p 2 2 = 40 → s.sec.exportKey = some k → Config.keyUnwrap k (p.drop 4) = some v → s.lifecycle ≤ 3 → exec (.keyInstall r p salt) s =
      .next ((s.modSec fun c => { c with exportKey := some v, exportGen := c.exportGen + 1 }).answer (s.open ⟨.A, 0x0803, 0⟩ r) (ansGen (s.sec.exportGen + 1)))) ∧
  (∀ (r : Req) (p : List Byte) (salt : BitVec 128), s.takes 0 → byteAt p 0 = 3 → byteAt p 1 = 0 → p.length = 36 → fieldAt p 2 2 = 32 → (s.lifecycle = 0 ∨ s.lifecycle = 1) → exec (.keyInstall r p salt) s =
      .next ((s.modSec fun c => { c with transportKey := some (p.drop 4), transportGen := c.transportGen + 1 }).answer (s.open ⟨.A, 0x0803, 0⟩ r) (ansGen (s.sec.transportGen + 1)))) ∧
  (∀ (r : Req) (p : List Byte) (salt : BitVec 128) (k v : List Byte), s.takes 0 → byteAt p 0 = 3 → byteAt p 1 = 1 → p.length = 44 → fieldAt p 2 2 = 40 → s.sec.transportKey = some k → Config.keyUnwrap k (p.drop 4) = some v → s.lifecycle ≤ 3 → exec (.keyInstall r p salt) s =
      .next ((s.modSec fun c => { c with transportKey := some v, transportGen := c.transportGen + 1 }).answer (s.open ⟨.A, 0x0803, 0⟩ r) (ansGen (s.sec.transportGen + 1)))) ∧
  (∀ (r : Req) (p : List Byte) (salt : BitVec 128), s.takes 0 → byteAt p 0 = 4 → byteAt p 1 = 0 → byteAt p 5 < 2 → p.length = 4 + (if byteAt p 5 = 0 then 67 else 101) → fieldAt p 2 2 = (if byteAt p 5 = 0 then 67 else 101) → (s.lifecycle = 0 ∨ s.lifecycle = 1 ∨ s.lifecycle = 3) → exec (.keyInstall r p salt) s =
      .next ((s.modSec fun c => { c with osnma := some (p.drop 4), osnmaGen := c.osnmaGen + 1 }).answer (s.open ⟨.A, 0x0803, 0⟩ r) (ansGen (s.sec.osnmaGen + 1)))) ∧
  (∀ (r : Req) (p : List Byte) (c : List Byte), s.takes 0 → p.length = 4 → byteAt p 0 < 4 → fieldAt p 1 3 = 0 → s.certOf (byteAt p 0) = some c → exec (.certRead r p) s =
      .next (s.chunks (s.open ⟨.C, 0x0804, 0⟩ r) c)) ∧
  (∀ (r : Req) (p : List Byte) (b : List Byte) (n : Nat), s.takes 0 → 5 ≤ p.length → p.length ≤ 1004 → (s.lifecycle = 1 ∨ s.lifecycle = 3) → fieldAt p 0 4 = s.sec.certStage.length → b = s.sec.certStage ++ p.drop 4 → derLength b = some n → n = b.length → Config.certKey b = some Config.positionPublic → exec (.certInstall r p) s =
      .next (((s.modSec fun c => { c with certStage := [] }).modSec fun c => { c with cert := some b }).answer (s.open ⟨.C, 0x0805, 0⟩ r) (ansOk []))) ∧
  (∀ (r : Req) (p : List Byte) (b : List Byte) (n : Nat), s.takes 0 → 5 ≤ p.length → p.length ≤ 1004 → (s.lifecycle = 1 ∨ s.lifecycle = 3) → fieldAt p 0 4 = s.sec.certStage.length → b = s.sec.certStage ++ p.drop 4 → derLength b = some n → b.length < n → exec (.certInstall r p) s =
      .next ((s.modSec fun c => { c with certStage := b }).answer (s.open ⟨.C, 0x0805, 0⟩ r) (ansOk []))) ∧
  (∀ (r : Req) (p : List Byte), s.takes 0 → p.length = 4 → (s.lifecycle = 1 ∨ s.lifecycle = 2 ∨ s.lifecycle = 3) → s.sec.secMin < fieldAt p 0 4 → exec (.secMin r p) s =
      .next ((s.modSec fun c => { c with secMin := fieldAt p 0 4 }).answer (s.open ⟨.A, 0x0806, 0⟩ r) (ansOk []))) ∧
  (∀ (r : Req) (p : List Byte) (nonce : BitVec 256), s.takes 0 → p.length = 0 → s.lifecycle = 2 → s.sec.vendorOff = false → s.lockoutEnd = 0 → s.is SEC_STATE.trng_ok = true → exec (.authChallenge r p nonce) s =
      .next (((s.flag SEC_AUTH.nonce_valid).modSec fun c => { c with nonce := some (be 32 nonce.toNat) }).answer (s.open ⟨.A, 0x0807, 0⟩ r) (ansOk (be 32 nonce.toNat ++ deviceIdBytes)))) ∧
  (∀ (r : Req) (p : List Byte) (n : List Byte), s.takes 0 → p.length = 68 → s.lifecycle = 2 → s.lockoutEnd = 0 → s.present = true → s.sec.nonce = some n → exec (.authResponse r p) s =
      .next (s.dropNonce.modSec fun c => { c with auths := c.auths ++ [⟨some (s.open ⟨.A, 0x0808, 0⟩ r), true, p, n⟩] })) ∧
  (∀ (r : Req) (p : List Byte), s.takes 0 → p.length = 16 → s.lifecycle = 2 → s.lockoutEnd = 0 → s.present = true → s.sec.password ≠ none → exec (.authPassword r p) s =
      .next (s.modSec fun c => { c with auths := c.auths ++ [⟨some (s.open ⟨.A, 0x0809, 0⟩ r), false, p, []⟩] })) ∧
  (∀ (r : Req) (p : List Byte), s.takes 0 → p.length = 4 → byteAt p 0 = 0 → byteAt p 1 < 2 → byteAt p 2 < 2 → fieldAt p 3 1 = 0 → (s.lifecycle = 0 ∨ s.lifecycle = 1) → exec (.sealReq r p) s =
      .next ((s.sealSet (byteAt p 1 == 1) (byteAt p 2 == 1)).answer (s.open ⟨.A, 0x080A, 0⟩ r) (ansOk []))) ∧
  (∀ (r : Req) (p : List Byte), s.takes 0 → p.length = 4 → byteAt p 0 = 1 → fieldAt p 3 1 = 0 → (s.lifecycle = 1 ∨ s.lifecycle = 3) → s.present = true → exec (.sealReq r p) s =
      .next (s.sealClear.answer (s.open ⟨.A, 0x080A, 0⟩ r) (ansOk []))) ∧
  (∀ (r : Req) (p : List Byte), s.takes 0 → p.length = 0 → s.lifecycle ≠ 0 → s.sec.marketFuse = false → s.regStore ≠ none → exec (.marketLock r p) s =
      .next (((s.modSec fun c => { c with marketFuse := true }).flag SEC_STATE.market_locked).showStore.answer (s.open ⟨.A, 0x080B, 0⟩ r) (ansOk []))) ∧
  (∀ (r : Req) (p : List Byte), s.takes 0 → p.length = 0 → (s.lifecycle = 1 ∨ s.lifecycle = 3) → s.present = true → exec (.vendorDebugOff r p) s =
      .next (((s.dropNonce.modSec fun c => { c with vendorOff := true }).flag SEC_STATE.vendor_debug_off).answer (s.open ⟨.A, 0x080C, 0⟩ r) (ansOk []))) ∧
  (∀ (r : Req) (p : List Byte), s.takes 0 → p.length = 4 → byteAt p 0 = 0 → fieldAt p 1 3 = 0 → s.lifecycle ≠ 2 → s.lifecycle ≠ 3 → s.present = true → s.debugOpen = false → exec (.debug r p) s =
      .next ((s.openDebug scopeFull).answer (s.open ⟨.A, 0x080D, 0⟩ r) (ansOk (le 1 1 ++ le 3 0)))) ∧
  (∀ (r : Req) (p : List Byte), s.takes 0 → p.length = 4 → byteAt p 0 = 1 → fieldAt p 1 3 = 0 → exec (.debug r p) s =
      .next (s.endDebug.answer (s.open ⟨.A, 0x080D, 0⟩ r) (ansOk (le 1 (s.endDebug.get SEC_STATE.debug) ++ le 3 0))))

/-- R42, R578, R579: the requests of the diagnostics group. The clauses rest on the choices of log entries 5, 49, 50,
which are the model's own. -/
def Obligations.DiagnosticsRequestsComplete : Prop := ∀ s : State,
  (∀ (r : Req) (p : List Byte), s.takes 0 → p.length = 8 → 1 ≤ byteAt p 0 → byteAt p 0 ≤ 0x0C → fieldAt p 1 1 = 0 → fieldAt p 2 2 % 4 = 0 → fieldAt p 2 2 < blockEnd (byteAt p 0) → 1 ≤ fieldAt p 4 2 → fieldAt p 4 2 ≤ 128 → fieldAt p 2 2 + 4 * fieldAt p 4 2 ≤ blockEnd (byteAt p 0) → fieldAt p 6 2 = 0 → exec (.regRead r p) s =
      .next (s.answer (s.open ⟨.C, 0x0901, 0⟩ r) (ansOk ((List.range (fieldAt p 4 2)).flatMap fun i => le 4 (s.peek (byteAt p 0 * 0x1000000 + fieldAt p 2 2 + 4 * i)))))) ∧
  (∀ (r : Req) (p : List Byte), s.takes 0 → p.length = 0 → exec (.counters r p) s =
      .next (s.answer (s.open ⟨.C, 0x0904, 0⟩ r) (ansOk (s.host.counters.toList.flatMap (le 4))))) ∧
  (∀ (r : Req) (p : List Byte), s.takes 0 → p.length = 0 → exec (.eventLog r p) s =
      .next (s.chunks (s.open ⟨.C, 0x0905, 0⟩ r) (logFrom 0 s.host.log))) ∧
  (∀ (r : Req) (p : List Byte), s.takes 0 → p.length = 0 → exec (.countersClear r p) s =
      .next ((s.modHost fun h => { h with counters := Vector.replicate 16 0 }).answer (s.open ⟨.A, 0x0906, 0⟩ r) (ansOk []))) ∧
  (∀ (r : Req) (p : List Byte) (k : Nat), s.takes 0 → p.length = 0 → (s.accept (s.open ⟨.A, 0x0907, 0⟩ r)).heldPair = some k → exec (.pairRetest r p) s =
      .next (((s.accept (s.open ⟨.A, 0x0907, 0⟩ r)).setPair k .retesting).modStw fun w => { w with retests := w.retests ++ [(s.open ⟨.A, 0x0907, 0⟩ r)] })) ∧
  (∀ (r : Req) (p : List Byte), s.takes 0 → p.length = 0 → (s.accept (s.open ⟨.A, 0x0907, 0⟩ r)).heldPair = none → exec (.pairRetest r p) s =
      .next ((s.accept (s.open ⟨.A, 0x0907, 0⟩ r)).answer (s.open ⟨.A, 0x0907, 0⟩ r) (ansOk (le 4 2))))

/-- R256, R267: the frame of the arithmetic and of the multiplications of a DSP core that is ready for them. -/
def Obligations.DspRegisterFrames : Prop := ∀ (s : State) (core : Fin 16), DspPlain s core →
  (∀ p ∈ [(Instr.add, 15), (Instr.sub, 15), (Instr.adds, 79), (Instr.subs, 79), (Instr.and, 15), (Instr.or, 15), (Instr.xor, 15)],
    ∀ dd ds dt, ∃ t, exec (p.1 core dd ds dt noMoves) s = .next t ∧ t = { s with dsp := t.dsp } ∧ (∀ n < 16, n ≠ core.val → t.core n = s.core n) ∧
    t.dsp.x = s.dsp.x ∧ t.dsp.y = s.dsp.y ∧ t.dsp.prog = s.dsp.prog ∧ t.dsp.kernels = s.dsp.kernels ∧
    (∀ i < 16, i ≠ s.dspPhys core dd → vget 0 (t.landed core).d i = vget 0 (s.core core).file.d i) ∧
    (∀ i < 20, bit p.2 i = false → bit (t.landed core).sr.toNat i = bit (s.core core).file.sr.toNat i) ∧
    t.landed core = { (s.core core).file with d := (t.landed core).d, sr := (t.landed core).sr }) ∧
  (∀ f ∈ [Instr.mul, Instr.mac, Instr.nmac, Instr.mulm, Instr.macm, Instr.macu],
    ∀ aa ds dt, ∃ t, exec (f core aa ds dt false noMoves) s = .next t ∧ t = { s with dsp := t.dsp } ∧ (∀ n < 16, n ≠ core.val → t.core n = s.core n) ∧
    t.dsp.x = s.dsp.x ∧ t.dsp.y = s.dsp.y ∧ t.dsp.prog = s.dsp.prog ∧ t.dsp.kernels = s.dsp.kernels ∧
    (∀ i < 4, i ≠ aa.val → vget 0 (t.landed core).acc i = vget 0 (s.core core).file.acc i) ∧
    (∀ i < 20, bit 59 i = false → bit (t.landed core).sr.toNat i = bit (s.core core).file.sr.toNat i) ∧
    t.landed core = { (s.core core).file with acc := (t.landed core).acc, sr := (t.landed core).sr })

/-- R251, R252: the words that the moves of an instruction store, by the address that the move itself gives. -/
def Obligations.DspMovesStoreAtTheirAddresses : Prop := ∀ (s : State) (core : Fin 16) (mv : Moves), DspReady s core mv false →
  Memory.wf s = true → ∀ p ∈ [(Instr.add, 15), (Instr.sub, 15), (Instr.adds, 79), (Instr.subs, 79), (Instr.and, 15), (Instr.or, 15), (Instr.xor, 15)], ∀ dd ds dt, ∃ t, exec (p.1 core dd ds dt mv) s = .next t ∧
    (∀ (y : Bool) (n a : Nat), a < 32768 → t.xyRaw y n a =
      if n = core.val ∧ storesWord (moveOf mv y) = true ∧ a = s.moveEa core (moveOf mv y)
      then (BitVec.ofNat 26 (eccStore 20 (s.dspReg core (bits (moveOf mv y) 1 4)))).toNat
      else s.xyRaw y n a) ∧
    (∀ n a, t.progRaw n a = s.progRaw n a) ∧ t.gran = s.gran ∧ t.regs = s.regs

/-- R541: event records. During a freeze an event waits for the thaw (R531), so the first clause asks that the device is
not frozen. -/
def Obligations.EventRecordsGoToTheEventPage : Prop := ∀ s : State, Memory.wf s = true →
  (∀ (e : Event) (t : Time), carrierOf e.code = .vector0 →
    (s.is SEC_STATE.frozen = false → s.emitAt t e = s.emitVector e t) ∧
    (s.emitVector e t).host.evNumber = (s.host.evNumber + 1) % 2 ^ 32 ∧
    ((s.get HL_EVT_PROD.prod + 65536 - s.get HL_EVT_CONS.cons) % 65536 ≠ 64 →
      vget [] (s.emitVector e t).host.records (s.get HL_EVT_PROD.prod % 64) = recordBytes e.code s.host.evNumber t e.data ∧
      (∀ j < 64, j ≠ s.get HL_EVT_PROD.prod % 64 →
        vget [] (s.emitVector e t).host.records j = vget [] s.host.records j) ∧
      (s.emitVector e t).get HL_EVT_PROD.prod = (s.get HL_EVT_PROD.prod + 1) % 65536 ∧
      (s.emitVector e t).get HL_EVT_LOST.lost = s.get HL_EVT_LOST.lost ∧
      (∃ u : State, s.emitVector e t = u.cause 1 0 ∧ u.host.records = (s.emitVector e t).host.records ∧ u.host.vecs = s.host.vecs)) ∧
    ((s.get HL_EVT_PROD.prod + 65536 - s.get HL_EVT_CONS.cons) % 65536 = 64 →
      (s.emitVector e t).host.records = s.host.records ∧
      (s.emitVector e t).get HL_EVT_PROD.prod = s.get HL_EVT_PROD.prod ∧
      (s.emitVector e t).get HL_EVT_LOST.lost =
        (if s.get HL_EVT_LOST.lost + 1 < 2 ^ HL_EVT_LOST.lost.width then s.get HL_EVT_LOST.lost + 1 else 2 ^ HL_EVT_LOST.lost.width - 1) ∧
      (s.emitVector e t).get HL_IRQ_CAUSE.evt_ovf = 1)) ∧
  (∀ code ∈ [0x0483, 0x0484, 0x0485, 0x0881, 0x098C], carrierOf code = .vector0) ∧
  (∀ (code number : Nat) (t : Time) (data : List Byte), code < 2 ^ 16 → number < 2 ^ 32 →
    (recordBytes code number t data).length = 32 ∧ fieldAt (recordBytes code number t data) 0 2 = code ∧
    fieldAt (recordBytes code number t data) 2 2 = 0 ∧ fieldAt (recordBytes code number t data) 4 4 = number) ∧
  (∀ k j : Nat, j < 8 → s.bar0Read (0x800 + 32 * (k % 64) + 4 * j) true [] =
    (fieldAt (vget [] s.host.records (k % 64)) (4 * j) 4, s))

/-- R467: protected identifiers and checksums of LIN. -/
def Obligations.LinIdentifierAndChecksum : Prop :=   (∀ id < 64, linPid id % 64 = id ∧ linPid id < 256 ∧
    bit (linPid id) 6 = (bit id 0 ^^ bit id 1 ^^ bit id 2 ^^ bit id 4) ∧
    bit (linPid id) 7 = !(bit id 1 ^^ bit id 3 ^^ bit id 4 ^^ bit id 5)) ∧
  (∀ (pid : Nat) (data : List Nat), linSum pid false data = 255 - carrySum 0 (data.map (BitVec.ofNat 8)) ∧
    linSum pid true data = linSum pid false (pid :: data)) ∧
  (∀ (l : List Byte) (b : Byte), carrySum 0 [] = 0 ∧ carrySum 0 (l ++ [b]) =
    if 255 < carrySum 0 l + b.toNat then (carrySum 0 l + b.toNat) % 256 + 1 else carrySum 0 l + b.toNat) ∧
  (∀ (s : State) (n id : Nat), Memory.wf s = true → n < 8 → id < 64 → ∀ f : LinFrame, ((s.linPidSeen n (linPid id)).uart n).lin = some f →
    f.enh = (bit (s.linEntry n id) 5 && id != 0x3C && id != 0x3D))

/-- R96: the words of a group of bays. -/
def Obligations.GroupWordsInterleave : Prop := ∀ (s : State) (id a k w : Nat) (write : Bool), bit a 25 = true → bits a 21 4 = k → bits a 0 21 = w →
  (∀ j, s.get (GRP_CFG.enable k) = 1 → w < 2 ^ (s.get (GRP_CFG.size k) + 1) * 131072 → s.memberSlot k id = some j →
    (write = true → bit (s.get (GRP_MEMBERS.write_en k)) j = true) →
    s.granGrant id a write = some (s.get (GRP_CFG.base_bay k) + w % 2 ^ (s.get (GRP_CFG.size k) + 1),
      w / 2 ^ (s.get (GRP_CFG.size k) + 1))) ∧
  (s.get (GRP_CFG.enable k) = 0 ∨ 2 ^ (s.get (GRP_CFG.size k) + 1) * 131072 ≤ w → ∀ (address : Nat) (x : Option Nat),
    s.granAccess id a address x = (2 ^ 40 - 1, false, true, s.refuse id address))

/-- R497 to R499, R552, R561: what the power mode makes of a request. -/
def Obligations.ModeEnvelopeOfRequests : Prop := ∀ (s : State) (k : Kind) (r : Req) (p : List Byte) (run : OpenReq → State → State), Memory.wf s = true → s.lifecycle ≠ 4 →
  (s.pwr.move.isSome = true → 4 < k.mode →
    ∃ t : State, s.enter k r p run = t ∧ t.host.deferred = s.host.deferred ++ [⟨k.op, r.seq, r.tag, p, (s.open k r).epoch⟩] ∧ t.regs = s.regs ∧ t.pwr = s.pwr) ∧
  (k.mode ≤ s.mode → (s.pwr.move = none ∨ k.mode ≤ 4) → s.enter k r p run = run (s.open k r) s) ∧
  (s.mode < k.mode → (s.pwr.move = none ∨ k.mode ≤ 4) → s.get PWR_CFG.auto_promote = 0 →
    s.enter k r p run = s.answer (s.open k r) ⟨0x20, le 1 s.mode ++ le 1 s.lifecycle ++ le 1 7 ++ le 1 0⟩ ∧ ReportsOnly s (s.enter k r p run)) ∧
  (s.mode < k.mode → (s.pwr.move = none ∨ k.mode ≤ 4) → s.get PWR_CFG.auto_promote = 1 → s.get PWR_STATUS.pfail = 1 →
    ∃ t : State, s.enter k r p run = t.answer (s.open k r) ⟨0x20, le 1 s.mode ++ le 1 s.lifecycle ++ le 1 1 ++ le 1 0⟩ ∧ t.pwr = s.pwr ∧
      t.get PWR_REFUSE.target = k.mode % 16 ∧ t.get PWR_REFUSE.blocking = 1 ∧ t.get PWR_EVENT.refused = 1 ∧
      t.get PWR_EVENT.promoted = s.get PWR_EVENT.promoted) ∧
  (s.mode < k.mode → (s.pwr.move = none ∨ k.mode ≤ 4) → s.get PWR_CFG.auto_promote = 1 → s.get PWR_STATUS.pfail = 0 →
    ∃ t : State, s.enter k r p run = t ∧ t.host.deferred = s.host.deferred ++ [⟨k.op, r.seq, r.tag, p, (s.open k r).epoch⟩] ∧
      t.pwr.move = some ⟨k.mode, 1, none⟩ ∧ t.get PWR_EVENT.promoted = 1 ∧ t.get PWR_STATUS.settling = 1)

/-- The reset columns of the register tables of spec/: one field or more of every register block that has a value other
than zero. -/
def Obligations.ResetRegisterValues : Prop :=   (∀ p ∈ [(FAB_WEIGHT.weight_a, 8), (FAB_WEIGHT.weight_b, 4), (FAB_WEIGHT.weight_c, 1), (STW_STATUS.pair0_ok, 1),
      (STW_STATUS.pair1_ok, 1), (STW_STATUS.single_pair, 0), (CLK_CTRL.bw_sel, 2), (CLK_CTRL.dither_en, 1),
      (CLK_CTRL.coast_periods, 8), (CLK_STATUS.locked, 0), (CLK_STATUS.safe_clock, 1), (CLK_DCO_CEIL.ceil_ppm, 0x61A8),
      (CLK_SYNC_CFG.sync_wait, 0x26), (AUD_CFG.enable, 1), (AUD_CFG.pause, 0x3E8), (FE_GAIN.manual_code, 0x28),
      (FE_CAL_CTRL.bg_en, 1), (THR_PASS_CFG.k, 1), (TIME_INC_INT.i, 2), (TIME_INC_FRAC.f, 0x38E38E39),
      (TIME_UNC.unc_ns, 0xFFFFFFFF), (TIME_STATUS.source, 3), (TIME_STATUS.tick_src, 2), (NET_DATASET.priority1, 0x80),
      (NET_STATUS.port_state, 3), (UWB_CTRL.ret_default, 1), (HL_ID.part, 0x4840), (HL_ID.revision, 1), (HL_ID.layout, 1)],
    State.reset.get p.1 = p.2) ∧
  (∀ n < 64, State.reset.get (BAY_OWNER.owner_id n) = if n = 60 ∨ n = 61 then 0x3E else if n = 63 then 0x0D else 0x01) ∧
  (∀ n < 12, State.reset.get (LANE_DEC_A.d_a n) = 15 ∧ State.reset.get (LANE_DEC_B.d_b n) = 12 ∧
    State.reset.get (LANE_SCALE.c_shift n) = 0x15) ∧
  (∀ n < 8, State.reset.get (UART_OWNER.owner n) = 1 ∧ State.reset.get (UART_DIV.div n) = 0x2DC7) ∧
  (∀ n < 16, State.reset.get (CVU_OWNER.owner n) = 1)

/-- A step takes the front of the queue. What a step does on an empty queue is the model's choice (log entry 1). -/
def Obligations.StepTakesFrontCommand : Prop := ∀ s : State,
  (∀ c rest, s.pending = c :: rest → step s = exec c { s with pending := rest }) ∧
  (s.pending = [] → step s = .next s.idle)

/-- No command stops the device: whatever the command and the state, a step answers a next state, and the rest of the
queue stands. -/
def Obligations.EveryStepAnswersANextState : Prop := ∀ s : State, ∃ t : State, step s = .next t ∧ t.pending = s.pending.tail

/-- The invariant of the memories: addresses strictly rise and no entry equals what an unlisted address reads as. -/
def Obligations.MemoriesStayCanonical : Prop := ∀ s t : State, step s = .next t → Memory.wf s = true → Memory.wf t = true

/-- R436, R524: fuses stay blown. R456: a FIFO holds 64 entries. R578: the event log holds 256. The counter of free values
is the model's own (log entry 3). -/
def Obligations.FusesAndBoundsAreKept : Prop := ∀ s t : State, step s = .next t →
  (s.sec.marketFuse = true → t.sec.marketFuse = true) ∧
  (s.sec.vendorOff = true → t.sec.vendorOff = true) ∧
  (s.fifosHold → t.fifosHold) ∧
  (s.logHolds → t.logHolds) ∧
  s.free ≤ t.free

/-- The invariants of MemoriesStayCanonical and FusesAndBoundsAreKept hold after reset. -/
def Obligations.ResetIsCanonical : Prop :=   Memory.wf State.reset = true ∧ State.reset.fifosHold ∧ State.reset.logHolds ∧ State.reset.pending = []

/-- R17, R507, R528: what an unpowered, reset or frozen main domain does not do (log entry 32). -/
def Obligations.HeldDomainStandsStill : Prop := ∀ (c : Instr) (s : State),
  (clockRootCommand c = false → alwaysOnCommand c = false → s.mainLive = false → exec c s = .next s) ∧
  (clockRootCommand c = true → (s.pwr.powered = false ∨ s.pwr.inReset = true) → exec c s = .next s)

/-- R516, R561: requests of a RETIRED device. That a malformed request is answered for its form first is the reading of
log entry 35. -/
def Obligations.RetiredDeviceRefusesRequests : Prop := ∀ (c : Instr) (r : Req) (s : State),
  operationalRequest c = some r → s.served = true → s.lifecycle = 4 →
  ∃ (k : Kind) (a : Answer), exec c s = .next (s.answer (s.open k r) a) ∧
    (a = s.ansState blkLifecycle ∨ a.status = 0x10 ∨ a.status = 0x11)
end

