-- ==== Sys2Proof/Laws/Sparse.lean ====
section
/-! SUPPORT. The canonical form of sparse lists: every operation keeps it, and what each operation reads afterwards. -/

namespace Sys2Proof.Machine

variable {α : Type} [DecidableEq α] {d : Nat → α}

theorem sparseWfFrom_mono {m : List (Nat × α)} {lo lo' : Nat} (h : sparseWfFrom d lo m = true) (le : lo' ≤ lo) :
    sparseWfFrom d lo' m = true := by
  cases m with
  | nil => rfl
  | cons e m =>
    obtain ⟨a, v⟩ := e
    simp only [sparseWfFrom, Bool.and_eq_true, decide_eq_true_eq] at h ⊢
    exact ⟨⟨by omega, h.1.2⟩, h.2⟩

/-- Below its lowest entry a canonical list reads as its default. -/
theorem sparseGet_below {m : List (Nat × α)} {lo k : Nat} (h : sparseWfFrom d lo m = true) (lt : k < lo) :
    sparseGet d m k = d k := by
  cases m with
  | nil => rfl
  | cons e m =>
    obtain ⟨a, v⟩ := e
    simp only [sparseWfFrom, Bool.and_eq_true, decide_eq_true_eq] at h
    simp only [sparseGet]
    rw [if_neg (by omega), if_pos (by omega)]

theorem sparseErase_wf {m : List (Nat × α)} {k : Nat} :
    ∀ {lo : Nat}, sparseWfFrom d lo m = true → sparseWfFrom d lo (sparseErase m k) = true := by
  induction m with
  | nil => intro lo _; rfl
  | cons e m ih =>
    obtain ⟨a, v⟩ := e
    intro lo h
    have h' := h
    simp only [sparseWfFrom, Bool.and_eq_true, decide_eq_true_eq] at h
    simp only [sparseErase]
    split
    · exact sparseWfFrom_mono h.2 (by omega)
    · split
      · exact h'
      · simp only [sparseWfFrom, Bool.and_eq_true, decide_eq_true_eq]
        exact ⟨h.1, ih h.2⟩

theorem sparseInsert_wf {m : List (Nat × α)} {k : Nat} {x : α} (hx : x ≠ d k) :
    ∀ {lo : Nat}, lo ≤ k → sparseWfFrom d lo m = true → sparseWfFrom d lo (sparseInsert m k x) = true := by
  induction m with
  | nil =>
    intro lo le _
    simp [sparseInsert, sparseWfFrom, le, hx]
  | cons e m ih =>
    obtain ⟨a, v⟩ := e
    intro lo le h
    simp only [sparseWfFrom, Bool.and_eq_true, decide_eq_true_eq] at h
    simp only [sparseInsert]
    split
    · next eq => subst eq; simp [sparseWfFrom, h.1.1, hx, h.2]
    · split
      · next lt =>
        simp only [sparseWfFrom, Bool.and_eq_true, decide_eq_true_eq]
        exact ⟨⟨le, hx⟩, ⟨by omega, h.1.2⟩, h.2⟩
      · simp only [sparseWfFrom, Bool.and_eq_true, decide_eq_true_eq]
        exact ⟨h.1, ih (by omega) h.2⟩

/-- A write keeps the canonical form. -/
theorem sparseSet_wf {m : List (Nat × α)} {k : Nat} {x : α} (h : sparseWf d m = true) :
    sparseWf d (sparseSet d m k x) = true := by
  unfold sparseSet
  split
  · exact sparseErase_wf h
  · next ne => exact sparseInsert_wf ne (Nat.zero_le _) h

theorem sparseKeep_wfFrom {m : List (Nat × α)} {p : Nat → Bool} :
    ∀ {lo : Nat}, sparseWfFrom d lo m = true → sparseWfFrom d lo (sparseKeep p m) = true := by
  induction m with
  | nil => intro lo _; rfl
  | cons e m ih =>
    obtain ⟨a, v⟩ := e
    intro lo h
    simp only [sparseWfFrom, Bool.and_eq_true, decide_eq_true_eq] at h
    simp only [sparseKeep]
    split
    · simp only [sparseWfFrom, Bool.and_eq_true, decide_eq_true_eq]
      exact ⟨h.1, ih h.2⟩
    · exact sparseWfFrom_mono (ih h.2) (by omega)

/-- Dropping entries keeps the canonical form. -/
theorem sparseKeep_wf {m : List (Nat × α)} {p : Nat → Bool} (h : sparseWf d m = true) :
    sparseWf d (sparseKeep p m) = true := sparseKeep_wfFrom h

/-- What is read after an entry is erased. -/
theorem sparseGet_erase {m : List (Nat × α)} {k k' : Nat} :
    ∀ {lo : Nat}, sparseWfFrom d lo m = true →
      sparseGet d (sparseErase m k) k' = if k' = k then d k else sparseGet d m k' := by
  induction m with
  | nil => intro lo _; simp only [sparseErase, sparseGet]; split <;> simp_all
  | cons e m ih =>
    obtain ⟨a, v⟩ := e
    intro lo h
    simp only [sparseWfFrom, Bool.and_eq_true, decide_eq_true_eq] at h
    simp only [sparseErase]
    by_cases hak : a = k
    · subst hak
      rw [if_pos rfl]
      by_cases hk : k' = a
      · subst hk; rw [if_pos rfl]; exact sparseGet_below h.2 (by omega)
      · rw [if_neg hk]
        simp only [sparseGet]
        rw [if_neg (by omega)]
        by_cases hlt : k' < a
        · rw [if_pos hlt]; exact sparseGet_below h.2 (by omega)
        · rw [if_neg hlt]
    · rw [if_neg hak]
      by_cases hka : k < a
      · rw [if_pos hka]
        by_cases hk : k' = k
        · subst hk; rw [if_pos rfl]; simp only [sparseGet]; rw [if_neg hak, if_pos hka]
        · rw [if_neg hk]
      · rw [if_neg hka]
        simp only [sparseGet]
        by_cases hk : a = k'
        · subst hk; rw [if_pos rfl, if_neg (by omega), if_pos rfl]
        · rw [if_neg hk, if_neg hk]
          by_cases hlt : k' < a
          · rw [if_pos hlt, if_pos hlt, if_neg (by omega)]
          · rw [if_neg hlt, if_neg hlt]; exact ih h.2

omit [DecidableEq α] in
theorem sparseGet_insert {m : List (Nat × α)} {k k' : Nat} {x : α} :
    sparseGet d (sparseInsert m k x) k' = if k' = k then x else sparseGet d m k' := by
  induction m with
  | nil =>
    simp only [sparseInsert, sparseGet]
    by_cases h : k' = k
    · subst h; simp
    · rw [if_neg (by omega), if_neg h]; split <;> rfl
  | cons e m ih =>
    obtain ⟨a, v⟩ := e
    simp only [sparseInsert]
    by_cases hak : a = k
    · subst hak
      rw [if_pos rfl]
      simp only [sparseGet]
      by_cases h : k' = a
      · subst h; simp
      · have h' : a ≠ k' := fun e => h e.symm
        rw [if_neg h', if_neg h', if_neg h]
    · rw [if_neg hak]
      by_cases hka : k < a
      · rw [if_pos hka]
        simp only [sparseGet]
        by_cases h : k' = k
        · subst h; simp
        · rw [if_neg (by omega), if_neg h]
          by_cases h2 : k' < k
          · rw [if_pos h2, if_neg (by omega), if_pos (by omega)]
          · rw [if_neg h2]
      · rw [if_neg hka]
        simp only [sparseGet]
        by_cases h : a = k'
        · subst h; rw [if_pos rfl, if_neg (by omega), if_pos rfl]
        · rw [if_neg h, if_neg h, ih]
          by_cases h2 : k' < a
          · rw [if_pos h2, if_pos h2, if_neg (by omega)]
          · rw [if_neg h2, if_neg h2]

/-- A read after a write: the value written there, and every other address as before. -/
theorem sparseGet_set {m : List (Nat × α)} {k k' : Nat} {x : α} (h : sparseWf d m = true) :
    sparseGet d (sparseSet d m k x) k' = if k' = k then x else sparseGet d m k' := by
  unfold sparseSet
  split
  · next eq => rw [sparseGet_erase h, eq]
  · exact sparseGet_insert

/-- What is read after entries are dropped. -/
theorem sparseGet_keep {m : List (Nat × α)} {p : Nat → Bool} {k : Nat} :
    ∀ {lo : Nat}, sparseWfFrom d lo m = true →
      sparseGet d (sparseKeep p m) k = if p k then sparseGet d m k else d k := by
  induction m with
  | nil => intro lo _; simp [sparseKeep, sparseGet]
  | cons e m ih =>
    obtain ⟨a, v⟩ := e
    intro lo h
    simp only [sparseWfFrom, Bool.and_eq_true, decide_eq_true_eq] at h
    have below : k < a → sparseGet d (sparseKeep p m) k = d k := fun hk =>
      sparseGet_below (sparseKeep_wfFrom h.2) (by omega)
    simp only [sparseKeep]
    by_cases hpa : p a = true
    · rw [if_pos hpa]
      simp only [sparseGet]
      by_cases hk : a = k
      · subst hk; rw [if_pos rfl, if_pos rfl, if_pos hpa]
      · rw [if_neg hk, if_neg hk]
        by_cases hlt : k < a
        · rw [if_pos hlt, if_pos hlt]; split <;> rfl
        · rw [if_neg hlt, if_neg hlt]; exact ih h.2
    · rw [if_neg hpa]
      simp only [sparseGet]
      by_cases hk : a = k
      · subst hk
        rw [if_pos rfl, if_neg hpa]
        exact sparseGet_below (sparseKeep_wfFrom h.2) (by omega)
      · rw [if_neg hk]
        by_cases hlt : k < a
        · rw [if_pos hlt, below hlt]; split <;> rfl
        · rw [if_neg hlt]; exact ih h.2

theorem sparseRun_wf {f : Nat → α} {n : Nat} : ∀ {lo lo' : Nat} {m : List (Nat × α)}, lo' ≤ lo →
    sparseWfFrom d (lo + n) m = true → sparseWfFrom d lo' (sparseRun d f lo n ++ m) = true := by
  induction n with
  | zero => intro lo lo' m le h; exact sparseWfFrom_mono h (by omega)
  | succ n ih =>
    intro lo lo' m le h
    simp only [sparseRun]
    split
    · exact ih (by omega) (by rw [show lo + 1 + n = lo + (n + 1) by omega]; exact h)
    · next ne =>
      simp only [List.cons_append, sparseWfFrom, Bool.and_eq_true, decide_eq_true_eq]
      exact ⟨⟨le, ne⟩, ih (Nat.le_refl _) (by rw [show lo + 1 + n = lo + (n + 1) by omega]; exact h)⟩

/-- The entries below a bound in front of entries from the bound on. -/
theorem sparseKeep_below_append {m m' : List (Nat × α)} {b : Nat} :
    ∀ {lo : Nat}, lo ≤ b → sparseWfFrom d lo m = true → sparseWfFrom d b m' = true →
      sparseWfFrom d lo (sparseKeep (fun a => decide (a < b)) m ++ m') = true := by
  induction m with
  | nil => intro lo le _ h'; exact sparseWfFrom_mono h' le
  | cons e m ih =>
    obtain ⟨a, v⟩ := e
    intro lo le h h'
    simp only [sparseWfFrom, Bool.and_eq_true, decide_eq_true_eq] at h
    simp only [sparseKeep, decide_eq_true_eq]
    split
    · next lt =>
      simp only [List.cons_append, sparseWfFrom, Bool.and_eq_true, decide_eq_true_eq]
      exact ⟨h.1, ih (by omega) h.2 h'⟩
    · exact ih le (sparseWfFrom_mono h.2 (by omega)) h'

theorem sparseKeep_above_wf {m : List (Nat × α)} {b : Nat} : ∀ {lo : Nat}, sparseWfFrom d lo m = true →
    sparseWfFrom d b (sparseKeep (fun a => decide (b ≤ a)) m) = true := by
  induction m with
  | nil => intro lo _; rfl
  | cons e m ih =>
    obtain ⟨a, v⟩ := e
    intro lo h
    simp only [sparseWfFrom, Bool.and_eq_true, decide_eq_true_eq] at h
    simp only [sparseKeep, decide_eq_true_eq]
    split
    · next le =>
      simp only [sparseWfFrom, Bool.and_eq_true, decide_eq_true_eq]
      exact ⟨⟨le, h.1.2⟩, sparseKeep_wfFrom h.2⟩
    · exact ih h.2

/-- Rewriting a range keeps the canonical form. -/
theorem sparseFill_wf {f : Nat → α} {m : List (Nat × α)} {lo n : Nat} (h : sparseWf d m = true) :
    sparseWf d (sparseFill d f m lo n) = true := by
  unfold sparseFill sparseWf
  rw [List.append_assoc]
  exact sparseKeep_below_append (Nat.zero_le _) h
    (sparseRun_wf (Nat.le_refl _) (sparseKeep_above_wf h))

end Sys2Proof.Machine
end

