-- ==== Sys2Proof/Laws/State.lean ====
section
/-! SUPPORT. Each update of the state and each of its fields: what the field holds afterwards, true by unfolding. -/

namespace Sys2Proof.Machine

variable (s : State)

@[simp] theorem State.setWord_regs (a : Nat) (v : Word) : (s.setWord a v).regs = sparseSet regReset s.regs a v := rfl
@[simp] theorem State.setWord_fab (a : Nat) (v : Word) : (s.setWord a v).fab = s.fab := rfl
@[simp] theorem State.setWord_stw (a : Nat) (v : Word) : (s.setWord a v).stw = s.stw := rfl
@[simp] theorem State.setWord_gran (a : Nat) (v : Word) : (s.setWord a v).gran = s.gran := rfl
@[simp] theorem State.setWord_fe (a : Nat) (v : Word) : (s.setWord a v).fe = s.fe := rfl
@[simp] theorem State.setWord_lanes (a : Nat) (v : Word) : (s.setWord a v).lanes = s.lanes := rfl
@[simp] theorem State.setWord_thr (a : Nat) (v : Word) : (s.setWord a v).thr = s.thr := rfl
@[simp] theorem State.setWord_clk (a : Nat) (v : Word) : (s.setWord a v).clk = s.clk := rfl
@[simp] theorem State.setWord_shf (a : Nat) (v : Word) : (s.setWord a v).shf = s.shf := rfl
@[simp] theorem State.setWord_dsp (a : Nat) (v : Word) : (s.setWord a v).dsp = s.dsp := rfl
@[simp] theorem State.setWord_nav (a : Nat) (v : Word) : (s.setWord a v).nav = s.nav := rfl
@[simp] theorem State.setWord_snap (a : Nat) (v : Word) : (s.setWord a v).snap = s.snap := rfl
@[simp] theorem State.setWord_ltu (a : Nat) (v : Word) : (s.setWord a v).ltu = s.ltu := rfl
@[simp] theorem State.setWord_net (a : Nat) (v : Word) : (s.setWord a v).net = s.net := rfl
@[simp] theorem State.setWord_uwb (a : Nat) (v : Word) : (s.setWord a v).uwb = s.uwb := rfl
@[simp] theorem State.setWord_uarts (a : Nat) (v : Word) : (s.setWord a v).uarts = s.uarts := rfl
@[simp] theorem State.setWord_cvus (a : Nat) (v : Word) : (s.setWord a v).cvus = s.cvus := rfl
@[simp] theorem State.setWord_pwr (a : Nat) (v : Word) : (s.setWord a v).pwr = s.pwr := rfl
@[simp] theorem State.setWord_sec (a : Nat) (v : Word) : (s.setWord a v).sec = s.sec := rfl
@[simp] theorem State.setWord_fw (a : Nat) (v : Word) : (s.setWord a v).fw = s.fw := rfl
@[simp] theorem State.setWord_host (a : Nat) (v : Word) : (s.setWord a v).host = s.host := rfl
@[simp] theorem State.setWord_free (a : Nat) (v : Word) : (s.setWord a v).free = s.free := rfl
@[simp] theorem State.setWord_pending (a : Nat) (v : Word) : (s.setWord a v).pending = s.pending := rfl
@[simp] theorem State.nextFree_regs : s.nextFree.regs = s.regs := rfl
@[simp] theorem State.nextFree_fab : s.nextFree.fab = s.fab := rfl
@[simp] theorem State.nextFree_stw : s.nextFree.stw = s.stw := rfl
@[simp] theorem State.nextFree_gran : s.nextFree.gran = s.gran := rfl
@[simp] theorem State.nextFree_fe : s.nextFree.fe = s.fe := rfl
@[simp] theorem State.nextFree_lanes : s.nextFree.lanes = s.lanes := rfl
@[simp] theorem State.nextFree_thr : s.nextFree.thr = s.thr := rfl
@[simp] theorem State.nextFree_clk : s.nextFree.clk = s.clk := rfl
@[simp] theorem State.nextFree_shf : s.nextFree.shf = s.shf := rfl
@[simp] theorem State.nextFree_dsp : s.nextFree.dsp = s.dsp := rfl
@[simp] theorem State.nextFree_nav : s.nextFree.nav = s.nav := rfl
@[simp] theorem State.nextFree_snap : s.nextFree.snap = s.snap := rfl
@[simp] theorem State.nextFree_ltu : s.nextFree.ltu = s.ltu := rfl
@[simp] theorem State.nextFree_net : s.nextFree.net = s.net := rfl
@[simp] theorem State.nextFree_uwb : s.nextFree.uwb = s.uwb := rfl
@[simp] theorem State.nextFree_uarts : s.nextFree.uarts = s.uarts := rfl
@[simp] theorem State.nextFree_cvus : s.nextFree.cvus = s.cvus := rfl
@[simp] theorem State.nextFree_pwr : s.nextFree.pwr = s.pwr := rfl
@[simp] theorem State.nextFree_sec : s.nextFree.sec = s.sec := rfl
@[simp] theorem State.nextFree_fw : s.nextFree.fw = s.fw := rfl
@[simp] theorem State.nextFree_host : s.nextFree.host = s.host := rfl
@[simp] theorem State.nextFree_free : s.nextFree.free = s.free + 1 := rfl
@[simp] theorem State.nextFree_pending : s.nextFree.pending = s.pending := rfl
@[simp] theorem State.put_fab (f : Field) (v : Nat) : (s.put f v).fab = s.fab := rfl
@[simp] theorem State.put_stw (f : Field) (v : Nat) : (s.put f v).stw = s.stw := rfl
@[simp] theorem State.put_gran (f : Field) (v : Nat) : (s.put f v).gran = s.gran := rfl
@[simp] theorem State.put_fe (f : Field) (v : Nat) : (s.put f v).fe = s.fe := rfl
@[simp] theorem State.put_lanes (f : Field) (v : Nat) : (s.put f v).lanes = s.lanes := rfl
@[simp] theorem State.put_thr (f : Field) (v : Nat) : (s.put f v).thr = s.thr := rfl
@[simp] theorem State.put_clk (f : Field) (v : Nat) : (s.put f v).clk = s.clk := rfl
@[simp] theorem State.put_shf (f : Field) (v : Nat) : (s.put f v).shf = s.shf := rfl
@[simp] theorem State.put_dsp (f : Field) (v : Nat) : (s.put f v).dsp = s.dsp := rfl
@[simp] theorem State.put_nav (f : Field) (v : Nat) : (s.put f v).nav = s.nav := rfl
@[simp] theorem State.put_snap (f : Field) (v : Nat) : (s.put f v).snap = s.snap := rfl
@[simp] theorem State.put_ltu (f : Field) (v : Nat) : (s.put f v).ltu = s.ltu := rfl
@[simp] theorem State.put_net (f : Field) (v : Nat) : (s.put f v).net = s.net := rfl
@[simp] theorem State.put_uwb (f : Field) (v : Nat) : (s.put f v).uwb = s.uwb := rfl
@[simp] theorem State.put_uarts (f : Field) (v : Nat) : (s.put f v).uarts = s.uarts := rfl
@[simp] theorem State.put_cvus (f : Field) (v : Nat) : (s.put f v).cvus = s.cvus := rfl
@[simp] theorem State.put_pwr (f : Field) (v : Nat) : (s.put f v).pwr = s.pwr := rfl
@[simp] theorem State.put_sec (f : Field) (v : Nat) : (s.put f v).sec = s.sec := rfl
@[simp] theorem State.put_fw (f : Field) (v : Nat) : (s.put f v).fw = s.fw := rfl
@[simp] theorem State.put_host (f : Field) (v : Nat) : (s.put f v).host = s.host := rfl
@[simp] theorem State.put_free (f : Field) (v : Nat) : (s.put f v).free = s.free := rfl
@[simp] theorem State.put_pending (f : Field) (v : Nat) : (s.put f v).pending = s.pending := rfl
@[simp] theorem State.flag_fab (f : Field) : (s.flag f).fab = s.fab := rfl
@[simp] theorem State.flag_stw (f : Field) : (s.flag f).stw = s.stw := rfl
@[simp] theorem State.flag_gran (f : Field) : (s.flag f).gran = s.gran := rfl
@[simp] theorem State.flag_fe (f : Field) : (s.flag f).fe = s.fe := rfl
@[simp] theorem State.flag_lanes (f : Field) : (s.flag f).lanes = s.lanes := rfl
@[simp] theorem State.flag_thr (f : Field) : (s.flag f).thr = s.thr := rfl
@[simp] theorem State.flag_clk (f : Field) : (s.flag f).clk = s.clk := rfl
@[simp] theorem State.flag_shf (f : Field) : (s.flag f).shf = s.shf := rfl
@[simp] theorem State.flag_dsp (f : Field) : (s.flag f).dsp = s.dsp := rfl
@[simp] theorem State.flag_nav (f : Field) : (s.flag f).nav = s.nav := rfl
@[simp] theorem State.flag_snap (f : Field) : (s.flag f).snap = s.snap := rfl
@[simp] theorem State.flag_ltu (f : Field) : (s.flag f).ltu = s.ltu := rfl
@[simp] theorem State.flag_net (f : Field) : (s.flag f).net = s.net := rfl
@[simp] theorem State.flag_uwb (f : Field) : (s.flag f).uwb = s.uwb := rfl
@[simp] theorem State.flag_uarts (f : Field) : (s.flag f).uarts = s.uarts := rfl
@[simp] theorem State.flag_cvus (f : Field) : (s.flag f).cvus = s.cvus := rfl
@[simp] theorem State.flag_pwr (f : Field) : (s.flag f).pwr = s.pwr := rfl
@[simp] theorem State.flag_sec (f : Field) : (s.flag f).sec = s.sec := rfl
@[simp] theorem State.flag_fw (f : Field) : (s.flag f).fw = s.fw := rfl
@[simp] theorem State.flag_host (f : Field) : (s.flag f).host = s.host := rfl
@[simp] theorem State.flag_free (f : Field) : (s.flag f).free = s.free := rfl
@[simp] theorem State.flag_pending (f : Field) : (s.flag f).pending = s.pending := rfl
@[simp] theorem State.bump_fab (f : Field) : (s.bump f).fab = s.fab := rfl
@[simp] theorem State.bump_stw (f : Field) : (s.bump f).stw = s.stw := rfl
@[simp] theorem State.bump_gran (f : Field) : (s.bump f).gran = s.gran := rfl
@[simp] theorem State.bump_fe (f : Field) : (s.bump f).fe = s.fe := rfl
@[simp] theorem State.bump_lanes (f : Field) : (s.bump f).lanes = s.lanes := rfl
@[simp] theorem State.bump_thr (f : Field) : (s.bump f).thr = s.thr := rfl
@[simp] theorem State.bump_clk (f : Field) : (s.bump f).clk = s.clk := rfl
@[simp] theorem State.bump_shf (f : Field) : (s.bump f).shf = s.shf := rfl
@[simp] theorem State.bump_dsp (f : Field) : (s.bump f).dsp = s.dsp := rfl
@[simp] theorem State.bump_nav (f : Field) : (s.bump f).nav = s.nav := rfl
@[simp] theorem State.bump_snap (f : Field) : (s.bump f).snap = s.snap := rfl
@[simp] theorem State.bump_ltu (f : Field) : (s.bump f).ltu = s.ltu := rfl
@[simp] theorem State.bump_net (f : Field) : (s.bump f).net = s.net := rfl
@[simp] theorem State.bump_uwb (f : Field) : (s.bump f).uwb = s.uwb := rfl
@[simp] theorem State.bump_uarts (f : Field) : (s.bump f).uarts = s.uarts := rfl
@[simp] theorem State.bump_cvus (f : Field) : (s.bump f).cvus = s.cvus := rfl
@[simp] theorem State.bump_pwr (f : Field) : (s.bump f).pwr = s.pwr := rfl
@[simp] theorem State.bump_sec (f : Field) : (s.bump f).sec = s.sec := rfl
@[simp] theorem State.bump_fw (f : Field) : (s.bump f).fw = s.fw := rfl
@[simp] theorem State.bump_host (f : Field) : (s.bump f).host = s.host := rfl
@[simp] theorem State.bump_free (f : Field) : (s.bump f).free = s.free := rfl
@[simp] theorem State.bump_pending (f : Field) : (s.bump f).pending = s.pending := rfl
@[simp] theorem State.modFab_regs (f : FabState → FabState) : (s.modFab f).regs = s.regs := rfl
@[simp] theorem State.modFab_fab (f : FabState → FabState) : (s.modFab f).fab = f s.fab := rfl
@[simp] theorem State.modFab_stw (f : FabState → FabState) : (s.modFab f).stw = s.stw := rfl
@[simp] theorem State.modFab_gran (f : FabState → FabState) : (s.modFab f).gran = s.gran := rfl
@[simp] theorem State.modFab_fe (f : FabState → FabState) : (s.modFab f).fe = s.fe := rfl
@[simp] theorem State.modFab_lanes (f : FabState → FabState) : (s.modFab f).lanes = s.lanes := rfl
@[simp] theorem State.modFab_thr (f : FabState → FabState) : (s.modFab f).thr = s.thr := rfl
@[simp] theorem State.modFab_clk (f : FabState → FabState) : (s.modFab f).clk = s.clk := rfl
@[simp] theorem State.modFab_shf (f : FabState → FabState) : (s.modFab f).shf = s.shf := rfl
@[simp] theorem State.modFab_dsp (f : FabState → FabState) : (s.modFab f).dsp = s.dsp := rfl
@[simp] theorem State.modFab_nav (f : FabState → FabState) : (s.modFab f).nav = s.nav := rfl
@[simp] theorem State.modFab_snap (f : FabState → FabState) : (s.modFab f).snap = s.snap := rfl
@[simp] theorem State.modFab_ltu (f : FabState → FabState) : (s.modFab f).ltu = s.ltu := rfl
@[simp] theorem State.modFab_net (f : FabState → FabState) : (s.modFab f).net = s.net := rfl
@[simp] theorem State.modFab_uwb (f : FabState → FabState) : (s.modFab f).uwb = s.uwb := rfl
@[simp] theorem State.modFab_uarts (f : FabState → FabState) : (s.modFab f).uarts = s.uarts := rfl
@[simp] theorem State.modFab_cvus (f : FabState → FabState) : (s.modFab f).cvus = s.cvus := rfl
@[simp] theorem State.modFab_pwr (f : FabState → FabState) : (s.modFab f).pwr = s.pwr := rfl
@[simp] theorem State.modFab_sec (f : FabState → FabState) : (s.modFab f).sec = s.sec := rfl
@[simp] theorem State.modFab_fw (f : FabState → FabState) : (s.modFab f).fw = s.fw := rfl
@[simp] theorem State.modFab_host (f : FabState → FabState) : (s.modFab f).host = s.host := rfl
@[simp] theorem State.modFab_free (f : FabState → FabState) : (s.modFab f).free = s.free := rfl
@[simp] theorem State.modFab_pending (f : FabState → FabState) : (s.modFab f).pending = s.pending := rfl
@[simp] theorem State.modStw_regs (f : StwState → StwState) : (s.modStw f).regs = s.regs := rfl
@[simp] theorem State.modStw_fab (f : StwState → StwState) : (s.modStw f).fab = s.fab := rfl
@[simp] theorem State.modStw_stw (f : StwState → StwState) : (s.modStw f).stw = f s.stw := rfl
@[simp] theorem State.modStw_gran (f : StwState → StwState) : (s.modStw f).gran = s.gran := rfl
@[simp] theorem State.modStw_fe (f : StwState → StwState) : (s.modStw f).fe = s.fe := rfl
@[simp] theorem State.modStw_lanes (f : StwState → StwState) : (s.modStw f).lanes = s.lanes := rfl
@[simp] theorem State.modStw_thr (f : StwState → StwState) : (s.modStw f).thr = s.thr := rfl
@[simp] theorem State.modStw_clk (f : StwState → StwState) : (s.modStw f).clk = s.clk := rfl
@[simp] theorem State.modStw_shf (f : StwState → StwState) : (s.modStw f).shf = s.shf := rfl
@[simp] theorem State.modStw_dsp (f : StwState → StwState) : (s.modStw f).dsp = s.dsp := rfl
@[simp] theorem State.modStw_nav (f : StwState → StwState) : (s.modStw f).nav = s.nav := rfl
@[simp] theorem State.modStw_snap (f : StwState → StwState) : (s.modStw f).snap = s.snap := rfl
@[simp] theorem State.modStw_ltu (f : StwState → StwState) : (s.modStw f).ltu = s.ltu := rfl
@[simp] theorem State.modStw_net (f : StwState → StwState) : (s.modStw f).net = s.net := rfl
@[simp] theorem State.modStw_uwb (f : StwState → StwState) : (s.modStw f).uwb = s.uwb := rfl
@[simp] theorem State.modStw_uarts (f : StwState → StwState) : (s.modStw f).uarts = s.uarts := rfl
@[simp] theorem State.modStw_cvus (f : StwState → StwState) : (s.modStw f).cvus = s.cvus := rfl
@[simp] theorem State.modStw_pwr (f : StwState → StwState) : (s.modStw f).pwr = s.pwr := rfl
@[simp] theorem State.modStw_sec (f : StwState → StwState) : (s.modStw f).sec = s.sec := rfl
@[simp] theorem State.modStw_fw (f : StwState → StwState) : (s.modStw f).fw = s.fw := rfl
@[simp] theorem State.modStw_host (f : StwState → StwState) : (s.modStw f).host = s.host := rfl
@[simp] theorem State.modStw_free (f : StwState → StwState) : (s.modStw f).free = s.free := rfl
@[simp] theorem State.modStw_pending (f : StwState → StwState) : (s.modStw f).pending = s.pending := rfl
@[simp] theorem State.modGran_regs (f : GranState → GranState) : (s.modGran f).regs = s.regs := rfl
@[simp] theorem State.modGran_fab (f : GranState → GranState) : (s.modGran f).fab = s.fab := rfl
@[simp] theorem State.modGran_stw (f : GranState → GranState) : (s.modGran f).stw = s.stw := rfl
@[simp] theorem State.modGran_gran (f : GranState → GranState) : (s.modGran f).gran = f s.gran := rfl
@[simp] theorem State.modGran_fe (f : GranState → GranState) : (s.modGran f).fe = s.fe := rfl
@[simp] theorem State.modGran_lanes (f : GranState → GranState) : (s.modGran f).lanes = s.lanes := rfl
@[simp] theorem State.modGran_thr (f : GranState → GranState) : (s.modGran f).thr = s.thr := rfl
@[simp] theorem State.modGran_clk (f : GranState → GranState) : (s.modGran f).clk = s.clk := rfl
@[simp] theorem State.modGran_shf (f : GranState → GranState) : (s.modGran f).shf = s.shf := rfl
@[simp] theorem State.modGran_dsp (f : GranState → GranState) : (s.modGran f).dsp = s.dsp := rfl
@[simp] theorem State.modGran_nav (f : GranState → GranState) : (s.modGran f).nav = s.nav := rfl
@[simp] theorem State.modGran_snap (f : GranState → GranState) : (s.modGran f).snap = s.snap := rfl
@[simp] theorem State.modGran_ltu (f : GranState → GranState) : (s.modGran f).ltu = s.ltu := rfl
@[simp] theorem State.modGran_net (f : GranState → GranState) : (s.modGran f).net = s.net := rfl
@[simp] theorem State.modGran_uwb (f : GranState → GranState) : (s.modGran f).uwb = s.uwb := rfl
@[simp] theorem State.modGran_uarts (f : GranState → GranState) : (s.modGran f).uarts = s.uarts := rfl
@[simp] theorem State.modGran_cvus (f : GranState → GranState) : (s.modGran f).cvus = s.cvus := rfl
@[simp] theorem State.modGran_pwr (f : GranState → GranState) : (s.modGran f).pwr = s.pwr := rfl
@[simp] theorem State.modGran_sec (f : GranState → GranState) : (s.modGran f).sec = s.sec := rfl
@[simp] theorem State.modGran_fw (f : GranState → GranState) : (s.modGran f).fw = s.fw := rfl
@[simp] theorem State.modGran_host (f : GranState → GranState) : (s.modGran f).host = s.host := rfl
@[simp] theorem State.modGran_free (f : GranState → GranState) : (s.modGran f).free = s.free := rfl
@[simp] theorem State.modGran_pending (f : GranState → GranState) : (s.modGran f).pending = s.pending := rfl
@[simp] theorem State.modFe_regs (f : FeState → FeState) : (s.modFe f).regs = s.regs := rfl
@[simp] theorem State.modFe_fab (f : FeState → FeState) : (s.modFe f).fab = s.fab := rfl
@[simp] theorem State.modFe_stw (f : FeState → FeState) : (s.modFe f).stw = s.stw := rfl
@[simp] theorem State.modFe_gran (f : FeState → FeState) : (s.modFe f).gran = s.gran := rfl
@[simp] theorem State.modFe_fe (f : FeState → FeState) : (s.modFe f).fe = f s.fe := rfl
@[simp] theorem State.modFe_lanes (f : FeState → FeState) : (s.modFe f).lanes = s.lanes := rfl
@[simp] theorem State.modFe_thr (f : FeState → FeState) : (s.modFe f).thr = s.thr := rfl
@[simp] theorem State.modFe_clk (f : FeState → FeState) : (s.modFe f).clk = s.clk := rfl
@[simp] theorem State.modFe_shf (f : FeState → FeState) : (s.modFe f).shf = s.shf := rfl
@[simp] theorem State.modFe_dsp (f : FeState → FeState) : (s.modFe f).dsp = s.dsp := rfl
@[simp] theorem State.modFe_nav (f : FeState → FeState) : (s.modFe f).nav = s.nav := rfl
@[simp] theorem State.modFe_snap (f : FeState → FeState) : (s.modFe f).snap = s.snap := rfl
@[simp] theorem State.modFe_ltu (f : FeState → FeState) : (s.modFe f).ltu = s.ltu := rfl
@[simp] theorem State.modFe_net (f : FeState → FeState) : (s.modFe f).net = s.net := rfl
@[simp] theorem State.modFe_uwb (f : FeState → FeState) : (s.modFe f).uwb = s.uwb := rfl
@[simp] theorem State.modFe_uarts (f : FeState → FeState) : (s.modFe f).uarts = s.uarts := rfl
@[simp] theorem State.modFe_cvus (f : FeState → FeState) : (s.modFe f).cvus = s.cvus := rfl
@[simp] theorem State.modFe_pwr (f : FeState → FeState) : (s.modFe f).pwr = s.pwr := rfl
@[simp] theorem State.modFe_sec (f : FeState → FeState) : (s.modFe f).sec = s.sec := rfl
@[simp] theorem State.modFe_fw (f : FeState → FeState) : (s.modFe f).fw = s.fw := rfl
@[simp] theorem State.modFe_host (f : FeState → FeState) : (s.modFe f).host = s.host := rfl
@[simp] theorem State.modFe_free (f : FeState → FeState) : (s.modFe f).free = s.free := rfl
@[simp] theorem State.modFe_pending (f : FeState → FeState) : (s.modFe f).pending = s.pending := rfl
@[simp] theorem State.modSnap_regs (f : SnapState → SnapState) : (s.modSnap f).regs = s.regs := rfl
@[simp] theorem State.modSnap_fab (f : SnapState → SnapState) : (s.modSnap f).fab = s.fab := rfl
@[simp] theorem State.modSnap_stw (f : SnapState → SnapState) : (s.modSnap f).stw = s.stw := rfl
@[simp] theorem State.modSnap_gran (f : SnapState → SnapState) : (s.modSnap f).gran = s.gran := rfl
@[simp] theorem State.modSnap_fe (f : SnapState → SnapState) : (s.modSnap f).fe = s.fe := rfl
@[simp] theorem State.modSnap_lanes (f : SnapState → SnapState) : (s.modSnap f).lanes = s.lanes := rfl
@[simp] theorem State.modSnap_thr (f : SnapState → SnapState) : (s.modSnap f).thr = s.thr := rfl
@[simp] theorem State.modSnap_clk (f : SnapState → SnapState) : (s.modSnap f).clk = s.clk := rfl
@[simp] theorem State.modSnap_shf (f : SnapState → SnapState) : (s.modSnap f).shf = s.shf := rfl
@[simp] theorem State.modSnap_dsp (f : SnapState → SnapState) : (s.modSnap f).dsp = s.dsp := rfl
@[simp] theorem State.modSnap_nav (f : SnapState → SnapState) : (s.modSnap f).nav = s.nav := rfl
@[simp] theorem State.modSnap_snap (f : SnapState → SnapState) : (s.modSnap f).snap = f s.snap := rfl
@[simp] theorem State.modSnap_ltu (f : SnapState → SnapState) : (s.modSnap f).ltu = s.ltu := rfl
@[simp] theorem State.modSnap_net (f : SnapState → SnapState) : (s.modSnap f).net = s.net := rfl
@[simp] theorem State.modSnap_uwb (f : SnapState → SnapState) : (s.modSnap f).uwb = s.uwb := rfl
@[simp] theorem State.modSnap_uarts (f : SnapState → SnapState) : (s.modSnap f).uarts = s.uarts := rfl
@[simp] theorem State.modSnap_cvus (f : SnapState → SnapState) : (s.modSnap f).cvus = s.cvus := rfl
@[simp] theorem State.modSnap_pwr (f : SnapState → SnapState) : (s.modSnap f).pwr = s.pwr := rfl
@[simp] theorem State.modSnap_sec (f : SnapState → SnapState) : (s.modSnap f).sec = s.sec := rfl
@[simp] theorem State.modSnap_fw (f : SnapState → SnapState) : (s.modSnap f).fw = s.fw := rfl
@[simp] theorem State.modSnap_host (f : SnapState → SnapState) : (s.modSnap f).host = s.host := rfl
@[simp] theorem State.modSnap_free (f : SnapState → SnapState) : (s.modSnap f).free = s.free := rfl
@[simp] theorem State.modSnap_pending (f : SnapState → SnapState) : (s.modSnap f).pending = s.pending := rfl
@[simp] theorem State.modThr_regs (f : ThrState → ThrState) : (s.modThr f).regs = s.regs := rfl
@[simp] theorem State.modThr_fab (f : ThrState → ThrState) : (s.modThr f).fab = s.fab := rfl
@[simp] theorem State.modThr_stw (f : ThrState → ThrState) : (s.modThr f).stw = s.stw := rfl
@[simp] theorem State.modThr_gran (f : ThrState → ThrState) : (s.modThr f).gran = s.gran := rfl
@[simp] theorem State.modThr_fe (f : ThrState → ThrState) : (s.modThr f).fe = s.fe := rfl
@[simp] theorem State.modThr_lanes (f : ThrState → ThrState) : (s.modThr f).lanes = s.lanes := rfl
@[simp] theorem State.modThr_thr (f : ThrState → ThrState) : (s.modThr f).thr = f s.thr := rfl
@[simp] theorem State.modThr_clk (f : ThrState → ThrState) : (s.modThr f).clk = s.clk := rfl
@[simp] theorem State.modThr_shf (f : ThrState → ThrState) : (s.modThr f).shf = s.shf := rfl
@[simp] theorem State.modThr_dsp (f : ThrState → ThrState) : (s.modThr f).dsp = s.dsp := rfl
@[simp] theorem State.modThr_nav (f : ThrState → ThrState) : (s.modThr f).nav = s.nav := rfl
@[simp] theorem State.modThr_snap (f : ThrState → ThrState) : (s.modThr f).snap = s.snap := rfl
@[simp] theorem State.modThr_ltu (f : ThrState → ThrState) : (s.modThr f).ltu = s.ltu := rfl
@[simp] theorem State.modThr_net (f : ThrState → ThrState) : (s.modThr f).net = s.net := rfl
@[simp] theorem State.modThr_uwb (f : ThrState → ThrState) : (s.modThr f).uwb = s.uwb := rfl
@[simp] theorem State.modThr_uarts (f : ThrState → ThrState) : (s.modThr f).uarts = s.uarts := rfl
@[simp] theorem State.modThr_cvus (f : ThrState → ThrState) : (s.modThr f).cvus = s.cvus := rfl
@[simp] theorem State.modThr_pwr (f : ThrState → ThrState) : (s.modThr f).pwr = s.pwr := rfl
@[simp] theorem State.modThr_sec (f : ThrState → ThrState) : (s.modThr f).sec = s.sec := rfl
@[simp] theorem State.modThr_fw (f : ThrState → ThrState) : (s.modThr f).fw = s.fw := rfl
@[simp] theorem State.modThr_host (f : ThrState → ThrState) : (s.modThr f).host = s.host := rfl
@[simp] theorem State.modThr_free (f : ThrState → ThrState) : (s.modThr f).free = s.free := rfl
@[simp] theorem State.modThr_pending (f : ThrState → ThrState) : (s.modThr f).pending = s.pending := rfl
@[simp] theorem State.modHost_regs (f : HostState → HostState) : (s.modHost f).regs = s.regs := rfl
@[simp] theorem State.modHost_fab (f : HostState → HostState) : (s.modHost f).fab = s.fab := rfl
@[simp] theorem State.modHost_stw (f : HostState → HostState) : (s.modHost f).stw = s.stw := rfl
@[simp] theorem State.modHost_gran (f : HostState → HostState) : (s.modHost f).gran = s.gran := rfl
@[simp] theorem State.modHost_fe (f : HostState → HostState) : (s.modHost f).fe = s.fe := rfl
@[simp] theorem State.modHost_lanes (f : HostState → HostState) : (s.modHost f).lanes = s.lanes := rfl
@[simp] theorem State.modHost_thr (f : HostState → HostState) : (s.modHost f).thr = s.thr := rfl
@[simp] theorem State.modHost_clk (f : HostState → HostState) : (s.modHost f).clk = s.clk := rfl
@[simp] theorem State.modHost_shf (f : HostState → HostState) : (s.modHost f).shf = s.shf := rfl
@[simp] theorem State.modHost_dsp (f : HostState → HostState) : (s.modHost f).dsp = s.dsp := rfl
@[simp] theorem State.modHost_nav (f : HostState → HostState) : (s.modHost f).nav = s.nav := rfl
@[simp] theorem State.modHost_snap (f : HostState → HostState) : (s.modHost f).snap = s.snap := rfl
@[simp] theorem State.modHost_ltu (f : HostState → HostState) : (s.modHost f).ltu = s.ltu := rfl
@[simp] theorem State.modHost_net (f : HostState → HostState) : (s.modHost f).net = s.net := rfl
@[simp] theorem State.modHost_uwb (f : HostState → HostState) : (s.modHost f).uwb = s.uwb := rfl
@[simp] theorem State.modHost_uarts (f : HostState → HostState) : (s.modHost f).uarts = s.uarts := rfl
@[simp] theorem State.modHost_cvus (f : HostState → HostState) : (s.modHost f).cvus = s.cvus := rfl
@[simp] theorem State.modHost_pwr (f : HostState → HostState) : (s.modHost f).pwr = s.pwr := rfl
@[simp] theorem State.modHost_sec (f : HostState → HostState) : (s.modHost f).sec = s.sec := rfl
@[simp] theorem State.modHost_fw (f : HostState → HostState) : (s.modHost f).fw = s.fw := rfl
@[simp] theorem State.modHost_host (f : HostState → HostState) : (s.modHost f).host = f s.host := rfl
@[simp] theorem State.modHost_free (f : HostState → HostState) : (s.modHost f).free = s.free := rfl
@[simp] theorem State.modHost_pending (f : HostState → HostState) : (s.modHost f).pending = s.pending := rfl
@[simp] theorem State.modPwr_regs (f : PwrState → PwrState) : (s.modPwr f).regs = s.regs := rfl
@[simp] theorem State.modPwr_fab (f : PwrState → PwrState) : (s.modPwr f).fab = s.fab := rfl
@[simp] theorem State.modPwr_stw (f : PwrState → PwrState) : (s.modPwr f).stw = s.stw := rfl
@[simp] theorem State.modPwr_gran (f : PwrState → PwrState) : (s.modPwr f).gran = s.gran := rfl
@[simp] theorem State.modPwr_fe (f : PwrState → PwrState) : (s.modPwr f).fe = s.fe := rfl
@[simp] theorem State.modPwr_lanes (f : PwrState → PwrState) : (s.modPwr f).lanes = s.lanes := rfl
@[simp] theorem State.modPwr_thr (f : PwrState → PwrState) : (s.modPwr f).thr = s.thr := rfl
@[simp] theorem State.modPwr_clk (f : PwrState → PwrState) : (s.modPwr f).clk = s.clk := rfl
@[simp] theorem State.modPwr_shf (f : PwrState → PwrState) : (s.modPwr f).shf = s.shf := rfl
@[simp] theorem State.modPwr_dsp (f : PwrState → PwrState) : (s.modPwr f).dsp = s.dsp := rfl
@[simp] theorem State.modPwr_nav (f : PwrState → PwrState) : (s.modPwr f).nav = s.nav := rfl
@[simp] theorem State.modPwr_snap (f : PwrState → PwrState) : (s.modPwr f).snap = s.snap := rfl
@[simp] theorem State.modPwr_ltu (f : PwrState → PwrState) : (s.modPwr f).ltu = s.ltu := rfl
@[simp] theorem State.modPwr_net (f : PwrState → PwrState) : (s.modPwr f).net = s.net := rfl
@[simp] theorem State.modPwr_uwb (f : PwrState → PwrState) : (s.modPwr f).uwb = s.uwb := rfl
@[simp] theorem State.modPwr_uarts (f : PwrState → PwrState) : (s.modPwr f).uarts = s.uarts := rfl
@[simp] theorem State.modPwr_cvus (f : PwrState → PwrState) : (s.modPwr f).cvus = s.cvus := rfl
@[simp] theorem State.modPwr_pwr (f : PwrState → PwrState) : (s.modPwr f).pwr = f s.pwr := rfl
@[simp] theorem State.modPwr_sec (f : PwrState → PwrState) : (s.modPwr f).sec = s.sec := rfl
@[simp] theorem State.modPwr_fw (f : PwrState → PwrState) : (s.modPwr f).fw = s.fw := rfl
@[simp] theorem State.modPwr_host (f : PwrState → PwrState) : (s.modPwr f).host = s.host := rfl
@[simp] theorem State.modPwr_free (f : PwrState → PwrState) : (s.modPwr f).free = s.free := rfl
@[simp] theorem State.modPwr_pending (f : PwrState → PwrState) : (s.modPwr f).pending = s.pending := rfl
@[simp] theorem State.modNav_regs (f : NavState → NavState) : (s.modNav f).regs = s.regs := rfl
@[simp] theorem State.modNav_fab (f : NavState → NavState) : (s.modNav f).fab = s.fab := rfl
@[simp] theorem State.modNav_stw (f : NavState → NavState) : (s.modNav f).stw = s.stw := rfl
@[simp] theorem State.modNav_gran (f : NavState → NavState) : (s.modNav f).gran = s.gran := rfl
@[simp] theorem State.modNav_fe (f : NavState → NavState) : (s.modNav f).fe = s.fe := rfl
@[simp] theorem State.modNav_lanes (f : NavState → NavState) : (s.modNav f).lanes = s.lanes := rfl
@[simp] theorem State.modNav_thr (f : NavState → NavState) : (s.modNav f).thr = s.thr := rfl
@[simp] theorem State.modNav_clk (f : NavState → NavState) : (s.modNav f).clk = s.clk := rfl
@[simp] theorem State.modNav_shf (f : NavState → NavState) : (s.modNav f).shf = s.shf := rfl
@[simp] theorem State.modNav_dsp (f : NavState → NavState) : (s.modNav f).dsp = s.dsp := rfl
@[simp] theorem State.modNav_nav (f : NavState → NavState) : (s.modNav f).nav = f s.nav := rfl
@[simp] theorem State.modNav_snap (f : NavState → NavState) : (s.modNav f).snap = s.snap := rfl
@[simp] theorem State.modNav_ltu (f : NavState → NavState) : (s.modNav f).ltu = s.ltu := rfl
@[simp] theorem State.modNav_net (f : NavState → NavState) : (s.modNav f).net = s.net := rfl
@[simp] theorem State.modNav_uwb (f : NavState → NavState) : (s.modNav f).uwb = s.uwb := rfl
@[simp] theorem State.modNav_uarts (f : NavState → NavState) : (s.modNav f).uarts = s.uarts := rfl
@[simp] theorem State.modNav_cvus (f : NavState → NavState) : (s.modNav f).cvus = s.cvus := rfl
@[simp] theorem State.modNav_pwr (f : NavState → NavState) : (s.modNav f).pwr = s.pwr := rfl
@[simp] theorem State.modNav_sec (f : NavState → NavState) : (s.modNav f).sec = s.sec := rfl
@[simp] theorem State.modNav_fw (f : NavState → NavState) : (s.modNav f).fw = s.fw := rfl
@[simp] theorem State.modNav_host (f : NavState → NavState) : (s.modNav f).host = s.host := rfl
@[simp] theorem State.modNav_free (f : NavState → NavState) : (s.modNav f).free = s.free := rfl
@[simp] theorem State.modNav_pending (f : NavState → NavState) : (s.modNav f).pending = s.pending := rfl
@[simp] theorem State.modLtu_regs (f : LtuState → LtuState) : (s.modLtu f).regs = s.regs := rfl
@[simp] theorem State.modLtu_fab (f : LtuState → LtuState) : (s.modLtu f).fab = s.fab := rfl
@[simp] theorem State.modLtu_stw (f : LtuState → LtuState) : (s.modLtu f).stw = s.stw := rfl
@[simp] theorem State.modLtu_gran (f : LtuState → LtuState) : (s.modLtu f).gran = s.gran := rfl
@[simp] theorem State.modLtu_fe (f : LtuState → LtuState) : (s.modLtu f).fe = s.fe := rfl
@[simp] theorem State.modLtu_lanes (f : LtuState → LtuState) : (s.modLtu f).lanes = s.lanes := rfl
@[simp] theorem State.modLtu_thr (f : LtuState → LtuState) : (s.modLtu f).thr = s.thr := rfl
@[simp] theorem State.modLtu_clk (f : LtuState → LtuState) : (s.modLtu f).clk = s.clk := rfl
@[simp] theorem State.modLtu_shf (f : LtuState → LtuState) : (s.modLtu f).shf = s.shf := rfl
@[simp] theorem State.modLtu_dsp (f : LtuState → LtuState) : (s.modLtu f).dsp = s.dsp := rfl
@[simp] theorem State.modLtu_nav (f : LtuState → LtuState) : (s.modLtu f).nav = s.nav := rfl
@[simp] theorem State.modLtu_snap (f : LtuState → LtuState) : (s.modLtu f).snap = s.snap := rfl
@[simp] theorem State.modLtu_ltu (f : LtuState → LtuState) : (s.modLtu f).ltu = f s.ltu := rfl
@[simp] theorem State.modLtu_net (f : LtuState → LtuState) : (s.modLtu f).net = s.net := rfl
@[simp] theorem State.modLtu_uwb (f : LtuState → LtuState) : (s.modLtu f).uwb = s.uwb := rfl
@[simp] theorem State.modLtu_uarts (f : LtuState → LtuState) : (s.modLtu f).uarts = s.uarts := rfl
@[simp] theorem State.modLtu_cvus (f : LtuState → LtuState) : (s.modLtu f).cvus = s.cvus := rfl
@[simp] theorem State.modLtu_pwr (f : LtuState → LtuState) : (s.modLtu f).pwr = s.pwr := rfl
@[simp] theorem State.modLtu_sec (f : LtuState → LtuState) : (s.modLtu f).sec = s.sec := rfl
@[simp] theorem State.modLtu_fw (f : LtuState → LtuState) : (s.modLtu f).fw = s.fw := rfl
@[simp] theorem State.modLtu_host (f : LtuState → LtuState) : (s.modLtu f).host = s.host := rfl
@[simp] theorem State.modLtu_free (f : LtuState → LtuState) : (s.modLtu f).free = s.free := rfl
@[simp] theorem State.modLtu_pending (f : LtuState → LtuState) : (s.modLtu f).pending = s.pending := rfl
@[simp] theorem State.modClk_regs (f : ClkState → ClkState) : (s.modClk f).regs = s.regs := rfl
@[simp] theorem State.modClk_fab (f : ClkState → ClkState) : (s.modClk f).fab = s.fab := rfl
@[simp] theorem State.modClk_stw (f : ClkState → ClkState) : (s.modClk f).stw = s.stw := rfl
@[simp] theorem State.modClk_gran (f : ClkState → ClkState) : (s.modClk f).gran = s.gran := rfl
@[simp] theorem State.modClk_fe (f : ClkState → ClkState) : (s.modClk f).fe = s.fe := rfl
@[simp] theorem State.modClk_lanes (f : ClkState → ClkState) : (s.modClk f).lanes = s.lanes := rfl
@[simp] theorem State.modClk_thr (f : ClkState → ClkState) : (s.modClk f).thr = s.thr := rfl
@[simp] theorem State.modClk_clk (f : ClkState → ClkState) : (s.modClk f).clk = f s.clk := rfl
@[simp] theorem State.modClk_shf (f : ClkState → ClkState) : (s.modClk f).shf = s.shf := rfl
@[simp] theorem State.modClk_dsp (f : ClkState → ClkState) : (s.modClk f).dsp = s.dsp := rfl
@[simp] theorem State.modClk_nav (f : ClkState → ClkState) : (s.modClk f).nav = s.nav := rfl
@[simp] theorem State.modClk_snap (f : ClkState → ClkState) : (s.modClk f).snap = s.snap := rfl
@[simp] theorem State.modClk_ltu (f : ClkState → ClkState) : (s.modClk f).ltu = s.ltu := rfl
@[simp] theorem State.modClk_net (f : ClkState → ClkState) : (s.modClk f).net = s.net := rfl
@[simp] theorem State.modClk_uwb (f : ClkState → ClkState) : (s.modClk f).uwb = s.uwb := rfl
@[simp] theorem State.modClk_uarts (f : ClkState → ClkState) : (s.modClk f).uarts = s.uarts := rfl
@[simp] theorem State.modClk_cvus (f : ClkState → ClkState) : (s.modClk f).cvus = s.cvus := rfl
@[simp] theorem State.modClk_pwr (f : ClkState → ClkState) : (s.modClk f).pwr = s.pwr := rfl
@[simp] theorem State.modClk_sec (f : ClkState → ClkState) : (s.modClk f).sec = s.sec := rfl
@[simp] theorem State.modClk_fw (f : ClkState → ClkState) : (s.modClk f).fw = s.fw := rfl
@[simp] theorem State.modClk_host (f : ClkState → ClkState) : (s.modClk f).host = s.host := rfl
@[simp] theorem State.modClk_free (f : ClkState → ClkState) : (s.modClk f).free = s.free := rfl
@[simp] theorem State.modClk_pending (f : ClkState → ClkState) : (s.modClk f).pending = s.pending := rfl
@[simp] theorem State.modShf_regs (f : ShfState → ShfState) : (s.modShf f).regs = s.regs := rfl
@[simp] theorem State.modShf_fab (f : ShfState → ShfState) : (s.modShf f).fab = s.fab := rfl
@[simp] theorem State.modShf_stw (f : ShfState → ShfState) : (s.modShf f).stw = s.stw := rfl
@[simp] theorem State.modShf_gran (f : ShfState → ShfState) : (s.modShf f).gran = s.gran := rfl
@[simp] theorem State.modShf_fe (f : ShfState → ShfState) : (s.modShf f).fe = s.fe := rfl
@[simp] theorem State.modShf_lanes (f : ShfState → ShfState) : (s.modShf f).lanes = s.lanes := rfl
@[simp] theorem State.modShf_thr (f : ShfState → ShfState) : (s.modShf f).thr = s.thr := rfl
@[simp] theorem State.modShf_clk (f : ShfState → ShfState) : (s.modShf f).clk = s.clk := rfl
@[simp] theorem State.modShf_shf (f : ShfState → ShfState) : (s.modShf f).shf = f s.shf := rfl
@[simp] theorem State.modShf_dsp (f : ShfState → ShfState) : (s.modShf f).dsp = s.dsp := rfl
@[simp] theorem State.modShf_nav (f : ShfState → ShfState) : (s.modShf f).nav = s.nav := rfl
@[simp] theorem State.modShf_snap (f : ShfState → ShfState) : (s.modShf f).snap = s.snap := rfl
@[simp] theorem State.modShf_ltu (f : ShfState → ShfState) : (s.modShf f).ltu = s.ltu := rfl
@[simp] theorem State.modShf_net (f : ShfState → ShfState) : (s.modShf f).net = s.net := rfl
@[simp] theorem State.modShf_uwb (f : ShfState → ShfState) : (s.modShf f).uwb = s.uwb := rfl
@[simp] theorem State.modShf_uarts (f : ShfState → ShfState) : (s.modShf f).uarts = s.uarts := rfl
@[simp] theorem State.modShf_cvus (f : ShfState → ShfState) : (s.modShf f).cvus = s.cvus := rfl
@[simp] theorem State.modShf_pwr (f : ShfState → ShfState) : (s.modShf f).pwr = s.pwr := rfl
@[simp] theorem State.modShf_sec (f : ShfState → ShfState) : (s.modShf f).sec = s.sec := rfl
@[simp] theorem State.modShf_fw (f : ShfState → ShfState) : (s.modShf f).fw = s.fw := rfl
@[simp] theorem State.modShf_host (f : ShfState → ShfState) : (s.modShf f).host = s.host := rfl
@[simp] theorem State.modShf_free (f : ShfState → ShfState) : (s.modShf f).free = s.free := rfl
@[simp] theorem State.modShf_pending (f : ShfState → ShfState) : (s.modShf f).pending = s.pending := rfl
@[simp] theorem State.modDsp_regs (f : DspState → DspState) : (s.modDsp f).regs = s.regs := rfl
@[simp] theorem State.modDsp_fab (f : DspState → DspState) : (s.modDsp f).fab = s.fab := rfl
@[simp] theorem State.modDsp_stw (f : DspState → DspState) : (s.modDsp f).stw = s.stw := rfl
@[simp] theorem State.modDsp_gran (f : DspState → DspState) : (s.modDsp f).gran = s.gran := rfl
@[simp] theorem State.modDsp_fe (f : DspState → DspState) : (s.modDsp f).fe = s.fe := rfl
@[simp] theorem State.modDsp_lanes (f : DspState → DspState) : (s.modDsp f).lanes = s.lanes := rfl
@[simp] theorem State.modDsp_thr (f : DspState → DspState) : (s.modDsp f).thr = s.thr := rfl
@[simp] theorem State.modDsp_clk (f : DspState → DspState) : (s.modDsp f).clk = s.clk := rfl
@[simp] theorem State.modDsp_shf (f : DspState → DspState) : (s.modDsp f).shf = s.shf := rfl
@[simp] theorem State.modDsp_dsp (f : DspState → DspState) : (s.modDsp f).dsp = f s.dsp := rfl
@[simp] theorem State.modDsp_nav (f : DspState → DspState) : (s.modDsp f).nav = s.nav := rfl
@[simp] theorem State.modDsp_snap (f : DspState → DspState) : (s.modDsp f).snap = s.snap := rfl
@[simp] theorem State.modDsp_ltu (f : DspState → DspState) : (s.modDsp f).ltu = s.ltu := rfl
@[simp] theorem State.modDsp_net (f : DspState → DspState) : (s.modDsp f).net = s.net := rfl
@[simp] theorem State.modDsp_uwb (f : DspState → DspState) : (s.modDsp f).uwb = s.uwb := rfl
@[simp] theorem State.modDsp_uarts (f : DspState → DspState) : (s.modDsp f).uarts = s.uarts := rfl
@[simp] theorem State.modDsp_cvus (f : DspState → DspState) : (s.modDsp f).cvus = s.cvus := rfl
@[simp] theorem State.modDsp_pwr (f : DspState → DspState) : (s.modDsp f).pwr = s.pwr := rfl
@[simp] theorem State.modDsp_sec (f : DspState → DspState) : (s.modDsp f).sec = s.sec := rfl
@[simp] theorem State.modDsp_fw (f : DspState → DspState) : (s.modDsp f).fw = s.fw := rfl
@[simp] theorem State.modDsp_host (f : DspState → DspState) : (s.modDsp f).host = s.host := rfl
@[simp] theorem State.modDsp_free (f : DspState → DspState) : (s.modDsp f).free = s.free := rfl
@[simp] theorem State.modDsp_pending (f : DspState → DspState) : (s.modDsp f).pending = s.pending := rfl
@[simp] theorem State.modNet_regs (f : NetState → NetState) : (s.modNet f).regs = s.regs := rfl
@[simp] theorem State.modNet_fab (f : NetState → NetState) : (s.modNet f).fab = s.fab := rfl
@[simp] theorem State.modNet_stw (f : NetState → NetState) : (s.modNet f).stw = s.stw := rfl
@[simp] theorem State.modNet_gran (f : NetState → NetState) : (s.modNet f).gran = s.gran := rfl
@[simp] theorem State.modNet_fe (f : NetState → NetState) : (s.modNet f).fe = s.fe := rfl
@[simp] theorem State.modNet_lanes (f : NetState → NetState) : (s.modNet f).lanes = s.lanes := rfl
@[simp] theorem State.modNet_thr (f : NetState → NetState) : (s.modNet f).thr = s.thr := rfl
@[simp] theorem State.modNet_clk (f : NetState → NetState) : (s.modNet f).clk = s.clk := rfl
@[simp] theorem State.modNet_shf (f : NetState → NetState) : (s.modNet f).shf = s.shf := rfl
@[simp] theorem State.modNet_dsp (f : NetState → NetState) : (s.modNet f).dsp = s.dsp := rfl
@[simp] theorem State.modNet_nav (f : NetState → NetState) : (s.modNet f).nav = s.nav := rfl
@[simp] theorem State.modNet_snap (f : NetState → NetState) : (s.modNet f).snap = s.snap := rfl
@[simp] theorem State.modNet_ltu (f : NetState → NetState) : (s.modNet f).ltu = s.ltu := rfl
@[simp] theorem State.modNet_net (f : NetState → NetState) : (s.modNet f).net = f s.net := rfl
@[simp] theorem State.modNet_uwb (f : NetState → NetState) : (s.modNet f).uwb = s.uwb := rfl
@[simp] theorem State.modNet_uarts (f : NetState → NetState) : (s.modNet f).uarts = s.uarts := rfl
@[simp] theorem State.modNet_cvus (f : NetState → NetState) : (s.modNet f).cvus = s.cvus := rfl
@[simp] theorem State.modNet_pwr (f : NetState → NetState) : (s.modNet f).pwr = s.pwr := rfl
@[simp] theorem State.modNet_sec (f : NetState → NetState) : (s.modNet f).sec = s.sec := rfl
@[simp] theorem State.modNet_fw (f : NetState → NetState) : (s.modNet f).fw = s.fw := rfl
@[simp] theorem State.modNet_host (f : NetState → NetState) : (s.modNet f).host = s.host := rfl
@[simp] theorem State.modNet_free (f : NetState → NetState) : (s.modNet f).free = s.free := rfl
@[simp] theorem State.modNet_pending (f : NetState → NetState) : (s.modNet f).pending = s.pending := rfl
@[simp] theorem State.modUwb_regs (f : UwbState → UwbState) : (s.modUwb f).regs = s.regs := rfl
@[simp] theorem State.modUwb_fab (f : UwbState → UwbState) : (s.modUwb f).fab = s.fab := rfl
@[simp] theorem State.modUwb_stw (f : UwbState → UwbState) : (s.modUwb f).stw = s.stw := rfl
@[simp] theorem State.modUwb_gran (f : UwbState → UwbState) : (s.modUwb f).gran = s.gran := rfl
@[simp] theorem State.modUwb_fe (f : UwbState → UwbState) : (s.modUwb f).fe = s.fe := rfl
@[simp] theorem State.modUwb_lanes (f : UwbState → UwbState) : (s.modUwb f).lanes = s.lanes := rfl
@[simp] theorem State.modUwb_thr (f : UwbState → UwbState) : (s.modUwb f).thr = s.thr := rfl
@[simp] theorem State.modUwb_clk (f : UwbState → UwbState) : (s.modUwb f).clk = s.clk := rfl
@[simp] theorem State.modUwb_shf (f : UwbState → UwbState) : (s.modUwb f).shf = s.shf := rfl
@[simp] theorem State.modUwb_dsp (f : UwbState → UwbState) : (s.modUwb f).dsp = s.dsp := rfl
@[simp] theorem State.modUwb_nav (f : UwbState → UwbState) : (s.modUwb f).nav = s.nav := rfl
@[simp] theorem State.modUwb_snap (f : UwbState → UwbState) : (s.modUwb f).snap = s.snap := rfl
@[simp] theorem State.modUwb_ltu (f : UwbState → UwbState) : (s.modUwb f).ltu = s.ltu := rfl
@[simp] theorem State.modUwb_net (f : UwbState → UwbState) : (s.modUwb f).net = s.net := rfl
@[simp] theorem State.modUwb_uwb (f : UwbState → UwbState) : (s.modUwb f).uwb = f s.uwb := rfl
@[simp] theorem State.modUwb_uarts (f : UwbState → UwbState) : (s.modUwb f).uarts = s.uarts := rfl
@[simp] theorem State.modUwb_cvus (f : UwbState → UwbState) : (s.modUwb f).cvus = s.cvus := rfl
@[simp] theorem State.modUwb_pwr (f : UwbState → UwbState) : (s.modUwb f).pwr = s.pwr := rfl
@[simp] theorem State.modUwb_sec (f : UwbState → UwbState) : (s.modUwb f).sec = s.sec := rfl
@[simp] theorem State.modUwb_fw (f : UwbState → UwbState) : (s.modUwb f).fw = s.fw := rfl
@[simp] theorem State.modUwb_host (f : UwbState → UwbState) : (s.modUwb f).host = s.host := rfl
@[simp] theorem State.modUwb_free (f : UwbState → UwbState) : (s.modUwb f).free = s.free := rfl
@[simp] theorem State.modUwb_pending (f : UwbState → UwbState) : (s.modUwb f).pending = s.pending := rfl
@[simp] theorem State.modSec_regs (f : SecState → SecState) : (s.modSec f).regs = s.regs := rfl
@[simp] theorem State.modSec_fab (f : SecState → SecState) : (s.modSec f).fab = s.fab := rfl
@[simp] theorem State.modSec_stw (f : SecState → SecState) : (s.modSec f).stw = s.stw := rfl
@[simp] theorem State.modSec_gran (f : SecState → SecState) : (s.modSec f).gran = s.gran := rfl
@[simp] theorem State.modSec_fe (f : SecState → SecState) : (s.modSec f).fe = s.fe := rfl
@[simp] theorem State.modSec_lanes (f : SecState → SecState) : (s.modSec f).lanes = s.lanes := rfl
@[simp] theorem State.modSec_thr (f : SecState → SecState) : (s.modSec f).thr = s.thr := rfl
@[simp] theorem State.modSec_clk (f : SecState → SecState) : (s.modSec f).clk = s.clk := rfl
@[simp] theorem State.modSec_shf (f : SecState → SecState) : (s.modSec f).shf = s.shf := rfl
@[simp] theorem State.modSec_dsp (f : SecState → SecState) : (s.modSec f).dsp = s.dsp := rfl
@[simp] theorem State.modSec_nav (f : SecState → SecState) : (s.modSec f).nav = s.nav := rfl
@[simp] theorem State.modSec_snap (f : SecState → SecState) : (s.modSec f).snap = s.snap := rfl
@[simp] theorem State.modSec_ltu (f : SecState → SecState) : (s.modSec f).ltu = s.ltu := rfl
@[simp] theorem State.modSec_net (f : SecState → SecState) : (s.modSec f).net = s.net := rfl
@[simp] theorem State.modSec_uwb (f : SecState → SecState) : (s.modSec f).uwb = s.uwb := rfl
@[simp] theorem State.modSec_uarts (f : SecState → SecState) : (s.modSec f).uarts = s.uarts := rfl
@[simp] theorem State.modSec_cvus (f : SecState → SecState) : (s.modSec f).cvus = s.cvus := rfl
@[simp] theorem State.modSec_pwr (f : SecState → SecState) : (s.modSec f).pwr = s.pwr := rfl
@[simp] theorem State.modSec_sec (f : SecState → SecState) : (s.modSec f).sec = f s.sec := rfl
@[simp] theorem State.modSec_fw (f : SecState → SecState) : (s.modSec f).fw = s.fw := rfl
@[simp] theorem State.modSec_host (f : SecState → SecState) : (s.modSec f).host = s.host := rfl
@[simp] theorem State.modSec_free (f : SecState → SecState) : (s.modSec f).free = s.free := rfl
@[simp] theorem State.modSec_pending (f : SecState → SecState) : (s.modSec f).pending = s.pending := rfl
@[simp] theorem State.modFw_regs (f : FwState → FwState) : (s.modFw f).regs = s.regs := rfl
@[simp] theorem State.modFw_fab (f : FwState → FwState) : (s.modFw f).fab = s.fab := rfl
@[simp] theorem State.modFw_stw (f : FwState → FwState) : (s.modFw f).stw = s.stw := rfl
@[simp] theorem State.modFw_gran (f : FwState → FwState) : (s.modFw f).gran = s.gran := rfl
@[simp] theorem State.modFw_fe (f : FwState → FwState) : (s.modFw f).fe = s.fe := rfl
@[simp] theorem State.modFw_lanes (f : FwState → FwState) : (s.modFw f).lanes = s.lanes := rfl
@[simp] theorem State.modFw_thr (f : FwState → FwState) : (s.modFw f).thr = s.thr := rfl
@[simp] theorem State.modFw_clk (f : FwState → FwState) : (s.modFw f).clk = s.clk := rfl
@[simp] theorem State.modFw_shf (f : FwState → FwState) : (s.modFw f).shf = s.shf := rfl
@[simp] theorem State.modFw_dsp (f : FwState → FwState) : (s.modFw f).dsp = s.dsp := rfl
@[simp] theorem State.modFw_nav (f : FwState → FwState) : (s.modFw f).nav = s.nav := rfl
@[simp] theorem State.modFw_snap (f : FwState → FwState) : (s.modFw f).snap = s.snap := rfl
@[simp] theorem State.modFw_ltu (f : FwState → FwState) : (s.modFw f).ltu = s.ltu := rfl
@[simp] theorem State.modFw_net (f : FwState → FwState) : (s.modFw f).net = s.net := rfl
@[simp] theorem State.modFw_uwb (f : FwState → FwState) : (s.modFw f).uwb = s.uwb := rfl
@[simp] theorem State.modFw_uarts (f : FwState → FwState) : (s.modFw f).uarts = s.uarts := rfl
@[simp] theorem State.modFw_cvus (f : FwState → FwState) : (s.modFw f).cvus = s.cvus := rfl
@[simp] theorem State.modFw_pwr (f : FwState → FwState) : (s.modFw f).pwr = s.pwr := rfl
@[simp] theorem State.modFw_sec (f : FwState → FwState) : (s.modFw f).sec = s.sec := rfl
@[simp] theorem State.modFw_fw (f : FwState → FwState) : (s.modFw f).fw = f s.fw := rfl
@[simp] theorem State.modFw_host (f : FwState → FwState) : (s.modFw f).host = s.host := rfl
@[simp] theorem State.modFw_free (f : FwState → FwState) : (s.modFw f).free = s.free := rfl
@[simp] theorem State.modFw_pending (f : FwState → FwState) : (s.modFw f).pending = s.pending := rfl
@[simp] theorem State.modLane_regs (n : Nat) (f : LaneState → LaneState) : (s.modLane n f).regs = s.regs := rfl
@[simp] theorem State.modLane_fab (n : Nat) (f : LaneState → LaneState) : (s.modLane n f).fab = s.fab := rfl
@[simp] theorem State.modLane_stw (n : Nat) (f : LaneState → LaneState) : (s.modLane n f).stw = s.stw := rfl
@[simp] theorem State.modLane_gran (n : Nat) (f : LaneState → LaneState) : (s.modLane n f).gran = s.gran := rfl
@[simp] theorem State.modLane_fe (n : Nat) (f : LaneState → LaneState) : (s.modLane n f).fe = s.fe := rfl
@[simp] theorem State.modLane_lanes (n : Nat) (f : LaneState → LaneState) : (s.modLane n f).lanes = vmod f s.lanes n := rfl
@[simp] theorem State.modLane_thr (n : Nat) (f : LaneState → LaneState) : (s.modLane n f).thr = s.thr := rfl
@[simp] theorem State.modLane_clk (n : Nat) (f : LaneState → LaneState) : (s.modLane n f).clk = s.clk := rfl
@[simp] theorem State.modLane_shf (n : Nat) (f : LaneState → LaneState) : (s.modLane n f).shf = s.shf := rfl
@[simp] theorem State.modLane_dsp (n : Nat) (f : LaneState → LaneState) : (s.modLane n f).dsp = s.dsp := rfl
@[simp] theorem State.modLane_nav (n : Nat) (f : LaneState → LaneState) : (s.modLane n f).nav = s.nav := rfl
@[simp] theorem State.modLane_snap (n : Nat) (f : LaneState → LaneState) : (s.modLane n f).snap = s.snap := rfl
@[simp] theorem State.modLane_ltu (n : Nat) (f : LaneState → LaneState) : (s.modLane n f).ltu = s.ltu := rfl
@[simp] theorem State.modLane_net (n : Nat) (f : LaneState → LaneState) : (s.modLane n f).net = s.net := rfl
@[simp] theorem State.modLane_uwb (n : Nat) (f : LaneState → LaneState) : (s.modLane n f).uwb = s.uwb := rfl
@[simp] theorem State.modLane_uarts (n : Nat) (f : LaneState → LaneState) : (s.modLane n f).uarts = s.uarts := rfl
@[simp] theorem State.modLane_cvus (n : Nat) (f : LaneState → LaneState) : (s.modLane n f).cvus = s.cvus := rfl
@[simp] theorem State.modLane_pwr (n : Nat) (f : LaneState → LaneState) : (s.modLane n f).pwr = s.pwr := rfl
@[simp] theorem State.modLane_sec (n : Nat) (f : LaneState → LaneState) : (s.modLane n f).sec = s.sec := rfl
@[simp] theorem State.modLane_fw (n : Nat) (f : LaneState → LaneState) : (s.modLane n f).fw = s.fw := rfl
@[simp] theorem State.modLane_host (n : Nat) (f : LaneState → LaneState) : (s.modLane n f).host = s.host := rfl
@[simp] theorem State.modLane_free (n : Nat) (f : LaneState → LaneState) : (s.modLane n f).free = s.free := rfl
@[simp] theorem State.modLane_pending (n : Nat) (f : LaneState → LaneState) : (s.modLane n f).pending = s.pending := rfl
@[simp] theorem State.modUart_regs (n : Nat) (f : UartState → UartState) : (s.modUart n f).regs = s.regs := rfl
@[simp] theorem State.modUart_fab (n : Nat) (f : UartState → UartState) : (s.modUart n f).fab = s.fab := rfl
@[simp] theorem State.modUart_stw (n : Nat) (f : UartState → UartState) : (s.modUart n f).stw = s.stw := rfl
@[simp] theorem State.modUart_gran (n : Nat) (f : UartState → UartState) : (s.modUart n f).gran = s.gran := rfl
@[simp] theorem State.modUart_fe (n : Nat) (f : UartState → UartState) : (s.modUart n f).fe = s.fe := rfl
@[simp] theorem State.modUart_lanes (n : Nat) (f : UartState → UartState) : (s.modUart n f).lanes = s.lanes := rfl
@[simp] theorem State.modUart_thr (n : Nat) (f : UartState → UartState) : (s.modUart n f).thr = s.thr := rfl
@[simp] theorem State.modUart_clk (n : Nat) (f : UartState → UartState) : (s.modUart n f).clk = s.clk := rfl
@[simp] theorem State.modUart_shf (n : Nat) (f : UartState → UartState) : (s.modUart n f).shf = s.shf := rfl
@[simp] theorem State.modUart_dsp (n : Nat) (f : UartState → UartState) : (s.modUart n f).dsp = s.dsp := rfl
@[simp] theorem State.modUart_nav (n : Nat) (f : UartState → UartState) : (s.modUart n f).nav = s.nav := rfl
@[simp] theorem State.modUart_snap (n : Nat) (f : UartState → UartState) : (s.modUart n f).snap = s.snap := rfl
@[simp] theorem State.modUart_ltu (n : Nat) (f : UartState → UartState) : (s.modUart n f).ltu = s.ltu := rfl
@[simp] theorem State.modUart_net (n : Nat) (f : UartState → UartState) : (s.modUart n f).net = s.net := rfl
@[simp] theorem State.modUart_uwb (n : Nat) (f : UartState → UartState) : (s.modUart n f).uwb = s.uwb := rfl
@[simp] theorem State.modUart_uarts (n : Nat) (f : UartState → UartState) : (s.modUart n f).uarts = vmod f s.uarts n := rfl
@[simp] theorem State.modUart_cvus (n : Nat) (f : UartState → UartState) : (s.modUart n f).cvus = s.cvus := rfl
@[simp] theorem State.modUart_pwr (n : Nat) (f : UartState → UartState) : (s.modUart n f).pwr = s.pwr := rfl
@[simp] theorem State.modUart_sec (n : Nat) (f : UartState → UartState) : (s.modUart n f).sec = s.sec := rfl
@[simp] theorem State.modUart_fw (n : Nat) (f : UartState → UartState) : (s.modUart n f).fw = s.fw := rfl
@[simp] theorem State.modUart_host (n : Nat) (f : UartState → UartState) : (s.modUart n f).host = s.host := rfl
@[simp] theorem State.modUart_free (n : Nat) (f : UartState → UartState) : (s.modUart n f).free = s.free := rfl
@[simp] theorem State.modUart_pending (n : Nat) (f : UartState → UartState) : (s.modUart n f).pending = s.pending := rfl
@[simp] theorem State.modCvu_regs (n : Nat) (f : CvuState → CvuState) : (s.modCvu n f).regs = s.regs := rfl
@[simp] theorem State.modCvu_fab (n : Nat) (f : CvuState → CvuState) : (s.modCvu n f).fab = s.fab := rfl
@[simp] theorem State.modCvu_stw (n : Nat) (f : CvuState → CvuState) : (s.modCvu n f).stw = s.stw := rfl
@[simp] theorem State.modCvu_gran (n : Nat) (f : CvuState → CvuState) : (s.modCvu n f).gran = s.gran := rfl
@[simp] theorem State.modCvu_fe (n : Nat) (f : CvuState → CvuState) : (s.modCvu n f).fe = s.fe := rfl
@[simp] theorem State.modCvu_lanes (n : Nat) (f : CvuState → CvuState) : (s.modCvu n f).lanes = s.lanes := rfl
@[simp] theorem State.modCvu_thr (n : Nat) (f : CvuState → CvuState) : (s.modCvu n f).thr = s.thr := rfl
@[simp] theorem State.modCvu_clk (n : Nat) (f : CvuState → CvuState) : (s.modCvu n f).clk = s.clk := rfl
@[simp] theorem State.modCvu_shf (n : Nat) (f : CvuState → CvuState) : (s.modCvu n f).shf = s.shf := rfl
@[simp] theorem State.modCvu_dsp (n : Nat) (f : CvuState → CvuState) : (s.modCvu n f).dsp = s.dsp := rfl
@[simp] theorem State.modCvu_nav (n : Nat) (f : CvuState → CvuState) : (s.modCvu n f).nav = s.nav := rfl
@[simp] theorem State.modCvu_snap (n : Nat) (f : CvuState → CvuState) : (s.modCvu n f).snap = s.snap := rfl
@[simp] theorem State.modCvu_ltu (n : Nat) (f : CvuState → CvuState) : (s.modCvu n f).ltu = s.ltu := rfl
@[simp] theorem State.modCvu_net (n : Nat) (f : CvuState → CvuState) : (s.modCvu n f).net = s.net := rfl
@[simp] theorem State.modCvu_uwb (n : Nat) (f : CvuState → CvuState) : (s.modCvu n f).uwb = s.uwb := rfl
@[simp] theorem State.modCvu_uarts (n : Nat) (f : CvuState → CvuState) : (s.modCvu n f).uarts = s.uarts := rfl
@[simp] theorem State.modCvu_cvus (n : Nat) (f : CvuState → CvuState) : (s.modCvu n f).cvus = vmod f s.cvus n := rfl
@[simp] theorem State.modCvu_pwr (n : Nat) (f : CvuState → CvuState) : (s.modCvu n f).pwr = s.pwr := rfl
@[simp] theorem State.modCvu_sec (n : Nat) (f : CvuState → CvuState) : (s.modCvu n f).sec = s.sec := rfl
@[simp] theorem State.modCvu_fw (n : Nat) (f : CvuState → CvuState) : (s.modCvu n f).fw = s.fw := rfl
@[simp] theorem State.modCvu_host (n : Nat) (f : CvuState → CvuState) : (s.modCvu n f).host = s.host := rfl
@[simp] theorem State.modCvu_free (n : Nat) (f : CvuState → CvuState) : (s.modCvu n f).free = s.free := rfl
@[simp] theorem State.modCvu_pending (n : Nat) (f : CvuState → CvuState) : (s.modCvu n f).pending = s.pending := rfl

end Sys2Proof.Machine
end

