-- ==== Sys2Proof/Laws/Registers.lean ====
section
/-! SUPPORT. Registers and their fields: what is read after a write. -/

namespace Sys2Proof.Machine

theorem bits_lt (v lo w : Nat) : bits v lo w < 2 ^ w := Nat.mod_lt _ (Nat.two_pow_pos w)

/-- The three parts of a number around a field. -/
theorem bits_split (v lo w : Nat) : v = v / 2 ^ (lo + w) * 2 ^ (lo + w) + bits v lo w * 2 ^ lo + v % 2 ^ lo := by
  unfold bits
  have h1 := Nat.div_add_mod v (2 ^ lo)
  have h2 := Nat.div_add_mod (v / 2 ^ lo) (2 ^ w)
  rw [Nat.div_div_eq_div_mul, ← Nat.pow_add] at h2
  have e : 2 ^ (lo + w) = 2 ^ lo * 2 ^ w := Nat.pow_add 2 lo w
  generalize v / 2 ^ lo = q at *
  generalize v / 2 ^ (lo + w) = t at *
  rw [e]
  calc v = 2 ^ lo * q + v % 2 ^ lo := h1.symm
    _ = 2 ^ lo * (2 ^ w * t + q % 2 ^ w) + v % 2 ^ lo := by rw [h2]
    _ = _ := by ring

/-- A field with a new value in place of the old one, as a number. -/
theorem insertField_toNat (w : Word) {lo width : Nat} (v : Nat) (h : lo + width ≤ 32) :
    (insertField w lo width v).toNat =
      w.toNat / 2 ^ (lo + width) * 2 ^ (lo + width) + v % 2 ^ width * 2 ^ lo + w.toNat % 2 ^ lo := by
  have split := bits_split w.toNat lo width
  have hw : w.toNat < 2 ^ 32 := w.isLt
  have hv : v % 2 ^ width < 2 ^ width := Nat.mod_lt _ (Nat.two_pow_pos _)
  have hl : w.toNat % 2 ^ lo < 2 ^ lo := Nat.mod_lt _ (Nat.two_pow_pos _)
  have e : w.toNat - bits w.toNat lo width * 2 ^ lo + v % 2 ^ width * 2 ^ lo =
      w.toNat / 2 ^ (lo + width) * 2 ^ (lo + width) + v % 2 ^ width * 2 ^ lo + w.toNat % 2 ^ lo := by omega
  unfold insertField
  rw [e, BitVec.toNat_ofNat]
  apply Nat.mod_eq_of_lt
  have hq : w.toNat / 2 ^ (lo + width) < 2 ^ (32 - (lo + width)) := by
    apply Nat.div_lt_of_lt_mul
    rw [← Nat.pow_add, show lo + width + (32 - (lo + width)) = 32 by omega]; exact hw
  have e2 : 2 ^ (lo + width) = 2 ^ width * 2 ^ lo := by rw [Nat.add_comm, Nat.pow_add]
  have e3 : 2 ^ 32 = 2 ^ (32 - (lo + width)) * 2 ^ (lo + width) := by
    rw [← Nat.pow_add, show 32 - (lo + width) + (lo + width) = 32 by omega]
  have low : v % 2 ^ width * 2 ^ lo + w.toNat % 2 ^ lo < 2 ^ (lo + width) := by
    rw [e2]
    calc v % 2 ^ width * 2 ^ lo + w.toNat % 2 ^ lo < v % 2 ^ width * 2 ^ lo + 2 ^ lo := by omega
      _ = (v % 2 ^ width + 1) * 2 ^ lo := by ring
      _ ≤ 2 ^ width * 2 ^ lo := Nat.mul_le_mul_right _ hv
  rw [e3]
  calc _ < w.toNat / 2 ^ (lo + width) * 2 ^ (lo + width) + 2 ^ (lo + width) := by omega
    _ = (w.toNat / 2 ^ (lo + width) + 1) * 2 ^ (lo + width) := by ring
    _ ≤ _ := Nat.mul_le_mul_right _ hq

/-- A field reads as what was put there. -/
theorem bits_insertField_same (w : Word) {lo width : Nat} (v : Nat) (h : lo + width ≤ 32) :
    bits (insertField w lo width v).toNat lo width = v % 2 ^ width := by
  rw [insertField_toNat w v h]
  unfold bits
  have hl : w.toNat % 2 ^ lo < 2 ^ lo := Nat.mod_lt _ (Nat.two_pow_pos _)
  have e : w.toNat / 2 ^ (lo + width) * 2 ^ (lo + width) + v % 2 ^ width * 2 ^ lo + w.toNat % 2 ^ lo =
      w.toNat % 2 ^ lo + 2 ^ lo * (w.toNat / 2 ^ (lo + width) * 2 ^ width + v % 2 ^ width) := by
    rw [Nat.pow_add]; ring
  rw [e, Nat.add_mul_div_left _ _ (Nat.two_pow_pos _), Nat.div_eq_of_lt hl, Nat.zero_add, Nat.mul_comm, Nat.mul_add_mod,
    Nat.mod_mod]

/-- A field that does not overlap the one put keeps its value. -/
theorem bits_insertField_of_disjoint (w : Word) {lo width lo' width' : Nat} (v : Nat) (h : lo + width ≤ 32)
    (dis : lo' + width' ≤ lo ∨ lo + width ≤ lo') :
    bits (insertField w lo width v).toNat lo' width' = bits w.toNat lo' width' := by
  rw [insertField_toNat w v h]
  have split := bits_split w.toNat lo width
  unfold bits at *
  rcases dis with dis | dis
  · -- below the field put
    obtain ⟨k, rfl⟩ := Nat.exists_eq_add_of_le dis
    have e : ∀ x : Nat, w.toNat / 2 ^ (lo' + width' + k + width) * 2 ^ (lo' + width' + k + width) + x * 2 ^ (lo' + width' + k) +
        w.toNat % 2 ^ (lo' + width' + k) = w.toNat % 2 ^ (lo' + width' + k) + 2 ^ (lo' + width') *
          (2 ^ k * (w.toNat / 2 ^ (lo' + width' + k + width) * 2 ^ width + x)) := by
      intro x
      rw [show 2 ^ (lo' + width' + k + width) = 2 ^ (lo' + width') * 2 ^ k * 2 ^ width by rw [Nat.pow_add, Nat.pow_add],
        show 2 ^ (lo' + width' + k) = 2 ^ (lo' + width') * 2 ^ k by rw [Nat.pow_add]]
      ring
    have f : ∀ x y : Nat, (y + 2 ^ (lo' + width') * x) / 2 ^ lo' % 2 ^ width' = y / 2 ^ lo' % 2 ^ width' := by
      intro x y
      rw [Nat.pow_add, Nat.mul_assoc, Nat.add_mul_div_left _ _ (Nat.two_pow_pos _), Nat.add_mul_mod_self_left]
    rw [e, f]
    conv_rhs => rw [split, e, f]
  · obtain ⟨k, rfl⟩ := Nat.exists_eq_add_of_le dis
    have hl : w.toNat % 2 ^ lo < 2 ^ lo := Nat.mod_lt _ (Nat.two_pow_pos _)
    have low : ∀ x, x < 2 ^ width → x * 2 ^ lo + w.toNat % 2 ^ lo < 2 ^ (lo + width) := by
      intro x hx
      rw [Nat.pow_add, Nat.mul_comm (2 ^ lo)]
      calc x * 2 ^ lo + w.toNat % 2 ^ lo < x * 2 ^ lo + 2 ^ lo := by omega
        _ = (x + 1) * 2 ^ lo := by ring
        _ ≤ _ := Nat.mul_le_mul_right _ hx
    have f : ∀ x, x < 2 ^ width → (w.toNat / 2 ^ (lo + width) * 2 ^ (lo + width) + x * 2 ^ lo + w.toNat % 2 ^ lo) / 2 ^ (lo + width + k) =
        w.toNat / 2 ^ (lo + width) / 2 ^ k := by
      intro x hx
      rw [Nat.pow_add _ (lo + width), ← Nat.div_div_eq_div_mul, Nat.add_assoc, Nat.mul_comm _ (2 ^ (lo + width)),
        Nat.mul_add_div (Nat.two_pow_pos _), Nat.div_eq_of_lt (low x hx), Nat.add_zero]
    rw [f _ (Nat.mod_lt _ (Nat.two_pow_pos _))]
    conv_rhs => rw [split, f _ (Nat.mod_lt _ (Nat.two_pow_pos _))]

/-! ### Words and fields of a state -/

/-- The register file is canonical. -/
theorem Memory.wf_regs {s : State} (h : Memory.wf s = true) : sparseWf regReset s.regs = true := by
  simp only [Memory.wf, Bool.and_eq_true] at h; exact h.1.1.1.1.1

theorem Memory.wf_words {s : State} (h : Memory.wf s = true) : sparseWf granDefault s.gran.words = true := by
  simp only [Memory.wf, Bool.and_eq_true] at h; exact h.1.1.1.1.2

theorem Memory.wf_bale {s : State} (h : Memory.wf s = true) : sparseWf baleDefault s.gran.bale = true := by
  simp only [Memory.wf, Bool.and_eq_true] at h; exact h.1.1.1.2

/-- A write of a register keeps the memories canonical. -/
theorem State.setWord_wf {s : State} (a : Nat) (v : Word) (h : Memory.wf s = true) : Memory.wf (s.setWord a v) = true := by
  simp only [Memory.wf, Bool.and_eq_true, State.setWord_regs, State.setWord_gran, State.setWord_dsp] at h ⊢
  exact ⟨⟨⟨⟨⟨sparseSet_wf h.1.1.1.1.1, h.1.1.1.1.2⟩, h.1.1.1.2⟩, h.1.1.2⟩, h.1.2⟩, h.2⟩

theorem State.put_wf {s : State} (f : Field) (v : Nat) (h : Memory.wf s = true) : Memory.wf (s.put f v) = true :=
  State.setWord_wf _ _ h

theorem State.flag_wf {s : State} (f : Field) (h : Memory.wf s = true) : Memory.wf (s.flag f) = true := State.put_wf f 1 h

theorem State.bump_wf {s : State} (f : Field) (h : Memory.wf s = true) : Memory.wf (s.bump f) = true := State.put_wf f _ h

/-- A register reads as what was written, and every other register as before. -/
theorem State.word_setWord {s : State} (h : Memory.wf s = true) (a b : Nat) (v : Word) :
    (s.setWord a v).word b = if b = a then v else s.word b := sparseGet_set (Memory.wf_regs h)

theorem State.word_put_of_ne {s : State} (h : Memory.wf s = true) (f : Field) (v b : Nat) (ne : b ≠ f.addr) :
    (s.put f v).word b = s.word b := by
  unfold State.put; rw [State.word_setWord h, if_neg ne]

/-- A field reads as what was put there. -/
theorem State.get_put_same {s : State} (h : Memory.wf s = true) (f : Field) (v : Nat) (fits : f.lo + f.width ≤ 32) :
    (s.put f v).get f = v % 2 ^ f.width := by
  unfold State.get State.put
  rw [State.word_setWord h, if_pos rfl]
  exact bits_insertField_same _ _ fits

/-- A field in another register, or one that does not overlap, reads as before. -/
theorem State.get_put_other {s : State} (h : Memory.wf s = true) (f g : Field) (v : Nat) (fits : f.lo + f.width ≤ 32)
    (dis : g.addr ≠ f.addr ∨ g.lo + g.width ≤ f.lo ∨ f.lo + f.width ≤ g.lo) : (s.put f v).get g = s.get g := by
  unfold State.get State.put
  rw [State.word_setWord h]
  by_cases e : g.addr = f.addr
  · rw [if_pos e, e]
    exact bits_insertField_of_disjoint _ _ fits (dis.resolve_left (fun ne => ne e))
  · rw [if_neg e]

end Sys2Proof.Machine
end

