-- ==== Sys2Proof/Laws/Dsp.lean ====
section
/-! SUPPORT. The issue of one instruction by a DSP core that has nothing else under way. -/

namespace Sys2Proof.Machine

theorem vget_vmod_same {α : Type} {k : Nat} (d : α) (f : α → α) (v : Vector α k) {i : Nat} (h : i < k) :
    vget d (vmod f v i) i = f (vget d v i) := by
  simp [vget, vmod, h]

theorem vget_vmod_other {α : Type} {k : Nat} (d : α) (f : α → α) (v : Vector α k) {i j : Nat} (h : i ≠ j) :
    vget d (vmod f v i) j = vget d v j := by
  unfold vget vmod
  split
  · next hj =>
    split
    · next hi => exact Vector.getElem_set_ne hi hj h
    · rfl
  · rfl

theorem vmod_id {α : Type} {k : Nat} (f : α → α) (v : Vector α k) (i : Nat) (h : ∀ (hi : i < k), f v[i] = v[i]) :
    vmod f v i = v := by
  unfold vmod
  split
  · next hi => rw [h hi]; exact Vector.set_getElem_self hi
  · rfl

theorem vmod_vmod {α : Type} {k : Nat} (f g : α → α) (v : Vector α k) (i : Nat) :
    vmod g (vmod f v i) i = vmod (fun x => g (f x)) v i := by
  unfold vmod
  split
  · next hi => simp
  · rfl

theorem vmod_congr {α : Type} {k : Nat} {f g : α → α} (v : Vector α k) (i : Nat) (h : ∀ (hi : i < k), f v[i] = g v[i]) :
    vmod f v i = vmod g v i := by
  unfold vmod
  split
  · next hi => rw [h hi]
  · rfl

theorem State.core_eq_getElem (s : State) {n : Nat} (h : n < 16) : s.core n = s.dsp.cores[n] := by
  simp [State.core, vget, h]

@[simp] theorem State.core_modCore (s : State) {n : Nat} (h : n < 16) (f : DspCore → DspCore) :
    (s.modCore n f).core n = f (s.core n) := vget_vmod_same ({} : DspCore) f s.dsp.cores h

theorem State.core_modCore_other (s : State) {n m : Nat} (h : n ≠ m) (f : DspCore → DspCore) :
    (s.modCore n f).core m = s.core m := vget_vmod_other ({} : DspCore) f s.dsp.cores h

theorem State.modCore_modCore (s : State) (n : Nat) (f g : DspCore → DspCore) :
    (s.modCore n f).modCore n g = s.modCore n fun c => g (f c) := by
  have e := vmod_vmod f g s.dsp.cores n
  unfold State.modCore State.modDsp
  simp only
  rw [e]

theorem State.modCore_congr (s : State) {n : Nat} {f g : DspCore → DspCore} (h : n < 16) (e : f (s.core n) = g (s.core n)) :
    s.modCore n f = s.modCore n g := by
  have := vmod_congr (f := f) (g := g) s.dsp.cores n (fun hi => by rw [← State.core_eq_getElem s h]; exact e)
  unfold State.modCore State.modDsp
  simp only
  rw [this]

theorem State.modCore_id (s : State) {n : Nat} {f : DspCore → DspCore} (h : n < 16) (e : f (s.core n) = s.core n) :
    s.modCore n f = s := by
  have := vmod_id f s.dsp.cores n (fun hi => by rw [← State.core_eq_getElem s h]; exact e)
  unfold State.modCore State.modDsp
  simp only
  rw [this]

/-! ### Writes in the pipeline -/

theorem insertWrite_last (w : DspWrite) (l : List DspWrite) (h : ∀ x ∈ l, x.land ≤ w.land) : insertWrite w l = l ++ [w] := by
  induction l with
  | nil => rfl
  | cons x xs ih =>
    simp only [insertWrite]
    rw [if_neg (by have := h x (by simp); omega), ih (fun y hy => h y (by simp [hy])), List.cons_append]

/-- Writes that land no earlier than those before them stand in the pipeline in program order. -/
theorem posts_pend (l : List DspWrite) (b : Nat) : ∀ c : DspCore, (∀ x ∈ c.pend, x.land ≤ b) → (∀ x ∈ l, x.land = b) →
    (l.foldl (fun c w => c.post w.land w.target w.value) c) = { c with pend := c.pend ++ l } := by
  induction l with
  | nil => intro c _ _; simp
  | cons o os ih =>
    intro c h e
    have ho : o.land = b := e o (by simp)
    have p : c.post o.land o.target o.value = { c with pend := c.pend ++ [o] } := by
      unfold DspCore.post
      rw [insertWrite_last _ _ (fun x hx => by rw [ho]; exact h x hx)]
    rw [List.foldl_cons, p, ih _ (by
      intro x hx
      simp only [List.mem_append, List.mem_singleton] at hx
      rcases hx with hx | hx
      · exact h x hx
      · rw [hx, ho]) (fun x hx => e x (by simp [hx]))]
    simp

/-- Once the last of them has landed, writes have landed in their order. -/
theorem landUpTo_all (l : List DspWrite) {t : Nat} (h : ∀ x ∈ l, x.land ≤ t) : ∀ f : DspFile,
    landUpTo t l f = l.foldl (fun f w => f.write w.target w.value) f := by
  induction l with
  | nil => intro f; rfl
  | cons o os ih =>
    intro f
    simp only [landUpTo, if_pos (h o (by simp)), List.foldl_cons]
    exact ih (fun x hx => h x (by simp [hx])) _

theorem post_doomed (l : List DspOut) (g : DspOut → Nat) : ∀ c : DspCore,
    (l.foldl (fun c o => c.post (g o) o.2.1 o.2.2) c).doomed = c.doomed := by
  induction l with
  | nil => intro c; rfl
  | cons o os ih => intro c; rw [List.foldl_cons, ih]; rfl

/-! ### The issue of an instruction -/

theorem DspCore.commit_empty {c : DspCore} (h : c.pend = []) (t : Nat) : c.commit t = c := by
  cases c; simp only at h; subst h; rfl

/-- The core as the fetch of a simple word leaves it. -/
def DspCore.fetched (c : DspCore) : DspCore :=
  { c with rep := none, repeating := false, lcache := false, pc := (c.pc + 1) % 16384 }

theorem DspCore.fetch_noLevels {c : DspCore} (h : c.bankLevels = []) : c.fetch = { c with lcache := false, pc := (c.pc + 1) % 16384 } := by
  have e : c.fromCache = false := by
    unfold DspCore.fromCache
    cases c.cacheOf with
    | none => simp
    | some p => obtain ⟨a, b⟩ := p; simp [h]
  have l : ({ c with lcache := false } : DspCore).bankLevels = [] := h
  unfold DspCore.fetch
  rw [e]
  simp only [DspCore.loopTest, l, List.getLast?_nil]


/-- A word of an operation that its checks let pass, with its moves, and whether it has a third operand. -/
structure DspWord (w : Nat) (mv : Moves) (third : Bool) : Prop where
  op    : 0x040 ≤ dspOp w
  codes : dspCodesOk w = true
  moveX : dspMove w false = mv.x.toNat
  moveY : dspMove w true = mv.y.toNat
  third : (dspMultiply (dspOp w) && bit w 19) = third

theorem DspWord.legal {w : Nat} {mv : Moves} {third : Bool} (h : DspWord w mv third) (c : DspCore) (pc : Nat) :
    c.legal w pc false [] = true := by
  have h1 : dspControl (dspOp w) = false := by
    have := h.op
    simp only [dspControl, Bool.and_eq_false_iff, decide_eq_false_iff_not]
    left; right; omega
  have h2 : dspBranch (dspOp w) = false := by
    have := h.op
    simp only [dspBranch, Bool.or_eq_false_iff, Bool.and_eq_false_iff, decide_eq_false_iff_not, beq_eq_false_iff_ne]
    omega
  have h3 : (dspOp w == 8 || dspOp w == 9) = false := by
    have := h.op
    simp only [Bool.or_eq_false_iff, beq_eq_false_iff_ne]
    omega
  simp [DspCore.legal, h.codes, h1, h2, h3]

/-- A clean word read through its code is its data bits. -/
theorem eccLoad_clean {n w : Nat} (h : (eccLoad n w).syn = .clean) : (eccLoad n w).data = w % 2 ^ n := by
  unfold eccLoad at h ⊢
  simp only at h ⊢
  rw [h]
  rfl

/-- A read of a clean word in X or Y memory changes nothing. -/
theorem State.xyRead_clean {s : State} {y : Bool} {n a : Nat} (pc cycle : Nat) (h : (eccLoad 20 (s.xyRaw y n a)).syn = .clean) :
    s.xyRead y n a pc cycle = (s.xyRaw y n a % 2 ^ 20, s) := by
  unfold State.xyRead
  simp only [h, Syndrome.corrected, Syndrome.bad, eccLoad_clean h, Bool.false_eq_true, if_false]

theorem State.progRead_clean {s : State} {n a : Nat} (pc cycle : Nat) (h : (eccLoad 40 (s.progRaw n a)).syn = .clean) :
    s.progRead n a pc cycle = (s.progRaw n a % 2 ^ 40, s) := by
  unfold State.progRead
  simp only [h, Syndrome.corrected, Syndrome.bad, eccLoad_clean h, Bool.false_eq_true, if_false]

/-- The core after the D stage of an instruction: it has been fetched, and its pointers are in the pipeline. -/
def State.started (s : State) (n : Nat) (mv : Moves) (third : Bool) : DspCore :=
  { (s.core n).fetched with pend := s.movePointers n mv third }

/-- The word that an instruction's X move loads, as its operation sees it. -/
def State.loadedX (s : State) (n w : Nat) (mv : Moves) : Option Nat :=
  if mv.x.toNat ≠ 0 && bit mv.x.toNat 0 then some (searchWord w (s.xyRaw false n (s.moveEa n mv.x.toNat) % 2 ^ 20) false) else none

def State.loadedY (s : State) (n w : Nat) (mv : Moves) : Option Nat :=
  if mv.y.toNat ≠ 0 && bit mv.y.toNat 0 then some (searchWord w (s.xyRaw true n (s.moveEa n mv.y.toNat) % 2 ^ 20) false) else none

/-- The results of an instruction's operation. -/
def State.dspOuts (s : State) (n w : Nat) (mv : Moves) (third : Bool) : List DspOut :=
  dspResults (s.started n mv third) (s.core n).slot w (s.core n).file.mapping s.freeVal (s.loadedX n w mv) (s.moveEa n mv.x.toNat)

/-- The flight of an instruction after its D stage. -/
def State.flight0 (s : State) (n w : Nat) (mv : Moves) (third : Bool) : DspFlight :=
  { word := w, pc := (s.core n).pc, more := 0, map := (s.core n).file.mapping, eaX := s.moveEa n mv.x.toNat
    eaY := s.moveEa n mv.y.toNat, done := 0, gotX := none, gotY := none
    third := if third then some (s.progRaw n (s.thirdAt n) % 2 ^ 40) else none }

/-- The pointers of a D stage enter the pipeline in the order of their numbers. -/
theorem pointers_pend {used : Nat → Bool} {f : DspFile} {t : Nat} : ∀ (l : List Nat) (c : DspCore), c.slot = t →
    (∀ x ∈ c.pend, x.land ≤ t + 1) →
    l.foldl (fun c k => if used k then c.post (c.slot + 1) (.p k) (f.address k).2 else c) c =
      { c with pend := c.pend ++ (l.filter used).map (fun k => ⟨t + 1, .p k, (f.address k).2⟩) } := by
  intro l
  induction l with
  | nil => intro c _ _; simp
  | cons k ks ih =>
    intro c hs hp
    rw [List.foldl_cons]
    by_cases q : used k = true
    · rw [if_pos q]
      have e : c.post (c.slot + 1) (.p k) (f.address k).2 = { c with pend := c.pend ++ [⟨t + 1, .p k, (f.address k).2⟩] } := by
        unfold DspCore.post
        have i : insertWrite ⟨c.slot + 1, .p k, (f.address k).2⟩ c.pend = c.pend ++ [⟨t + 1, .p k, (f.address k).2⟩] := by
          rw [insertWrite_last _ _ (by rw [hs]; exact hp), hs]
        rw [i]
      rw [e, ih { c with pend := c.pend ++ [⟨t + 1, .p k, (f.address k).2⟩] } hs (by
        intro x hx
        simp only [List.mem_append, List.mem_singleton] at hx
        rcases hx with hx | hx
        · exact hp x hx
        · rw [hx]), List.filter_cons, if_pos q]
      simp
    · rw [if_neg q, ih _ hs hp, List.filter_cons, if_neg q]

theorem State.dspStart_ready {s : State} {n w : Nat} {mv : Moves} {third : Bool} (r : DspReady s n mv third) (h : DspWord w mv third) :
    (s.modCore n fun _ => (s.core n).fetched).dspStart n w (s.core n).pc 0 =
      (s.flight0 n w mv third, s.modCore n fun _ => s.started n mv third) := by
  have hn := r.plain.core
  have hc : (s.modCore n fun _ => (s.core n).fetched).core n = (s.core n).fetched := State.core_modCore s hn _
  have read : (if third then (s.modCore n fun _ => (s.core n).fetched).progRead n (s.thirdAt n) (s.core n).pc ((s.core n).slot + 2)
      else (0, s.modCore n fun _ => (s.core n).fetched)) =
      (if third then s.progRaw n (s.thirdAt n) % 2 ^ 40 else 0, s.modCore n fun _ => (s.core n).fetched) := by
    cases third with
    | false => rfl
    | true => exact State.progRead_clean _ _ (r.third rfl)
  have posts : ∀ u : State, u.core n = (s.core n).fetched → (u.modCore n fun c => (List.range 8).foldl (fun c k =>
      if (mv.x.toNat != 0 && bits mv.x.toNat 5 3 == k) || (mv.y.toNat != 0 && bits mv.y.toNat 5 3 == k) || (third && k == 7) then
        c.post (c.slot + 1) (.p k) ((s.core n).file.address k).2 else c) c) = u.modCore n fun _ => s.started n mv third := by
    intro u hu
    apply State.modCore_congr u hn
    rw [hu, pointers_pend (used := fun k => (mv.x.toNat != 0 && bits mv.x.toNat 5 3 == k) || (mv.y.toNat != 0 && bits mv.y.toNat 5 3 == k) ||
      (third && k == 7)) _ _ rfl (by have e : (s.core n).fetched.pend = [] := r.plain.pend; rw [e]; simp)]
    have e : (s.core n).fetched.pend = [] := r.plain.pend
    rw [e]
    rfl
  have rest := posts _ hc
  unfold State.dspStart
  simp only [hc, h.third, h.moveX, h.moveY]
  have read' := read
  unfold State.thirdAt at read'
  have e1 : (s.core n).fetched.file = (s.core n).file := rfl
  have e2 : (s.core n).fetched.slot = (s.core n).slot := rfl
  rw [e1, e2, read']
  simp only
  rw [rest, State.modCore_modCore]
  cases third <;> rfl

/-! ### The moves -/

theorem State.xyRaw_modCore (s : State) (n : Nat) (f : DspCore → DspCore) (y : Bool) (a : Nat) :
    (s.modCore n f).xyRaw y n a = s.xyRaw y n a := rfl

/-- A store in X or Y memory, whatever bits it leaves. -/
def State.xyBits (s : State) (y : Bool) (n a : Nat) (w : BitVec 26) : State :=
  s.modDsp fun d => if y then { d with y := sparseSet xyDefault d.y (32768 * n + a) w }
    else { d with x := sparseSet xyDefault d.x (32768 * n + a) w }

theorem State.xyPut_eq (s : State) (y : Bool) (n a v : Nat) : s.xyPut y n a v = s.xyBits y n a (BitVec.ofNat 26 (eccStore 20 v)) := by
  unfold State.xyPut State.xyBits
  rfl

theorem State.xyBits_raw (s : State) (n a b : Nat) (w : BitVec 26) : (s.xyBits false n a w).xyRaw true n b = s.xyRaw true n b := rfl

theorem State.xyBits_core (s : State) (y : Bool) (n a k : Nat) (w : BitVec 26) : (s.xyBits y n a w).core k = s.core k := by
  cases y <;> rfl

theorem State.xyBits_free (s : State) (y : Bool) (n a : Nat) (w : BitVec 26) : (s.xyBits y n a w).free = s.free := by
  cases y <;> rfl

theorem State.xyBits_modCore (s : State) (y : Bool) (n a k : Nat) (w : BitVec 26) (f : DspCore → DspCore) :
    (s.modCore k f).xyBits y n a w = (s.xyBits y n a w).modCore k f := by
  cases y <;> rfl

theorem State.xyRaw_moveStore (s : State) (n m a : Nat) : (s.moveStore n false m).xyRaw true n a = s.xyRaw true n a := by
  unfold State.moveStore
  split
  · rfl
  · rw [State.xyPut_eq, State.xyBits_raw]

theorem State.core_moveStore (s : State) (n m k : Nat) (y : Bool) : (s.moveStore n y m).core k = s.core k := by
  unfold State.moveStore
  split
  · rfl
  · rw [State.xyPut_eq, State.xyBits_core]

theorem State.free_moveStore (s : State) (n m : Nat) (y : Bool) : (s.moveStore n y m).free = s.free := by
  unfold State.moveStore
  split
  · rfl
  · rw [State.xyPut_eq, State.xyBits_free]

/-- The pointers in the pipeline change no data register, accumulator or search register. -/
theorem pointers_d (s : State) (n : Nat) (mv : Moves) (third : Bool) (f : DspFile) :
    ((s.movePointers n mv third).foldl (fun f w => f.write w.target w.value) f) =
      { f with p := ((s.movePointers n mv third).foldl (fun f w => f.write w.target w.value) f).p } := by
  unfold State.movePointers
  generalize ((List.range 8).filter _) = l
  induction l generalizing f with
  | nil => rfl
  | cons k ks ih =>
    rw [List.map_cons, List.foldl_cons, ih]
    rfl

/-- After the D stage, a reader of a later cycle sees the pointers post-modified. -/
theorem State.started_view (s : State) (n : Nat) (mv : Moves) (third : Bool) {t : Nat} (h : (s.core n).slot + 1 ≤ t) :
    (s.started n mv third).view t = (s.movePointers n mv third).foldl (fun f w => f.write w.target w.value) (s.core n).file := by
  unfold DspCore.view
  refine landUpTo_all _ ?_ _
  intro x hx
  have : ∀ y ∈ s.movePointers n mv third, y.land = (s.core n).slot + 1 := by
    unfold State.movePointers
    intro y hy
    simp only [List.mem_map] at hy
    obtain ⟨k, _, rfl⟩ := hy
    rfl
  rw [this x hx]
  exact h

theorem State.dspMoveStep_local {s : State} {n w : Nat} {mv : Moves} {third : Bool} (y : Bool) (fl : DspFlight)
    {v : State} {m : Nat} (hm : dspMove w y = m) (hw : fl.word = w) (hmap : fl.map = (s.core n).file.mapping)
    (hea : (if y then fl.eaY else fl.eaX) = s.moveEa n m) (hv : v.core n = s.started n mv third)
    (hraw : ∀ a, v.xyRaw y n a = s.xyRaw y n a) (r : s.moveReady n y m) :
    v.dspMoveStep n y fl =
      (some (fl.moved y (if m ≠ 0 && bit m 0 then some (searchWord w (s.xyRaw y n (s.moveEa n m) % 2 ^ 20) false) else none)),
        if m = 0 || bit m 0 then v else v.xyPut y n (s.moveEa n m) (s.dspReg n (bits m 1 4))) := by
  unfold State.dspMoveStep
  simp only [hw, hm, hea, hv, hmap]
  rcases r with r | ⟨r1, r2⟩
  · simp [r]
  · by_cases z : m = 0
    · simp [z]
    · have z' : (m == 0) = false := by simpa using z
      simp only [z', Bool.false_eq_true, if_false, r1, if_true]
      cases b : bit m 0 with
      | true =>
        have c : (eccLoad 20 (v.xyRaw y n (s.moveEa n m))).syn = .clean := by rw [hraw]; exact r2 b
        rw [State.xyRead_clean _ _ c, hraw]
        simp [z]
      | false =>
        have d : (vget 0 ((s.started n mv third).view ((s.started n mv third).slot + 1)).d
            (dspMap (s.core n).file.mapping (bits m 1 4))).toNat = s.dspReg n (bits m 1 4) := by
          have e : (s.started n mv third).slot = (s.core n).slot := rfl
          rw [e, State.started_view _ _ _ _ (Nat.le_refl _), pointers_d]
          rfl
        rw [d]
        simp [z]

/-! ### Landing -/

theorem extend40_mod (u : Bool) (v : Nat) : extend40 u v % 2 ^ 20 = v % 2 ^ 20 := by
  unfold extend40 unsigned signed
  norm_num
  split
  · omega
  · split <;> omega

/-- A shift by zero, whose carry the spec leaves open. -/
def shiftByZero (w : Nat) : Bool := decide (0x08C ≤ dspOp w) && decide (dspOp w ≤ 0x08E) && bits w 16 6 == 0

/-- The flight of an instruction whose moves are done. -/
def State.flight2 (s : State) (n w : Nat) (mv : Moves) (third : Bool) : DspFlight :=
  { s.flight0 n w mv third with done := 2, gotX := s.loadedX n w mv, gotY := s.loadedY n w mv }

/-- Loads that land with the third operand, in order. -/
theorem loads_fold (s : State) {n w : Nat} {mv : Moves} {third : Bool} (h : DspWord w mv third) (c : DspCore) :
    (let fl := s.flight2 n w mv third
     let t := (s.core n).slot
     let c := match fl.third with
       | some v => (c.post (t + 3) (.d 6) (v / 2 ^ 20)).post (t + 3) (.d 7) (v % 2 ^ 20)
       | none => c
     let c := match fl.gotX with
       | some v => c.post (t + 3) (.d (dspMap fl.map (bits (dspMove fl.word false) 1 4))) (v % 2 ^ 20)
       | none => c
     match fl.gotY with
       | some v => c.post (t + 3) (.d (dspMap fl.map (bits (dspMove fl.word true) 1 4))) (v % 2 ^ 20)
       | none => c) =
    (s.thirdLoad n third ++ s.moveLoad n false mv.x.toNat ++ s.moveLoad n true mv.y.toNat).foldl
      (fun c w => c.post w.land w.target w.value) c := by
  have ex : (s.flight2 n w mv third).word = w := rfl
  simp only [ex, h.moveX, h.moveY]
  simp only [List.foldl_append]
  have e3 : (match (s.flight2 n w mv third).third with
      | some v => (c.post ((s.core n).slot + 3) (.d 6) (v / 2 ^ 20)).post ((s.core n).slot + 3) (.d 7) (v % 2 ^ 20)
      | none => c) = (s.thirdLoad n third).foldl (fun c w => c.post w.land w.target w.value) c := by
    cases third <;> rfl
  have eX : ∀ c : DspCore, (match (s.flight2 n w mv third).gotX with
      | some v => c.post ((s.core n).slot + 3) (.d (dspMap (s.core n).file.mapping (bits mv.x.toNat 1 4))) (v % 2 ^ 20)
      | none => c) = (s.moveLoad n false mv.x.toNat).foldl (fun c w => c.post w.land w.target w.value) c := by
    intro c
    show (match s.loadedX n w mv with | some v => _ | none => _) = _
    unfold State.loadedX State.moveLoad
    by_cases q : (decide (mv.x.toNat ≠ 0) && bit mv.x.toNat 0) = true
    · rw [if_pos q, if_pos q]
      simp only [List.foldl_cons, List.foldl_nil, searchWord, Bool.false_eq_true, if_false]
      rw [extend40_mod, Nat.mod_mod]
      rfl
    · rw [if_neg q, if_neg q]; rfl
  have eY : ∀ c : DspCore, (match (s.flight2 n w mv third).gotY with
      | some v => c.post ((s.core n).slot + 3) (.d (dspMap (s.core n).file.mapping (bits mv.y.toNat 1 4))) (v % 2 ^ 20)
      | none => c) = (s.moveLoad n true mv.y.toNat).foldl (fun c w => c.post w.land w.target w.value) c := by
    intro c
    show (match s.loadedY n w mv with | some v => _ | none => _) = _
    unfold State.loadedY State.moveLoad
    by_cases q : (decide (mv.y.toNat ≠ 0) && bit mv.y.toNat 0) = true
    · rw [if_pos q, if_pos q]
      simp only [List.foldl_cons, List.foldl_nil, searchWord, Bool.false_eq_true, if_false]
      rw [extend40_mod, Nat.mod_mod]
      rfl
    · rw [if_neg q, if_neg q]; rfl
  rw [e3]
  have := eX ((s.thirdLoad n third).foldl (fun c w => c.post w.land w.target w.value) c)
  rw [← this]
  exact eY _

/-- All results of an operation are of one stage. -/
def oneStage (outs : List DspOut) (b : Bool) : Prop := ∀ o ∈ outs, o.1 = b

/-- The moves of an instruction are done, and its writes enter the pipeline. -/
theorem State.dspFly_ready {s : State} {n w : Nat} {mv : Moves} {third b : Bool} (r : DspReady s n mv third) (h : DspWord w mv third)
    (one : oneStage (s.dspOuts n w mv third) b) :
    (s.modCore n fun _ => s.started n mv third).dspFly n (s.flight0 n w mv third) =
      (some (s.flight2 n w mv third),
        ((if shiftByZero w then (s.moveStores n mv).nextFree else s.moveStores n mv).modCore n fun _ =>
          { s.started n mv third with pend := s.allWrites n mv third (s.dspOuts n w mv third) })) := by
  have hn := r.plain.core
  have hv : (s.modCore n fun _ => s.started n mv third).core n = s.started n mv third := State.core_modCore s hn _
  have stepX := State.dspMoveStep_local false (s.flight0 n w mv third) h.moveX rfl rfl rfl hv (fun _ => rfl) r.x
  have sx : (if mv.x.toNat = 0 || bit mv.x.toNat 0 then (s.modCore n fun _ => s.started n mv third) else
      (s.modCore n fun _ => s.started n mv third).xyPut false n (s.moveEa n mv.x.toNat) (s.dspReg n (bits mv.x.toNat 1 4))) =
      (s.moveStore n false mv.x.toNat).modCore n fun _ => s.started n mv third := by
    unfold State.moveStore
    split
    · rfl
    · rw [State.xyPut_eq, State.xyPut_eq, State.xyBits_modCore]
  have hv1 : ((s.moveStore n false mv.x.toNat).modCore n fun _ => s.started n mv third).core n = s.started n mv third :=
    State.core_modCore _ hn _
  have stepY := State.dspMoveStep_local (s := s) (third := third) true ((s.flight0 n w mv third).moved false (s.loadedX n w mv)) h.moveY rfl rfl rfl hv1
    (fun a => State.xyRaw_moveStore s n mv.x.toNat a) r.y
  have sy : (if mv.y.toNat = 0 || bit mv.y.toNat 0 then ((s.moveStore n false mv.x.toNat).modCore n fun _ => s.started n mv third) else
      ((s.moveStore n false mv.x.toNat).modCore n fun _ => s.started n mv third).xyPut true n (s.moveEa n mv.y.toNat)
        (s.dspReg n (bits mv.y.toNat 1 4))) =
      (s.moveStores n mv).modCore n fun _ => s.started n mv third := by
    have hc := State.core_moveStore s n mv.x.toNat n false
    have e1 : (s.moveStore n false mv.x.toNat).moveEa n mv.y.toNat = s.moveEa n mv.y.toNat := by
      unfold State.moveEa
      rw [hc]
    have e2 : (s.moveStore n false mv.x.toNat).dspReg n (bits mv.y.toNat 1 4) = s.dspReg n (bits mv.y.toNat 1 4) := by
      unfold State.dspReg
      rw [hc]
    have e3 : s.moveStores n mv = if mv.y.toNat = 0 || bit mv.y.toNat 0 then s.moveStore n false mv.x.toNat else
        (s.moveStore n false mv.x.toNat).xyPut true n (s.moveEa n mv.y.toNat) (s.dspReg n (bits mv.y.toNat 1 4)) := by
      unfold State.moveStores
      rw [State.moveStore, e1, e2]
    rw [e3]
    split
    · rfl
    · rw [State.xyPut_eq, State.xyPut_eq, State.xyBits_modCore]
  have hv2 : ((s.moveStores n mv).modCore n fun _ => s.started n mv third).core n = s.started n mv third :=
    State.core_modCore _ hn _
  have hfree : (s.moveStores n mv).free = s.free := by
    unfold State.moveStores
    rw [State.free_moveStore, State.free_moveStore]
  have land : ((s.moveStores n mv).modCore n fun _ => s.started n mv third).land n (s.flight2 n w mv third) =
      ((if shiftByZero w then (s.moveStores n mv).nextFree else s.moveStores n mv).modCore n fun _ =>
          { s.started n mv third with pend := s.allWrites n mv third (s.dspOuts n w mv third) }) := by
    have out : dspResults (s.started n mv third) (s.core n).slot w (s.core n).file.mapping
        ((s.moveStores n mv).modCore n fun _ => s.started n mv third).freeVal (s.loadedX n w mv) (s.moveEa n mv.x.toNat) =
        s.dspOuts n w mv third := by
      have : ((s.moveStores n mv).modCore n fun _ => s.started n mv third).freeVal = s.freeVal := by
        show Config.freeValue (s.moveStores n mv).free = Config.freeValue s.free
        rw [hfree]
      rw [this]
      rfl
    have fold : (s.dspOuts n w mv third).foldl (fun c o => c.post ((s.core n).slot + if o.1 then 4 else 3) o.2.1 o.2.2)
        ((s.thirdLoad n third ++ s.moveLoad n false mv.x.toNat ++ s.moveLoad n true mv.y.toNat).foldl
          (fun c w => c.post w.land w.target w.value) (s.started n mv third)) =
        { s.started n mv third with pend := s.allWrites n mv third (s.dspOuts n w mv third) } := by
      have l3 : ∀ x ∈ s.thirdLoad n third ++ s.moveLoad n false mv.x.toNat ++ s.moveLoad n true mv.y.toNat,
          x.land = (s.core n).slot + 3 := by
        intro x hx
        simp only [List.mem_append] at hx
        rcases hx with (hx | hx) | hx
        · unfold State.thirdLoad at hx
          split at hx
          · simp only [List.mem_cons, List.not_mem_nil, or_false] at hx
            rcases hx with hx | hx <;> rw [hx]
          · simp at hx
        · unfold State.moveLoad at hx
          split at hx
          · simp only [List.mem_singleton] at hx
            rw [hx]
          · simp at hx
        · unfold State.moveLoad at hx
          split at hx
          · simp only [List.mem_singleton] at hx
            rw [hx]
          · simp at hx
      have lp : ∀ x ∈ (s.started n mv third).pend, x.land = (s.core n).slot + 1 := by
        show ∀ x ∈ s.movePointers n mv third, _
        unfold State.movePointers
        intro y hy
        simp only [List.mem_map] at hy
        obtain ⟨k, _, rfl⟩ := hy
        rfl
      rw [posts_pend _ ((s.core n).slot + 3) (s.started n mv third) (fun x hx => by rw [lp x hx]; omega) l3]
      have m : ∀ c : DspCore, (s.dspOuts n w mv third).foldl
          (fun c o => c.post ((s.core n).slot + if o.1 then 4 else 3) o.2.1 o.2.2) c =
          (s.outWrites n (s.dspOuts n w mv third)).foldl (fun c w => c.post w.land w.target w.value) c := by
        intro c
        unfold State.outWrites
        rw [List.foldl_map]
      rw [m, posts_pend _ ((s.core n).slot + if b then 4 else 3) _ (by
        intro x hx
        simp only [List.mem_append] at hx
        have : x.land ≤ (s.core n).slot + 3 := by
          rcases hx with hx | hx
          · rw [lp x hx]; omega
          · exact Nat.le_of_eq (l3 x (by simp only [List.mem_append]; exact hx))
        split <;> omega) (by
        intro x hx
        unfold State.outWrites at hx
        simp only [List.mem_map] at hx
        obtain ⟨o, ho, rfl⟩ := hx
        simp only [one o ho])]
      have : (s.started n mv third).pend = s.movePointers n mv third := rfl
      simp only [this, State.allWrites, List.append_assoc]
    have gen : ∀ u : State, u.core n = s.started n mv third →
        (u.modCore n fun c => (s.dspOuts n w mv third).foldl (fun c o => c.post ((s.core n).slot + if o.1 then 4 else 3) o.2.1 o.2.2)
          ((s.thirdLoad n third ++ s.moveLoad n false mv.x.toNat ++ s.moveLoad n true mv.y.toNat).foldl
          (fun c w => c.post w.land w.target w.value) c)) =
        u.modCore n fun _ => { s.started n mv third with pend := s.allWrites n mv third (s.dspOuts n w mv third) } := by
      intro u hu
      apply State.modCore_congr u hn
      rw [hu]
      exact fold
    have shape : ((s.moveStores n mv).modCore n fun _ => s.started n mv third).land n (s.flight2 n w mv third) =
        ((if shiftByZero w then ((s.moveStores n mv).modCore n fun _ => s.started n mv third).nextFree
          else (s.moveStores n mv).modCore n fun _ => s.started n mv third).modCore n fun c =>
          (s.dspOuts n w mv third).foldl (fun c o => c.post ((s.core n).slot + if o.1 then 4 else 3) o.2.1 o.2.2)
          ((s.thirdLoad n third ++ s.moveLoad n false mv.x.toNat ++ s.moveLoad n true mv.y.toNat).foldl
          (fun c w => c.post w.land w.target w.value) c)) := by
      unfold State.land
      rw [hv2]
      simp only [← loads_fold s h, ← out]
      rfl
    rw [shape]
    cases z : shiftByZero w with
    | false =>
      simp only [Bool.false_eq_true, if_false]
      rw [gen _ hv2, State.modCore_modCore]
    | true =>
      simp only [if_true]
      rw [gen _ (by exact hv2)]
      have c : ((s.moveStores n mv).modCore n fun _ => s.started n mv third).nextFree =
          (s.moveStores n mv).nextFree.modCore n fun _ => s.started n mv third := rfl
      rw [c, State.modCore_modCore]
  unfold State.dspFly
  have d0 : ((s.flight0 n w mv third).done == 0) = true := rfl
  simp only [d0, if_true]
  rw [stepX, sx]
  simp only
  have d1 : (((s.flight0 n w mv third).moved false (s.loadedX n w mv)).done == 1) = true := rfl
  have g : (if decide (mv.x.toNat ≠ 0) && bit mv.x.toNat 0 then
      some (searchWord w (s.xyRaw false n (s.moveEa n mv.x.toNat) % 2 ^ 20) false) else none) = s.loadedX n w mv := rfl
  rw [g, d1]
  simp only [if_true]
  rw [stepY, sy]
  simp only
  exact Prod.ext rfl land

theorem State.xyBits_nextFree (s : State) (y : Bool) (n a : Nat) (w : BitVec 26) :
    s.nextFree.xyBits y n a w = (s.xyBits y n a w).nextFree := by
  cases y <;> rfl

theorem State.core_nextFree (s : State) (n : Nat) : s.nextFree.core n = s.core n := rfl

theorem State.allWrites_nextFree (s : State) (n : Nat) (mv : Moves) (third : Bool) (outs : List DspOut) :
    s.nextFree.allWrites n mv third outs = s.allWrites n mv third outs := rfl

theorem interruptMove_ready {s : State} {n : Nat} {y : Bool} {m : Nat} (h : s.moveReady n y m) : interruptMove m (s.moveEa n m) = false := by
  rcases h with h | h
  · subst h; rfl
  · have := h.1
    simp only [interruptMove, Bool.and_eq_false_iff, decide_eq_false_iff_not]
    left; right; omega

/-- What a ready core notes of an instruction. -/
theorem noteLast_ready {s : State} {n w : Nat} {mv : Moves} {third : Bool} (r : DspReady s n mv third) (h : DspWord w mv third)
    (c : DspCore) : (s.core n).fetched.noteLast c w = c.noted w (s.lastOf n w mv) := by
  have x := interruptMove_ready r.x
  have y := interruptMove_ready r.y
  unfold State.moveEa at x y
  unfold DspCore.noteLast DspCore.noted State.lastOf State.moveEa
  rw [h.moveX, h.moveY]
  show (if readsBank w || interruptMove mv.x.toNat ((s.core n).file.address (bits mv.x.toNat 5 3)).1 ||
    interruptMove mv.y.toNat ((s.core n).file.address (bits mv.y.toNat 5 3)).1 then _ else c) = _
  rw [x, y, Bool.or_false, Bool.or_false]
  rfl

/-- An instruction with its moves in local memory, fetched by a core with nothing else under way. -/
theorem State.dspIssue_ready {s : State} {n w : Nat} {mv : Moves} {third b : Bool} (r : DspReady s n mv third) (h : DspWord w mv third)
    (fence : dspOp w = 0x1C3 → (s.core n).writes = []) (one : oneStage (s.dspOuts n w mv third) b) :
    s.dspIssue n w = ((if shiftByZero w then s.nextFree else s).issued n mv third (s.dspOuts n w mv third)).modCore n
      fun c => c.noted w (s.lastOf n w mv) := by
  have p := r.plain
  have hn := p.core
  have s1 : s.modCore n (fun c => c.commit (c.slot - 1)) = s :=
    State.modCore_id s hn (DspCore.commit_empty p.pend _)
  have held : (s.core n).held = false := by
    simp [DspCore.held, p.delay, p.reti, p.rep, p.skipTo, p.stall]
  have hop := h.op
  have fetched : ((s.modCore n fun c => { c with rep := none, repeating := false }).modCore n fun c => c.fetch).modCore n
      (fun c => c.commit c.slot) = s.modCore n fun _ => (s.core n).fetched := by
    rw [State.modCore_modCore, State.modCore_modCore]
    apply State.modCore_congr s hn
    have l : ({ s.core n with rep := none, repeating := false } : DspCore).bankLevels = [] := p.levels
    rw [DspCore.fetch_noLevels l]
    exact @DspCore.commit_empty (s.core n).fetched p.pend _
  have u_core : (s.modCore n fun _ => (s.core n).fetched).core n = (s.core n).fetched := State.core_modCore s hn _
  have exec : (s.modCore n fun _ => (s.core n).fetched).dspExecute n w (s.core n).pc 0 =
      (some (s.flight2 n w mv third),
        ((if shiftByZero w then (s.moveStores n mv).nextFree else s.moveStores n mv).modCore n fun _ =>
          { s.started n mv third with pend := s.allWrites n mv third (s.dspOuts n w mv third) })) := by
    have c1 : ¬ (dspOp w < 0x040) := by omega
    have c2 : (dspOp w == 0x1C3 && !((s.modCore n fun _ => s.started n mv third).core n).writes.isEmpty) = false := by
      rw [State.core_modCore s hn]
      have e : (s.started n mv third).writes = (s.core n).writes := rfl
      rw [e]
      by_cases q : dspOp w = 0x1C3
      · rw [fence q]; simp
      · simp [q]
    simp only [State.dspExecute, if_neg c1, State.dspStart_ready r h, c2, Bool.false_eq_true, if_false]
    exact State.dspFly_ready r h one
  have rep : ∀ u : State, u.dspRepeat 257 n (s.flight2 n w mv third) false =
      u.modCore n fun c => { c with repeating := false, slot := c.slot + 1, afterReti := false } := by
    intro u
    have e : ((u.modCore n fun c => { c with repeating := false }).modCore n
        fun c => { c with slot := c.slot + 1, afterReti := false }) =
        u.modCore n fun c => { c with repeating := false, slot := c.slot + 1, afterReti := false } := State.modCore_modCore _ _ _ _
    exact e
  have base : ∀ v : State, v.core n = s.core n →
      (((v.modCore n fun _ => { s.started n mv third with pend := s.allWrites n mv third (s.dspOuts n w mv third) }).modCore n
        fun c => (if third then c.noteStall (c.slot + 2) else c).noted w (s.lastOf n w mv)).modCore n
        fun c => { c with repeating := false, slot := c.slot + 1, afterReti := false }) =
      (v.modCore n fun c => { (if third then c.noteStall (c.slot + 2) else c) with
        pc := (c.pc + 1) % 16384
        slot := c.slot + 1
        pend := s.allWrites n mv third (s.dspOuts n w mv third)
        lcache := false
        repeating := false }).modCore n fun c => c.noted w (s.lastOf n w mv) := by
    intro v hv
    rw [State.modCore_modCore, State.modCore_modCore, State.modCore_modCore]
    apply State.modCore_congr v hn
    rw [hv]
    have q := p.reti
    have q2 := p.rep
    unfold State.started DspCore.fetched DspCore.noted
    generalize s.lastOf n w mv = l
    generalize s.allWrites n mv third (s.dspOuts n w mv third) = pend'
    generalize s.core n = c at q q2
    generalize s.movePointers n mv third = pt
    obtain ⟨⟩ := c
    simp only at q q2
    subst q
    subst q2
    cases third <;> cases readsBank w <;> rfl
  have coreStores : (s.moveStores n mv).core n = s.core n := by
    unfold State.moveStores
    rw [State.core_moveStore, State.core_moveStore]
  have nextStores : s.nextFree.moveStores n mv = (s.moveStores n mv).nextFree := by
    have one : ∀ (v : State) (y : Bool) (m : Nat), v.nextFree.moveStore n y m = (v.moveStore n y m).nextFree := by
      intro v y m
      unfold State.moveStore
      have a : v.nextFree.moveEa n m = v.moveEa n m := rfl
      have d : v.nextFree.dspReg n (bits m 1 4) = v.dspReg n (bits m 1 4) := rfl
      rw [a, d]
      split
      · rfl
      · rw [State.xyPut_eq, State.xyPut_eq, State.xyBits_nextFree]
    unfold State.moveStores
    rw [one, one]
  have whole : s.dspFetch n w = ((if shiftByZero w then s.nextFree else s).issued n mv third (s.dspOuts n w mv third)).modCore n
      fun c => c.noted w (s.lastOf n w mv) := by
    have d0 : decide ((s.core n).delay ≠ 0) = false := by simp [p.delay]
    have leg := h.legal (s.core n).fetched (s.core n).pc
    have lc : (s.core n).fetched.lcache = false := rfl
    simp only [State.dspFetch, p.rep, p.levels, d0]
    simp only [Option.isSome_none, Bool.false_and, Bool.false_eq_true, if_false, Nat.le_refl, if_true]
    rw [fetched, u_core, leg]
    have one : ((1 : Nat) == 0) = false := rfl
    simp only [one, Bool.not_true, Bool.false_or, Bool.false_eq_true, if_false, Nat.sub_self]
    rw [exec]
    simp only [h.third, lc, Bool.not_false, Bool.and_true, noteLast_ready r h]
    rw [rep]
    unfold State.issued
    cases z : shiftByZero w with
    | false => simp only [Bool.false_eq_true, if_false]; exact base _ coreStores
    | true =>
      simp only [if_true]
      rw [nextStores, State.allWrites_nextFree]
      exact base _ (by rw [State.core_nextFree]; exact coreStores)
  have slot : s.dspSlot n w = s.dspFetch n w := by
    simp only [State.dspSlot, s1, p.halted, p.skipTo, held, p.stopping, p.quiet]
    simp
  have settle : (s.dspFetch n w).settle n = s.dspFetch n w := by
    have d : ((s.dspFetch n w).core n).doomed = none := by
      have nd : ∀ c : DspCore, (c.noted w (s.lastOf n w mv)).doomed = c.doomed := by
        intro c; unfold DspCore.noted; split <;> rfl
      have st : ∀ c : DspCore, ∀ q : Nat, (if third then c.noteStall q else c).doomed = c.doomed := by
        intro c q; split <;> rfl
      rw [whole, State.core_modCore _ hn, nd]
      unfold State.issued
      rw [State.core_modCore _ hn]
      simp only [st]
      cases z : shiftByZero w with
      | false => simp only [Bool.false_eq_true, if_false]; rw [coreStores]; exact p.doomed
      | true =>
        simp only [if_true]
        rw [nextStores, State.core_nextFree, coreStores]
        exact p.doomed
    simp [State.settle, d]
  simp only [State.dspIssue, p.clock, p.running, p.stall, slot]
  simp only [Bool.not_true, Bool.or_self, Bool.false_eq_true, if_false, Option.isSome_none]
  rw [settle, whole]

/-- The same for an instruction that reads nothing that an interrupt entry changes. -/
theorem State.dspIssue_plain {s : State} {n w : Nat} {mv : Moves} {third b : Bool} (r : DspReady s n mv third) (h : DspWord w mv third)
    (fence : dspOp w = 0x1C3 → (s.core n).writes = []) (one : oneStage (s.dspOuts n w mv third) b) (q : readsBank w = false) :
    s.dspIssue n w = (if shiftByZero w then s.nextFree else s).issued n mv third (s.dspOuts n w mv third) := by
  rw [State.dspIssue_ready r h fence one]
  exact State.modCore_id _ r.plain.core (by simp [DspCore.noted, q])

/-- A control instruction, fetched by a core with nothing else under way. -/
theorem State.dspIssue_control {s : State} {n w : Nat} (p : DspPlain s n) (op : dspOp w < 0x040)
    (leg : (s.core n).fetched.legal w (s.core n).pc false [] = true) :
    s.dspIssue n w = ((((s.modCore n fun _ => (s.core n).fetched).dspControlEffect n w (s.core n).pc).modCore n
      fun c => { c with repeating := false, slot := c.slot + 1, afterReti := false }).settle n) := by
  have hn := p.core
  have s1 : s.modCore n (fun c => c.commit (c.slot - 1)) = s :=
    State.modCore_id s hn (DspCore.commit_empty p.pend _)
  have held : (s.core n).held = false := by
    simp [DspCore.held, p.delay, p.reti, p.rep, p.skipTo, p.stall]
  have fetched : ((s.modCore n fun c => { c with rep := none, repeating := false }).modCore n fun c => c.fetch).modCore n
      (fun c => c.commit c.slot) = s.modCore n fun _ => (s.core n).fetched := by
    rw [State.modCore_modCore, State.modCore_modCore]
    apply State.modCore_congr s hn
    have l : ({ s.core n with rep := none, repeating := false } : DspCore).bankLevels = [] := p.levels
    rw [DspCore.fetch_noLevels l]
    exact @DspCore.commit_empty (s.core n).fetched p.pend _
  have u_core : (s.modCore n fun _ => (s.core n).fetched).core n = (s.core n).fetched := State.core_modCore s hn _
  have rep : ∀ u : State, u.dspRepeat 257 n ⟨w, (s.core n).pc, 0, 0, 0, 0, 2, none, none, none⟩ false =
      u.modCore n fun c => { c with repeating := false, slot := c.slot + 1, afterReti := false } := by
    intro u
    have e : ((u.modCore n fun c => { c with repeating := false }).modCore n
        fun c => { c with slot := c.slot + 1, afterReti := false }) =
        u.modCore n fun c => { c with repeating := false, slot := c.slot + 1, afterReti := false } := State.modCore_modCore _ _ _ _
    exact e
  have whole : s.dspFetch n w = (((s.modCore n fun _ => (s.core n).fetched).dspControlEffect n w (s.core n).pc).modCore n
      fun c => { c with repeating := false, slot := c.slot + 1, afterReti := false }) := by
    have d0 : decide ((s.core n).delay ≠ 0) = false := by simp [p.delay]
    simp only [State.dspFetch, p.rep, p.levels, d0]
    simp only [Option.isSome_none, Bool.false_and, Bool.false_eq_true, if_false, Nat.le_refl, if_true]
    rw [fetched, u_core, leg]
    have one : ((1 : Nat) == 0) = false := rfl
    have m : dspMultiply (dspOp w) = false := by
      simp only [dspMultiply, Bool.or_eq_false_iff, Bool.and_eq_false_iff, decide_eq_false_iff_not]
      omega
    have rb : readsBank w = false := by
      simp only [readsBank, Bool.and_eq_false_iff, beq_eq_false_iff_ne]
      left; omega
    have mz : ∀ y : Bool, dspMove w y = 0 := by
      intro y
      simp [dspMove, op]
    have note : ∀ c : DspCore, (s.core n).fetched.noteLast c w = c := by
      intro c
      simp [DspCore.noteLast, rb, mz, interruptMove]
    simp only [one, Bool.not_true, Bool.false_or, Bool.false_eq_true, if_false, Nat.sub_self, m, Bool.false_and, note]
    simp only [State.dspExecute, if_pos op]
    rw [State.modCore_id _ hn rfl]
    exact rep _
  have slot : s.dspSlot n w = s.dspFetch n w := by
    simp only [State.dspSlot, s1, p.halted, p.skipTo, held, p.stopping, p.quiet]
    simp
  simp only [State.dspIssue, p.clock, p.running, p.stall, slot]
  simp only [Bool.not_true, Bool.or_self, Bool.false_eq_true, if_false, Option.isSome_none]
  rw [whole]

end Sys2Proof.Machine
end

