-- ==== Sys2Proof/Laws/DspWords.lean ====
section
/-! SUPPORT. The fields of the words of each instruction format, and the results of a word's operation. -/

namespace Sys2Proof.Machine

set_option linter.unusedVariables false

theorem moveBits_lt (mv : Moves) : moveBits mv < 2 ^ 16 := by
  have := mv.x.isLt
  have := mv.y.isLt
  unfold moveBits
  omega

theorem bits_moveX (h : Nat) (mv : Moves) : bits (h * 2 ^ 16 + moveBits mv) 8 8 = mv.x.toNat := by
  have := mv.x.isLt
  have := mv.y.isLt
  unfold bits moveBits
  omega

theorem bits_moveY (h : Nat) (mv : Moves) : bits (h * 2 ^ 16 + moveBits mv) 0 8 = mv.y.toNat := by
  have := mv.x.isLt
  have := mv.y.isLt
  unfold bits moveBits
  omega

/-- A field above the moves. -/
theorem bits_above (h lo w : Nat) (mv : Moves) : bits (h * 2 ^ 16 + moveBits mv) (16 + lo) w = bits h lo w := by
  have := moveBits_lt mv
  unfold bits
  rw [Nat.pow_add, ← Nat.div_div_eq_div_mul]
  congr 2
  omega

theorem bit_above (h i : Nat) (mv : Moves) : bit (h * 2 ^ 16 + moveBits mv) (16 + i) = bit h i := by
  have := bits_above h i 1 mv
  unfold bits at this
  unfold bit
  simp only [show 2 ^ 1 = 2 from rfl] at this
  rw [this]

/-- Words of the formats with moves, as the 24 bits above the moves. -/
theorem encN_eq (op mask : Nat) (m : Moves) : encN op mask m = (op * 2 ^ 14 + mask) * 2 ^ 16 + moveBits m := by
  unfold encN; ring
theorem encT_eq (op dd ds dt : Nat) (m : Moves) :
    encT op dd ds dt m = (op * 2 ^ 14 + dd * 2 ^ 10 + ds * 2 ^ 6 + dt * 2 ^ 2) * 2 ^ 16 + moveBits m := by unfold encT; ring
theorem encI_eq (op dd ds imm : Nat) (m : Moves) :
    encI op dd ds imm m = (op * 2 ^ 14 + dd * 2 ^ 10 + ds * 2 ^ 6 + imm) * 2 ^ 16 + moveBits m := by unfold encI; ring
theorem encM_eq (op aa ds dt : Nat) (t : Bool) (m : Moves) :
    encM op aa ds dt t m = (op * 2 ^ 14 + aa * 2 ^ 12 + ds * 2 ^ 8 + dt * 2 ^ 4 + b2n t * 2 ^ 3) * 2 ^ 16 + moveBits m := by
  unfold encM; ring
theorem encA_eq (op aa ab k dd : Nat) (m : Moves) :
    encA op aa ab k dd m = (op * 2 ^ 14 + aa * 2 ^ 12 + ab * 2 ^ 10 + k * 2 ^ 4 + dd) * 2 ^ 16 + moveBits m := by unfold encA; ring
theorem encS_eq (op mode ds dt : Nat) (u : Bool) (m : Moves) :
    encS op mode ds dt u m = (op * 2 ^ 14 + mode * 2 ^ 12 + ds * 2 ^ 8 + dt * 2 ^ 4 + b2n u * 2 ^ 3) * 2 ^ 16 + moveBits m := by
  unfold encS; ring
theorem encV_eq (op dst src : Nat) (m : Moves) :
    encV op dst src m = (op * 2 ^ 14 + dst * 2 ^ 7 + src) * 2 ^ 16 + moveBits m := by unfold encV; ring

/-- Whether the operation of an op code is one of those below: not a control instruction, a register transfer or a multiply. -/
theorem DspWord.of_high {h : Nat} {mv : Moves} {third : Bool} (op : 0x040 ≤ bits h 14 10) (l : bits h 14 10 ≠ 0x042)
    (codes : bits h 14 10 = 0x041 → dspCodeOk (bits h 7 7) = true ∧ dspCodeOk (bits h 0 7) = true)
    (t : (dspMultiply (bits h 14 10) && bit h 3) = third) : DspWord (h * 2 ^ 16 + moveBits mv) mv third := by
  have e : dspOp (h * 2 ^ 16 + moveBits mv) = bits h 14 10 := bits_above h 14 10 mv
  have m : bit (h * 2 ^ 16 + moveBits mv) 19 = bit h 3 := by
    have := bits_above h 3 1 mv
    unfold bits at this
    unfold bit
    simp only [show 16 + 3 = 19 from rfl, show 2 ^ 1 = 2 from rfl] at this
    rw [this]
  refine ⟨by rw [e]; exact op, ?_, ?_, ?_, by rw [e, m]; exact t⟩
  · have c1 := bits_above h 7 7 mv
    have c0 := bits_above h 0 7 mv
    simp only [show 16 + 7 = 23 from rfl, show 16 + 0 = 16 from rfl] at c1 c0
    unfold dspCodesOk
    simp only [e, c1, c0]
    generalize bits h 14 10 = o at op l codes
    rw [if_neg (by simp; omega), if_neg (by simp; omega)]
    by_cases q : o = 0x041
    · simp [q, codes q]
    · simp [q, l]
  · unfold dspMove
    rw [e, if_neg (by simp; omega)]
    exact bits_moveX h mv
  · unfold dspMove
    rw [e, if_neg (by simp; omega)]
    exact bits_moveY h mv

theorem State.started_d (s : State) (n : Nat) (mv : Moves) (third : Bool) (k : Nat) :
    ((s.started n mv third).view ((s.core n).slot + (k + 1))).d = (s.core n).file.d := by
  rw [State.started_view s n mv third (by omega), pointers_d]

theorem State.started_acc (s : State) (n : Nat) (mv : Moves) (third : Bool) (k : Nat) :
    ((s.started n mv third).view ((s.core n).slot + (k + 1))).acc = (s.core n).file.acc := by
  rw [State.started_view s n mv third (by omega), pointers_d]

theorem State.started_mx (s : State) (n : Nat) (mv : Moves) (third : Bool) (k : Nat) :
    ((s.started n mv third).view ((s.core n).slot + (k + 1))).mx = (s.core n).file.mx := by
  rw [State.started_view s n mv third (by omega), pointers_d]

/-! ### Fields of each format -/

theorem encT_op {op dd ds dt : Nat} (mv : Moves) (hop : op < 1024) (hdd : dd < 16) (hds : ds < 16) (hdt : dt < 16) : dspOp (encT op dd ds dt mv) = op := by
  rw [dspOp, encT_eq]
  refine (bits_above _ 14 10 mv).trans ?_
  unfold bits
  omega
theorem encT_dd {op dd ds dt : Nat} (mv : Moves) (hop : op < 1024) (hdd : dd < 16) (hds : ds < 16) (hdt : dt < 16) : bits (encT op dd ds dt mv) 26 4 = dd := by
  rw [encT_eq]
  refine (bits_above _ 10 4 mv).trans ?_
  unfold bits
  omega
theorem encT_ds {op dd ds dt : Nat} (mv : Moves) (hop : op < 1024) (hdd : dd < 16) (hds : ds < 16) (hdt : dt < 16) : bits (encT op dd ds dt mv) 22 4 = ds := by
  rw [encT_eq]
  refine (bits_above _ 6 4 mv).trans ?_
  unfold bits
  omega
theorem encT_dt {op dd ds dt : Nat} (mv : Moves) (hop : op < 1024) (hdd : dd < 16) (hds : ds < 16) (hdt : dt < 16) : bits (encT op dd ds dt mv) 18 4 = dt := by
  rw [encT_eq]
  refine (bits_above _ 2 4 mv).trans ?_
  unfold bits
  omega
theorem encT_word {op dd ds dt : Nat} (mv : Moves) (hop : op < 1024) (hdd : dd < 16) (hds : ds < 16) (hdt : dt < 16) (lo : 0x040 ≤ op) (l : op ≠ 0x042) (no : op ≠ 0x041) (m : dspMultiply op = false) :
    DspWord (encT op dd ds dt mv) mv false := by
  have e := encT_op mv hop hdd hds hdt
  rw [encT_eq] at *
  have e14 := (bits_above _ 14 10 mv).symm.trans e
  refine DspWord.of_high (by rw [e14]; exact lo) (by rw [e14]; exact l) (fun q => absurd (e14.symm.trans q) no) (by rw [e14, m]; rfl)

theorem encI_op {op dd ds k : Nat} (mv : Moves) (hop : op < 1024) (hdd : dd < 16) (hds : ds < 16) (hk : k < 64) : dspOp (encI op dd ds k mv) = op := by
  rw [dspOp, encI_eq]
  refine (bits_above _ 14 10 mv).trans ?_
  unfold bits
  omega
theorem encI_dd {op dd ds k : Nat} (mv : Moves) (hop : op < 1024) (hdd : dd < 16) (hds : ds < 16) (hk : k < 64) : bits (encI op dd ds k mv) 26 4 = dd := by
  rw [encI_eq]
  refine (bits_above _ 10 4 mv).trans ?_
  unfold bits
  omega
theorem encI_ds {op dd ds k : Nat} (mv : Moves) (hop : op < 1024) (hdd : dd < 16) (hds : ds < 16) (hk : k < 64) : bits (encI op dd ds k mv) 22 4 = ds := by
  rw [encI_eq]
  refine (bits_above _ 6 4 mv).trans ?_
  unfold bits
  omega
theorem encI_k {op dd ds k : Nat} (mv : Moves) (hop : op < 1024) (hdd : dd < 16) (hds : ds < 16) (hk : k < 64) : bits (encI op dd ds k mv) 16 6 = k := by
  rw [encI_eq]
  refine (bits_above _ 0 6 mv).trans ?_
  unfold bits
  omega
theorem encI_word {op dd ds k : Nat} (mv : Moves) (hop : op < 1024) (hdd : dd < 16) (hds : ds < 16) (hk : k < 64) (lo : 0x040 ≤ op) (l : op ≠ 0x042) (no : op ≠ 0x041) (m : dspMultiply op = false) :
    DspWord (encI op dd ds k mv) mv false := by
  have e := encI_op mv hop hdd hds hk
  rw [encI_eq] at *
  have e14 := (bits_above _ 14 10 mv).symm.trans e
  refine DspWord.of_high (by rw [e14]; exact lo) (by rw [e14]; exact l) (fun q => absurd (e14.symm.trans q) no) (by rw [e14, m]; rfl)

theorem encM_op {op aa ds dt : Nat} (t : Bool) (mv : Moves) (hop : op < 1024) (haa : aa < 4) (hds : ds < 16) (hdt : dt < 16) : dspOp (encM op aa ds dt t mv) = op := by
  rw [dspOp, encM_eq]
  have := (show b2n t ≤ 1 from by cases t <;> decide)
  refine (bits_above _ 14 10 mv).trans ?_
  unfold bits
  omega
theorem encM_aa {op aa ds dt : Nat} (t : Bool) (mv : Moves) (hop : op < 1024) (haa : aa < 4) (hds : ds < 16) (hdt : dt < 16) : bits (encM op aa ds dt t mv) 28 2 = aa := by
  rw [encM_eq]
  have := (show b2n t ≤ 1 from by cases t <;> decide)
  refine (bits_above _ 12 2 mv).trans ?_
  unfold bits
  omega
theorem encM_ds {op aa ds dt : Nat} (t : Bool) (mv : Moves) (hop : op < 1024) (haa : aa < 4) (hds : ds < 16) (hdt : dt < 16) : bits (encM op aa ds dt t mv) 24 4 = ds := by
  rw [encM_eq]
  have := (show b2n t ≤ 1 from by cases t <;> decide)
  refine (bits_above _ 8 4 mv).trans ?_
  unfold bits
  omega
theorem encM_dt {op aa ds dt : Nat} (t : Bool) (mv : Moves) (hop : op < 1024) (haa : aa < 4) (hds : ds < 16) (hdt : dt < 16) : bits (encM op aa ds dt t mv) 20 4 = dt := by
  rw [encM_eq]
  have := (show b2n t ≤ 1 from by cases t <;> decide)
  refine (bits_above _ 4 4 mv).trans ?_
  unfold bits
  omega
theorem encM_t {op aa ds dt : Nat} (t : Bool) (mv : Moves) (hop : op < 1024) (haa : aa < 4) (hds : ds < 16) (hdt : dt < 16) : bit (encM op aa ds dt t mv) 19 = t := by
  have e : bits (encM op aa ds dt t mv) 19 1 = b2n t := by
    rw [encM_eq]
    have := (show b2n t ≤ 1 from by cases t <;> decide)
    refine (bits_above _ 3 1 mv).trans ?_
    unfold bits
    omega
  unfold bits at e
  unfold bit
  simp only [show 2 ^ 1 = 2 from rfl] at e
  rw [e]
  cases t <;> rfl
theorem encM_word {op aa ds dt : Nat} (t : Bool) (mv : Moves) (hop : op < 1024) (haa : aa < 4) (hds : ds < 16) (hdt : dt < 16) (lo : 0x040 ≤ op) (l : op ≠ 0x042) (no : op ≠ 0x041) :
    DspWord (encM op aa ds dt t mv) mv (dspMultiply op && t) := by
  have e := encM_op (t := t) mv hop haa hds hdt
  have eb := encM_t (t := t) mv hop haa hds hdt
  rw [encM_eq] at *
  have e14 := (bits_above _ 14 10 mv).symm.trans e
  have e3 : bit _ 3 = t := (bit_above _ 3 mv).symm.trans eb
  refine DspWord.of_high (by rw [e14]; exact lo) (by rw [e14]; exact l) (fun q => absurd (e14.symm.trans q) no) (by rw [e14, e3])

theorem encA_op {op aa ab k dd : Nat} (mv : Moves) (hop : op < 1024) (haa : aa < 4) (hab : ab < 4) (hk : k < 64) (hdd : dd < 16) : dspOp (encA op aa ab k dd mv) = op := by
  rw [dspOp, encA_eq]
  refine (bits_above _ 14 10 mv).trans ?_
  unfold bits
  omega
theorem encA_aa {op aa ab k dd : Nat} (mv : Moves) (hop : op < 1024) (haa : aa < 4) (hab : ab < 4) (hk : k < 64) (hdd : dd < 16) : bits (encA op aa ab k dd mv) 28 2 = aa := by
  rw [encA_eq]
  refine (bits_above _ 12 2 mv).trans ?_
  unfold bits
  omega
theorem encA_ab {op aa ab k dd : Nat} (mv : Moves) (hop : op < 1024) (haa : aa < 4) (hab : ab < 4) (hk : k < 64) (hdd : dd < 16) : bits (encA op aa ab k dd mv) 26 2 = ab := by
  rw [encA_eq]
  refine (bits_above _ 10 2 mv).trans ?_
  unfold bits
  omega
theorem encA_k {op aa ab k dd : Nat} (mv : Moves) (hop : op < 1024) (haa : aa < 4) (hab : ab < 4) (hk : k < 64) (hdd : dd < 16) : bits (encA op aa ab k dd mv) 20 6 = k := by
  rw [encA_eq]
  refine (bits_above _ 4 6 mv).trans ?_
  unfold bits
  omega
theorem encA_dd {op aa ab k dd : Nat} (mv : Moves) (hop : op < 1024) (haa : aa < 4) (hab : ab < 4) (hk : k < 64) (hdd : dd < 16) : bits (encA op aa ab k dd mv) 16 4 = dd := by
  rw [encA_eq]
  refine (bits_above _ 0 4 mv).trans ?_
  unfold bits
  omega
theorem encA_word {op aa ab k dd : Nat} (mv : Moves) (hop : op < 1024) (haa : aa < 4) (hab : ab < 4) (hk : k < 64) (hdd : dd < 16) (lo : 0x040 ≤ op) (l : op ≠ 0x042) (no : op ≠ 0x041) (m : dspMultiply op = false) :
    DspWord (encA op aa ab k dd mv) mv false := by
  have e := encA_op mv hop haa hab hk hdd
  rw [encA_eq] at *
  have e14 := (bits_above _ 14 10 mv).symm.trans e
  refine DspWord.of_high (by rw [e14]; exact lo) (by rw [e14]; exact l) (fun q => absurd (e14.symm.trans q) no) (by rw [e14, m]; rfl)

theorem encS_op {op aa ds dt : Nat} (u : Bool) (mv : Moves) (hop : op < 1024) (haa : aa < 4) (hds : ds < 16) (hdt : dt < 16) : dspOp (encS op aa ds dt u mv) = op := by
  rw [dspOp, encS_eq]
  have := (show b2n u ≤ 1 from by cases u <;> decide)
  refine (bits_above _ 14 10 mv).trans ?_
  unfold bits
  omega
theorem encS_aa {op aa ds dt : Nat} (u : Bool) (mv : Moves) (hop : op < 1024) (haa : aa < 4) (hds : ds < 16) (hdt : dt < 16) : bits (encS op aa ds dt u mv) 28 2 = aa := by
  rw [encS_eq]
  have := (show b2n u ≤ 1 from by cases u <;> decide)
  refine (bits_above _ 12 2 mv).trans ?_
  unfold bits
  omega
theorem encS_ds {op aa ds dt : Nat} (u : Bool) (mv : Moves) (hop : op < 1024) (haa : aa < 4) (hds : ds < 16) (hdt : dt < 16) : bits (encS op aa ds dt u mv) 24 4 = ds := by
  rw [encS_eq]
  have := (show b2n u ≤ 1 from by cases u <;> decide)
  refine (bits_above _ 8 4 mv).trans ?_
  unfold bits
  omega
theorem encS_dt {op aa ds dt : Nat} (u : Bool) (mv : Moves) (hop : op < 1024) (haa : aa < 4) (hds : ds < 16) (hdt : dt < 16) : bits (encS op aa ds dt u mv) 20 4 = dt := by
  rw [encS_eq]
  have := (show b2n u ≤ 1 from by cases u <;> decide)
  refine (bits_above _ 4 4 mv).trans ?_
  unfold bits
  omega
theorem encS_u {op aa ds dt : Nat} (u : Bool) (mv : Moves) (hop : op < 1024) (haa : aa < 4) (hds : ds < 16) (hdt : dt < 16) : bit (encS op aa ds dt u mv) 19 = u := by
  have e : bits (encS op aa ds dt u mv) 19 1 = b2n u := by
    rw [encS_eq]
    have := (show b2n u ≤ 1 from by cases u <;> decide)
    refine (bits_above _ 3 1 mv).trans ?_
    unfold bits
    omega
  unfold bits at e
  unfold bit
  simp only [show 2 ^ 1 = 2 from rfl] at e
  rw [e]
  cases u <;> rfl
theorem encS_word {op aa ds dt : Nat} (u : Bool) (mv : Moves) (hop : op < 1024) (haa : aa < 4) (hds : ds < 16) (hdt : dt < 16) (lo : 0x040 ≤ op) (l : op ≠ 0x042) (no : op ≠ 0x041) (m : dspMultiply op = false) :
    DspWord (encS op aa ds dt u mv) mv false := by
  have e := encS_op (u := u) mv hop haa hds hdt
  have eb := encS_u (u := u) mv hop haa hds hdt
  rw [encS_eq] at *
  have e14 := (bits_above _ 14 10 mv).symm.trans e
  have e3 : bit _ 3 = u := (bit_above _ 3 mv).symm.trans eb
  refine DspWord.of_high (by rw [e14]; exact lo) (by rw [e14]; exact l) (fun q => absurd (e14.symm.trans q) no) (by rw [e14, e3]; rw [m]; rfl)

theorem encV_op {op dst src : Nat} (mv : Moves) (hop : op < 1024) (hdst : dst < 128) (hsrc : src < 128) : dspOp (encV op dst src mv) = op := by
  rw [dspOp, encV_eq]
  refine (bits_above _ 14 10 mv).trans ?_
  unfold bits
  omega
theorem encV_dst {op dst src : Nat} (mv : Moves) (hop : op < 1024) (hdst : dst < 128) (hsrc : src < 128) : bits (encV op dst src mv) 23 7 = dst := by
  rw [encV_eq]
  refine (bits_above _ 7 7 mv).trans ?_
  unfold bits
  omega
theorem encV_src {op dst src : Nat} (mv : Moves) (hop : op < 1024) (hdst : dst < 128) (hsrc : src < 128) : bits (encV op dst src mv) 16 7 = src := by
  rw [encV_eq]
  refine (bits_above _ 0 7 mv).trans ?_
  unfold bits
  omega
theorem encV_word {op dst src : Nat} (mv : Moves) (hop : op < 1024) (hdst : dst < 128) (hsrc : src < 128) (lo : 0x040 ≤ op) (l : op ≠ 0x042) (codes : op = 0x041 → dspCodeOk dst = true ∧ dspCodeOk src = true) (m : dspMultiply op = false) :
    DspWord (encV op dst src mv) mv false := by
  have e := encV_op mv hop hdst hsrc
  have edst := encV_dst mv hop hdst hsrc
  have esrc := encV_src mv hop hdst hsrc
  rw [encV_eq] at *
  have e14 := (bits_above _ 14 10 mv).symm.trans e
  have e7 := (bits_above _ 7 7 mv).symm.trans edst
  have e0 := (bits_above _ 0 7 mv).symm.trans esrc
  refine DspWord.of_high (by rw [e14]; exact lo) (by rw [e14]; exact l) (by rw [e14, e7, e0]; exact codes) (by rw [e14, m]; rfl)

theorem encN_op {op k : Nat} (mv : Moves) (hop : op < 1024) (hk : k < 8) : dspOp (encN op k mv) = op := by
  rw [dspOp, encN_eq]
  refine (bits_above _ 14 10 mv).trans ?_
  unfold bits
  omega
theorem encN_k {op k : Nat} (mv : Moves) (hop : op < 1024) (hk : k < 8) : bits (encN op k mv) 16 3 = k := by
  rw [encN_eq]
  refine (bits_above _ 0 3 mv).trans ?_
  unfold bits
  omega
theorem encN_word {op k : Nat} (mv : Moves) (hop : op < 1024) (hk : k < 8) (lo : 0x040 ≤ op) (l : op ≠ 0x042) (no : op ≠ 0x041) (m : dspMultiply op = false) :
    DspWord (encN op k mv) mv false := by
  have e := encN_op mv hop hk
  rw [encN_eq] at *
  have e14 := (bits_above _ 14 10 mv).symm.trans e
  refine DspWord.of_high (by rw [e14]; exact lo) (by rw [e14]; exact l) (fun q => absurd (e14.symm.trans q) no) (by rw [e14, m]; rfl)

/-! ### Control words -/

theorem encC_op {op target low : Nat} (h : op < 1024) (t : target < 16384) (l : low < 65536) : dspOp (encC op target low) = op := by
  unfold dspOp bits encC; omega
theorem encC_target {op target low : Nat} (h : op < 1024) (t : target < 16384) (l : low < 65536) :
    bits (encC op target low) 16 14 = target := by
  unfold bits encC; omega
theorem encC_low {op target low : Nat} (l : low < 65536) : bits (encC op target low) 0 16 = low := by
  unfold bits encC; omega
theorem encC_cond {op target low : Nat} (l : low < 65536) : bits (encC op target low) 12 4 = low / 2 ^ 12 := by
  unfold bits encC; omega
theorem encC_low8 {op target low : Nat} : bits (encC op target low) 0 8 = low % 256 := by
  unfold bits encC; omega
theorem encC_low7 {op target low : Nat} : bits (encC op target low) 0 7 = low % 128 := by
  unfold bits encC; omega
theorem encC_low3 {op target low : Nat} : bits (encC op target low) 0 3 = low % 8 := by
  unfold bits encC; omega

end Sys2Proof.Machine
end

