-- ==== Sys2Proof/Laws/Kept.lean ====
section
/-! SUPPORT. What no command of the block ever breaks: the queue is left alone, the memories stay canonical, blown fuses
stay blown, FIFOs and the event log keep their bounds. One lemma per operation says that it keeps all of these. -/

namespace Sys2Proof.Machine

/-- What every operation keeps, from a state s to a state t. -/
structure Kept (s t : State) : Prop where
  queue  : t.pending = s.pending
  wf     : Memory.wf s = true → Memory.wf t = true
  market : s.sec.marketFuse = true → t.sec.marketFuse = true
  vendor : s.sec.vendorOff = true → t.sec.vendorOff = true
  fifos  : s.fifosHold → t.fifosHold
  log    : s.logHolds → t.logHolds
  free   : s.free ≤ t.free

theorem Kept.refl (s : State) : Kept s s := ⟨rfl, id, id, id, id, id, Nat.le_refl _⟩

theorem Kept.trans {s t u : State} (a : Kept s t) (b : Kept t u) : Kept s u :=
  ⟨b.queue.trans a.queue, b.wf ∘ a.wf, b.market ∘ a.market, b.vendor ∘ a.vendor, b.fifos ∘ a.fifos, b.log ∘ a.log,
    Nat.le_trans a.free b.free⟩

/-- A change of parts that none of these speak of. -/
theorem Kept.same {a s t : State} (h : Kept a s) (q : t.pending = s.pending) (r : t.regs = s.regs) (w : t.gran.words = s.gran.words)
    (b : t.gran.bale = s.gran.bale) (x : t.dsp.x = s.dsp.x) (y : t.dsp.y = s.dsp.y) (p : t.dsp.prog = s.dsp.prog)
    (m : t.sec.marketFuse = s.sec.marketFuse) (v : t.sec.vendorOff = s.sec.vendorOff) (u : t.uarts = s.uarts)
    (l : t.host.log = s.host.log) (f : t.free = s.free) : Kept a t := by
  refine h.trans ⟨q, ?_, by rw [m]; exact id, by rw [v]; exact id, ?_, ?_, Nat.le_of_eq f.symm⟩
  · unfold Memory.wf; rw [r, w, b, x, y, p]; exact id
  · unfold State.fifosHold State.uart; rw [u]; exact id
  · unfold State.logHolds; rw [l]; exact id

/-- A change of the registers that keeps their form. -/
theorem Kept.regs {a s : State} (h : Kept a s) (m : List (Nat × Word)) (w : sparseWf regReset s.regs = true → sparseWf regReset m = true) :
    Kept a { s with regs := m } := by
  refine h.trans ⟨rfl, ?_, id, id, id, id, Nat.le_refl _⟩
  unfold Memory.wf
  simp only [Bool.and_eq_true]
  rintro ⟨⟨⟨⟨⟨r, b⟩, c⟩, d⟩, e⟩, f⟩
  exact ⟨⟨⟨⟨⟨w r, b⟩, c⟩, d⟩, e⟩, f⟩

variable {a s : State}

theorem kept_ite {c : Prop} [Decidable c] {x y : State} (hx : Kept a x) (hy : Kept a y) : Kept a (if c then x else y) := by
  split <;> assumption

theorem setWord_kept (k : Nat) (v : Word) (h : Kept a s) : Kept a (s.setWord k v) := h.regs _ sparseSet_wf
theorem put_kept (f : Field) (v : Nat) (h : Kept a s) : Kept a (s.put f v) := setWord_kept _ _ h
theorem flag_kept (f : Field) (h : Kept a s) : Kept a (s.flag f) := put_kept f 1 h
theorem nextFree_kept (h : Kept a s) : Kept a s.nextFree := h.trans ⟨rfl, id, id, id, id, id, Nat.le_succ _⟩
theorem when_kept {c : Bool} {f : State → State} (h : Kept a s) (hf : ∀ t, Kept a t → Kept a (f t)) : Kept a (s.when c f) := by
  unfold State.when; split
  · exact hf s h
  · exact h
theorem each_kept {α : Type} (f : State → α → State) (hf : ∀ t x, Kept a t → Kept a (f t x)) : ∀ (l : List α) {s : State}, Kept a s →
    Kept a (s.each l f)
  | [], _, h => h
  | x :: l, _, h => each_kept f hf l (hf _ x h)
theorem foldl_kept {α : Type} (f : State → α → State) (hf : ∀ t x, Kept a t → Kept a (f t x)) : ∀ (l : List α) {s : State}, Kept a s →
    Kept a (l.foldl f s) := each_kept f hf

theorem modFab_kept (f : FabState → FabState) (h : Kept a s) : Kept a (s.modFab f) := h.same rfl rfl rfl rfl rfl rfl rfl rfl rfl rfl rfl rfl
theorem modStw_kept (f : StwState → StwState) (h : Kept a s) : Kept a (s.modStw f) := h.same rfl rfl rfl rfl rfl rfl rfl rfl rfl rfl rfl rfl
theorem modFe_kept (f : FeState → FeState) (h : Kept a s) : Kept a (s.modFe f) := h.same rfl rfl rfl rfl rfl rfl rfl rfl rfl rfl rfl rfl
theorem modSnap_kept (f : SnapState → SnapState) (h : Kept a s) : Kept a (s.modSnap f) := h.same rfl rfl rfl rfl rfl rfl rfl rfl rfl rfl rfl rfl
theorem modLane_kept (l : Nat) (f : LaneState → LaneState) (h : Kept a s) : Kept a (s.modLane l f) := h.same rfl rfl rfl rfl rfl rfl rfl rfl rfl rfl rfl rfl
theorem modThr_kept (f : ThrState → ThrState) (h : Kept a s) : Kept a (s.modThr f) := h.same rfl rfl rfl rfl rfl rfl rfl rfl rfl rfl rfl rfl
theorem modClk_kept (f : ClkState → ClkState) (h : Kept a s) : Kept a (s.modClk f) := h.same rfl rfl rfl rfl rfl rfl rfl rfl rfl rfl rfl rfl
theorem modShf_kept (f : ShfState → ShfState) (h : Kept a s) : Kept a (s.modShf f) := h.same rfl rfl rfl rfl rfl rfl rfl rfl rfl rfl rfl rfl
theorem modNav_kept (f : NavState → NavState) (h : Kept a s) : Kept a (s.modNav f) := h.same rfl rfl rfl rfl rfl rfl rfl rfl rfl rfl rfl rfl
theorem modLtu_kept (f : LtuState → LtuState) (h : Kept a s) : Kept a (s.modLtu f) := h.same rfl rfl rfl rfl rfl rfl rfl rfl rfl rfl rfl rfl
theorem modNet_kept (f : NetState → NetState) (h : Kept a s) : Kept a (s.modNet f) := h.same rfl rfl rfl rfl rfl rfl rfl rfl rfl rfl rfl rfl
theorem modUwb_kept (f : UwbState → UwbState) (h : Kept a s) : Kept a (s.modUwb f) := h.same rfl rfl rfl rfl rfl rfl rfl rfl rfl rfl rfl rfl
theorem modPwr_kept (f : PwrState → PwrState) (h : Kept a s) : Kept a (s.modPwr f) := h.same rfl rfl rfl rfl rfl rfl rfl rfl rfl rfl rfl rfl
theorem modFw_kept (f : FwState → FwState) (h : Kept a s) : Kept a (s.modFw f) := h.same rfl rfl rfl rfl rfl rfl rfl rfl rfl rfl rfl rfl
theorem modCvu_kept (c : Nat) (f : CvuState → CvuState) (h : Kept a s) : Kept a (s.modCvu c f) := h.same rfl rfl rfl rfl rfl rfl rfl rfl rfl rfl rfl rfl

/-- A change of the granary's state that keeps the form of its words and of the bale. -/
theorem modGran_kept' (f : GranState → GranState) (h : Kept a s)
    (hw : sparseWf granDefault s.gran.words = true → sparseWf granDefault (f s.gran).words = true)
    (hb : sparseWf baleDefault s.gran.bale = true → sparseWf baleDefault (f s.gran).bale = true) : Kept a (s.modGran f) := by
  refine h.trans ⟨rfl, ?_, id, id, id, id, Nat.le_refl _⟩
  unfold Memory.wf
  simp only [Bool.and_eq_true]
  rintro ⟨⟨⟨⟨⟨r, b⟩, c⟩, d⟩, e⟩, f⟩
  exact ⟨⟨⟨⟨⟨r, hw b⟩, hb c⟩, d⟩, e⟩, f⟩
theorem modGran_kept (f : GranState → GranState) (hw : ∀ g, (f g).words = g.words) (hb : ∀ g, (f g).bale = g.bale) (h : Kept a s) :
    Kept a (s.modGran f) := modGran_kept' f h (by rw [hw]; exact id) (by rw [hb]; exact id)

/-- A change of the DSP cores' state that keeps the form of their memories. -/
theorem modDsp_kept' (f : DspState → DspState) (h : Kept a s)
    (hx : sparseWf xyDefault s.dsp.x = true → sparseWf xyDefault (f s.dsp).x = true)
    (hy : sparseWf xyDefault s.dsp.y = true → sparseWf xyDefault (f s.dsp).y = true)
    (hp : sparseWf progDefault s.dsp.prog = true → sparseWf progDefault (f s.dsp).prog = true) : Kept a (s.modDsp f) := by
  refine h.trans ⟨rfl, ?_, id, id, id, id, Nat.le_refl _⟩
  unfold Memory.wf
  simp only [Bool.and_eq_true]
  rintro ⟨⟨⟨⟨⟨r, b⟩, c⟩, d⟩, e⟩, f⟩
  exact ⟨⟨⟨⟨⟨r, b⟩, c⟩, hx d⟩, hy e⟩, hp f⟩
theorem modDsp_kept (f : DspState → DspState) (hx : ∀ d, (f d).x = d.x) (hy : ∀ d, (f d).y = d.y) (hp : ∀ d, (f d).prog = d.prog)
    (h : Kept a s) : Kept a (s.modDsp f) :=
  modDsp_kept' f h (by rw [hx]; exact id) (by rw [hy]; exact id) (by rw [hp]; exact id)

/-- A change of the host link's state that keeps the bound of the log. -/
theorem modHost_kept' (f : HostState → HostState) (h : Kept a s) (hl : s.host.log.length ≤ 256 → (f s.host).log.length ≤ 256) :
    Kept a (s.modHost f) := h.trans ⟨rfl, id, id, id, id, hl, Nat.le_refl _⟩
theorem modHost_kept (f : HostState → HostState) (hl : ∀ x, (f x).log = x.log) (h : Kept a s) : Kept a (s.modHost f) :=
  modHost_kept' f h (by rw [hl]; exact id)

/-- A change of the silo's state that clears neither fuse. -/
theorem modSec_kept (f : SecState → SecState) (hm : ∀ c, c.marketFuse = true → (f c).marketFuse = true)
    (hv : ∀ c, c.vendorOff = true → (f c).vendorOff = true) (h : Kept a s) : Kept a (s.modSec f) :=
  h.trans ⟨rfl, id, hm _, hv _, id, id, Nat.le_refl _⟩

/-- A change of a UART that keeps the bounds of its FIFOs. -/
theorem modUart_kept' (n : Nat) (f : UartState → UartState) (h : Kept a s)
    (hu : (s.uart n).rx.length ≤ 64 ∧ (s.uart n).tx.length ≤ 64 → (f (s.uart n)).rx.length ≤ 64 ∧ (f (s.uart n)).tx.length ≤ 64) :
    Kept a (s.modUart n f) := by
  refine h.trans ⟨rfl, id, id, id, fun q k hk => ?_, id, Nat.le_refl _⟩
  show (vget _ (vmod f s.uarts n) k).rx.length ≤ 64 ∧ (vget _ (vmod f s.uarts n) k).tx.length ≤ 64
  by_cases e : n = k
  · subst e
    rw [vget_vmod_same _ _ _ hk]
    exact hu (q n hk)
  · rw [vget_vmod_other _ _ _ e]
    exact q k hk
theorem modUart_kept (n : Nat) (f : UartState → UartState)
    (hu : ∀ u, u.rx.length ≤ 64 ∧ u.tx.length ≤ 64 → (f u).rx.length ≤ 64 ∧ (f u).tx.length ≤ 64) (h : Kept a s) :
    Kept a (s.modUart n f) := modUart_kept' n f h (hu _)

theorem modCore_kept (n : Nat) (f : DspCore → DspCore) (h : Kept a s) : Kept a (s.modCore n f) :=
  modDsp_kept _ (fun _ => rfl) (fun _ => rfl) (fun _ => rfl) h
theorem modKernel_kept (n : Nat) (f : Kernel → Kernel) (h : Kept a s) : Kept a (s.modKernel n f) :=
  modDsp_kept _ (fun _ => rfl) (fun _ => rfl) (fun _ => rfl) h

/-! ### Outcomes -/

/-- A meaning answers with a next state that keeps all. -/
def Runs (s : State) (r : Result) : Prop := ∃ t, r = .next t ∧ Kept s t

theorem Runs.next {t : State} (h : Kept a t) : Runs a (.next t) := ⟨t, rfl, h⟩
theorem runs_ite {c : Prop} [Decidable c] {x y : Result} (hx : Runs a x) (hy : Runs a y) : Runs a (if c then x else y) := by
  split <;> assumption
theorem whileLive_runs {f : State → Result} (h : Kept a s) (hf : ∀ t, Kept a t → Runs a (f t)) : Runs a (whileLive s f) := by
  unfold whileLive; split
  · exact hf s h
  · exact .next h
theorem whilePowered_runs {f : State → Result} (h : Kept a s) (hf : ∀ t, Kept a t → Runs a (f t)) : Runs a (whilePowered s f) := by
  unfold whilePowered; split
  · exact hf s h
  · exact .next h
theorem whileAon_runs {f : State → Result} (h : Kept a s) (hf : ∀ t, Kept a t → Runs a (f t)) : Runs a (whileAon s f) := by
  unfold whileAon; split
  · exact hf s h
  · exact .next h
theorem whileTap_runs {f : State → Result} (h : Kept a s) (hf : ∀ t, Kept a t → Runs a (f t)) : Runs a (whileTap s f) := by
  unfold whileTap; split
  · exact hf s h
  · exact .next h
theorem whileAuth_runs {f : State → State} (h : Kept a s) (hf : ∀ t, Kept a t → Kept a (f t)) : Runs a (whileAuth s f) :=
  whileTap_runs h fun t k => .next (kept_ite (hf t k) k)
theorem run_kept {f : State → Result} (h : Kept a s) (hf : ∀ t, Kept a t → Runs a (f t)) : Kept a (s.run f) := by
  obtain ⟨t, e, k⟩ := hf s h
  unfold State.run; rw [e]; exact k

end Sys2Proof.Machine
end

