-- ==== Sys2Proof/Laws/KeptOps.lean ====
section
/-! SUPPORT. Every operation and every meaning keeps what Kept says: one lemma each, callees before their callers. -/

namespace Sys2Proof.Machine

variable {a s : State}

theorem lanes_kept (v : Vector LaneState 12) (h : Kept a s) : Kept a { s with lanes := v } :=
  h.same rfl rfl rfl rfl rfl rfl rfl rfl rfl rfl rfl rfl
theorem fw_kept (v : FwState) (h : Kept a s) : Kept a { s with fw := v } :=
  h.same rfl rfl rfl rfl rfl rfl rfl rfl rfl rfl rfl rfl
theorem plainWrite_kept (x1 : Nat) (v : Word) (h : Kept a s) : Kept a (State.plainWrite s x1 v) := by
  unfold State.plainWrite; split <;> simp (maxDischargeDepth := 60) +contextual only [setWord_kept, h]
theorem execClearCount_runs (h : Kept a s) : Runs a (execClearCount s) := by
  unfold execClearCount; simp (maxDischargeDepth := 60) +contextual only [put_kept, whileLive_runs, h, Runs.next, implies_true]
theorem fabWrite_kept (x1 : Nat) (v : Word) (h : Kept a s) : Kept a (State.fabWrite s x1 v) := by
  unfold State.fabWrite
  simp (maxDischargeDepth := 60) +contextual only [execClearCount_runs, plainWrite_kept, run_kept, when_kept, h, implies_true]
theorem bumpBy_kept (f : Field) (n : Nat) (h : Kept a s) : Kept a (State.bumpBy s f n) := by
  unfold State.bumpBy; simp (maxDischargeDepth := 60) +contextual only [put_kept, h]
theorem bump_kept (f : Field) (h : Kept a s) : Kept a (State.bump s f) := by
  unfold State.bump; simp (maxDischargeDepth := 60) +contextual only [bumpBy_kept, h]
theorem syncIgnored_kept (h : Kept a s) : Kept a (State.syncIgnored s) := by
  unfold State.syncIgnored; simp (maxDischargeDepth := 60) +contextual only [bump_kept, flag_kept, h]
theorem baleWrite_kept (w v : Nat) (h : Kept a s) : Kept a (s.baleWrite w v) := modGran_kept' _ h id sparseSet_wf
theorem baleBytes_kept : ∀ (l : List Byte) {s : State} (addr : Nat), Kept a s → Kept a (s.baleBytes addr l)
  | [], _, _, h => h
  | [_], _, _, h => baleWrite_kept _ _ h
  | [_, _], _, _, h => baleWrite_kept _ _ h
  | [_, _, _], _, _, h => baleWrite_kept _ _ h
  | _ :: _ :: _ :: _ :: l, _, addr, h => baleBytes_kept l (addr + 4) (baleWrite_kept _ _ h)
theorem descriptor_kept (ring : Nat) (count : Nat) (offset : Nat) (h : Kept a s) : Kept a (State.descriptor s ring count offset)
    := by
  unfold State.descriptor; simp (maxDischargeDepth := 60) +contextual only [baleWrite_kept, h]
theorem sendVector_kept (v : Nat) (h : Kept a s) : Kept a (State.sendVector s v) := by
  unfold State.sendVector; simp (maxDischargeDepth := 60) +contextual only [modHost_kept, kept_ite, h, implies_true, eq_self]
theorem cause_kept (bitNo : Nat) (v : Nat) (h : Kept a s) : Kept a (State.cause s bitNo v) := by
  unfold State.cause; simp (maxDischargeDepth := 60) +contextual only [flag_kept, sendVector_kept, kept_ite, h]
theorem signalRing_kept (c : Nat) (h : Kept a s) : Kept a (State.signalRing s c) := by
  unfold State.signalRing
  simp (maxDischargeDepth := 60) +contextual only [flag_kept, modHost_kept, sendVector_kept, kept_ite, h, implies_true, eq_self]
theorem produce_kept {t : State} (c : Cls) (m : Msg) (h : Kept a s) (e : s.produce c m = some t) : Kept a t := by
  unfold State.produce at e
  dsimp only at e
  split at e
  · cases e
  · injection e with e
    rw [← e]
    cases c
    all_goals
      simp (maxDischargeDepth := 60) +contextual only [cause_kept, signalRing_kept, descriptor_kept, modHost_kept,
      baleBytes_kept, kept_ite, h,
        implies_true]
theorem produce_getD_kept {u : State} (c : Cls) (m : Msg) (h : Kept a s) (k : Kept a u) : Kept a ((s.produce c m).getD u) := by
  cases e : s.produce c m with
  | none => exact k
  | some t => exact produce_kept c m h e
theorem respond_kept (r : OpenReq) (final : Bool) (status : Nat) (payload : List Byte) (h : Kept a s) :
    Kept a (s.respond r final status payload) := by
  unfold State.respond
  simp (maxDischargeDepth := 60) +contextual only [produce_getD_kept, modHost_kept, kept_ite, h, implies_true]
theorem passFails_kept (p : Option ThrPass) (h : Kept a s) : Kept a (State.passFails s p) := by
  unfold State.passFails
  dsimp only
  (repeat' split) <;> simp (maxDischargeDepth := 60) +contextual only [modSnap_kept, respond_kept, h]
theorem showThr_kept (h : Kept a s) : Kept a (State.showThr s) := by
  unfold State.showThr; dsimp only; split <;> simp (maxDischargeDepth := 60) +contextual only [put_kept, h]
theorem thrLostClock_kept (h : Kept a s) : Kept a (State.thrLostClock s) := by
  unfold State.thrLostClock
  simp (maxDischargeDepth := 60) +contextual only [modThr_kept, passFails_kept, showThr_kept, kept_ite, h]
theorem modCapture_kept (f : CaptureRun → CaptureRun) (h : Kept a s) : Kept a (State.modCapture s f) := by
  unfold State.modCapture; simp (maxDischargeDepth := 60) +contextual only [modSnap_kept, h]
theorem captureEnds_kept (h : Kept a s) : Kept a (State.captureEnds s) := by
  unfold State.captureEnds; split <;> simp (maxDischargeDepth := 60) +contextual only [modCapture_kept, h]
theorem cutCapture_kept (p : Capture → Bool) (h : Kept a s) : Kept a (State.cutCapture s p) := by
  unfold State.cutCapture
  split <;> simp (maxDischargeDepth := 60) +contextual only [captureEnds_kept, modCapture_kept, when_kept, kept_ite, h,
      implies_true]
theorem modPulse_kept (k : Nat) (f : TpState → TpState) (h : Kept a s) : Kept a (State.modPulse s k f) := by
  unfold State.modPulse; simp (maxDischargeDepth := 60) +contextual only [modLtu_kept, h]
theorem putTimeRec_kept (secLo : Field) (secHi : Field) (ns : Field) (frac : Field) (t : Time) (h : Kept a s) : Kept a
    (State.putTimeRec s secLo secHi ns frac t) := by
  unfold State.putTimeRec; simp (maxDischargeDepth := 60) +contextual only [put_kept, h]
theorem logEvent_kept (e : Event) (number : Option Nat) (t : Time) (h : Kept a s) : Kept a (s.logEvent e number t) :=
  modHost_kept' _ h fun _ => by simp; omega
theorem tally_kept (i : Nat) (n : Nat) (h : Kept a s) : Kept a (State.tally s i n) := by
  unfold State.tally; simp (maxDischargeDepth := 60) +contextual only [modHost_kept, h, implies_true, eq_self]
theorem emitVector_kept (e : Event) (t : Time) (h : Kept a s) : Kept a (State.emitVector s e t) := by
  unfold State.emitVector
  simp (maxDischargeDepth := 60) +contextual only [bump_kept, cause_kept, logEvent_kept, modHost_kept, put_kept, tally_kept,
      kept_ite, h, implies_true, eq_self]
theorem emitRing_kept (c : Cls) (e : Event) (t : Time) (h : Kept a s) : Kept a (s.emitRing c e t) := by
  unfold State.emitRing
  simp (maxDischargeDepth := 60) +contextual only [produce_getD_kept, logEvent_kept, tally_kept, modHost_kept, kept_ite, h,
      implies_true]
theorem emitAt_kept (t : Time) (e : Event) (h : Kept a s) : Kept a (State.emitAt s t e) := by
  unfold State.emitAt
  split <;> (try split) <;> simp (maxDischargeDepth := 60) +contextual only [emitRing_kept, emitVector_kept, logEvent_kept,
      modHost_kept, h, implies_true, eq_self]
theorem emit_kept (e : Event) (h : Kept a s) : Kept a (State.emit s e) := by
  unfold State.emit; simp (maxDischargeDepth := 60) +contextual only [emitAt_kept, h]
theorem tpComplete_kept (k : Nat) (r : TpRecord) (h : Kept a s) : Kept a (State.tpComplete s k r) := by
  unfold State.tpComplete
  simp (maxDischargeDepth := 60) +contextual only [emit_kept, modPulse_kept, putTimeRec_kept, put_kept, when_kept, h, implies_true]
theorem tpTruncate_kept (h : Kept a s) : Kept a (State.tpTruncate s) := by
  unfold State.tpTruncate
  simp (maxDischargeDepth := 60) +contextual only [each_kept, modPulse_kept, tpComplete_kept, h, implies_true]
theorem showLocks_kept (l : Nat) (h : Kept a s) : Kept a (State.showLocks s l) := by
  unfold State.showLocks; simp (maxDischargeDepth := 60) +contextual only [put_kept, h]
theorem showGd_kept (l : Nat) (h : Kept a s) : Kept a (State.showGd s l) := by
  unfold State.showGd; split <;> simp (maxDischargeDepth := 60) +contextual only [put_kept, h]
theorem fadeTo_kept (l : Nat) (sel : Nat) (f : Nat) (started : Bool) (h : Kept a s) : Kept a (State.fadeTo s l sel f started) := by
  unfold State.fadeTo; simp (maxDischargeDepth := 60) +contextual only [flag_kept, modLane_kept, put_kept, h]
theorem startPendingFade_kept (l : Nat) (h : Kept a s) : Kept a (State.startPendingFade s l) := by
  unfold State.startPendingFade; simp (maxDischargeDepth := 60) +contextual only [fadeTo_kept, put_kept, kept_ite, h]
theorem fadeOver_kept (l : Nat) (h : Kept a s) : Kept a (State.fadeOver s l) := by
  unfold State.fadeOver; simp (maxDischargeDepth := 60) +contextual only [modLane_kept, put_kept, h]
theorem nextFade_kept (l : Nat) (h : Kept a s) : Kept a (State.nextFade s l) := by
  unfold State.nextFade
  split <;> simp (maxDischargeDepth := 60) +contextual only [fadeOver_kept, showGd_kept, showLocks_kept, startPendingFade_kept,
      kept_ite, h]
theorem rqCount_kept (l : Nat) (power : Nat) (sats : Nat) (h : Kept a s) : Kept a (State.rqCount s l power sats) := by
  unfold State.rqCount; simp (maxDischargeDepth := 60) +contextual only [modLane_kept, put_kept, kept_ite, h]
theorem pulseCount_kept (l : Nat) (w : WinWord) (h : Kept a s) : Kept a (State.pulseCount s l w) := by
  unfold State.pulseCount; simp (maxDischargeDepth := 60) +contextual only [modLane_kept, put_kept, h]
theorem laneOverload_kept (l : Nat) (h : Kept a s) : Kept a (State.laneOverload s l) := by
  unfold State.laneOverload; simp (maxDischargeDepth := 60) +contextual only [emit_kept, flag_kept, kept_ite, h]
theorem leaveWord_kept (l : Nat) (w : WinWord) (h : Kept a s) : Kept a (State.leaveWord s l w) := by
  unfold State.leaveWord
  simp (maxDischargeDepth := 60) +contextual only [laneOverload_kept, modLane_kept, pulseCount_kept, put_kept, rqCount_kept,
      kept_ite, h]
theorem delayOut_kept (l : Nat) (h : Kept a s) : Kept a (State.delayOut s l) := by
  unfold State.delayOut; dsimp only; split <;> simp (maxDischargeDepth := 60) +contextual only [leaveWord_kept, modLane_kept, h]
theorem pulseWord_kept (l : Nat) (w : WinWord) (h : Kept a s) : Kept a (State.pulseWord s l w) := by
  unfold State.pulseWord; simp (maxDischargeDepth := 60) +contextual only [modLane_kept, h]
theorem notchWord_kept (l j : Nat) (blank : Bool) (x : (Int × Int) × Bool) (h : Kept a s) : Kept a (s.notchWord l j blank x).1 := by
  unfold State.notchWord
  split
  · exact h
  · extract_lets
    exact kept_ite (put_kept _ _ (nextFree_kept (modLane_kept _ _ h))) (nextFree_kept (modLane_kept _ _ h))
theorem notchWords_kept (l : Nat) (blank : Bool) (x : (Int × Int) × Bool) (h : Kept a s) : Kept a (s.notchWords l blank x).1 :=
  notchWord_kept _ _ _ _ (notchWord_kept _ _ _ _ (notchWord_kept _ _ _ _ (notchWord_kept _ _ _ _ h)))
theorem laneWord_kept (l : Nat) (v : CWord 18) (h : Kept a s) : Kept a (s.laneWord l v) := by
  unfold State.laneWord
  extract_lets
  exact delayOut_kept _ (pulseWord_kept _ _ (notchWords_kept _ _ _ (modLane_kept _ _ (nextFade_kept _ h))))
theorem laneStep_kept (l : Nat) (h : Kept a s) : Kept a (State.laneStep s l) := by
  unfold State.laneStep
  dsimp only
  (repeat' split) <;> simp (maxDischargeDepth := 60) +contextual only [laneWord_kept, modLane_kept, h]
theorem laneSteps_kept (l : Nat) : ∀ (n : Nat) {s : State}, Kept a s → Kept a (s.laneSteps l n)
  | 0, _, h => h
  | n + 1, _, h => laneSteps_kept l n (laneStep_kept l h)
theorem runLane_kept (l : Nat) (h : Kept a s) : Kept a (State.runLane s l) := by
  unfold State.runLane; simp (maxDischargeDepth := 60) +contextual only [laneSteps_kept, kept_ite, h]
theorem runLanes_kept (h : Kept a s) : Kept a (State.runLanes s) := by
  unfold State.runLanes; simp (maxDischargeDepth := 60) +contextual only [each_kept, runLane_kept, h, implies_true]
theorem showAir_kept (h : Kept a s) : Kept a (State.showAir s) := by
  unfold State.showAir; simp (maxDischargeDepth := 60) +contextual only [put_kept, h]
theorem charge_kept (start : Time) (stop : Time) (h : Kept a s) : Kept a (State.charge s start stop) := by
  unfold State.charge; simp (maxDischargeDepth := 60) +contextual only [modUwb_kept, showAir_kept, h]
theorem coexRelease_kept (h : Kept a s) : Kept a (State.coexRelease s) := by
  unfold State.coexRelease; simp (maxDischargeDepth := 60) +contextual only [modUwb_kept, kept_ite, h]
theorem bStop_kept (h : Kept a s) : Kept a (State.bStop s) := by
  unfold State.bStop; simp (maxDischargeDepth := 60) +contextual only [modClk_kept, put_kept, h]
theorem radioTo_kept (st : Nat) (h : Kept a s) : Kept a (State.radioTo s st) := by
  unfold State.radioTo; simp (maxDischargeDepth := 60) +contextual only [bStop_kept, put_kept, kept_ite, h]
theorem radioIdle_kept (st : Nat) (h : Kept a s) : Kept a (State.radioIdle s st) := by
  unfold State.radioIdle; simp (maxDischargeDepth := 60) +contextual only [coexRelease_kept, modUwb_kept, radioTo_kept, h]
theorem radioNote_kept (status : Nat) (h : Kept a s) : Kept a (State.radioNote s status) := by
  unfold State.radioNote
  simp (maxDischargeDepth := 60) +contextual only [bump_kept, flag_kept, when_kept, kept_ite, h, implies_true]
theorem modSession_kept (x1 : Nat) (f : Session → Session) (h : Kept a s) : Kept a (State.modSession s x1 f) := by
  unfold State.modSession; simp (maxDischargeDepth := 60) +contextual only [modUwb_kept, h]
theorem modRound_kept (x1 : Nat) (f : Round → Round) (h : Kept a s) : Kept a (State.modRound s x1 f) := by
  unfold State.modRound; simp (maxDischargeDepth := 60) +contextual only [modSession_kept, h]
theorem answer_kept (q : OpenReq) (x2 : Answer) (h : Kept a s) : Kept a (State.answer s q x2) := by
  unfold State.answer; simp (maxDischargeDepth := 60) +contextual only [respond_kept, h]
theorem answerTo_kept (q : Option OpenReq) (x2 : Answer) (h : Kept a s) : Kept a (State.answerTo s q x2) := by
  unfold State.answerTo; split <;> simp (maxDischargeDepth := 60) +contextual only [answer_kept, h]
theorem endAct_kept (x1 : RadioAct) (status : Nat) (cause : Nat) (h : Kept a s) : Kept a (State.endAct s x1 status cause) := by
  unfold State.endAct; split <;> simp (maxDischargeDepth := 60) +contextual only [answerTo_kept, modRound_kept, radioNote_kept, h]
theorem cutLive_kept (cause : Nat) (st : Nat) (h : Kept a s) : Kept a (State.cutLive s cause st) := by
  unfold State.cutLive
  split <;> simp (maxDischargeDepth := 60) +contextual only [charge_kept, endAct_kept, radioIdle_kept, kept_ite, h]
theorem radioLostClock_kept (h : Kept a s) : Kept a (State.radioLostClock s) := by
  unfold State.radioLostClock; simp (maxDischargeDepth := 60) +contextual only [cutLive_kept, h]
theorem uartEvent_kept (n : Nat) (f : Field) (h : Kept a s) : Kept a (State.uartEvent s n f) := by
  unfold State.uartEvent; simp (maxDischargeDepth := 60) +contextual only [flag_kept, sendVector_kept, when_kept, h, implies_true]
theorem overrun_kept (n : Nat) (h : Kept a s) : Kept a (State.overrun s n) := by
  unfold State.overrun; simp (maxDischargeDepth := 60) +contextual only [flag_kept, uartEvent_kept, h]
theorem showRts_kept (n : Nat) (h : Kept a s) : Kept a (State.showRts s n) := by
  unfold State.showRts; simp (maxDischargeDepth := 60) +contextual only [flag_kept, put_kept, kept_ite, h]
theorem showUart_kept (n : Nat) (h : Kept a s) : Kept a (State.showUart s n) := by
  unfold State.showUart; simp (maxDischargeDepth := 60) +contextual only [put_kept, showRts_kept, h]
theorem rxPush_kept (n : Nat) (e : RxEntry) (h : Kept a s) : Kept a (s.rxPush n e) := by
  unfold State.rxPush
  split
  · exact overrun_kept _ h
  · exact showUart_kept _ (uartEvent_kept _ _ (modUart_kept' _ _ h fun k => ⟨by simp; omega, k.2⟩))
theorem cvuRelease_kept (c : Nat) (n : Nat) (h : Kept a s) : Kept a (State.cvuRelease s c n) := by
  unfold State.cvuRelease; simp (maxDischargeDepth := 60) +contextual only [each_kept, modCvu_kept, rxPush_kept, h, implies_true]
theorem cvuEvent_kept (c : Nat) (f : Field) (h : Kept a s) : Kept a (State.cvuEvent s c f) := by
  unfold State.cvuEvent; simp (maxDischargeDepth := 60) +contextual only [flag_kept, sendVector_kept, when_kept, h, implies_true]
theorem showFed_kept (c : Nat) (h : Kept a s) : Kept a (State.showFed s c) := by
  unfold State.showFed; simp (maxDischargeDepth := 60) +contextual only [put_kept, h]
theorem cvuEnd_kept (c : Nat) (pass : Bool) (h : Kept a s) : Kept a (State.cvuEnd s c pass) := by
  unfold State.cvuEnd
  simp (maxDischargeDepth := 60) +contextual only [bump_kept, cvuEvent_kept, modCvu_kept, put_kept, showFed_kept, when_kept, h,
      implies_true]
theorem stripEnd_kept (c : Nat) (n : Nat) (pass : Bool) (h : Kept a s) : Kept a (State.stripEnd s c n pass) := by
  unfold State.stripEnd; simp (maxDischargeDepth := 60) +contextual only [cvuEnd_kept, cvuRelease_kept, modCvu_kept, h]
theorem cvuCut_kept (c : Nat) (h : Kept a s) : Kept a (State.cvuCut s c) := by
  unfold State.cvuCut
  dsimp only
  (repeat' split) <;> simp (maxDischargeDepth := 60) +contextual only [cvuEnd_kept, stripEnd_kept, h]
theorem uartGated_kept (n : Nat) (h : Kept a s) : Kept a (s.uartGated n) := by
  unfold State.uartGated
  extract_lets
  refine showUart_kept _ (each_kept _ (fun _ _ e => cvuCut_kept _ e) _ (when_kept ?_ fun _ k => uartEvent_kept _ _ k))
  refine put_kept _ _ (modUart_kept _ _ (fun u hu => ?_) (flag_kept _ h))
  simpa only [List.length_map] using hu
theorem uartsGated_kept (h : Kept a s) : Kept a (State.uartsGated s) := by
  unfold State.uartsGated; simp (maxDischargeDepth := 60) +contextual only [each_kept, uartGated_kept, h, implies_true]
theorem blankOver_kept (cycle : Nat) (next : BlankPhase) (h : Kept a s) : Kept a (State.blankOver s cycle next) := by
  unfold State.blankOver; simp (maxDischargeDepth := 60) +contextual only [modFe_kept, h]
theorem blankStop_kept (h : Kept a s) : Kept a (State.blankStop s) := by
  unfold State.blankStop; split <;> simp (maxDischargeDepth := 60) +contextual only [blankOver_kept, modFe_kept, h]
theorem blankBegin_kept (ea : Nat) (h : Kept a s) : Kept a (State.blankBegin s ea) := by
  unfold State.blankBegin
  split <;> (try split) <;> simp (maxDischargeDepth := 60) +contextual only [blankOver_kept, bump_kept, modFe_kept, kept_ite, h]
theorem blankRelease_kept (ed : Nat) (h : Kept a s) : Kept a (State.blankRelease s ed) := by
  unfold State.blankRelease; split <;> simp (maxDischargeDepth := 60) +contextual only [blankOver_kept, modFe_kept, kept_ite, h]
theorem blankLook_kept (h : Kept a s) : Kept a (State.blankLook s) := by
  unfold State.blankLook
  simp (maxDischargeDepth := 60) +contextual only [blankBegin_kept, blankRelease_kept, blankStop_kept, kept_ite, h]
theorem gatesClose_kept (h : Kept a s) : Kept a (State.gatesClose s) := by
  unfold State.gatesClose
  simp (maxDischargeDepth := 60) +contextual only [blankLook_kept, cutCapture_kept, put_kept, radioLostClock_kept, runLanes_kept,
      thrLostClock_kept, tpTruncate_kept, uartsGated_kept, h]
theorem showDegraded_kept (h : Kept a s) : Kept a (State.showDegraded s) := by
  unfold State.showDegraded; simp (maxDischargeDepth := 60) +contextual only [put_kept, h]
theorem tickFrom_kept (src : Nat) (h : Kept a s) : Kept a (State.tickFrom s src) := by
  unfold State.tickFrom; simp (maxDischargeDepth := 60) +contextual only [flag_kept, put_kept, showDegraded_kept, kept_ite, h]
theorem cancelStep_kept (h : Kept a s) : Kept a (State.cancelStep s) := by
  unfold State.cancelStep; simp (maxDischargeDepth := 60) +contextual only [modLtu_kept, put_kept, h]
theorem setUnc_kept (v : Nat) (h : Kept a s) : Kept a (State.setUnc s v) := by
  unfold State.setUnc; simp (maxDischargeDepth := 60) +contextual only [modLtu_kept, put_kept, h]
theorem setInc_kept (v : Nat) (h : Kept a s) : Kept a (State.setInc s v) := by
  unfold State.setInc; simp (maxDischargeDepth := 60) +contextual only [put_kept, h]
theorem holdInc_kept (h : Kept a s) : Kept a (State.holdInc s) := by
  unfold State.holdInc; simp (maxDischargeDepth := 60) +contextual only [modLtu_kept, setInc_kept, h]
theorem chooseSource_kept (h : Kept a s) : Kept a (State.chooseSource s) := by
  unfold State.chooseSource
  simp (maxDischargeDepth := 60) +contextual only [emit_kept, flag_kept, holdInc_kept, modLtu_kept, put_kept, setUnc_kept,
      showDegraded_kept, when_kept, kept_ite, h, implies_true]
theorem ltuLostLock_kept (missing : Bool) (n : Nat) (h : Kept a s) : Kept a (State.ltuLostLock s missing n) := by
  unfold State.ltuLostLock
  simp (maxDischargeDepth := 60) +contextual only [cancelStep_kept, chooseSource_kept, modLtu_kept, nextFree_kept, put_kept,
      tickFrom_kept, when_kept, h, implies_true]
theorem loseLock_kept (cause : Nat) (ticks : Nat) (h : Kept a s) : Kept a (State.loseLock s cause ticks) := by
  unfold State.loseLock
  simp (maxDischargeDepth := 60) +contextual only [bump_kept, emit_kept, flag_kept, gatesClose_kept, ltuLostLock_kept,
      modClk_kept, put_kept, syncIgnored_kept, when_kept, kept_ite, h, implies_true]
theorem execRelock_runs (ticks : Fin 12) (h : Kept a s) : Runs a (execRelock ticks s) := by
  unfold execRelock; simp (maxDischargeDepth := 60) +contextual only [loseLock_kept, whilePowered_runs, h, Runs.next, implies_true]
theorem requestSync_kept (edge : Nat) (h : Kept a s) : Kept a (State.requestSync s edge) := by
  unfold State.requestSync; simp (maxDischargeDepth := 60) +contextual only [modClk_kept, syncIgnored_kept, kept_ite, h]
theorem execLaneSyncCmd_runs (edge : Fin 32) (h : Kept a s) : Runs a (execLaneSyncCmd edge s) := by
  unfold execLaneSyncCmd
  simp (maxDischargeDepth := 60) +contextual only [requestSync_kept, whilePowered_runs, h, Runs.next, implies_true]
theorem bLost_kept (h : Kept a s) : Kept a (State.bLost s) := by
  unfold State.bLost
  simp (maxDischargeDepth := 60) +contextual only [flag_kept, modClk_kept, put_kept, radioLostClock_kept, when_kept, kept_ite, h,
      implies_true]
theorem bStart_kept (ch : Nat) (h : Kept a s) : Kept a (State.bStart s ch) := by
  unfold State.bStart; simp (maxDischargeDepth := 60) +contextual only [flag_kept, modClk_kept, put_kept, h]
theorem execClkbChannelWrite_runs (channel : Bool) (h : Kept a s) : Runs a (execClkbChannelWrite channel s) := by
  unfold execClkbChannelWrite
  simp (maxDischargeDepth := 60) +contextual only [bLost_kept, bStart_kept, put_kept, whileLive_runs, kept_ite, h, Runs.next,
      runs_ite, implies_true, eq_self]
theorem execClkbEnable_runs (h : Kept a s) : Runs a (execClkbEnable s) := by
  unfold execClkbEnable
  simp (maxDischargeDepth := 60) +contextual only [bStart_kept, whileLive_runs, h, Runs.next, runs_ite, implies_true]
theorem clkWrite_kept (x1 : Nat) (v : Word) (h : Kept a s) : Kept a (State.clkWrite s x1 v) := by
  unfold State.clkWrite
  simp (maxDischargeDepth := 60) +contextual only [bStop_kept, execClkbChannelWrite_runs, execClkbEnable_runs,
      execLaneSyncCmd_runs, execRelock_runs, nextFree_kept, plainWrite_kept, run_kept, kept_ite, h, implies_true]
theorem auditVisited_kept (h : Kept a s) : Kept a (State.auditVisited s) := by
  unfold State.auditVisited
  simp (maxDischargeDepth := 60) +contextual only [bump_kept, modGran_kept, kept_ite, h, implies_true, eq_self]
theorem auditRelease_kept (bay : Nat) (h : Kept a s) : Kept a (State.auditRelease s bay) := by
  unfold State.auditRelease; simp (maxDischargeDepth := 60) +contextual only [modGran_kept, put_kept, h, implies_true, eq_self]
theorem auditAbandon_kept (bay : Nat) (h : Kept a s) : Kept a (State.auditAbandon s bay) := by
  unfold State.auditAbandon; simp (maxDischargeDepth := 60) +contextual only [auditRelease_kept, auditVisited_kept, bump_kept, h]
theorem auditStopTest_kept (bay : Nat) (h : Kept a s) : Kept a (State.auditStopTest s bay) := by
  unfold State.auditStopTest
  simp (maxDischargeDepth := 60) +contextual only [bump_kept, modGran_kept, put_kept, h, implies_true, eq_self]
theorem lendEnds_kept (bay : Nat) (h : Kept a s) : Kept a (State.lendEnds s bay) := by
  unfold State.lendEnds; simp (maxDischargeDepth := 60) +contextual only [auditAbandon_kept, auditStopTest_kept, kept_ite, h]
theorem execLendableClear_runs (bay : Fin 64) (h : Kept a s) : Runs a (execLendableClear bay s) := by
  unfold execLendableClear
  simp (maxDischargeDepth := 60) +contextual only [lendEnds_kept, put_kept, whileLive_runs, h, Runs.next, implies_true]
theorem bayGo_kept (bay : Nat) (h : Kept a s) : Kept a (State.bayGo s bay) := by
  unfold State.bayGo; simp (maxDischargeDepth := 60) +contextual only [flag_kept, modGran_kept, kept_ite, h, implies_true, eq_self]
theorem execClearCounts_runs (h : Kept a s) : Runs a (execClearCounts s) := by
  unfold execClearCounts
  simp (maxDischargeDepth := 60) +contextual only [each_kept, put_kept, whileLive_runs, h, Runs.next, implies_true]
theorem membersWrite_kept (k : Nat) (value : Word) (h : Kept a s) : Kept a (State.membersWrite s k value) := by
  unfold State.membersWrite; simp (maxDischargeDepth := 60) +contextual only [flag_kept, put_kept, setWord_kept, kept_ite, h]
theorem execGroupEnable_runs (group : Fin 16) (h : Kept a s) : Runs a (execGroupEnable group s) := by
  unfold execGroupEnable
  simp (maxDischargeDepth := 60) +contextual only [each_kept, flag_kept, modGran_kept, put_kept, whileLive_runs, h, Runs.next,
      runs_ite, implies_true, eq_self]
theorem execGroupDisable_runs (group : Fin 16) (h : Kept a s) : Runs a (execGroupDisable group s) := by
  unfold execGroupDisable
  simp (maxDischargeDepth := 60) +contextual only [modGran_kept, put_kept, whileLive_runs, h, Runs.next, runs_ite, implies_true,
      eq_self]
theorem execAuditDisable_runs (h : Kept a s) : Runs a (execAuditDisable s) := by
  unfold execAuditDisable
  simp (maxDischargeDepth := 60) +contextual only [modGran_kept, put_kept, whileLive_runs, h, Runs.next, implies_true, eq_self]
theorem execBaleCollClear_runs (h : Kept a s) : Runs a (execBaleCollClear s) := by
  unfold execBaleCollClear; simp (maxDischargeDepth := 60) +contextual only [put_kept, whileLive_runs, h, Runs.next, implies_true]
theorem granRegWrite_kept (x1 : Nat) (v : Word) (h : Kept a s) : Kept a (State.granRegWrite s x1 v) := by
  unfold State.granRegWrite
  dsimp only
  (repeat' split) <;> simp (maxDischargeDepth := 60) +contextual only [bayGo_kept, each_kept, execAuditDisable_runs,
      execBaleCollClear_runs, execClearCounts_runs, execGroupDisable_runs, execGroupEnable_runs, execLendableClear_runs,
      flag_kept, lendEnds_kept, membersWrite_kept, modGran_kept, plainWrite_kept, put_kept, run_kept, when_kept, h, implies_true,
      eq_self]
theorem feRecord_kept (h : Kept a s) : Kept a (State.feRecord s) := by
  unfold State.feRecord; simp (maxDischargeDepth := 60) +contextual only [modFe_kept, kept_ite, h]
theorem antState_kept (st : Nat) (h : Kept a s) : Kept a (State.antState s st) := by
  unfold State.antState; simp (maxDischargeDepth := 60) +contextual only [emit_kept, flag_kept, put_kept, kept_ite, h]
theorem antOff_kept (h : Kept a s) : Kept a (State.antOff s) := by
  unfold State.antOff; simp (maxDischargeDepth := 60) +contextual only [antState_kept, modFe_kept, h]
theorem startChain_kept (h : Kept a s) : Kept a (State.startChain s) := by
  unfold State.startChain; simp (maxDischargeDepth := 60) +contextual only [flag_kept, modFe_kept, kept_ite, h]
theorem execGnssEnable_runs (h : Kept a s) : Runs a (execGnssEnable s) := by
  unfold execGnssEnable
  simp (maxDischargeDepth := 60) +contextual only [flag_kept, startChain_kept, whileLive_runs, h, Runs.next, implies_true]
theorem stopChain_kept (h : Kept a s) : Kept a (State.stopChain s) := by
  unfold State.stopChain; simp (maxDischargeDepth := 60) +contextual only [antOff_kept, feRecord_kept, modFe_kept, put_kept, h]
theorem execGnssDisable_runs (h : Kept a s) : Runs a (execGnssDisable s) := by
  unfold execGnssDisable
  simp (maxDischargeDepth := 60) +contextual only [stopChain_kept, whileLive_runs, h, Runs.next, implies_true]
theorem showBgHeld_kept (h : Kept a s) : Kept a (State.showBgHeld s) := by
  unfold State.showBgHeld; simp (maxDischargeDepth := 60) +contextual only [put_kept, h]
theorem execFgCalStart_runs (h : Kept a s) : Runs a (execFgCalStart s) := by
  unfold execFgCalStart
  simp (maxDischargeDepth := 60) +contextual only [feRecord_kept, flag_kept, modFe_kept, whileLive_runs, h, Runs.next, runs_ite,
      implies_true]
theorem feWrite_kept (x1 : Nat) (v : Word) (h : Kept a s) : Kept a (State.feWrite s x1 v) := by
  unfold State.feWrite
  simp (maxDischargeDepth := 60) +contextual only [antOff_kept, blankLook_kept, execFgCalStart_runs, execGnssDisable_runs,
      execGnssEnable_runs, feRecord_kept, plainWrite_kept, put_kept, run_kept, showBgHeld_kept, kept_ite, h, implies_true]
theorem bankWrite_kept (l : Nat) (b : Nat) (target : BankTarget) (value : Word) (h : Kept a s) : Kept a (State.bankWrite s l b
    target value) := by
  unfold State.bankWrite
  split <;> (try split) <;> simp (maxDischargeDepth := 60) +contextual only [bump_kept, flag_kept, put_kept, h]
theorem laneSetNow_kept (l : Nat) (h : Kept a s) : Kept a (State.laneSetNow s l) := by
  unfold State.laneSetNow; simp (maxDischargeDepth := 60) +contextual only [modLane_kept, h]
theorem laneStartAsk_kept (l : Nat) (h : Kept a s) : Kept a (State.laneStartAsk s l) := by
  unfold State.laneStartAsk; simp (maxDischargeDepth := 60) +contextual only [flag_kept, modLane_kept, h]
theorem laneEnable_kept (l : Nat) (h : Kept a s) : Kept a (State.laneEnable s l) := by
  unfold State.laneEnable; simp (maxDischargeDepth := 60) +contextual only [flag_kept, laneStartAsk_kept, kept_ite, h]
theorem feedStop_kept (l : Nat) (h : Kept a s) : Kept a (State.feedStop s l) := by
  unfold State.feedStop; simp (maxDischargeDepth := 60) +contextual only [each_kept, flag_kept, h, implies_true]
theorem refuse_kept (initiator : Nat) (address : Nat) (h : Kept a s) : Kept a (State.refuse s initiator address) := by
  unfold State.refuse
  simp (maxDischargeDepth := 60) +contextual only [bump_kept, cause_kept, emit_kept, flag_kept, put_kept, kept_ite, h]
theorem granPut_kept (bay i : Nat) (w : Word48) (h : Kept a s) : Kept a (s.granPut bay i w) := modGran_kept' _ h sparseSet_wf id
theorem borrowedWrite_kept (bay : Nat) (w : Nat) (v : Word48) (h : Kept a s) : Kept a (State.borrowedWrite s bay w v) := by
  unfold State.borrowedWrite
  simp (maxDischargeDepth := 60) +contextual only [auditAbandon_kept, auditStopTest_kept, flag_kept, granPut_kept, kept_ite, h]
theorem granWriteAt_kept (bay : Nat) (w : Nat) (data : Nat) (h : Kept a s) : Kept a (State.granWriteAt s bay w data) := by
  unfold State.granWriteAt
  simp (maxDischargeDepth := 60) +contextual only [borrowedWrite_kept, granPut_kept, modGran_kept, kept_ite, h, implies_true,
      eq_self]
theorem hstate_kept (bay : Nat) (cause : Nat) (w : Nat) (h : Kept a s) : Kept a (State.hstate s bay cause w) := by
  unfold State.hstate; simp (maxDischargeDepth := 60) +contextual only [emit_kept, flag_kept, h]
theorem hstateAddr_kept (initiator : Nat) (bay : Nat) (w : Nat) (h : Kept a s) : Kept a (State.hstateAddr s initiator bay w) := by
  unfold State.hstateAddr; simp (maxDischargeDepth := 60) +contextual only [flag_kept, put_kept, h]
theorem addRepair_kept (r : Repair) (h : Kept a s) : Kept a (State.addRepair s r) := by
  unfold State.addRepair; simp (maxDischargeDepth := 60) +contextual only [modGran_kept, h, implies_true, eq_self]
theorem mirrorRead_kept (initiator : Nat) (w : Nat) (h : Kept a s) : Kept a (State.mirrorRead s initiator w).2 := by
  unfold State.mirrorRead
  dsimp only
  (repeat' split) <;> simp (maxDischargeDepth := 60) +contextual only [addRepair_kept, bump_kept, flag_kept, hstateAddr_kept,
      hstate_kept, modStw_kept, when_kept, h, implies_true]
theorem bayRead_kept (initiator : Nat) (bay : Nat) (w : Nat) (h : Kept a s) : Kept a (State.bayRead s initiator bay w).2 := by
  unfold State.bayRead
  dsimp only
  (repeat' split) <;> simp (maxDischargeDepth := 60) +contextual only [bump_kept, cause_kept, emit_kept, flag_kept, modGran_kept,
      put_kept, when_kept, h, implies_true, eq_self]
theorem granReadAt_kept (initiator : Nat) (bay : Nat) (w : Nat) (h : Kept a s) : Kept a (State.granReadAt s initiator bay w).2 := by
  unfold State.granReadAt
  split <;> (try split) <;> simp (maxDischargeDepth := 60) +contextual only [bayRead_kept, mirrorRead_kept, nextFree_kept, h]
theorem granAccess_kept (initiator : Nat) (addr : Nat) (reported : Nat) (write : Option Nat) (h : Kept a s) : Kept a
    (State.granAccess s initiator addr reported write).2.2.2 := by
  unfold State.granAccess
  split <;> simp (maxDischargeDepth := 60) +contextual only [granReadAt_kept, granWriteAt_kept, refuse_kept, h]
theorem cellSum_kept (addr v : Nat) (r : Nat × Bool × Bool × State) (h : Kept a r.2.2.2) : Kept a (cellSum addr v r).2 := by
  unfold cellSum
  extract_lets
  exact granAccess_kept _ _ _ _ h
theorem addCell_kept (group word v : Nat) (first : Bool) (h : Kept a s) : Kept a (s.addCell group word v first).2 := by
  unfold State.addCell
  extract_lets addr
  split
  · exact granAccess_kept _ _ _ _ h
  · exact cellSum_kept _ _ _ (granAccess_kept _ _ _ _ h)
theorem addCells_kept (group : Nat) (first : Bool) : ∀ (w : Nat) (l : List Nat) {s : State}, Kept a s →
    Kept a (s.addCells group first w l).2
  | _, [], _, h => by unfold State.addCells; exact h
  | w, v :: vs, s, h => by
    unfold State.addCells
    exact addCells_kept group first (w + 1) vs (addCell_kept _ _ _ _ h)
theorem endJob_kept (p : ThrPass) (j : ThrJob) (e : JobEnd) (h : Kept a s) : Kept a (State.endJob s p j e).2 := by
  unfold State.endJob
  split <;> simp (maxDischargeDepth := 60) +contextual only [addCells_kept, flag_kept, when_kept, h, implies_true]
theorem endJobs_kept (p : ThrPass) (e : JobEnd) (which : ThrJob → Bool) : ∀ (l : List ThrJob) {s : State}, Kept a s →
    Kept a (s.endJobs p e which l).2
  | [], _, h => h
  | j :: js, s, h => by
    unfold State.endJobs
    refine endJobs_kept p e which js ?_
    split
    · exact endJob_kept _ _ _ h
    · exact h
theorem showJob_kept (j : ThrJob) (state : Nat) (h : Kept a s) : Kept a (State.showJob s j state) := by
  unfold State.showJob; simp (maxDischargeDepth := 60) +contextual only [put_kept, h]
theorem showJobs_kept (h : Kept a s) : Kept a (State.showJobs s) := by
  unfold State.showJobs; split <;> simp (maxDischargeDepth := 60) +contextual only [each_kept, showJob_kept, h, implies_true]
theorem thrLaneLost_kept (l : Nat) (p : ThrJob → Bool) (h : Kept a s) : Kept a (State.thrLaneLost s l p) := by
  unfold State.thrLaneLost
  split <;> simp (maxDischargeDepth := 60) +contextual only [endJobs_kept, modThr_kept, showJobs_kept, kept_ite, h]
theorem setChan_kept (c : Nat) (x : ShfChan) (h : Kept a s) : Kept a (State.setChan s c x) := by
  unfold State.setChan; simp (maxDischargeDepth := 60) +contextual only [modShf_kept, h]
theorem chanDoes_kept (c : Nat) (f : State → Nat → ShfChan → ShfChan × State) (hf : ∀ t k x, Kept a t → Kept a (f t k x).2)
    (h : Kept a s) : Kept a (s.chanDoes c f) := by
  unfold State.chanDoes
  exact kept_ite (setChan_kept _ _ (hf _ _ _ (setChan_kept _ _ (hf _ _ _ h)))) (setChan_kept _ _ (hf _ _ _ h))
theorem showSheaf_kept (x1 : Nat) (h : Kept a s) : Kept a (State.showSheaf s x1) := by
  unfold State.showSheaf; simp (maxDischargeDepth := 60) +contextual only [put_kept, h]
theorem fanNow_kept (c : Nat) (x : ShfChan) (h : Kept a s) : Kept a (State.fanNow s c x).2 := by
  unfold State.fanNow; simp (maxDischargeDepth := 60) +contextual only [put_kept, showSheaf_kept, kept_ite, h]
theorem showDumps_kept (n : Nat) (h : Kept a s) : Kept a (State.showDumps s n) := by
  unfold State.showDumps; simp (maxDischargeDepth := 60) +contextual only [put_kept, h]
theorem holdCore_kept (n : Nat) (h : Kept a s) : Kept a (State.holdCore s n) := by
  unfold State.holdCore; simp (maxDischargeDepth := 60) +contextual only [modCore_kept, h]
theorem withdrawFeed_kept (n : Nat) (h : Kept a s) : Kept a (State.withdrawFeed s n) := by
  unfold State.withdrawFeed; simp (maxDischargeDepth := 60) +contextual only [put_kept, h]
theorem handTo_kept (bay : Nat) (owner : Nat) (clear : Bool) (h : Kept a s) : Kept a (State.handTo s bay owner clear) := by
  unfold State.handTo; simp (maxDischargeDepth := 60) +contextual only [bayGo_kept, put_kept, h]
theorem returnBay_kept (bay : Nat) (h : Kept a s) : Kept a (State.returnBay s bay) := by
  unfold State.returnBay
  simp (maxDischargeDepth := 60) +contextual only [handTo_kept, modGran_kept, kept_ite, h, implies_true, eq_self]
theorem returnKernelBays_kept (n : Nat) (h : Kept a s) : Kept a (s.returnKernelBays n) :=
  modKernel_kept _ _ (each_kept _ (fun t w e => by split <;> first | exact returnBay_kept _ (put_kept _ _ e) |
      exact e) _ h)
theorem kernelFaulted_kept (n : Nat) (v : Nat) (pc : Nat) (h : Kept a s) : Kept a (State.kernelFaulted s n v pc) := by
  unfold State.kernelFaulted
  simp (maxDischargeDepth := 60) +contextual only [emit_kept, modKernel_kept, returnKernelBays_kept, withdrawFeed_kept, h]
theorem coreReset_kept (n : Nat) (h : Kept a s) : Kept a (State.coreReset s n) := by
  unfold State.coreReset
  simp (maxDischargeDepth := 60) +contextual only [each_kept, modCore_kept, put_kept, setWord_kept, h, implies_true]
theorem firmwareFault_kept (n : Nat) (v : Nat) (pc : Nat) (h : Kept a s) : Kept a (State.firmwareFault s n v pc) := by
  unfold State.firmwareFault
  simp (maxDischargeDepth := 60) +contextual only [coreReset_kept, each_kept, emit_kept, modCore_kept, nextFree_kept, put_kept,
      h, implies_true]
theorem doubleFault_kept (n : Nat) (v : Nat) (pc : Nat) (addr : Nat) (h : Kept a s) : Kept a (State.doubleFault s n v pc addr) := by
  unfold State.doubleFault
  simp (maxDischargeDepth := 60) +contextual only [firmwareFault_kept, holdCore_kept, kernelFaulted_kept, modCore_kept, put_kept,
      kept_ite, h]
theorem haltWake_kept (n : Nat) (h : Kept a s) : Kept a (State.haltWake s n) := by
  unfold State.haltWake; simp (maxDischargeDepth := 60) +contextual only [modCore_kept, kept_ite, h]
theorem raiseNow_kept (n : Nat) (v : Nat) (pc : Nat) (addr : Nat) (h : Kept a s) : Kept a (State.raiseNow s n v pc addr) := by
  unfold State.raiseNow
  simp (maxDischargeDepth := 60) +contextual only [doubleFault_kept, haltWake_kept, modCore_kept, put_kept, kept_ite, h]
theorem dspRaise_kept (n : Nat) (v : Nat) (h : Kept a s) : Kept a (State.dspRaise s n v) := by
  unfold State.dspRaise; simp (maxDischargeDepth := 60) +contextual only [raiseNow_kept, h]
theorem queueRaise_kept (n : Nat) (h : Kept a s) : Kept a (State.queueRaise s n) := by
  unfold State.queueRaise; simp (maxDischargeDepth := 60) +contextual only [dspRaise_kept, kept_ite, h]
theorem dumpPush_kept {t : State} (n : Nat) (r : List Nat) (h : Kept a s) (e : s.dumpPush n r = some t) : Kept a t := by
  unfold State.dumpPush at e
  split at e
  · cases e
  · injection e with e
    rw [← e]
    exact kept_ite (dspRaise_kept _ _ (showDumps_kept _ (modCore_kept _ _ h))) (showDumps_kept _ (modCore_kept _ _ h))
theorem sendDumps_kept (n : Nat) : ∀ (l : List (List Nat)) {s : State}, Kept a s → Kept a (s.sendDumps n l).2
  | [], _, h => h
  | r :: l, s, h => by
    unfold State.sendDumps
    split
    · rename_i t e
      split at e
      · exact sendDumps_kept n l (dumpPush_kept n r h e)
      · cases e
    · exact sendDumps_kept n l (flag_kept _ (bump_kept _ h))
theorem showNco_kept (c : Nat) (x : ShfChan) (h : Kept a s) : Kept a (State.showNco s c x) := by
  unfold State.showNco; simp (maxDischargeDepth := 60) +contextual only [put_kept, h]
theorem setLock_kept (c : Nat) (x : LockInfo) (h : Kept a s) : Kept a (State.setLock s c x) := by
  unfold State.setLock; simp (maxDischargeDepth := 60) +contextual only [modShf_kept, h]
theorem dump_kept (c : Nat) (final : Bool) (excess : Int) (x : ShfChan) (h : Kept a s) : Kept a (State.dump s c final excess x).2
    := by
  unfold State.dump
  simp (maxDischargeDepth := 60) +contextual only [nextFree_kept, put_kept, sendDumps_kept, setLock_kept, showNco_kept, kept_ite, h]
theorem endIntegration_kept (c : Nat) (x : ShfChan) (h : Kept a s) : Kept a (State.endIntegration s c x).2 := by
  unfold State.endIntegration; split <;> simp (maxDischargeDepth := 60) +contextual only [dump_kept, h]
theorem applyUpd_kept (c : Nat) (u : LoopUpd) (x : ShfChan) (h : Kept a s) : Kept a (State.applyUpd s c u x).2 := by
  unfold State.applyUpd
  dsimp only
  (repeat' split) <;> simp (maxDischargeDepth := 60) +contextual only [endIntegration_kept, flag_kept, h]
theorem updAt_kept (c : Nat) (block : Bool) (x : ShfChan) (h : Kept a s) : Kept a (State.updAt s c block x).2 := by
  unfold State.updAt; split <;> (try split) <;> simp (maxDischargeDepth := 60) +contextual only [applyUpd_kept, h]
theorem blockBegins_kept (c : Nat) (x : ShfChan) (h : Kept a s) : Kept a (State.blockBegins s c x).2 := by
  unfold State.blockBegins
  dsimp only
  split <;> simp (maxDischargeDepth := 60) +contextual only [endIntegration_kept, fanNow_kept, updAt_kept, h]
theorem sweepWord_kept (c : Nat) (w : Nat) (x : ShfChan) (h : Kept a s) : Kept a (State.sweepWord s c w x).2 := by
  unfold State.sweepWord
  dsimp only
  (repeat' split) <;> simp (maxDischargeDepth := 60) +contextual only [dump_kept, endIntegration_kept, updAt_kept, h]
theorem sweepWords_kept (c : Nat) : ∀ (l : List (BitVec 23)) (x : ShfChan) {s : State}, Kept a s → Kept a (s.sweepWords c l x).2
  | [], _, _, h => h
  | _ :: l, _, _, h => sweepWords_kept c l _ (sweepWord_kept _ _ _ h)
theorem sweepBlock_kept (c : Nat) (words : List (BitVec 23)) (x : ShfChan) (h : Kept a s) : Kept a (State.sweepBlock s c words
    x).2 := by
  unfold State.sweepBlock; simp (maxDischargeDepth := 60) +contextual only [blockBegins_kept, sweepWords_kept, h]
theorem sweep_kept (c : Nat) (h : Kept a s) : Kept a (State.sweep s c) := by
  unfold State.sweep; simp (maxDischargeDepth := 60) +contextual only [chanDoes_kept, sweepBlock_kept, h, implies_true]
theorem sweepTo_kept (c : Nat) : ∀ (n : Nat) {s : State}, Kept a s → Kept a (State.sweepTo c n s)
  | 0, _, h => h
  | n + 1, s, h => by
    unfold State.sweepTo
    split
    · exact h
    · exact kept_ite (sweep_kept _ h) (sweepTo_kept c n (sweep_kept _ h))
theorem sweepOut_kept (c : Nat) : ∀ (n : Nat) {s : State}, Kept a s → Kept a (State.sweepOut c n s)
  | 0, _, h => h
  | n + 1, s, h => by
    unfold State.sweepOut
    exact kept_ite (sweepOut_kept c n (sweepTo_kept _ _ h)) h
theorem finishBlocks_kept (c : Nat) (h : Kept a s) : Kept a (State.finishBlocks s c) := by
  unfold State.finishBlocks; simp (maxDischargeDepth := 60) +contextual only [sweepOut_kept, h]
theorem chanEnd_kept (lost : Bool) (c : Nat) (h : Kept a s) : Kept a (State.chanEnd s lost c) := by
  unfold State.chanEnd
  simp (maxDischargeDepth := 60) +contextual only [bump_kept, dump_kept, emit_kept, flag_kept, put_kept, setChan_kept,
      setLock_kept, showSheaf_kept, kept_ite, h]
theorem chanLeave_kept (lost : Bool) (c : Nat) (h : Kept a s) : Kept a (State.chanLeave s lost c) := by
  unfold State.chanLeave
  simp (maxDischargeDepth := 60) +contextual only [chanEnd_kept, each_kept, finishBlocks_kept, h, implies_true]
theorem shfLaneStop_kept (l : Nat) (h : Kept a s) : Kept a (State.shfLaneStop s l) := by
  unfold State.shfLaneStop; simp (maxDischargeDepth := 60) +contextual only [chanLeave_kept, each_kept, h, implies_true]
theorem feedTake_kept (n : Nat) (w : BitVec 23) (h : Kept a s) : Kept a (State.feedTake s n w) := by
  unfold State.feedTake
  simp (maxDischargeDepth := 60) +contextual only [bump_kept, flag_kept, modCore_kept, put_kept, queueRaise_kept, when_kept,
      kept_ite, h, implies_true]
theorem feedUpTo_kept (n : Nat) : ∀ (k : Nat) {s : State}, Kept a s → Kept a (s.feedUpTo n k)
  | 0, _, h => h
  | k + 1, s, h => by
    unfold State.feedUpTo
    split
    · exact feedUpTo_kept n k (feedTake_kept _ _ h)
    · exact h
theorem feedDue_kept (n : Nat) (h : Kept a s) : Kept a (State.feedDue s n) := by
  unfold State.feedDue; simp (maxDischargeDepth := 60) +contextual only [feedUpTo_kept, kept_ite, h]
theorem feedsDue_kept (l : Nat) (h : Kept a s) : Kept a (State.feedsDue s l) := by
  unfold State.feedsDue; simp (maxDischargeDepth := 60) +contextual only [each_kept, feedDue_kept, h, implies_true]
theorem showAgg_kept (h : Kept a s) : Kept a (State.showAgg s) := by
  unfold State.showAgg; simp (maxDischargeDepth := 60) +contextual only [put_kept, h]
theorem laneStop_kept (l : Nat) (h : Kept a s) : Kept a (State.laneStop s l) := by
  unfold State.laneStop
  simp (maxDischargeDepth := 60) +contextual only [answerTo_kept, cutCapture_kept, feedStop_kept, feedsDue_kept, modLane_kept,
      put_kept, runLane_kept, shfLaneStop_kept, showAgg_kept, thrLaneLost_kept, kept_ite, h]
theorem laneRestart_kept (l : Nat) (h : Kept a s) : Kept a (State.laneRestart s l) := by
  unfold State.laneRestart; simp (maxDischargeDepth := 60) +contextual only [laneStartAsk_kept, kept_ite, h]
theorem filterRequest_kept (l : Nat) (sel : Nat) (f : Nat) (h : Kept a s) : Kept a (State.filterRequest s l sel f) := by
  unfold State.filterRequest
  simp (maxDischargeDepth := 60) +contextual only [bump_kept, fadeTo_kept, flag_kept, modLane_kept, put_kept, showGd_kept,
      showLocks_kept, when_kept, kept_ite, h, implies_true]
theorem modNotch_kept (l : Nat) (j : Nat) (f : Notch → Notch) (h : Kept a s) : Kept a (State.modNotch s l j f) := by
  unfold State.modNotch; simp (maxDischargeDepth := 60) +contextual only [modLane_kept, h]
theorem notchMode_kept (l : Nat) (j : Nat) (mode : Nat) (h : Kept a s) : Kept a (State.notchMode s l j mode) := by
  unfold State.notchMode
  simp (maxDischargeDepth := 60) +contextual only [flag_kept, modNotch_kept, put_kept, when_kept, kept_ite, h, implies_true]
theorem laneWrite_kept (x1 : Nat) (v : Word) (h : Kept a s) : Kept a (State.laneWrite s x1 v) := by
  unfold State.laneWrite
  simp (maxDischargeDepth := 60) +contextual only [bankWrite_kept, filterRequest_kept, laneEnable_kept, laneRestart_kept,
      laneSetNow_kept, laneStop_kept, modNotch_kept, notchMode_kept, plainWrite_kept, put_kept, runLane_kept, kept_ite, h, eq_self]
theorem abortJobs_kept (p : ThrPass) (h : Kept a s) : Kept a (State.abortJobs s p) := by
  unfold State.abortJobs
  simp (maxDischargeDepth := 60) +contextual only [endJobs_kept, modThr_kept, passFails_kept, showJobs_kept, h]
theorem thrDisable_kept (h : Kept a s) : Kept a (State.thrDisable s) := by
  unfold State.thrDisable
  dsimp only
  split <;> simp (maxDischargeDepth := 60) +contextual only [abortJobs_kept, flag_kept, modThr_kept, passFails_kept, put_kept,
      showThr_kept, h]
theorem passOver_kept (p : ThrPass) (h : Kept a s) : Kept a (State.passOver s p) := by
  unfold State.passOver; split <;> simp (maxDischargeDepth := 60) +contextual only [flag_kept, respond_kept, kept_ite, h]
theorem passWaits_kept (p : ThrPass) (h : Kept a s) : Kept a (State.passWaits s p) := by
  unfold State.passWaits; simp (maxDischargeDepth := 60) +contextual only [modThr_kept, showThr_kept, h]
theorem startPass_kept (p : ThrPass) (h : Kept a s) : Kept a (State.startPass s p) := by
  unfold State.startPass
  simp (maxDischargeDepth := 60) +contextual only [modThr_kept, passOver_kept, passWaits_kept, showThr_kept, kept_ite, h]
theorem nextPass_kept (h : Kept a s) : Kept a (State.nextPass s) := by
  unfold State.nextPass; split <;> simp (maxDischargeDepth := 60) +contextual only [modThr_kept, showThr_kept, startPass_kept, h]
theorem execPassAbort_runs (h : Kept a s) : Runs a (execPassAbort s) := by
  unfold execPassAbort
  refine whileLive_runs h fun t k => ?_
  split <;> simp (maxDischargeDepth := 60) +contextual only [abortJobs_kept, flag_kept, nextPass_kept, k, Runs.next]
theorem freeGroup_kept (g : Nat) (h : Kept a s) : Kept a (State.freeGroup s g) := by
  unfold State.freeGroup
  dsimp only
  (repeat' split) <;> simp (maxDischargeDepth := 60) +contextual only [modThr_kept, passWaits_kept, h]
theorem execFreeA_runs (h : Kept a s) : Runs a (execFreeA s) := by
  unfold execFreeA; simp (maxDischargeDepth := 60) +contextual only [freeGroup_kept, whileLive_runs, h, Runs.next, implies_true]
theorem execFreeB_runs (h : Kept a s) : Runs a (execFreeB s) := by
  unfold execFreeB; simp (maxDischargeDepth := 60) +contextual only [freeGroup_kept, whileLive_runs, h, Runs.next, implies_true]
theorem granReads_kept (initiator : Nat) : ∀ (n addr : Nat) {s : State}, Kept a s → Kept a (s.granReads initiator addr n).2
  | 0, _, _, h => h
  | n + 1, addr, _, h => granReads_kept initiator n (addr + 1) (granAccess_kept _ _ _ _ h)
theorem thrBytes_kept (addr n : Nat) (h : Kept a s) : Kept a (s.thrBytes addr n).2 := granReads_kept _ _ _ h
theorem readHeader_kept (addr : Nat) (h : Kept a s) : Kept a (s.readHeader addr).2 := by
  unfold State.readHeader
  extract_lets first r
  split
  · exact h
  · exact thrBytes_kept _ _ h
theorem showLatch_kept (valid : List Nat) (cause : Nat → Nat) (h : Kept a s) : Kept a (State.showLatch s valid cause) := by
  unfold State.showLatch
  simp (maxDischargeDepth := 60) +contextual only [bump_kept, each_kept, flag_kept, modThr_kept, put_kept, setWord_kept,
      kept_ite, h, implies_true]
theorem latchPass_kept (req : Option OpenReq) (h : Kept a s) : Kept a (State.latchPass s req) := by
  unfold State.latchPass
  dsimp only
  (repeat' split) <;> simp (maxDischargeDepth := 60) +contextual only [flag_kept, modThr_kept, readHeader_kept, showLatch_kept,
      showThr_kept, startPass_kept, h]
theorem thrWrite_kept (x1 : Nat) (v : Word) (h : Kept a s) : Kept a (State.thrWrite s x1 v) := by
  unfold State.thrWrite
  simp (maxDischargeDepth := 60) +contextual only [execFreeA_runs, execFreeB_runs, execPassAbort_runs, flag_kept, latchPass_kept,
      plainWrite_kept, put_kept, run_kept, thrDisable_kept, kept_ite, h, implies_true]
theorem codeRamWrite_kept (x1 : Nat) (w : Nat) (v : Nat) (h : Kept a s) : Kept a (State.codeRamWrite s x1 w v) := by
  unfold State.codeRamWrite; simp (maxDischargeDepth := 60) +contextual only [bump_kept, flag_kept, put_kept, kept_ite, h]
theorem chanStop_kept (c : Nat) (h : Kept a s) : Kept a (State.chanStop s c) := by
  unfold State.chanStop; simp (maxDischargeDepth := 60) +contextual only [chanLeave_kept, h]
theorem shfDisable_kept (h : Kept a s) : Kept a (State.shfDisable s) := by
  unfold State.shfDisable; simp (maxDischargeDepth := 60) +contextual only [chanStop_kept, each_kept, put_kept, h, implies_true]
theorem chanStart_kept (c : Nat) (h : Kept a s) : Kept a (State.chanStart s c).2 := by
  unfold State.chanStart
  dsimp only
  (repeat' split) <;> simp (maxDischargeDepth := 60) +contextual only [each_kept, flag_kept, put_kept, setChan_kept,
      showSheaf_kept, h, implies_true]
theorem shfWrite_kept (x1 : Nat) (v : Word) (h : Kept a s) : Kept a (State.shfWrite s x1 v) := by
  unfold State.shfWrite
  simp (maxDischargeDepth := 60) +contextual only [chanStart_kept, chanStop_kept, codeRamWrite_kept, flag_kept, plainWrite_kept,
      put_kept, shfDisable_kept, kept_ite, h]
theorem putInt_kept (f : Field) (v : Int) (h : Kept a s) : Kept a (State.putInt s f v) := by
  unfold State.putInt; simp (maxDischargeDepth := 60) +contextual only [put_kept, h]
theorem setSlew_kept (off : Int) (h : Kept a s) : Kept a (State.setSlew s off) := by
  unfold State.setSlew
  simp (maxDischargeDepth := 60) +contextual only [flag_kept, modLtu_kept, putInt_kept, put_kept, when_kept, h, implies_true]
theorem armStep_kept (delta : Int) (h : Kept a s) : Kept a (State.armStep s delta) := by
  unfold State.armStep; simp (maxDischargeDepth := 60) +contextual only [flag_kept, modLtu_kept, h]
theorem execStepArm_runs (h : Kept a s) : Runs a (execStepArm s) := by
  unfold execStepArm; simp (maxDischargeDepth := 60) +contextual only [armStep_kept, whileLive_runs, h, Runs.next, implies_true]
theorem modTrig_kept (j : Nat) (f : TrigState → TrigState) (h : Kept a s) : Kept a (State.modTrig s j f) := by
  unfold State.modTrig; simp (maxDischargeDepth := 60) +contextual only [modLtu_kept, h]
theorem setTrigPeriod_kept (j : Nat) (v : Nat) (h : Kept a s) : Kept a (State.setTrigPeriod s j v) := by
  unfold State.setTrigPeriod; simp (maxDischargeDepth := 60) +contextual only [modTrig_kept, put_kept, h]
theorem setTpPeriod_kept (k : Nat) (v : Nat) (h : Kept a s) : Kept a (State.setTpPeriod s k v) := by
  unfold State.setTpPeriod; simp (maxDischargeDepth := 60) +contextual only [modPulse_kept, put_kept, kept_ite, h]
theorem setTpWidth_kept (k : Nat) (v : Nat) (h : Kept a s) : Kept a (State.setTpWidth s k v) := by
  unfold State.setTpWidth; simp (maxDischargeDepth := 60) +contextual only [modPulse_kept, put_kept, h]
theorem setTpPhase_kept (k : Nat) (v : Nat) (h : Kept a s) : Kept a (State.setTpPhase s k v) := by
  unfold State.setTpPhase; simp (maxDischargeDepth := 60) +contextual only [modPulse_kept, put_kept, h]
theorem wideWrite_kept (w : Wide) (low : Nat) (h : Kept a s) : Kept a (State.wideWrite s w low) := by
  unfold State.wideWrite
  split <;> simp (maxDischargeDepth := 60) +contextual only [setTpPeriod_kept, setTpPhase_kept, setTpWidth_kept,
      setTrigPeriod_kept, h]
theorem setTrigTime_kept (j : Nat) (t : Time) (h : Kept a s) : Kept a (State.setTrigTime s j t) := by
  unfold State.setTrigTime; simp (maxDischargeDepth := 60) +contextual only [putTimeRec_kept, h]
theorem armTrigger_kept (j : Nat) (h : Kept a s) : Kept a (State.armTrigger s j) := by
  unfold State.armTrigger; simp (maxDischargeDepth := 60) +contextual only [flag_kept, modTrig_kept, setTrigTime_kept, kept_ite, h]
theorem capClear_kept (i : Nat) (h : Kept a s) : Kept a (State.capClear s i) := by
  unfold State.capClear; simp (maxDischargeDepth := 60) +contextual only [put_kept, h]
theorem setTpEnable_kept (k : Nat) (en : Bool) (h : Kept a s) : Kept a (State.setTpEnable s k en) := by
  unfold State.setTpEnable; simp (maxDischargeDepth := 60) +contextual only [modPulse_kept, put_kept, kept_ite, h]
theorem gridWrite_kept (k : Nat) (h : Kept a s) : Kept a (State.gridWrite s k) := by
  unfold State.gridWrite; simp (maxDischargeDepth := 60) +contextual only [modPulse_kept, h]
theorem timeWrite_kept (x1 : Nat) (v : Word) (h : Kept a s) : Kept a (State.timeWrite s x1 v) := by
  unfold State.timeWrite
  (try dsimp only)
  (repeat' (first | with_reducible refine kept_ite ?_ ?_ | split))
  all_goals first
    | with_reducible exact h
    | simp (maxDischargeDepth := 60) +contextual only [armTrigger_kept, cancelStep_kept, capClear_kept, chooseSource_kept,
    execStepArm_runs, gridWrite_kept, modLtu_kept, modTrig_kept, plainWrite_kept, put_kept, run_kept, setInc_kept, setSlew_kept,
    setTpEnable_kept, setUnc_kept, when_kept, wideWrite_kept, h, implies_true]
theorem slewWhole_kept (e : Int) (h : Kept a s) : Kept a (State.slewWhole s e) := by
  unfold State.slewWhole; simp (maxDischargeDepth := 60) +contextual only [modNet_kept, setSlew_kept, h]
theorem setAsym_kept (v : Int) (h : Kept a s) : Kept a (State.setAsym s v) := by
  unfold State.setAsym; simp (maxDischargeDepth := 60) +contextual only [modNet_kept, putInt_kept, slewWhole_kept, kept_ite, h]
theorem netUnqualify_kept (h : Kept a s) : Kept a (State.netUnqualify s) := by
  unfold State.netUnqualify
  simp (maxDischargeDepth := 60) +contextual only [chooseSource_kept, flag_kept, modLtu_kept, modNet_kept, put_kept, setInc_kept,
      kept_ite, h]
theorem showFm_kept (k : Nat) (h : Kept a s) : Kept a (State.showFm s k) := by
  unfold State.showFm; split <;> simp (maxDischargeDepth := 60) +contextual only [flag_kept, put_kept, setWord_kept, h]
theorem showFms_kept (h : Kept a s) : Kept a (State.showFms s) := by
  unfold State.showFms; simp (maxDischargeDepth := 60) +contextual only [each_kept, put_kept, showFm_kept, h, implies_true]
theorem portState_kept (v : Nat) (h : Kept a s) : Kept a (State.portState s v) := by
  unfold State.portState; simp (maxDischargeDepth := 60) +contextual only [flag_kept, put_kept, kept_ite, h]
theorem netRestart_kept (h : Kept a s) : Kept a (State.netRestart s) := by
  unfold State.netRestart
  simp (maxDischargeDepth := 60) +contextual only [flag_kept, modNet_kept, netUnqualify_kept, portState_kept, put_kept,
      showFms_kept, when_kept, h, implies_true]
theorem servoStep_kept (delta : Int) (h : Kept a s) : Kept a (State.servoStep s delta) := by
  unfold State.servoStep; simp (maxDischargeDepth := 60) +contextual only [armStep_kept, putInt_kept, put_kept, h]
theorem realign_kept (h : Kept a s) : Kept a (State.realign s) := by
  unfold State.realign; simp (maxDischargeDepth := 60) +contextual only [put_kept, servoStep_kept, kept_ite, h]
theorem showClass_kept (h : Kept a s) : Kept a (State.showClass s) := by
  unfold State.showClass; simp (maxDischargeDepth := 60) +contextual only [put_kept, h]
theorem netWrite_kept (x1 : Nat) (v : Word) (h : Kept a s) : Kept a (State.netWrite s x1 v) := by
  unfold State.netWrite
  simp (maxDischargeDepth := 60) +contextual only [netRestart_kept, plainWrite_kept, realign_kept, setAsym_kept, showClass_kept,
      kept_ite, h]
theorem showGnt_kept (h : Kept a s) : Kept a (State.showGnt s) := by
  unfold State.showGnt; simp (maxDischargeDepth := 60) +contextual only [put_kept, h]
theorem uwbWrite_kept (x1 : Nat) (v : Word) (h : Kept a s) : Kept a (State.uwbWrite s x1 v) := by
  unfold State.uwbWrite
  simp (maxDischargeDepth := 60) +contextual only [modUwb_kept, plainWrite_kept, radioTo_kept, showGnt_kept, kept_ite, h]
theorem sealSet_kept (en : Bool) (action : Bool) (h : Kept a s) : Kept a (State.sealSet s en action) := by
  unfold State.sealSet; simp (maxDischargeDepth := 60) +contextual only [modSec_kept, put_kept, h, implies_true, eq_self]
theorem sealClear_kept (h : Kept a s) : Kept a (State.sealClear s) := by
  unfold State.sealClear; simp (maxDischargeDepth := 60) +contextual only [put_kept, h]
theorem secWrite_kept (x1 : Nat) (v : Word) (h : Kept a s) : Kept a (State.secWrite s x1 v) := by
  unfold State.secWrite
  simp (maxDischargeDepth := 60) +contextual only [plainWrite_kept, sealClear_kept, sealSet_kept, kept_ite, h]
theorem uartTouch_kept (n : Nat) (h : Kept a s) : Kept a (State.uartTouch s n) := by
  unfold State.uartTouch; simp (maxDischargeDepth := 60) +contextual only [modUart_kept, h, implies_true, and_self]
theorem uartWrite_kept (n v : Nat) (h : Kept a s) : Kept a (s.uartWrite n v) := by
  unfold State.uartWrite
  dsimp only
  split
  · exact uartEvent_kept _ _ (uartTouch_kept _ h)
  · exact showUart_kept _ (modUart_kept' _ _ (uartTouch_kept _ h) fun k => ⟨k.1, by simp; omega⟩)
theorem flushRx_kept (n : Nat) (h : Kept a s) : Kept a (State.flushRx s n) := by
  unfold State.flushRx
  simp (maxDischargeDepth := 60) +contextual only [modUart_kept, showUart_kept, h, implies_true, and_self, List.length_nil,
      Nat.zero_le]
theorem flushTx_kept (n : Nat) (h : Kept a s) : Kept a (State.flushTx s n) := by
  unfold State.flushTx
  simp (maxDischargeDepth := 60) +contextual only [modUart_kept, showUart_kept, h, implies_true, and_self, List.length_nil,
      Nat.zero_le]
theorem breakBegin_kept (n : Nat) (h : Kept a s) : Kept a (State.breakBegin s n) := by
  unfold State.breakBegin; simp (maxDischargeDepth := 60) +contextual only [modUart_kept, kept_ite, h, implies_true, and_self]
theorem breakSend_kept (n : Nat) (h : Kept a s) : Kept a (State.breakSend s n) := by
  unfold State.breakSend; simp (maxDischargeDepth := 60) +contextual only [breakBegin_kept, flag_kept, showUart_kept, kept_ite, h]
theorem linHeader_kept (n : Nat) (h : Kept a s) : Kept a (State.linHeader s n) := by
  unfold State.linHeader
  simp (maxDischargeDepth := 60) +contextual only [breakBegin_kept, flag_kept, modUart_kept, showUart_kept, kept_ite, h,
      implies_true, and_self]
theorem uartRegWrite_kept (u : Nat) (r : Nat) (x3 : Nat) (v : Word) (h : Kept a s) : Kept a (State.uartRegWrite s u r x3 v) := by
  unfold State.uartRegWrite
  split <;> simp (maxDischargeDepth := 60) +contextual only [breakSend_kept, flushRx_kept, flushTx_kept, linHeader_kept,
      modUart_kept, plainWrite_kept, put_kept, showUart_kept, uartTouch_kept, uartWrite_kept, kept_ite, h, implies_true, and_self]
theorem cvuAbort_kept (c : Nat) (h : Kept a s) : Kept a (State.cvuAbort s c) := by
  unfold State.cvuAbort; simp (maxDischargeDepth := 60) +contextual only [cvuEnd_kept, modCvu_kept, put_kept, kept_ite, h]
theorem cvuStart_kept (c : Nat) (h : Kept a s) : Kept a (State.cvuStart s c) := by
  unfold State.cvuStart
  simp (maxDischargeDepth := 60) +contextual only [cvuEvent_kept, flag_kept, modCvu_kept, put_kept, showFed_kept, kept_ite, h]
theorem cvuFeed_kept (c : Nat) (b : Byte) (h : Kept a s) : Kept a (State.cvuFeed s c b) := by
  unfold State.cvuFeed; simp (maxDischargeDepth := 60) +contextual only [modCvu_kept, showFed_kept, kept_ite, h]
theorem cvuWrite_kept (c : Nat) (value : Word) (h : Kept a s) : Kept a (State.cvuWrite s c value) := by
  unfold State.cvuWrite; simp (maxDischargeDepth := 60) +contextual only [cvuFeed_kept, each_kept, h, implies_true]
theorem perWrite_kept (x1 : Nat) (v : Word) (h : Kept a s) : Kept a (State.perWrite s x1 v) := by
  unfold State.perWrite
  simp (maxDischargeDepth := 60) +contextual only [cvuAbort_kept, cvuStart_kept, cvuWrite_kept, plainWrite_kept,
      uartRegWrite_kept, kept_ite, h]
theorem showFuses_kept (h : Kept a s) : Kept a (State.showFuses s) := by
  unfold State.showFuses; simp (maxDischargeDepth := 60) +contextual only [put_kept, h]
theorem mainClear_kept (h : Kept a s) : Kept a s.mainClear := by
  have c : Kept s ({ State.reset with
      regs := sparseKeep (fun a => aonRegisters.contains a) s.regs
      nav := { seq := s.nav.seqNv, seqNv := s.nav.seqNv }
      snap := { nextId := s.snap.nextId, nv := s.snap.nv, policy := s.snap.policy, schedule := s.snap.schedule
                counter := s.snap.counterNv, counterNv := s.snap.counterNv, parkedRun := s.snap.parkedRun }
      ltu := { relation := s.ltu.relation }
      net := { asymNv := s.net.asymNv, lat100 := s.net.lat100, lat1000 := s.net.lat1000 }
      uwb := { store := s.uwb.store, delays := s.uwb.delays, gntPin := s.uwb.gntPin }
      pwr := { s.pwr with move := none, slot := none, boot := none }
      sec := { s.sec with certStage := [], provision := none }
      fw := { s.fw with stage := [], commit := none }
      host := { spi := s.host.spi, perst := s.host.perst, epoch := s.host.epoch + 1 }
      free := s.free
      pending := s.pending } : State) := by
    refine ⟨rfl, fun w => ?_, id, id, fun _ n hn => ?_, fun _ => ?_, Nat.le_refl _⟩
    · have r := sparseKeep_wf (p := fun a => aonRegisters.contains a) (Memory.wf_regs w)
      show (sparseWf regReset (sparseKeep (fun a => aonRegisters.contains a) s.regs) && true && true && true && true && true) = true
      rw [r]; rfl
    · show (vget _ (Vector.replicate 8 ({} : UartState)) n).rx.length ≤ 64 ∧ (vget _ (Vector.replicate 8 ({} : UartState))
    n).tx.length ≤ 64
      unfold vget; rw [dif_pos hn]; simp
    · show 0 ≤ 256; omega
  unfold State.mainClear
  dsimp only
  simp (maxDischargeDepth := 60) only [showFuses_kept, put_kept, kept_ite, h.trans c]
theorem closeDebug_kept (h : Kept a s) : Kept a (State.closeDebug s) := by
  unfold State.closeDebug; simp (maxDischargeDepth := 60) +contextual only [emit_kept, flag_kept, put_kept, kept_ite, h]
theorem tapCheck_kept (h : Kept a s) : Kept a s.tapCheck :=
  modSec_kept _ (fun _ e => by dsimp only; split <;> exact e) (fun _ e => by dsimp only; split <;> exact e) h
theorem toLifecycle_kept (v : Nat) (h : Kept a s) : Kept a (State.toLifecycle s v) := by
  unfold State.toLifecycle
  simp (maxDischargeDepth := 60) +contextual only [emit_kept, flag_kept, modSec_kept, put_kept, h, implies_true, eq_self]
theorem endDebug_kept (h : Kept a s) : Kept a (State.endDebug s) := by
  unfold State.endDebug
  simp (maxDischargeDepth := 60) +contextual only [closeDebug_kept, tapCheck_kept, toLifecycle_kept, kept_ite, h]
theorem stopActs_kept (p : RadioAct → Bool) (h : Kept a s) : Kept a (State.stopActs s p) := by
  unfold State.stopActs
  split <;> simp (maxDischargeDepth := 60) +contextual only [cutLive_kept, each_kept, endAct_kept, modUwb_kept, when_kept, h,
      implies_true]
theorem showSessions_kept (h : Kept a s) : Kept a (State.showSessions s) := by
  unfold State.showSessions; simp (maxDischargeDepth := 60) +contextual only [put_kept, h]
theorem dropSession_kept (x1 : Nat) (h : Kept a s) : Kept a (State.dropSession s x1) := by
  unfold State.dropSession
  simp (maxDischargeDepth := 60) +contextual only [answerTo_kept, modUwb_kept, showSessions_kept, stopActs_kept, h]
theorem dropSessions_kept (h : Kept a s) : Kept a (State.dropSessions s) := by
  unfold State.dropSessions; simp (maxDischargeDepth := 60) +contextual only [dropSession_kept, each_kept, h, implies_true]
theorem zeroiseSts_kept (h : Kept a s) : Kept a (State.zeroiseSts s) := by
  unfold State.zeroiseSts; simp (maxDischargeDepth := 60) +contextual only [dropSessions_kept, flag_kept, h]
theorem mainReset_kept (orderly : Bool) (h : Kept a s) : Kept a (State.mainReset s orderly) := by
  unfold State.mainReset
  simp (maxDischargeDepth := 60) +contextual only [endDebug_kept, mainClear_kept, modPwr_kept, zeroiseSts_kept, h]
theorem showUnc_kept (h : Kept a s) : Kept a (State.showUnc s) := by
  unfold State.showUnc; simp (maxDischargeDepth := 60) +contextual only [put_kept, h]
theorem setRtc_kept (count : Nat) (h : Kept a s) : Kept a (State.setRtc s count) := by
  unfold State.setRtc; simp (maxDischargeDepth := 60) +contextual only [put_kept, kept_ite, h]
theorem rtcTicks_kept (n : Nat) (h : Kept a s) : Kept a (State.rtcTicks s n) := by
  unfold State.rtcTicks; simp (maxDischargeDepth := 60) +contextual only [modLtu_kept, showUnc_kept, h]
theorem rtcTo_kept (count : Nat) (h : Kept a s) : Kept a (State.rtcTo s count) := by
  unfold State.rtcTo; simp (maxDischargeDepth := 60) +contextual only [rtcTicks_kept, setRtc_kept, when_kept, h, implies_true]
theorem writeRelation_kept (rtc : Nat) (edge : Time) (h : Kept a s) : Kept a (State.writeRelation s rtc edge) := by
  unfold State.writeRelation; simp (maxDischargeDepth := 60) +contextual only [modLtu_kept, rtcTo_kept, showUnc_kept, h]
theorem shutdownSteps_kept (rtc : Nat) (h : Kept a s) : Kept a (State.shutdownSteps s rtc) := by
  unfold State.shutdownSteps
  simp (maxDischargeDepth := 60) +contextual only [endDebug_kept, modNav_kept, modSnap_kept, nextFree_kept, writeRelation_kept,
      zeroiseSts_kept, h]
theorem devReset_kept (key : Nat) (rtc : Nat) (h : Kept a s) : Kept a (State.devReset s key rtc) := by
  unfold State.devReset; simp (maxDischargeDepth := 60) +contextual only [mainReset_kept, shutdownSteps_kept, kept_ite, h]
theorem execRingInit_runs (h : Kept a s) : Runs a (execRingInit s) := by
  unfold execRingInit
  simp (maxDischargeDepth := 60) +contextual only [modHost_kept, whileLive_runs, kept_ite, h, Runs.next, implies_true, eq_self]
theorem ringError_kept (ring : Nat) (cause : Nat) (h : Kept a s) : Kept a (State.ringError s ring cause) := by
  unfold State.ringError; simp (maxDischargeDepth := 60) +contextual only [bump_kept, cause_kept, flag_kept, put_kept, h]
theorem releaseHeld_kept (c : Cls) : ∀ (n : Nat) {s : State}, Kept a s → Kept a (s.releaseHeld c n)
  | 0, _, h => h
  | n + 1, s, h => by
    unfold State.releaseHeld
    split
    · exact h
    · split
      · exact h
      · rename_i m rest e
        exact releaseHeld_kept c n (modHost_kept _ (fun _ => rfl) (produce_kept c _ h e))
theorem releaseAll_kept (c : Cls) (h : Kept a s) : Kept a (State.releaseAll s c) := by
  unfold State.releaseAll; simp (maxDischargeDepth := 60) +contextual only [modSnap_kept, releaseHeld_kept, kept_ite, h]
theorem ringDoorbell_kept (c : Cls) (req : Nat) (rsp : Nat) (h : Kept a s) : Kept a (State.ringDoorbell s c req rsp) := by
  unfold State.ringDoorbell
  simp (maxDischargeDepth := 60) +contextual only [modHost_kept, releaseAll_kept, ringError_kept, kept_ite, h, implies_true,
      eq_self]
theorem evtCons_kept (v : Nat) (h : Kept a s) : Kept a (State.evtCons s v) := by
  unfold State.evtCons; simp (maxDischargeDepth := 60) +contextual only [put_kept, kept_ite, h]
theorem hostRegWrite_kept (x1 : Nat) (v : Word) (h : Kept a s) : Kept a (State.hostRegWrite s x1 v) := by
  unfold State.hostRegWrite
  simp (maxDischargeDepth := 60) +contextual only [devReset_kept, evtCons_kept, execRingInit_runs, plainWrite_kept, put_kept,
      ringDoorbell_kept, run_kept, kept_ite, h, implies_true]
theorem wdgKick_kept (n : Nat) (h : Kept a s) : Kept a (State.wdgKick s n) := by
  unfold State.wdgKick; simp (maxDischargeDepth := 60) +contextual only [modCore_kept, h]
theorem notifyWrite_kept (n : Nat) (v : Nat) (h : Kept a s) : Kept a (State.notifyWrite s n v) := by
  unfold State.notifyWrite; simp (maxDischargeDepth := 60) +contextual only [emit_kept, modCore_kept, tally_kept, kept_ite, h]
theorem updWrite_kept (n : Nat) (v : Nat) (h : Kept a s) : Kept a (State.updWrite s n v) := by
  unfold State.updWrite; simp (maxDischargeDepth := 60) +contextual only [modCore_kept, modShf_kept, kept_ite, h]
theorem overrunClear_kept (n : Nat) (h : Kept a s) : Kept a (State.overrunClear s n) := by
  unfold State.overrunClear; simp (maxDischargeDepth := 60) +contextual only [put_kept, h]
theorem noteMask_kept (n : Nat) (off : Nat) (h : Kept a s) : Kept a (State.noteMask s n off) := by
  unfold State.noteMask; simp (maxDischargeDepth := 60) +contextual only [modCore_kept, kept_ite, h]
theorem ioWrite_kept (n : Nat) (off : Nat) (v : Nat) (h : Kept a s) : Kept a (State.ioWrite s n off v) := by
  unfold State.ioWrite
  split <;> (try split) <;> simp (maxDischargeDepth := 60) +contextual only [feedDue_kept, haltWake_kept, noteMask_kept,
      notifyWrite_kept, overrunClear_kept, put_kept, queueRaise_kept, setWord_kept, updWrite_kept, wdgKick_kept, kept_ite, h]
theorem regWrite_kept (a0 : Nat) (v : Word) (h : Kept a s) : Kept a (State.regWrite s a0 v) := by
  unfold State.regWrite
  dsimp only
  (repeat' split) <;> simp (maxDischargeDepth := 60) +contextual only [clkWrite_kept, fabWrite_kept, feWrite_kept,
      granRegWrite_kept, hostRegWrite_kept, ioWrite_kept, laneWrite_kept, netWrite_kept, perWrite_kept, plainWrite_kept,
      secWrite_kept, shfWrite_kept, thrWrite_kept, timeWrite_kept, uwbWrite_kept, h]
theorem dqRead_kept (n : Nat) (h : Kept a s) : Kept a (State.dqRead s n).2 := by
  unfold State.dqRead; dsimp only; split <;> simp (maxDischargeDepth := 60) +contextual only [modCore_kept, showDumps_kept, h]
theorem feedWidxRead_kept (n : Nat) (h : Kept a s) : Kept a (State.feedWidxRead s n).2 := by
  unfold State.feedWidxRead; simp (maxDischargeDepth := 60) +contextual only [put_kept, h]
theorem ioRead_kept (n off cycle : Nat) (h : Kept a s) : Kept a (s.ioRead n off cycle).2 := by
  unfold State.ioRead
  repeat' split
  all_goals first | exact h | exact dqRead_kept _ h | exact feedWidxRead_kept _ h
theorem latchNow_kept (h : Kept a s) : Kept a (State.latchNow s) := by
  unfold State.latchNow; simp (maxDischargeDepth := 60) +contextual only [putTimeRec_kept, h]
theorem latchHostTime_kept (h : Kept a s) : Kept a (State.latchHostTime s) := by
  unfold State.latchHostTime; simp (maxDischargeDepth := 60) +contextual only [putTimeRec_kept, h]
theorem capRead_kept (i : Nat) (h : Kept a s) : Kept a (State.capRead s i) := by
  unfold State.capRead; simp (maxDischargeDepth := 60) +contextual only [modLtu_kept, put_kept, h]
theorem cvuRoom_kept (n : Nat) (h : Kept a s) : Kept a (State.cvuRoom s n) := by
  unfold State.cvuRoom; split <;> simp (maxDischargeDepth := 60) +contextual only [cvuRelease_kept, h]
theorem uartPop_kept (n : Nat) (rest : List RxEntry) (hl : rest.length ≤ 64) (h : Kept a s) : Kept a (s.uartPop n rest) := by
  unfold State.uartPop
  exact showUart_kept _ (when_kept (modUart_kept _ _ (fun _ u => ⟨hl, u.2⟩) h) fun _ => put_kept _ _)
theorem uartRead_kept (n : Nat) (h : Kept a s) : Kept a (s.uartRead n).2 := by
  unfold State.uartRead
  split
  · exact uartTouch_kept _ h
  · rename_i e rest q
    refine cvuRoom_kept _ (showUart_kept _ (when_kept (modUart_kept' _ _ h fun k => ⟨?_, k.2⟩) fun _ w => put_kept _ _ w))
    have := k.1
    rw [q] at this
    simp at this
    show rest.length ≤ 64
    omega
theorem regRead_kept (a0 : Nat) (h : Kept a s) : Kept a (State.regRead s a0).2 := by
  unfold State.regRead
  dsimp only
  (repeat' split) <;> simp (maxDischargeDepth := 60) +contextual only [capRead_kept, ioRead_kept, latchHostTime_kept,
      latchNow_kept, modLtu_kept, modUart_kept, uartRead_kept, uartTouch_kept, h, implies_true, and_self]
theorem execRegisterWrite_runs (address : Word) (value : Word) (h : Kept a s) : Runs a (execRegisterWrite address value s) := by
  unfold execRegisterWrite
  simp (maxDischargeDepth := 60) +contextual only [regWrite_kept, whileLive_runs, h, Runs.next, implies_true]
theorem clkPhase_kept (p : ClkPhase) (h : Kept a s) : Kept a (State.clkPhase s p) := by
  unfold State.clkPhase; simp (maxDischargeDepth := 60) +contextual only [modClk_kept, h]
theorem ceiling_kept (demand : BitVec 16) (h : Kept a s) : Kept a (State.ceiling s demand) := by
  unfold State.ceiling; simp (maxDischargeDepth := 60) +contextual only [flag_kept, put_kept, kept_ite, h]
theorem breakContinuity_kept (h : Kept a s) : Kept a (State.breakContinuity s) := by
  unfold State.breakContinuity; simp (maxDischargeDepth := 60) +contextual only [modClk_kept, put_kept, h]
theorem execDcoCalDone_runs (h : Kept a s) : Runs a (execDcoCalDone s) := by
  unfold execDcoCalDone
  simp (maxDischargeDepth := 60) +contextual only [clkPhase_kept, flag_kept, whilePowered_runs, h, Runs.next, runs_ite,
      implies_true]
theorem execFreqAcquired_runs (demand : BitVec 16) (h : Kept a s) : Runs a (execFreqAcquired demand s) := by
  unfold execFreqAcquired
  simp (maxDischargeDepth := 60) +contextual only [ceiling_kept, flag_kept, modClk_kept, whilePowered_runs, h, Runs.next,
      runs_ite, implies_true]
theorem declareLock_kept (h : Kept a s) : Kept a (State.declareLock s) := by
  unfold State.declareLock; simp (maxDischargeDepth := 60) +contextual only [emit_kept, flag_kept, modClk_kept, h]
theorem execLockWindowEnd_runs (count : BitVec 15) (safe : BitVec 12) (ticks : Fin 12) (demand : BitVec 16) (h : Kept a s) : Runs
    a (execLockWindowEnd count safe ticks demand s) := by
  unfold execLockWindowEnd
  simp (maxDischargeDepth := 60) +contextual only [ceiling_kept, declareLock_kept, flag_kept, loseLock_kept, modClk_kept,
      put_kept, whilePowered_runs, h, Runs.next, runs_ite, implies_true]
theorem loadDither_kept (h : Kept a s) : Kept a (State.loadDither s) := by
  unfold State.loadDither; simp (maxDischargeDepth := 60) +contextual only [modClk_kept, h]
theorem placeMarker_kept (coherent : Bool) (h : Kept a s) : Kept a (State.placeMarker s coherent) := by
  unfold State.placeMarker; simp (maxDischargeDepth := 60) +contextual only [loadDither_kept, modClk_kept, put_kept, h]
theorem execPhaseAligned_runs (h : Kept a s) : Runs a (execPhaseAligned s) := by
  unfold execPhaseAligned
  simp (maxDischargeDepth := 60) +contextual only [loadDither_kept, modClk_kept, placeMarker_kept, whilePowered_runs, h,
      Runs.next, runs_ite, implies_true]
theorem uartsClock_kept (h : Kept a s) : Kept a (State.uartsClock s) := by
  unfold State.uartsClock; simp (maxDischargeDepth := 60) +contextual only [each_kept, put_kept, showUart_kept, h, implies_true]
theorem thrClock_kept (h : Kept a s) : Kept a (State.thrClock s) := by
  unfold State.thrClock
  split <;> simp (maxDischargeDepth := 60) +contextual only [each_kept, flag_kept, modThr_kept, put_kept, h, implies_true]
theorem noRoom_kept (q : OpenReq) (h : Kept a s) : Kept a (State.noRoom s q) := by
  unfold State.noRoom; simp (maxDischargeDepth := 60) +contextual only [answer_kept, nextFree_kept, h]
theorem laneAnswer_kept (l : Nat) (h : Kept a s) : Kept a (State.laneAnswer s l) := by
  unfold State.laneAnswer
  dsimp only
  (repeat' split) <;> simp (maxDischargeDepth := 60) +contextual only [answer_kept, modLane_kept, noRoom_kept, h]
theorem keepGone_kept (l : Nat) (t : Int) (h : Kept a s) : Kept a (State.keepGone s l t) := by
  unfold State.keepGone; simp (maxDischargeDepth := 60) +contextual only [modLane_kept, h]
theorem cancelStart_kept (c : Nat) (h : Kept a s) : Kept a (State.cancelStart s c) := by
  unfold State.cancelStart
  simp (maxDischargeDepth := 60) +contextual only [each_kept, put_kept, setChan_kept, showSheaf_kept, h, implies_true]
theorem bridge_kept (c : Nat) (l : Nat) (due : Int) (h : Kept a s) : Kept a (State.bridge s c l due) := by
  unfold State.bridge; simp (maxDischargeDepth := 60) +contextual only [setChan_kept, h]
theorem shfNewOrigin_kept (l : Nat) (op : State → State) (hop : ∀ t, Kept a t → Kept a (op t)) (h : Kept a s) :
    Kept a (s.shfNewOrigin l op) := by
  unfold State.shfNewOrigin
  refine each_kept _ (fun t x k => ?_) _ (hop _ (each_kept _ (fun t x k => finishBlocks_kept _ k) _ h))
  exact kept_ite (cancelStart_kept _ k) (kept_ite (bridge_kept _ _ _ k) (chanLeave_kept _ _ k))
theorem clearLane_kept (l : Nat) (c : DecCfg) (h : Kept a s) : Kept a (State.clearLane s l c) := by
  unfold State.clearLane; simp (maxDischargeDepth := 60) +contextual only [modLane_kept, h]
theorem setOrigin_kept (l : Nat) (t : Time) (h : Kept a s) : Kept a (State.setOrigin s l t) := by
  unfold State.setOrigin; simp (maxDischargeDepth := 60) +contextual only [put_kept, h]
theorem laneOrigin_kept (l : Nat) (kind : OriginKind) (h : Kept a s) : Kept a (State.laneOrigin s l kind) := by
  unfold State.laneOrigin
  simp (maxDischargeDepth := 60) +contextual only [clearLane_kept, fadeOver_kept, flag_kept, modLane_kept, put_kept,
      setOrigin_kept, showAgg_kept, showGd_kept, showLocks_kept, startPendingFade_kept, when_kept, kept_ite, h, implies_true]
theorem feedOrigin_kept (l : Nat) (h : Kept a s) : Kept a (State.feedOrigin s l) := by
  unfold State.feedOrigin
  simp (maxDischargeDepth := 60) +contextual only [each_kept, flag_kept, modCore_kept, put_kept, h, implies_true]
theorem newOrigin_kept (l : Nat) (kind : OriginKind) (h : Kept a s) : Kept a (State.newOrigin s l kind) := by
  unfold State.newOrigin
  simp (maxDischargeDepth := 60) +contextual only [cutCapture_kept, feedOrigin_kept, feedsDue_kept, keepGone_kept,
      laneOrigin_kept, runLane_kept, shfNewOrigin_kept, thrLaneLost_kept, kept_ite, h, implies_true]
theorem allOrigins_kept (kind : OriginKind) (h : Kept a s) : Kept a (State.allOrigins s kind) := by
  unfold State.allOrigins
  simp (maxDischargeDepth := 60) +contextual only [each_kept, laneAnswer_kept, newOrigin_kept, kept_ite, h, implies_true]
theorem gatesOpen_kept (h : Kept a s) : Kept a (State.gatesOpen s) := by
  unfold State.gatesOpen
  simp (maxDischargeDepth := 60) +contextual only [allOrigins_kept, blankLook_kept, flag_kept, modClk_kept, modFe_kept, put_kept,
      startChain_kept, thrClock_kept, uartsClock_kept, h]
theorem recordMark_kept (h : Kept a s) : Kept a (State.recordMark s) := by
  unfold State.recordMark; split <;> simp (maxDischargeDepth := 60) +contextual only [modClk_kept, kept_ite, h]
theorem fabAgain_kept (t : Time) (h : Kept a s) : Kept a (State.fabAgain s t) := by
  unfold State.fabAgain
  simp (maxDischargeDepth := 60) +contextual only [modClk_kept, modLtu_kept, recordMark_kept, tickFrom_kept, h]
theorem ltuGates_kept (h : Kept a s) : Kept a (State.ltuGates s) := by
  unfold State.ltuGates; simp (maxDischargeDepth := 60) +contextual only [chooseSource_kept, fabAgain_kept, h]
theorem execGatesOpen_runs (h : Kept a s) : Runs a (execGatesOpen s) := by
  unfold execGatesOpen
  simp (maxDischargeDepth := 60) +contextual only [clkPhase_kept, gatesOpen_kept, ltuGates_kept, whilePowered_runs, h, Runs.next,
      runs_ite, implies_true]
theorem execRefMissing_runs (h : Kept a s) : Runs a (execRefMissing s) := by
  unfold execRefMissing
  simp (maxDischargeDepth := 60) +contextual only [clkPhase_kept, flag_kept, modClk_kept, put_kept, when_kept, whilePowered_runs,
      kept_ite, h, Runs.next, runs_ite, implies_true]
theorem execCoastExpiry_runs (ticks : Fin 12) (h : Kept a s) : Runs a (execCoastExpiry ticks s) := by
  unfold execCoastExpiry
  simp (maxDischargeDepth := 60) +contextual only [bLost_kept, breakContinuity_kept, loseLock_kept, tickFrom_kept,
      whilePowered_runs, kept_ite, h, Runs.next, runs_ite, implies_true]
theorem ltuWalkEnd_kept (h : Kept a s) : Kept a (State.ltuWalkEnd s) := by
  unfold State.ltuWalkEnd; simp (maxDischargeDepth := 60) +contextual only [modLtu_kept, put_kept, h]
theorem ltuWalk_kept (ppm : Int) (h : Kept a s) : Kept a (State.ltuWalk s ppm) := by
  unfold State.ltuWalk; simp (maxDischargeDepth := 60) +contextual only [flag_kept, modLtu_kept, h]
theorem walkTo_kept (total : Int) (error : Int) (h : Kept a s) : Kept a (State.walkTo s total error) := by
  unfold State.walkTo
  simp (maxDischargeDepth := 60) +contextual only [emit_kept, flag_kept, ltuWalkEnd_kept, ltuWalk_kept, modClk_kept, putInt_kept,
      put_kept, kept_ite, h]
theorem edgeCount_kept (error : Int) (h : Kept a s) : Kept a (State.edgeCount s error) := by
  unfold State.edgeCount; simp (maxDischargeDepth := 60) +contextual only [breakContinuity_kept, when_kept, h, implies_true]
theorem edgeB_kept (error : Int) (h : Kept a s) : Kept a (State.edgeB s error) := by
  unfold State.edgeB; simp (maxDischargeDepth := 60) +contextual only [bLost_kept, when_kept, h, implies_true]
theorem discontinuity_kept (cause : Nat) (h : Kept a s) : Kept a (State.discontinuity s cause) := by
  unfold State.discontinuity
  simp (maxDischargeDepth := 60) +contextual only [emit_kept, flag_kept, modLtu_kept, modNav_kept, modNet_kept,
      netUnqualify_kept, h]
theorem ltuJump_kept (error : Int) (h : Kept a s) : Kept a (State.ltuJump s error) := by
  unfold State.ltuJump
  simp (maxDischargeDepth := 60) +contextual only [discontinuity_kept, flag_kept, modLtu_kept, showDegraded_kept, kept_ite, h]
theorem refJump_kept (error : Int) (ticks : Nat) (h : Kept a s) : Kept a (State.refJump s error ticks) := by
  unfold State.refJump
  simp (maxDischargeDepth := 60) +contextual only [emit_kept, flag_kept, loseLock_kept,
      ltuJump_kept, putInt_kept, h]
theorem edgeError_kept (remaining : Int) (error : Int) (ticks : Nat) (h : Kept a s) : Kept a (State.edgeError s remaining error
    ticks) := by
  unfold State.edgeError; simp (maxDischargeDepth := 60) +contextual only [refJump_kept, walkTo_kept, kept_ite, h]
theorem execRefReturn_runs (error : BitVec 16) (ticks : Fin 12) (demand : BitVec 16) (h : Kept a s) : Runs a (execRefReturn error
    ticks demand s) := by
  unfold execRefReturn
  simp (maxDischargeDepth := 60) +contextual only [ceiling_kept, edgeB_kept, edgeCount_kept, edgeError_kept, flag_kept,
      modClk_kept, put_kept, whilePowered_runs, h, Runs.next, runs_ite, implies_true]
theorem execPhaseWalk_runs (error : BitVec 16) (remaining : BitVec 16) (demand : BitVec 16) (ticks : Fin 12) (h : Kept a s) :
    Runs a (execPhaseWalk error remaining demand ticks s) := by
  unfold execPhaseWalk
  simp (maxDischargeDepth := 60) +contextual only [ceiling_kept, edgeB_kept, edgeCount_kept, edgeError_kept, whilePowered_runs,
      h, Runs.next, runs_ite, implies_true]
theorem execWalkDone_runs (h : Kept a s) : Runs a (execWalkDone s) := by
  unfold execWalkDone
  simp (maxDischargeDepth := 60) +contextual only [ltuWalkEnd_kept, modClk_kept, put_kept, whilePowered_runs, h,
      Runs.next, runs_ite, implies_true]
theorem execRefJump_runs (error : BitVec 16) (remaining : BitVec 16) (ticks : Fin 12) (h : Kept a s) : Runs a (execRefJump error
    remaining ticks s) := by
  unfold execRefJump
  simp (maxDischargeDepth := 60) +contextual only [edgeB_kept, edgeCount_kept, refJump_kept, whilePowered_runs, h, Runs.next,
      runs_ite, implies_true]
theorem execSyncInEdge_runs (edge : Fin 32) (h : Kept a s) : Runs a (execSyncInEdge edge s) := by
  unfold execSyncInEdge
  simp (maxDischargeDepth := 60) +contextual only [modClk_kept, placeMarker_kept, requestSync_kept, when_kept, whilePowered_runs,
      h, Runs.next, runs_ite, implies_true]
theorem execSyncWaitExpiry_runs (h : Kept a s) : Runs a (execSyncWaitExpiry s) := by
  unfold execSyncWaitExpiry
  simp (maxDischargeDepth := 60) +contextual only [flag_kept, placeMarker_kept, whilePowered_runs, h, Runs.next, runs_ite,
      implies_true]
theorem execNcoFreqWrite_runs (lane : Fin 12) (inc : Word) (h : Kept a s) : Runs a (execNcoFreqWrite lane inc s) := by
  unfold execNcoFreqWrite
  simp (maxDischargeDepth := 60) +contextual only [laneSetNow_kept, setWord_kept, whileLive_runs, h, Runs.next, implies_true]
theorem notchTake_kept (l : Nat) (j : Nat) (bin : Nat) (h : Kept a s) : Kept a (State.notchTake s l j bin) := by
  unfold State.notchTake
  simp (maxDischargeDepth := 60) +contextual only [flag_kept, modNotch_kept, put_kept, when_kept, h, implies_true]
theorem detectLine_kept (l : Nat) (median : Nat) (bin : Nat) (power : Nat) (h : Kept a s) : Kept a (State.detectLine s l median
    bin power) := by
  unfold State.detectLine
  dsimp only
  (repeat' split) <;> simp (maxDischargeDepth := 60) +contextual only [bump_kept, notchTake_kept, h]
theorem notchLevel_kept (l : Nat) (j : Nat) (h : Kept a s) : Kept a (State.notchLevel s l j) := by
  unfold State.notchLevel; simp (maxDischargeDepth := 60) +contextual only [modNotch_kept, put_kept, kept_ite, h]
theorem detectBlock_kept (l : Nat) (block : List (BitVec 16 × BitVec 16)) (h : Kept a s) : Kept a (State.detectBlock s l block)
    := by
  unfold State.detectBlock
  simp (maxDischargeDepth := 60) +contextual only [detectLine_kept, each_kept, modLane_kept, notchLevel_kept, h, implies_true]
theorem notchEngage_kept (l : Nat) (j : Nat) (h : Kept a s) : Kept a (State.notchEngage s l j) := by
  unfold State.notchEngage; simp (maxDischargeDepth := 60) +contextual only [flag_kept, modNotch_kept, h]
theorem execNotchFreqWrite_runs (lane : Fin 12) (notch : Fin 4) (freq : BitVec 24) (h : Kept a s) : Runs a (execNotchFreqWrite
    lane notch freq s) := by
  unfold execNotchFreqWrite
  simp (maxDischargeDepth := 60) +contextual only [modNotch_kept, put_kept, whileLive_runs, h, Runs.next, implies_true]
theorem unmapBay_kept (bay : Nat) (h : Kept a s) : Kept a (State.unmapBay s bay) := by
  unfold State.unmapBay
  simp (maxDischargeDepth := 60) +contextual only [each_kept, modKernel_kept, put_kept, kept_ite, h, implies_true]
theorem accept_kept (q : OpenReq) (h : Kept a s) : Kept a (State.accept s q) := by
  unfold State.accept; simp (maxDischargeDepth := 60) +contextual only [respond_kept, h]
theorem delegateBay_kept (q : OpenReq) (bay : Nat) (target : Nat) (keep : Bool) (h : Kept a s) : Kept a (State.delegateBay s q
    bay target keep) := by
  unfold State.delegateBay
  dsimp only
  (repeat' split) <;> simp (maxDischargeDepth := 60) +contextual only [accept_kept, handTo_kept, modGran_kept, modKernel_kept,
      unmapBay_kept, h, implies_true, eq_self]
theorem modeRefused_kept (target : Nat) (blocking : Nat) (h : Kept a s) : Kept a (State.modeRefused s target blocking) := by
  unfold State.modeRefused; simp (maxDischargeDepth := 60) +contextual only [bump_kept, flag_kept, put_kept, h]
theorem beginMove_kept (m : ModeMove) (h : Kept a s) : Kept a (State.beginMove s m) := by
  unfold State.beginMove; simp (maxDischargeDepth := 60) +contextual only [flag_kept, modPwr_kept, h]
theorem enter_kept (k : Kind) (r : Req) (p : List Byte) (run : OpenReq → State → State) (hr : ∀ q t, Kept a t → Kept a (run q t))
    (h : Kept a s) : Kept a (s.enter k r p run) := by
  unfold State.enter
  simp (maxDischargeDepth := 60) +contextual only [answer_kept, modHost_kept, modeRefused_kept, beginMove_kept, flag_kept, hr,
      kept_ite, h, implies_true]
theorem hstateSave_kept (pair : Nat) (key : Nat) (h : Kept a s) : Kept a (State.hstateSave s pair key) := by
  unfold State.hstateSave; simp (maxDischargeDepth := 60) +contextual only [granWriteAt_kept, h]
theorem commitH_kept (key : Nat) (h : Kept a s) : Kept a (State.commitH s key) := by
  unfold State.commitH; simp (maxDischargeDepth := 60) +contextual only [granWriteAt_kept, hstateSave_kept, h]
theorem effect_kept (kd : Kind) (q : OpenReq) (run : OpenReq → State → State) (hr : ∀ q t, Kept a t → Kept a (run q t))
    (h : Kept a s) : Kept a (s.effect kd q run) := by
  unfold State.effect
  exact kept_ite (commitH_kept _ (hr _ _ h)) (hr _ _ h)
theorem serve_kept (k : Kind) (r : Req) (p : List Byte) (checks : List (Option Answer)) (run : OpenReq → State → State)
    (hr : ∀ q t, Kept a t → Kept a (run q t)) (h : Kept a s) : Kept a (s.serve k r p checks run) := by
  unfold State.serve
  split
  · exact h
  · split
    · exact answer_kept _ _ h
    · exact enter_kept _ _ _ _ (fun _ _ e => effect_kept _ _ _ hr e) h
theorem execDelegate_runs (r : Req) (p : List Byte) (h : Kept a s) : Runs a (execDelegate r p s) := by
  unfold execDelegate
  refine .next (serve_kept _ _ _ _ _ (fun q t k => ?_) h)
  (repeat' split) <;> simp (maxDischargeDepth := 60) +contextual only [accept_kept, answer_kept, delegateBay_kept, put_kept, k]
theorem bayHome_kept (bay : Nat) (h : Kept a s) : Kept a (State.bayHome s bay) := by
  unfold State.bayHome; simp (maxDischargeDepth := 60) +contextual only [returnBay_kept, unmapBay_kept, kept_ite, h]
theorem uartReturn_kept (n : Nat) (h : Kept a s) : Kept a (State.uartReturn s n) := by
  unfold State.uartReturn
  simp (maxDischargeDepth := 60) +contextual only [cvuAbort_kept, each_kept, modUart_kept, put_kept, showUart_kept, h,
      implies_true, and_self, List.length_nil, Nat.zero_le]
theorem cvuReturn_kept (c : Nat) (h : Kept a s) : Kept a (State.cvuReturn s c) := by
  unfold State.cvuReturn; simp (maxDischargeDepth := 60) +contextual only [modCvu_kept, put_kept, h]
theorem execReturnBlock_runs (r : Req) (p : List Byte) (h : Kept a s) : Runs a (execReturnBlock r p s) := by
  unfold execReturnBlock
  simp (maxDischargeDepth := 60) +contextual only [accept_kept, answer_kept, bayHome_kept, cvuReturn_kept, modGran_kept,
      serve_kept, uartReturn_kept, kept_ite, h, Runs.next, implies_true, eq_self]
theorem execOwners_runs (r : Req) (p : List Byte) (h : Kept a s) : Runs a (execOwners r p s) := by
  unfold execOwners; simp (maxDischargeDepth := 60) +contextual only [answer_kept, serve_kept, h, Runs.next, implies_true]
theorem mapBay_kept (bay : Nat) (h : Kept a s) : Kept a (State.mapBay s bay) := by
  unfold State.mapBay
  split <;> simp (maxDischargeDepth := 60) +contextual only [each_kept, flag_kept, put_kept, kept_ite, h, implies_true]
theorem bayAnswers_kept (bay : Nat) (h : Kept a s) : Kept a (State.bayAnswers s bay) := by
  unfold State.bayAnswers
  simp (maxDischargeDepth := 60) +contextual only [answer_kept, each_kept, modGran_kept, h, implies_true, eq_self]
theorem bayClear_kept (bay : Nat) (h : Kept a s) : Kept a (s.bayClear bay) := modGran_kept' _ h sparseKeep_wf id
theorem dropSnaps_kept (first : Nat) (n : Nat) (h : Kept a s) : Kept a (State.dropSnaps s first n) := by
  unfold State.dropSnaps; simp (maxDischargeDepth := 60) +contextual only [modSnap_kept, h]
theorem handoverEnds_kept (bay : Nat) (h : Kept a s) : Kept a (State.handoverEnds s bay) := by
  unfold State.handoverEnds
  split <;> simp (maxDischargeDepth := 60) +contextual only [bayClear_kept, dropSnaps_kept, flag_kept, modGran_kept, put_kept,
      kept_ite, h, implies_true, eq_self]
theorem fixReady_kept (h : Kept a s) : Kept a (State.fixReady s) := by
  unfold State.fixReady
  split <;> (try split) <;> simp (maxDischargeDepth := 60) +contextual only [answer_kept, flag_kept, latchPass_kept,
      modSnap_kept, put_kept, kept_ite, h]
theorem unloadsEnd_kept (h : Kept a s) : Kept a (State.unloadsEnd s) := by
  unfold State.unloadsEnd
  simp (maxDischargeDepth := 60) +contextual only [answer_kept, each_kept, modKernel_kept, kept_ite, h, implies_true]
theorem execHandoverDone_runs (bay : Fin 64) (h : Kept a s) : Runs a (execHandoverDone bay s) := by
  unfold execHandoverDone
  simp (maxDischargeDepth := 60) +contextual only [bayAnswers_kept, each_kept, fixReady_kept, handoverEnds_kept, mapBay_kept,
      modKernel_kept, unloadsEnd_kept, whileLive_runs, h, Runs.next, runs_ite, implies_true]
theorem demote_kept (initiator : Nat) (h : Kept a s) : Kept a (State.demote s initiator) := by
  unfold State.demote; simp (maxDischargeDepth := 60) +contextual only [bump_kept, flag_kept, put_kept, h]
theorem portClass_kept (r : FabReq) (h : Kept a s) : Kept a (State.portClass s r).2 := by
  unfold State.portClass
  dsimp only
  (repeat' split) <;> simp (maxDischargeDepth := 60) +contextual only [demote_kept, modFab_kept, h]
theorem fabAnswer_kept (w : FabWord) (data : Nat) (error : Bool) (refused : Bool) (h : Kept a s) : Kept a (State.fabAnswer s w
    data error refused) := by
  unfold State.fabAnswer; simp (maxDischargeDepth := 60) +contextual only [modFab_kept, h]
theorem baleClash_kept (w : Nat) (h : Kept a s) : Kept a (State.baleClash s w) := by
  unfold State.baleClash; simp (maxDischargeDepth := 60) +contextual only [bump_kept, cause_kept, flag_kept, put_kept, h]
theorem kernelRefused_kept (initiator : Nat) (address : Nat) (h : Kept a s) : Kept a (State.kernelRefused s initiator address) := by
  unfold State.kernelRefused; simp (maxDischargeDepth := 60) +contextual only [raiseNow_kept, kept_ite, h]
theorem baleCount_kept (r : EccRead) (h : Kept a s) : Kept a (State.baleCount s r) := by
  unfold State.baleCount; simp (maxDischargeDepth := 60) +contextual only [bump_kept, cause_kept, kept_ite, h]
theorem fabAccess_kept (w : FabWord) (h : Kept a s) : Kept a (State.fabAccess s w).2.2.2 := by
  unfold State.fabAccess
  dsimp only
  (repeat' split) <;> simp (maxDischargeDepth := 60) +contextual only [baleCount_kept, baleWrite_kept, granAccess_kept,
      kernelRefused_kept, nextFree_kept, refuse_kept, regRead_kept, regWrite_kept, h]
theorem fabServe_kept (w : FabWord) (clash : Bool) (h : Kept a s) : Kept a (State.fabServe s w clash) := by
  unfold State.fabServe
  simp (maxDischargeDepth := 60) +contextual only [baleClash_kept, fabAccess_kept, fabAnswer_kept, kept_ite, h]
theorem present1_kept (ws : List FabWord) (h : Kept a s) : Kept a (s.present1 ws) := by
  unfold State.present1
  extract_lets placed r served
  refine each_kept _ (fun _ _ e => fabServe_kept _ _ e) _ ?_
  have go : ∀ (l : List Nat) (q : List (Nat × FabWord) × State), Kept a q.2 → Kept a (l.foldl (fun (r : List (Nat × FabWord) ×
      State) t =>
      let mine := (placed.filter fun x => x.1 == t).map Prod.snd
      let g := s.arbitrate mine.length (sparseGet arbDefault s.fab.arb t) 0 mine
      (g.1.foldl (fun l x => insertGrant x l) r.1, r.2.modFab fun f => { f with arb := sparseSet arbDefault f.arb t g.2 })) q).2
      := by
    intro l
    induction l with
    | nil => exact fun _ k => k
    | cons _ _ ih =>
      intro q k
      refine ih _ ?_
      dsimp only
      exact modFab_kept _ k
  exact go _ _ h
theorem fabPresent_kept (reqs : List FabReq) (h : Kept a s) : Kept a (s.fabPresent reqs) := by
  have fold : ∀ (l : List FabReq) (p : List FabWord × State), Kept a p.2 →
      Kept a (l.foldl (fun (p : List FabWord × State) r => let c := p.2.portClass r; (p.1 ++ reqWords r c.1, c.2)) p).2 := by
    intro l
    induction l with
    | nil => exact fun p k => k
    | cons r l ih => exact fun p k => ih _ (portClass_kept r k)
  unfold State.fabPresent
  exact present1_kept _ (fold _ _ (kept_ite (modFab_kept _ h) h))
theorem execInterconnectRequest_runs (elapsed : Nat) (reqs : List FabReq) (h : Kept a s) : Runs a (execInterconnectRequest
    elapsed reqs s) := by
  unfold execInterconnectRequest
  simp (maxDischargeDepth := 60) +contextual only [fabPresent_kept, modFab_kept, whileLive_runs, h, Runs.next, implies_true]
theorem execCeRewrite_runs (bay : Fin 64) (word : Fin 131072) (h : Kept a s) : Runs a (execCeRewrite bay word s) := by
  unfold execCeRewrite
  simp (maxDischargeDepth := 60) +contextual only [granPut_kept, modGran_kept, whileLive_runs, kept_ite, h, Runs.next, runs_ite,
      implies_true, eq_self]
theorem execMirrorRepair_runs (word : Fin 131072) (h : Kept a s) : Runs a (execMirrorRepair word s) := by
  unfold execMirrorRepair
  refine whileLive_runs h fun t k => ?_
  split <;> simp (maxDischargeDepth := 60) +contextual only [granPut_kept, modGran_kept, kept_ite, k, Runs.next, implies_true,
      eq_self]
theorem setPair_kept (k : Nat) (v : PairState) (h : Kept a s) : Kept a (State.setPair s k v) := by
  unfold State.setPair; simp (maxDischargeDepth := 60) +contextual only [modStw_kept, h]
theorem journalReplay_kept (h : Kept a s) : Kept a (State.journalReplay s) := by
  unfold State.journalReplay; simp (maxDischargeDepth := 60) +contextual only [releaseHeld_kept, h]
theorem takeOverBurst_kept (initiator : Nat) (pair : Nat) (h : Kept a s) : Kept a (State.takeOverBurst s initiator pair) := by
  unfold State.takeOverBurst; simp (maxDischargeDepth := 60) +contextual only [each_kept, mirrorRead_kept, h, implies_true]
theorem pairHung_kept (pair : Nat) (cause : Nat) (h : Kept a s) : Kept a (State.pairHung s pair cause) := by
  unfold State.pairHung
  simp (maxDischargeDepth := 60) +contextual only [bump_kept, emit_kept, flag_kept, journalReplay_kept, mainReset_kept,
      modStw_kept, put_kept, setPair_kept, takeOverBurst_kept, kept_ite, h]
theorem execLockstepMismatch_runs (pair : Fin 2) (memory : Bool) (h : Kept a s) : Runs a (execLockstepMismatch pair memory s) := by
  unfold execLockstepMismatch
  simp (maxDischargeDepth := 60) +contextual only [pairHung_kept, whileLive_runs, h, Runs.next, implies_true]
theorem execHeartbeatLost_runs (pair : Fin 2) (h : Kept a s) : Runs a (execHeartbeatLost pair s) := by
  unfold execHeartbeatLost
  simp (maxDischargeDepth := 60) +contextual only [pairHung_kept, whileLive_runs, h, Runs.next, implies_true]
theorem execDeferredReturn_runs (bay : Fin 64) (h : Kept a s) : Runs a (execDeferredReturn bay s) := by
  unfold execDeferredReturn
  simp (maxDischargeDepth := 60) +contextual only [handTo_kept, modGran_kept, whileLive_runs, h, Runs.next, runs_ite,
      implies_true, eq_self]
theorem feMarker_kept (h : Kept a s) : Kept a (State.feMarker s) := by
  unfold State.feMarker
  simp (maxDischargeDepth := 60) +contextual only [feRecord_kept, modCapture_kept, modFe_kept, put_kept, kept_ite, h]
theorem showSlew_kept (h : Kept a s) : Kept a (State.showSlew s) := by
  unfold State.showSlew
  simp (maxDischargeDepth := 60) +contextual only [flag_kept, putInt_kept, put_kept, when_kept, h, implies_true]
theorem nextMarker_kept (h : Kept a s) : Kept a (State.nextMarker s) := by
  unfold State.nextMarker; simp (maxDischargeDepth := 60) +contextual only [modClk_kept, modLtu_kept, recordMark_kept, h]
theorem sameMarkers_kept (n : Nat) (h : Kept a s) : Kept a (State.sameMarkers s n) := by
  unfold State.sameMarkers; simp (maxDischargeDepth := 60) +contextual only [modClk_kept, modLtu_kept, h]
theorem intervals_kept : ∀ (f n : Nat) {s : State}, Kept a s → Kept a (State.intervals s f n)
  | 0, _, _, h => by unfold State.intervals; exact sameMarkers_kept _ h
  | f + 1, 0, _, h => by unfold State.intervals; exact h
  | f + 1, n + 1, s, h => by
    unfold State.intervals
    exact intervals_kept f _ (sameMarkers_kept _ (nextMarker_kept h))
theorem ltuMarkers_kept (n : Nat) (h : Kept a s) : Kept a (State.ltuMarkers s n) := by
  unfold State.ltuMarkers; simp (maxDischargeDepth := 60) +contextual only [intervals_kept, showSlew_kept, showUnc_kept, h]
theorem modulate_kept (n : Nat) (h : Kept a s) : Kept a (State.modulate s n) := by
  unfold State.modulate; simp (maxDischargeDepth := 60) +contextual only [modClk_kept, h]
theorem rootMarkers_kept (n : Nat) (h : Kept a s) : Kept a (s.rootMarkers n) :=
  lanes_kept _ (modClk_kept _ (modulate_kept _ (put_kept _ _ h)))
theorem evenMarkers_kept (n : Nat) (h : Kept a s) : Kept a (State.evenMarkers s n) := by
  unfold State.evenMarkers
  simp (maxDischargeDepth := 60) +contextual only [feMarker_kept, ltuMarkers_kept, rootMarkers_kept, runLanes_kept, h]
theorem plainMarkers_kept (n : Nat) (h : Kept a s) : Kept a (State.plainMarkers s n) := by
  unfold State.plainMarkers; simp (maxDischargeDepth := 60) +contextual only [evenMarkers_kept, kept_ite, h]
theorem syncLand_kept (h : Kept a s) : Kept a (State.syncLand s) := by
  unfold State.syncLand; simp (maxDischargeDepth := 60) +contextual only [allOrigins_kept, bump_kept, flag_kept, modClk_kept, h]
theorem laneBegin_kept (l : Nat) (h : Kept a s) : Kept a (State.laneBegin s l) := by
  unfold State.laneBegin; simp (maxDischargeDepth := 60) +contextual only [laneAnswer_kept, newOrigin_kept, h]
theorem landDue_kept (h : Kept a s) : Kept a (State.landDue s) := by
  unfold State.landDue
  simp (maxDischargeDepth := 60) +contextual only [each_kept, laneBegin_kept, syncLand_kept, when_kept, kept_ite, h, implies_true]
theorem markersPass_kept : ∀ (f n : Nat) {s : State}, Kept a s → Kept a (State.markersPass f s n)
  | _, 0, _, h => by simpa [State.markersPass] using h
  | 0, n + 1, _, h => plainMarkers_kept _ h
  | f + 1, n + 1, _, h => markersPass_kept f _ (plainMarkers_kept _ (landDue_kept h))
theorem passMarkers_kept (n : Nat) (h : Kept a s) : Kept a (State.passMarkers s n) := by
  unfold State.passMarkers; simp (maxDischargeDepth := 60) +contextual only [markersPass_kept, h]
theorem execSyncLanded_runs (h : Kept a s) : Runs a (execSyncLanded s) := by
  unfold execSyncLanded
  refine whilePowered_runs h fun t k => ?_
  split <;> (try split) <;> simp (maxDischargeDepth := 60) +contextual only [passMarkers_kept, syncLand_kept, kept_ite, k,
      Runs.next]
theorem execBFreqAcquired_runs (demand : BitVec 16) (h : Kept a s) : Runs a (execBFreqAcquired demand s) := by
  unfold execBFreqAcquired
  simp (maxDischargeDepth := 60) +contextual only [flag_kept, modClk_kept, when_kept, whileLive_runs, h, Runs.next, runs_ite,
      implies_true]
theorem radioLocked_kept (h : Kept a s) : Kept a (State.radioLocked s) := by
  unfold State.radioLocked; simp (maxDischargeDepth := 60) +contextual only [put_kept, when_kept, h, implies_true]
theorem execBLockWindowEnd_runs (count : BitVec 12) (demand : BitVec 16) (h : Kept a s) : Runs a (execBLockWindowEnd count demand
    s) := by
  unfold execBLockWindowEnd
  refine whileLive_runs h fun t k => ?_
  dsimp only
  split <;> simp (maxDischargeDepth := 60) +contextual only [bLost_kept, flag_kept, modClk_kept, put_kept, radioLocked_kept,
      when_kept, k, Runs.next, runs_ite, implies_true]
theorem execGranaryInitDone_runs (h : Kept a s) : Runs a (execGranaryInitDone s) := by
  unfold execGranaryInitDone
  simp (maxDischargeDepth := 60) +contextual only [fabPresent_kept, flag_kept, modFab_kept, whileLive_runs, h, Runs.next,
      runs_ite, implies_true]
theorem execBayGo_runs (bay : Fin 64) (h : Kept a s) : Runs a (execBayGo bay s) := by
  unfold execBayGo; simp (maxDischargeDepth := 60) +contextual only [bayGo_kept, whileLive_runs, h, Runs.next, implies_true]
theorem execHandoverStart_runs (bay : Fin 64) (h : Kept a s) : Runs a (execHandoverStart bay s) := by
  unfold execHandoverStart
  refine whileLive_runs h fun t k => ?_
  split <;> simp (maxDischargeDepth := 60) +contextual only [modGran_kept, k, Runs.next, runs_ite, implies_true, eq_self]
theorem execGroupMembersWrite_runs (group : Fin 16) (value : Word) (h : Kept a s) : Runs a (execGroupMembersWrite group value s)
    := by
  unfold execGroupMembersWrite
  simp (maxDischargeDepth := 60) +contextual only [membersWrite_kept, whileLive_runs, h, Runs.next, implies_true]
theorem execGroupLeave_runs (group : Fin 16) (h : Kept a s) : Runs a (execGroupLeave group s) := by
  unfold execGroupLeave
  simp (maxDischargeDepth := 60) +contextual only [each_kept, modGran_kept, put_kept, whileLive_runs, h, Runs.next, runs_ite,
      implies_true, eq_self]
theorem scrub_kept (bay : Nat) (seg : Nat) (h : Kept a s) : Kept a (State.scrub s bay seg) := by
  unfold State.scrub; simp (maxDischargeDepth := 60) +contextual only [each_kept, granReadAt_kept, h, implies_true]
theorem execAuditSegmentStart_runs (h : Kept a s) : Runs a (execAuditSegmentStart s) := by
  unfold execAuditSegmentStart
  refine whileLive_runs h fun t k => ?_
  dsimp only
  (repeat' split) <;> simp (maxDischargeDepth := 60) +contextual only [auditVisited_kept, flag_kept, modGran_kept, put_kept,
      scrub_kept, k, Runs.next, implies_true, eq_self]
theorem execAuditCopyDone_runs (h : Kept a s) : Runs a (execAuditCopyDone s) := by
  have fill : ∀ {t : State} (f : GranState → Nat → Word48) (lo n : Nat), Kept a t →
      Kept a (t.modGran fun g => { g with words := sparseFill granDefault (f g) g.words lo n }) := fun f lo n k => modGran_kept'
      _ k sparseFill_wf id
  unfold execAuditCopyDone
  refine whileLive_runs h fun t k => ?_
  split
  · refine runs_ite ?_ (.next k)
    exact .next (fill (fun g a => sparseGet granDefault g.words _) _ _ (put_kept _ _ (scrub_kept _ _ k)))
  · exact .next k
theorem auditFault_kept (bay : Nat) (w : Nat) (h : Kept a s) : Kept a (State.auditFault s bay w) := by
  unfold State.auditFault; simp (maxDischargeDepth := 60) +contextual only [bump_kept, emit_kept, flag_kept, put_kept, h]
theorem execAuditTestDone_runs (faulty : List (Fin 4096)) (h : Kept a s) : Runs a (execAuditTestDone faulty s) := by
  unfold execAuditTestDone
  refine whileLive_runs h fun t k => ?_
  have e (b n : Nat) : Kept a (t.each faulty fun s w => s.auditFault b (n + w.val)) := each_kept _ (fun _ _ e => auditFault_kept
      _ _ e) _ k
  split
  · split
    · split
      · exact .next (auditVisited_kept (auditRelease_kept _ (modGran_kept' _ (e _ _) sparseFill_wf id)))
      · exact .next (put_kept _ _ (modGran_kept' _ (e _ _) sparseFill_wf id))
    · split
      · exact .next (modGran_kept _ (fun _ => rfl) (fun _ => rfl) (e _ _))
      · exact .next k
  · exact .next k
theorem execAuditWritebackDone_runs (h : Kept a s) : Runs a (execAuditWritebackDone s) := by
  have fill : ∀ {t : State} (f : Nat → Word48) (lo n : Nat), Kept a t →
      Kept a (t.modGran fun g => { g with words := sparseFill granDefault f g.words lo n }) := fun f lo n k => modGran_kept' _ k
      sparseFill_wf id
  have fill2 : ∀ {t : State} (f : GranState → Nat → Word48) (lo n : Nat), Kept a t →
      Kept a (t.modGran fun g => { g with words := sparseFill granDefault (f g) g.words lo n }) := fun f lo n k => modGran_kept'
      _ k sparseFill_wf id
  unfold execAuditWritebackDone
  refine whileLive_runs h fun t k => ?_
  dsimp only
  split
  · refine runs_ite ?_ (.next k)
    exact .next (auditVisited_kept (auditRelease_kept _ (fill2 (fun g a => sparseGet granDefault g.words _) _ _ k)))
  · exact .next k
theorem execFgCalDone_runs (h : Kept a s) : Runs a (execFgCalDone s) := by
  unfold execFgCalDone
  simp (maxDischargeDepth := 60) +contextual only [feRecord_kept, flag_kept, modFe_kept, nextFree_kept, put_kept, whileLive_runs,
      h, Runs.next, runs_ite, implies_true]
theorem execSampleRelease_runs (h : Kept a s) : Runs a (execSampleRelease s) := by
  unfold execSampleRelease
  simp (maxDischargeDepth := 60) +contextual only [feRecord_kept, modFe_kept, put_kept, whileLive_runs, h, Runs.next, runs_ite,
      implies_true]
theorem toCycle_kept (c : Nat) (h : Kept a s) : Kept a (State.toCycle s c) := by
  unfold State.toCycle; simp (maxDischargeDepth := 60) +contextual only [modLtu_kept, passMarkers_kept, kept_ite, h]
theorem overloadWindow_kept (clips : Nat) (h : Kept a s) : Kept a (State.overloadWindow s clips) := by
  unfold State.overloadWindow
  simp (maxDischargeDepth := 60) +contextual only [emit_kept, flag_kept, modFe_kept, put_kept, kept_ite, h]
theorem agcAsk_kept (code : Int) (h : Kept a s) : Kept a (State.agcAsk s code) := by
  unfold State.agcAsk; simp (maxDischargeDepth := 60) +contextual only [flag_kept, modFe_kept, put_kept, when_kept, h, implies_true]
theorem agcDecide_kept (w : AgcWindow) (h : Kept a s) : Kept a (State.agcDecide s w) := by
  unfold State.agcDecide
  simp (maxDischargeDepth := 60) +contextual only [agcAsk_kept, flag_kept, modFe_kept, put_kept, kept_ite, h]
theorem agcWindowOver_kept (w : AgcWindow) (h : Kept a s) : Kept a (State.agcWindowOver s w) := by
  unfold State.agcWindowOver
  dsimp only
  split <;> simp (maxDischargeDepth := 60) +contextual only [agcDecide_kept, flag_kept, modFe_kept, overloadWindow_kept,
      put_kept, when_kept, kept_ite, h, implies_true]
theorem execAgcWindowEnd_runs (h : Kept a s) : Runs a (execAgcWindowEnd s) := by
  unfold execAgcWindowEnd
  simp (maxDischargeDepth := 60) +contextual only [agcWindowOver_kept, toCycle_kept, whileLive_runs, h, Runs.next, runs_ite,
      implies_true]
theorem blankLevel_kept (active : Bool) (cycle : Nat) (h : Kept a s) : Kept a (State.blankLevel s active cycle) := by
  unfold State.blankLevel
  simp (maxDischargeDepth := 60) +contextual only [blankBegin_kept, blankRelease_kept, modFe_kept, kept_ite, h]
theorem execBlankAssert_runs (cycle : Fin 375) (h : Kept a s) : Runs a (execBlankAssert cycle s) := by
  unfold execBlankAssert
  simp (maxDischargeDepth := 60) +contextual only [blankLevel_kept, toCycle_kept, whileLive_runs, h, Runs.next, implies_true]
theorem execBlankDeassert_runs (cycle : Fin 375) (h : Kept a s) : Runs a (execBlankDeassert cycle s) := by
  unfold execBlankDeassert
  simp (maxDischargeDepth := 60) +contextual only [blankLevel_kept, toCycle_kept, whileLive_runs, h, Runs.next, implies_true]
theorem execBlankPostEnd_runs (h : Kept a s) : Runs a (execBlankPostEnd s) := by
  unfold execBlankPostEnd
  simp (maxDischargeDepth := 60) +contextual only [blankOver_kept, toCycle_kept, whileLive_runs, h, Runs.next, runs_ite,
      implies_true]
theorem blankCut_kept (h : Kept a s) : Kept a (State.blankCut s) := by
  unfold State.blankCut
  split <;> simp (maxDischargeDepth := 60) +contextual only [blankOver_kept, bump_kept, emit_kept, flag_kept, h]
theorem execBlankStuck_runs (h : Kept a s) : Runs a (execBlankStuck s) := by
  unfold execBlankStuck
  simp (maxDischargeDepth := 60) +contextual only [blankCut_kept, toCycle_kept, whileLive_runs, h, Runs.next, runs_ite,
      implies_true]
theorem execAntMeasure_runs (current : Fin 401) (h : Kept a s) : Runs a (execAntMeasure current s) := by
  unfold execAntMeasure
  simp (maxDischargeDepth := 60) +contextual only [antOff_kept, antState_kept, modFe_kept, put_kept, whileLive_runs, h,
      Runs.next, runs_ite, implies_true]
theorem execAntRetry_runs (h : Kept a s) : Runs a (execAntRetry s) := by
  unfold execAntRetry
  simp (maxDischargeDepth := 60) +contextual only [modFe_kept, whileLive_runs, h, Runs.next, runs_ite, implies_true]
theorem bgUpdate_kept (h : Kept a s) : Kept a (State.bgUpdate s) := by
  unfold State.bgUpdate
  simp (maxDischargeDepth := 60) +contextual only [bump_kept, feRecord_kept, modFe_kept, nextFree_kept, kept_ite, h]
theorem toMarker_kept (h : Kept a s) : Kept a (State.toMarker s) := by
  unfold State.toMarker; simp (maxDischargeDepth := 60) +contextual only [passMarkers_kept, kept_ite, h]
theorem execBgCalUpdate_runs (h : Kept a s) : Runs a (execBgCalUpdate s) := by
  unfold execBgCalUpdate
  simp (maxDischargeDepth := 60) +contextual only [bgUpdate_kept, toMarker_kept, whileLive_runs, h, Runs.next, runs_ite,
      implies_true]
theorem execLaneEnable_runs (lane : Fin 12) (h : Kept a s) : Runs a (execLaneEnable lane s) := by
  unfold execLaneEnable
  simp (maxDischargeDepth := 60) +contextual only [laneEnable_kept, whileLive_runs, h, Runs.next, implies_true]
theorem execLaneRestart_runs (lane : Fin 12) (h : Kept a s) : Runs a (execLaneRestart lane s) := by
  unfold execLaneRestart
  simp (maxDischargeDepth := 60) +contextual only [laneRestart_kept, whileLive_runs, h, Runs.next, implies_true]
theorem execLaneStart_runs (lane : Fin 12) (h : Kept a s) : Runs a (execLaneStart lane s) := by
  unfold execLaneStart
  simp (maxDischargeDepth := 60) +contextual only [laneBegin_kept, passMarkers_kept, whileLive_runs, kept_ite, h, Runs.next,
      runs_ite, implies_true]
theorem execLaneDisable_runs (lane : Fin 12) (h : Kept a s) : Runs a (execLaneDisable lane s) := by
  unfold execLaneDisable
  simp (maxDischargeDepth := 60) +contextual only [laneStop_kept, whileLive_runs, h, Runs.next, implies_true]
theorem execFilterRequest_runs (lane : Fin 12) (sel : Fin 64) (fadeLen : Fin 8192) (h : Kept a s) : Runs a (execFilterRequest
    lane sel fadeLen s) := by
  unfold execFilterRequest
  simp (maxDischargeDepth := 60) +contextual only [filterRequest_kept, whileLive_runs, h, Runs.next, implies_true]
theorem toFormed_kept (l : Nat) (k : Nat) (h : Kept a s) : Kept a (State.toFormed s l k) := by
  unfold State.toFormed; simp (maxDischargeDepth := 60) +contextual only [runLane_kept, toCycle_kept, h]
theorem execFadeStart_runs (lane : Fin 12) (h : Kept a s) : Runs a (execFadeStart lane s) := by
  unfold execFadeStart
  refine whileLive_runs h fun t k => ?_
  split <;> simp (maxDischargeDepth := 60) +contextual only [toFormed_kept, k, Runs.next, runs_ite]
theorem fadeShown_kept (l : Nat) (h : Kept a s) : Kept a (State.fadeShown s l) := by
  unfold State.fadeShown
  dsimp only
  split <;> simp (maxDischargeDepth := 60) +contextual only [fadeOver_kept, flag_kept, modLane_kept, showGd_kept, showLocks_kept,
      kept_ite, h]
theorem toLeft_kept (l : Nat) (k : Nat) (h : Kept a s) : Kept a (State.toLeft s l k) := by
  unfold State.toLeft; simp (maxDischargeDepth := 60) +contextual only [toFormed_kept, h]
theorem execFadeEnd_runs (lane : Fin 12) (h : Kept a s) : Runs a (execFadeEnd lane s) := by
  unfold execFadeEnd
  refine whileLive_runs h fun t k => ?_
  split <;> (try split) <;> simp (maxDischargeDepth := 60) +contextual only [fadeShown_kept, toLeft_kept, k, Runs.next]
theorem execBankWrite_runs (lane : Fin 12) (bank : Fin 2) (target : BankTarget) (value : Word) (h : Kept a s) : Runs a
    (execBankWrite lane bank target value s) := by
  unfold execBankWrite; simp (maxDischargeDepth := 60) +contextual only [bankWrite_kept, whileLive_runs, h, Runs.next, implies_true]
theorem execNotchDetect_runs (lane : Fin 12) (h : Kept a s) : Runs a (execNotchDetect lane s) := by
  unfold execNotchDetect
  refine whileLive_runs h fun t k => ?_
  dsimp only
  (repeat' split) <;> simp (maxDischargeDepth := 60) +contextual only [detectBlock_kept, toFormed_kept, k, Runs.next]
theorem execNotchEngage_runs (lane : Fin 12) (notch : Fin 4) (h : Kept a s) : Runs a (execNotchEngage lane notch s) := by
  unfold execNotchEngage
  refine whileLive_runs h fun t k => ?_
  split <;> simp (maxDischargeDepth := 60) +contextual only [notchEngage_kept, toFormed_kept, kept_ite, k, Runs.next, runs_ite]
theorem execNotchRelease_runs (lane : Fin 12) (notch : Fin 4) (h : Kept a s) : Runs a (execNotchRelease lane notch s) := by
  unfold execNotchRelease
  simp (maxDischargeDepth := 60) +contextual only [flag_kept, put_kept, whileLive_runs, h, Runs.next, runs_ite, implies_true]
theorem execPassLatch_runs (h : Kept a s) : Runs a (execPassLatch s) := by
  unfold execPassLatch; simp (maxDischargeDepth := 60) +contextual only [latchPass_kept, whileLive_runs, h, Runs.next, implies_true]
theorem execThrDisable_runs (h : Kept a s) : Runs a (execThrDisable s) := by
  unfold execThrDisable
  simp (maxDischargeDepth := 60) +contextual only [thrDisable_kept, whileLive_runs, h, Runs.next, implies_true]
theorem markerFrom_kept (t : Time) (h : Kept a s) : Kept a (State.markerFrom s t).2 := by
  unfold State.markerFrom; dsimp only; split <;> simp (maxDischargeDepth := 60) +contextual only [passMarkers_kept, h]
theorem roundTime_kept (p : ThrPass) (h : Kept a s) : ∀ r, s.roundTime p = some r → Kept a r.2 := by
  intro r e
  unfold State.roundTime at e
  split at e
  · cases e; exact h
  · split at e
    · obtain ⟨t, -, rfl⟩ := Option.map_eq_some_iff.mp e; exact h
    · cases e; exact markerFrom_kept _ h
theorem execRoundStart_runs (h : Kept a s) : Runs a (execRoundStart s) := by
  unfold execRoundStart
  refine whileLive_runs h fun t k => ?_
  split
  · exact .next k
  · split
    · exact .next k
    · split
      · exact .next k
      · rename_i r u e
        exact .next (showJobs_kept (showThr_kept (modThr_kept _ (put_kept _ _ (put_kept _ _ (put_kept _ _ (put_kept _ _
          (roundTime_kept _ k _ e))))))))
theorem blockDrain_kept (p : ThrPass) (h : Kept a s) : Kept a (State.blockDrain s p) := by
  unfold State.blockDrain; simp (maxDischargeDepth := 60) +contextual only [each_kept, toLeft_kept, kept_ite, h, implies_true]
theorem snapInput_kept (p : ThrPass) (lane : Nat) (from_ : Int) (till : Int) (h : Kept a s) : Kept a (State.snapInput s p lane
    from_ till).2 := by
  unfold State.snapInput; simp (maxDischargeDepth := 60) +contextual only [granReads_kept, h]
theorem jobInput_kept (p : ThrPass) (j : ThrJob) (h : Kept a s) : Kept a (State.jobInput s p j).2 := by
  unfold State.jobInput; split <;> simp (maxDischargeDepth := 60) +contextual only [snapInput_kept, h]
theorem usedBlock_kept (p : ThrPass) (j : ThrJob) (parts : List (List JobWord)) (h : Kept a s) : Kept a (State.usedBlock s p j
    parts).2 := by
  unfold State.usedBlock
  simp (maxDischargeDepth := 60) +contextual only [addCells_kept, flag_kept, nextFree_kept, when_kept, h, implies_true, eq_self]
theorem jobBlock_kept (p : ThrPass) (j : ThrJob) (h : Kept a s) : Kept a (State.jobBlock s p j).2 := by
  unfold State.jobBlock
  dsimp only
  (repeat' split) <;> simp (maxDischargeDepth := 60) +contextual only [bump_kept, endJob_kept, flag_kept, jobInput_kept,
      usedBlock_kept, h]
theorem roundBlocks_kept (p : ThrPass) : ∀ (l : List ThrJob) {s : State}, Kept a s → Kept a (s.roundBlocks p l).2
  | [], _, h => h
  | j :: l, s, h => by
    unfold State.roundBlocks
    refine roundBlocks_kept p l ?_
    split
    · exact jobBlock_kept _ _ h
    · exact h
theorem execBlockEnd_runs (h : Kept a s) : Runs a (execBlockEnd s) := by
  unfold execBlockEnd
  refine whileLive_runs h fun t k => ?_
  dsimp only
  (repeat' split) <;> simp (maxDischargeDepth := 60) +contextual only [blockDrain_kept, modThr_kept, roundBlocks_kept,
      showJobs_kept, k, Runs.next]
theorem execRoundDone_runs (h : Kept a s) : Runs a (execRoundDone s) := by
  unfold execRoundDone
  refine whileLive_runs h fun t k => ?_
  split <;> simp (maxDischargeDepth := 60) +contextual only [dspRaise_kept, each_kept, flag_kept, modThr_kept, nextPass_kept,
      passOver_kept, passWaits_kept, put_kept, k, Runs.next, runs_ite, implies_true]
theorem readSums_kept (j : ThrJob) (h : Kept a s) : Kept a (State.readSums s j).2 := by
  unfold State.readSums; simp (maxDischargeDepth := 60) +contextual only [granReads_kept, h]
theorem searchJob_kept (j : ThrJob) (h : Kept a s) : Kept a (State.searchJob s j).2 := by
  unfold State.searchJob; simp (maxDischargeDepth := 60) +contextual only [nextFree_kept, readSums_kept, h]
theorem searchRound_kept : ∀ (l : List ThrJob) {s : State}, Kept a s → Kept a (s.searchRound l)
  | [], _, h => h
  | _ :: l, _, h => searchRound_kept l (modThr_kept _ (searchJob_kept _ h))
theorem snapReads_kept (first : Nat) : ∀ (n w : Nat) {s : State}, Kept a s → Kept a (s.snapReads first w n).2
  | 0, _, _, h => h
  | n + 1, w, _, h => snapReads_kept first n (w + 1) (granAccess_kept _ _ _ _ h)
theorem headerAt_kept (first : Nat) (h : Kept a s) : Kept a (State.headerAt s first).2 := by
  unfold State.headerAt; simp (maxDischargeDepth := 60) +contextual only [snapReads_kept, h]
theorem sendReport_kept (v : NavSolution) (b : ReportBody) (h : Kept a s) : Kept a (State.sendReport s v b) := by
  unfold State.sendReport
  simp (maxDischargeDepth := 60) +contextual only [emit_kept, modNav_kept, tally_kept, when_kept, kept_ite, h, implies_true]
theorem snapshotFix_kept (id : Nat) (q : OpenReq) (h : Kept a s) : Kept a (State.snapshotFix s id q) := by
  unfold State.snapshotFix
  split <;> simp (maxDischargeDepth := 60) +contextual only [answer_kept, headerAt_kept, modSnap_kept, sendReport_kept, h]
theorem execPeakSearchDone_runs (h : Kept a s) : Runs a (execPeakSearchDone s) := by
  unfold execPeakSearchDone
  refine whileLive_runs h fun t k => ?_
  dsimp only
  split <;> simp (maxDischargeDepth := 60) +contextual only [modThr_kept, searchRound_kept, snapshotFix_kept, k, Runs.next,
      runs_ite]
theorem execChannelStart_runs (channel : Fin 512) (h : Kept a s) : Runs a (execChannelStart channel s) := by
  unfold execChannelStart
  simp (maxDischargeDepth := 60) +contextual only [chanStart_kept, whileLive_runs, h, Runs.next, implies_true]
theorem enterLock_kept (c : Nat) (lock : Nat) (h : Kept a s) : Kept a (State.enterLock s c lock) := by
  unfold State.enterLock; simp (maxDischargeDepth := 60) +contextual only [setLock_kept, h]
theorem chanRun_kept (c : Nat) (h : Kept a s) : Kept a (State.chanRun s c) := by
  unfold State.chanRun
  simp (maxDischargeDepth := 60) +contextual only [each_kept, enterLock_kept, flag_kept, put_kept, setChan_kept, showSheaf_kept,
      kept_ite, h, implies_true, eq_self]
theorem execChannelRun_runs (channel : Fin 512) (h : Kept a s) : Runs a (execChannelRun channel s) := by
  unfold execChannelRun
  simp (maxDischargeDepth := 60) +contextual only [chanRun_kept, whileLive_runs, h, Runs.next, runs_ite, implies_true]
theorem execChannelStop_runs (channel : Fin 512) (h : Kept a s) : Runs a (execChannelStop channel s) := by
  unfold execChannelStop
  simp (maxDischargeDepth := 60) +contextual only [chanStop_kept, whileLive_runs, h, Runs.next, implies_true]
theorem toBlock_kept (c : Nat) : ∀ (n : Nat) {s : State}, Kept a s → Kept a (State.toBlock c n s)
  | 0, _, h => h
  | n + 1, _, h => kept_ite h (toBlock_kept c n (toLeft_kept _ _ h))
theorem execSweepEnd_runs (channel : Fin 512) (h : Kept a s) : Runs a (execSweepEnd channel s) := by
  unfold execSweepEnd
  simp (maxDischargeDepth := 60) +contextual only [sweepTo_kept, toBlock_kept, whileLive_runs, kept_ite, h, Runs.next, runs_ite,
      implies_true]
theorem execLoopUpdate_runs (h : Kept a s) : Runs a (execLoopUpdate s) := by
  unfold execLoopUpdate
  refine whileLive_runs h fun t k => ?_
  dsimp only
  (repeat' split) <;> simp (maxDischargeDepth := 60) +contextual only [bump_kept, modShf_kept, setChan_kept, k, Runs.next]
theorem execLoopUpdateApply_runs (channel : Fin 512) (h : Kept a s) : Runs a (execLoopUpdateApply channel s) := by
  unfold execLoopUpdateApply
  simp (maxDischargeDepth := 60) +contextual only [blockBegins_kept, chanDoes_kept, whileLive_runs, h, Runs.next, runs_ite,
      implies_true]
theorem execCodeRamWrite_runs (sheaf : Fin 64) (word : Fin 2048) (value : Word) (h : Kept a s) : Runs a (execCodeRamWrite sheaf
    word value s) := by
  unfold execCodeRamWrite
  simp (maxDischargeDepth := 60) +contextual only [codeRamWrite_kept, whileLive_runs, h, Runs.next, implies_true]
theorem execSheafDisable_runs (h : Kept a s) : Runs a (execSheafDisable s) := by
  unfold execSheafDisable
  simp (maxDischargeDepth := 60) +contextual only [shfDisable_kept, whileLive_runs, h, Runs.next, implies_true]
theorem refTicks_kept (n : Nat) (h : Kept a s) : Kept a (State.refTicks s n) := by
  unfold State.refTicks; simp (maxDischargeDepth := 60) +contextual only [modLtu_kept, showUnc_kept, h]
theorem tickTo_kept (t : Time) (h : Kept a s) : Kept a (State.tickTo s t) := by
  unfold State.tickTo
  simp (maxDischargeDepth := 60) +contextual only [refTicks_kept, rtcTicks_kept, setRtc_kept, showUnc_kept, kept_ite, h]
theorem advanceTo_kept (t : Time) (h : Kept a s) : Kept a (State.advanceTo s t) := by
  unfold State.advanceTo; simp (maxDischargeDepth := 60) +contextual only [modLtu_kept, passMarkers_kept, tickTo_kept, kept_ite, h]
theorem execLostTimeout_runs (channel : Fin 512) (h : Kept a s) : Runs a (execLostTimeout channel s) := by
  unfold execLostTimeout
  simp (maxDischargeDepth := 60) +contextual only [advanceTo_kept, chanStop_kept, emit_kept, whileLive_runs, kept_ite, h,
      Runs.next, runs_ite, implies_true]
theorem settle_kept (n : Nat) (h : Kept a s) : Kept a (State.settle s n) := by
  unfold State.settle; split <;> simp (maxDischargeDepth := 60) +contextual only [doubleFault_kept, h]
theorem idleFor_kept (n k : Nat) (h : Kept a s) : Kept a (State.idleFor s n k) := by
  unfold State.idleFor; simp (maxDischargeDepth := 60) +contextual only [modCore_kept, h]
theorem haltNow_kept (n : Nat) (h : Kept a s) : Kept a (State.haltNow s n) := by
  unfold State.haltNow; split <;> simp (maxDischargeDepth := 60) +contextual only [idleFor_kept, modCore_kept, h]
theorem afterSlots_kept (n : Nat) (h : Kept a s) : Kept a (State.afterSlots s n) := by
  unfold State.afterSlots
  dsimp only
  split <;> simp (maxDischargeDepth := 60) +contextual only [haltNow_kept, modCore_kept, put_kept, h]
theorem refreshReturn_kept (n : Nat) (h : Kept a s) : Kept a (State.refreshReturn s n) := by
  unfold State.refreshReturn
  split <;> first | exact h | exact modCore_kept _ _ h
theorem slotDone_kept (n : Nat) (wasSlot : Bool) (h : Kept a s) : Kept a (State.slotDone s n wasSlot) := by
  unfold State.slotDone; simp (maxDischargeDepth := 60) +contextual only [afterSlots_kept, modCore_kept, refreshReturn_kept,
      kept_ite, h]
theorem raiseAt_kept (n : Nat) (v : Nat) (cycle : Nat) (pc : Nat) (addr : Nat) (h : Kept a s) : Kept a (State.raiseAt s n v cycle
    pc addr) := by
  unfold State.raiseAt; simp (maxDischargeDepth := 60) +contextual only [haltWake_kept, modCore_kept, put_kept, kept_ite, h]
theorem branchTo_kept (n : Nat) (t : Nat) (leaves : Bool) (h : Kept a s) : Kept a (State.branchTo s n t leaves) := by
  unfold State.branchTo; simp (maxDischargeDepth := 60) +contextual only [modCore_kept, h]
theorem dspControlEffect_kept (n : Nat) (w : Nat) (pc : Nat) (h : Kept a s) : Kept a (State.dspControlEffect s n w pc) := by
  unfold State.dspControlEffect
  (try dsimp only)
  (repeat' (first | with_reducible refine kept_ite ?_ ?_ | split))
  all_goals first
    | with_reducible exact h
    | simp (maxDischargeDepth := 60) +contextual only [branchTo_kept, modCore_kept, raiseAt_kept, h]
theorem progPut_kept (n k v : Nat) (h : Kept a s) : Kept a (s.progPut n k v) := modDsp_kept' _ h id id sparseSet_wf
theorem progRead_kept (n : Nat) (x2 : Nat) (pc : Nat) (cycle : Nat) (h : Kept a s) : Kept a (State.progRead s n x2 pc cycle).2 := by
  unfold State.progRead
  dsimp only
  (repeat' split) <;> simp (maxDischargeDepth := 60) +contextual only [progPut_kept, raiseAt_kept, h]
theorem dspStart_kept (n : Nat) (w : Nat) (pc : Nat) (more : Nat) (h : Kept a s) : Kept a (State.dspStart s n w pc more).2 := by
  unfold State.dspStart; dsimp only; split <;> simp (maxDischargeDepth := 60) +contextual only [modCore_kept, progRead_kept, h]
theorem stallAt_kept (n : Nat) (k : DspStall) (fl : DspFlight) (h : Kept a s) : Kept a (State.stallAt s n k fl) := by
  unfold State.stallAt; simp (maxDischargeDepth := 60) +contextual only [modCore_kept, h]
theorem xyPut_kept (y : Bool) (n k v : Nat) (h : Kept a s) : Kept a (s.xyPut y n k v) := by
  unfold State.xyPut
  generalize BitVec.ofNat 26 (eccStore 20 v) = w
  cases y
  · simp only [Bool.false_eq_true, if_false]
    exact modDsp_kept' _ h sparseSet_wf id id
  · simp only [if_true]
    exact modDsp_kept' _ h id sparseSet_wf id
theorem xyRead_kept (y : Bool) (n : Nat) (x3 : Nat) (pc : Nat) (cycle : Nat) (h : Kept a s) : Kept a (State.xyRead s y n x3 pc
    cycle).2 := by
  unfold State.xyRead; dsimp only; (repeat' split) <;> simp (maxDischargeDepth := 60) +contextual only [raiseAt_kept, xyPut_kept, h]
theorem showBusy_kept (n : Nat) (h : Kept a s) : Kept a (State.showBusy s n) := by
  unfold State.showBusy; simp (maxDischargeDepth := 60) +contextual only [each_kept, put_kept, h, implies_true]
theorem dspMoveStep_kept (n : Nat) (y : Bool) (fl : DspFlight) (h : Kept a s) : Kept a (State.dspMoveStep s n y fl).2 := by
  unfold State.dspMoveStep
  dsimp only
  (repeat' split) <;> simp (maxDischargeDepth := 60) +contextual only [ioRead_kept, ioWrite_kept, modCore_kept, raiseAt_kept,
      showBusy_kept, stallAt_kept, xyPut_kept, xyRead_kept, h]
theorem land_kept (n : Nat) (fl : DspFlight) (h : Kept a s) : Kept a (State.land s n fl) := by
  unfold State.land; simp (maxDischargeDepth := 60) +contextual only [modCore_kept, nextFree_kept, kept_ite, h]
theorem dspFly_kept (n : Nat) (fl : DspFlight) (h : Kept a s) : Kept a (State.dspFly s n fl).2 := by
  unfold State.dspFly
  dsimp only
  (repeat' split) <;> simp (maxDischargeDepth := 60) +contextual only [dspMoveStep_kept, land_kept, h]
theorem dspExecute_kept (n : Nat) (w : Nat) (pc : Nat) (more : Nat) (h : Kept a s) : Kept a (State.dspExecute s n w pc more).2 := by
  unfold State.dspExecute
  dsimp only
  (repeat' split) <;> simp (maxDischargeDepth := 60) +contextual only [dspControlEffect_kept, dspFly_kept, dspStart_kept,
      stallAt_kept, h]
theorem dspRepeat_kept : ∀ (k : Nat) {s : State} (n : Nat) (fl : DspFlight) (slot : Bool), Kept a s → Kept a (State.dspRepeat k s
    n fl slot)
  | 0, _, _, _, _, h => h
  | k + 1, s, n, fl, slot, h => by
    unfold State.dspRepeat
    dsimp only
    refine kept_ite (slotDone_kept _ _ (kept_ite (modCore_kept _ _ h) h)) ?_
    split
    · exact dspRepeat_kept k n _ _ (modCore_kept _ _ (dspExecute_kept _ _ _ _ (modCore_kept _ _ (slotDone_kept _ _
        (kept_ite (modCore_kept _ _ h) h)))))
    · exact modCore_kept _ _ (dspExecute_kept _ _ _ _ (modCore_kept _ _ (slotDone_kept _ _ (kept_ite (modCore_kept _ _ h) h))))
theorem dspFetch_kept (n : Nat) (w : Nat) (h : Kept a s) : Kept a (State.dspFetch s n w) := by
  unfold State.dspFetch
  dsimp only
  (repeat' split) <;> simp (maxDischargeDepth := 60) +contextual only [dspExecute_kept, dspRepeat_kept, modCore_kept,
      raiseAt_kept, slotDone_kept, h]
theorem moveAfterEntry_kept (n : Nat) (l : DspLast) (y : Bool) (h : Kept a s) : Kept a (State.moveAfterEntry s n l y) := by
  unfold State.moveAfterEntry
  dsimp only
  (repeat' split) <;> first | exact h | exact modCore_kept _ _ h | exact setWord_kept _ _ h
theorem afterEntry_kept (n slot : Nat) (h : Kept a s) : Kept a (State.afterEntry s n slot) := by
  unfold State.afterEntry
  dsimp only
  (repeat' split) <;> simp (maxDischargeDepth := 60) +contextual only [modCore_kept, moveAfterEntry_kept, h]
theorem unraise_kept (n v : Nat) (f : DspRaised) (h : Kept a s) : Kept a (State.unraise s n v f) := by
  unfold State.unraise; simp (maxDischargeDepth := 60) +contextual only [modCore_kept, put_kept, kept_ite, h]
theorem enterVector_kept (n : Nat) (v : Nat) (h : Kept a s) : Kept a (State.enterVector s n v) := by
  unfold State.enterVector
  dsimp only
  (repeat' split) <;> simp (maxDischargeDepth := 60) +contextual only [afterEntry_kept, doubleFault_kept, dspRaise_kept, flag_kept,
      modCore_kept, put_kept, unraise_kept, h]
theorem dspSlot_kept (n : Nat) (w : Nat) (h : Kept a s) : Kept a (State.dspSlot s n w) := by
  unfold State.dspSlot
  dsimp only
  (repeat' split) <;> simp (maxDischargeDepth := 60) +contextual only [dspFetch_kept, enterVector_kept, holdCore_kept,
      modCore_kept, slotDone_kept, h]
theorem dspIssue_kept (n : Nat) (w : Nat) (h : Kept a s) : Kept a (State.dspIssue s n w) := by
  unfold State.dspIssue; simp (maxDischargeDepth := 60) +contextual only [dspSlot_kept, modCore_kept, settle_kept, kept_ite, h]
theorem execNop_runs (core : Fin 16) (h : Kept a s) : Runs a (execNop core s) := by
  unfold execNop; simp (maxDischargeDepth := 60) +contextual only [dspIssue_kept, h, Runs.next]
theorem execBr_runs (core : Fin 16) (cc : Fin 16) (target : Fin 16384) (h : Kept a s) : Runs a (execBr core cc target s) := by
  unfold execBr; simp (maxDischargeDepth := 60) +contextual only [dspIssue_kept, h, Runs.next]
theorem execCall_runs (core : Fin 16) (cc : Fin 16) (target : Fin 16384) (h : Kept a s) : Runs a (execCall core cc target s) := by
  unfold execCall; simp (maxDischargeDepth := 60) +contextual only [dspIssue_kept, h, Runs.next]
theorem execRet_runs (core : Fin 16) (cc : Fin 16) (h : Kept a s) : Runs a (execRet core cc s) := by
  unfold execRet; simp (maxDischargeDepth := 60) +contextual only [dspIssue_kept, h, Runs.next]
theorem execReti_runs (core : Fin 16) (h : Kept a s) : Runs a (execReti core s) := by
  unfold execReti; simp (maxDischargeDepth := 60) +contextual only [dspIssue_kept, h, Runs.next]
theorem execBrr_runs (core : Fin 16) (cc : Fin 16) (k : Fin 8) (h : Kept a s) : Runs a (execBrr core cc k s) := by
  unfold execBrr; simp (maxDischargeDepth := 60) +contextual only [dspIssue_kept, h, Runs.next]
theorem execLoop_runs (core : Fin 16) (n : Fin 65536) (last : Fin 16384) (h : Kept a s) : Runs a (execLoop core n last s) := by
  unfold execLoop; simp (maxDischargeDepth := 60) +contextual only [dspIssue_kept, h, Runs.next]
theorem execLoopr_runs (core : Fin 16) (src : Fin 128) (last : Fin 16384) (h : Kept a s) : Runs a (execLoopr core src last s) := by
  unfold execLoopr; simp (maxDischargeDepth := 60) +contextual only [dspIssue_kept, h, Runs.next]
theorem execRpt_runs (core : Fin 16) (n1 : Fin 256) (h : Kept a s) : Runs a (execRpt core n1 s) := by
  unfold execRpt; simp (maxDischargeDepth := 60) +contextual only [dspIssue_kept, h, Runs.next]
theorem execRptr_runs (core : Fin 16) (src : Fin 128) (h : Kept a s) : Runs a (execRptr core src s) := by
  unfold execRptr; simp (maxDischargeDepth := 60) +contextual only [dspIssue_kept, h, Runs.next]
theorem execRot_runs (core : Fin 16) (h : Kept a s) : Runs a (execRot core s) := by
  unfold execRot; simp (maxDischargeDepth := 60) +contextual only [dspIssue_kept, h, Runs.next]
theorem execHalt_runs (core : Fin 16) (h : Kept a s) : Runs a (execHalt core s) := by
  unfold execHalt; simp (maxDischargeDepth := 60) +contextual only [dspIssue_kept, h, Runs.next]
theorem execMv_runs (core : Fin 16) (mv : Moves) (h : Kept a s) : Runs a (execMv core mv s) := by
  unfold execMv; simp (maxDischargeDepth := 60) +contextual only [dspIssue_kept, h, Runs.next]
theorem execMov_runs (core : Fin 16) (dst : Fin 128) (src : Fin 128) (mv : Moves) (h : Kept a s) : Runs a (execMov core dst src
    mv s) := by
  unfold execMov; simp (maxDischargeDepth := 60) +contextual only [dspIssue_kept, h, Runs.next]
theorem execLdi_runs (core : Fin 16) (dst : Fin 128) (imm : Word20) (h : Kept a s) : Runs a (execLdi core dst imm s) := by
  unfold execLdi; simp (maxDischargeDepth := 60) +contextual only [dspIssue_kept, h, Runs.next]
theorem execAdd_runs (core : Fin 16) (dd : Fin 16) (ds : Fin 16) (dt : Fin 16) (mv : Moves) (h : Kept a s) : Runs a (execAdd core
    dd ds dt mv s) := by
  unfold execAdd; simp (maxDischargeDepth := 60) +contextual only [dspIssue_kept, h, Runs.next]
theorem execSub_runs (core : Fin 16) (dd : Fin 16) (ds : Fin 16) (dt : Fin 16) (mv : Moves) (h : Kept a s) : Runs a (execSub core
    dd ds dt mv s) := by
  unfold execSub; simp (maxDischargeDepth := 60) +contextual only [dspIssue_kept, h, Runs.next]
theorem execAdds_runs (core : Fin 16) (dd : Fin 16) (ds : Fin 16) (dt : Fin 16) (mv : Moves) (h : Kept a s) : Runs a (execAdds
    core dd ds dt mv s) := by
  unfold execAdds; simp (maxDischargeDepth := 60) +contextual only [dspIssue_kept, h, Runs.next]
theorem execSubs_runs (core : Fin 16) (dd : Fin 16) (ds : Fin 16) (dt : Fin 16) (mv : Moves) (h : Kept a s) : Runs a (execSubs
    core dd ds dt mv s) := by
  unfold execSubs; simp (maxDischargeDepth := 60) +contextual only [dspIssue_kept, h, Runs.next]
theorem execAnd_runs (core : Fin 16) (dd : Fin 16) (ds : Fin 16) (dt : Fin 16) (mv : Moves) (h : Kept a s) : Runs a (execAnd core
    dd ds dt mv s) := by
  unfold execAnd; simp (maxDischargeDepth := 60) +contextual only [dspIssue_kept, h, Runs.next]
theorem execOr_runs (core : Fin 16) (dd : Fin 16) (ds : Fin 16) (dt : Fin 16) (mv : Moves) (h : Kept a s) : Runs a (execOr core
    dd ds dt mv s) := by
  unfold execOr; simp (maxDischargeDepth := 60) +contextual only [dspIssue_kept, h, Runs.next]
theorem execXor_runs (core : Fin 16) (dd : Fin 16) (ds : Fin 16) (dt : Fin 16) (mv : Moves) (h : Kept a s) : Runs a (execXor core
    dd ds dt mv s) := by
  unfold execXor; simp (maxDischargeDepth := 60) +contextual only [dspIssue_kept, h, Runs.next]
theorem execNot_runs (core : Fin 16) (dd : Fin 16) (ds : Fin 16) (mv : Moves) (h : Kept a s) : Runs a (execNot core dd ds mv s)
    := by
  unfold execNot; simp (maxDischargeDepth := 60) +contextual only [dspIssue_kept, h, Runs.next]
theorem execNeg_runs (core : Fin 16) (dd : Fin 16) (ds : Fin 16) (mv : Moves) (h : Kept a s) : Runs a (execNeg core dd ds mv s)
    := by
  unfold execNeg; simp (maxDischargeDepth := 60) +contextual only [dspIssue_kept, h, Runs.next]
theorem execAbs_runs (core : Fin 16) (dd : Fin 16) (ds : Fin 16) (mv : Moves) (h : Kept a s) : Runs a (execAbs core dd ds mv s)
    := by
  unfold execAbs; simp (maxDischargeDepth := 60) +contextual only [dspIssue_kept, h, Runs.next]
theorem execCmp_runs (core : Fin 16) (ds : Fin 16) (dt : Fin 16) (mv : Moves) (h : Kept a s) : Runs a (execCmp core ds dt mv s)
    := by
  unfold execCmp; simp (maxDischargeDepth := 60) +contextual only [dspIssue_kept, h, Runs.next]
theorem execAddi_runs (core : Fin 16) (dd : Fin 16) (ds : Fin 16) (imm : BitVec 6) (mv : Moves) (h : Kept a s) : Runs a (execAddi
    core dd ds imm mv s) := by
  unfold execAddi; simp (maxDischargeDepth := 60) +contextual only [dspIssue_kept, h, Runs.next]
theorem execAsl_runs (core : Fin 16) (dd : Fin 16) (ds : Fin 16) (k : Fin 64) (mv : Moves) (h : Kept a s) : Runs a (execAsl core
    dd ds k mv s) := by
  unfold execAsl; simp (maxDischargeDepth := 60) +contextual only [dspIssue_kept, h, Runs.next]
theorem execAsr_runs (core : Fin 16) (dd : Fin 16) (ds : Fin 16) (k : Fin 64) (mv : Moves) (h : Kept a s) : Runs a (execAsr core
    dd ds k mv s) := by
  unfold execAsr; simp (maxDischargeDepth := 60) +contextual only [dspIssue_kept, h, Runs.next]
theorem execLsr_runs (core : Fin 16) (dd : Fin 16) (ds : Fin 16) (k : Fin 64) (mv : Moves) (h : Kept a s) : Runs a (execLsr core
    dd ds k mv s) := by
  unfold execLsr; simp (maxDischargeDepth := 60) +contextual only [dspIssue_kept, h, Runs.next]
theorem execNrm_runs (core : Fin 16) (dd : Fin 16) (ds : Fin 16) (mv : Moves) (h : Kept a s) : Runs a (execNrm core dd ds mv s)
    := by
  unfold execNrm; simp (maxDischargeDepth := 60) +contextual only [dspIssue_kept, h, Runs.next]
theorem execMul_runs (core : Fin 16) (aa : Fin 4) (ds : Fin 16) (dt : Fin 16) (third : Bool) (mv : Moves) (h : Kept a s) : Runs a
    (execMul core aa ds dt third mv s) := by
  unfold execMul; simp (maxDischargeDepth := 60) +contextual only [dspIssue_kept, h, Runs.next]
theorem execMac_runs (core : Fin 16) (aa : Fin 4) (ds : Fin 16) (dt : Fin 16) (third : Bool) (mv : Moves) (h : Kept a s) : Runs a
    (execMac core aa ds dt third mv s) := by
  unfold execMac; simp (maxDischargeDepth := 60) +contextual only [dspIssue_kept, h, Runs.next]
theorem execNmac_runs (core : Fin 16) (aa : Fin 4) (ds : Fin 16) (dt : Fin 16) (third : Bool) (mv : Moves) (h : Kept a s) : Runs
    a (execNmac core aa ds dt third mv s) := by
  unfold execNmac; simp (maxDischargeDepth := 60) +contextual only [dspIssue_kept, h, Runs.next]
theorem execMulm_runs (core : Fin 16) (aa : Fin 4) (ds : Fin 16) (dt : Fin 16) (third : Bool) (mv : Moves) (h : Kept a s) : Runs
    a (execMulm core aa ds dt third mv s) := by
  unfold execMulm; simp (maxDischargeDepth := 60) +contextual only [dspIssue_kept, h, Runs.next]
theorem execMacm_runs (core : Fin 16) (aa : Fin 4) (ds : Fin 16) (dt : Fin 16) (third : Bool) (mv : Moves) (h : Kept a s) : Runs
    a (execMacm core aa ds dt third mv s) := by
  unfold execMacm; simp (maxDischargeDepth := 60) +contextual only [dspIssue_kept, h, Runs.next]
theorem execMacu_runs (core : Fin 16) (aa : Fin 4) (ds : Fin 16) (dt : Fin 16) (third : Bool) (mv : Moves) (h : Kept a s) : Runs
    a (execMacu core aa ds dt third mv s) := by
  unfold execMacu; simp (maxDischargeDepth := 60) +contextual only [dspIssue_kept, h, Runs.next]
theorem execClr_runs (core : Fin 16) (aa : Fin 4) (mv : Moves) (h : Kept a s) : Runs a (execClr core aa mv s) := by
  unfold execClr; simp (maxDischargeDepth := 60) +contextual only [dspIssue_kept, h, Runs.next]
theorem execAadd_runs (core : Fin 16) (aa : Fin 4) (ab : Fin 4) (mv : Moves) (h : Kept a s) : Runs a (execAadd core aa ab mv s)
    := by
  unfold execAadd; simp (maxDischargeDepth := 60) +contextual only [dspIssue_kept, h, Runs.next]
theorem execAsub_runs (core : Fin 16) (aa : Fin 4) (ab : Fin 4) (mv : Moves) (h : Kept a s) : Runs a (execAsub core aa ab mv s)
    := by
  unfold execAsub; simp (maxDischargeDepth := 60) +contextual only [dspIssue_kept, h, Runs.next]
theorem execAmov_runs (core : Fin 16) (aa : Fin 4) (ab : Fin 4) (mv : Moves) (h : Kept a s) : Runs a (execAmov core aa ab mv s)
    := by
  unfold execAmov; simp (maxDischargeDepth := 60) +contextual only [dspIssue_kept, h, Runs.next]
theorem execAneg_runs (core : Fin 16) (aa : Fin 4) (ab : Fin 4) (mv : Moves) (h : Kept a s) : Runs a (execAneg core aa ab mv s)
    := by
  unfold execAneg; simp (maxDischargeDepth := 60) +contextual only [dspIssue_kept, h, Runs.next]
theorem execAabs_runs (core : Fin 16) (aa : Fin 4) (ab : Fin 4) (mv : Moves) (h : Kept a s) : Runs a (execAabs core aa ab mv s)
    := by
  unfold execAabs; simp (maxDischargeDepth := 60) +contextual only [dspIssue_kept, h, Runs.next]
theorem execAshl_runs (core : Fin 16) (aa : Fin 4) (ab : Fin 4) (k : Fin 64) (mv : Moves) (h : Kept a s) : Runs a (execAshl core
    aa ab k mv s) := by
  unfold execAshl; simp (maxDischargeDepth := 60) +contextual only [dspIssue_kept, h, Runs.next]
theorem execAshr_runs (core : Fin 16) (aa : Fin 4) (ab : Fin 4) (k : Fin 64) (mv : Moves) (h : Kept a s) : Runs a (execAshr core
    aa ab k mv s) := by
  unfold execAshr; simp (maxDischargeDepth := 60) +contextual only [dspIssue_kept, h, Runs.next]
theorem execExt_runs (core : Fin 16) (dd : Fin 16) (ab : Fin 4) (k : Fin 64) (mv : Moves) (h : Kept a s) : Runs a (execExt core
    dd ab k mv s) := by
  unfold execExt; simp (maxDischargeDepth := 60) +contextual only [dspIssue_kept, h, Runs.next]
theorem execDep_runs (core : Fin 16) (aa : Fin 4) (ds : Fin 16) (k : Fin 64) (mv : Moves) (h : Kept a s) : Runs a (execDep core
    aa ds k mv s) := by
  unfold execDep; simp (maxDischargeDepth := 60) +contextual only [dspIssue_kept, h, Runs.next]
theorem execAcmp_runs (core : Fin 16) (aa : Fin 4) (ab : Fin 4) (mv : Moves) (h : Kept a s) : Runs a (execAcmp core aa ab mv s)
    := by
  unfold execAcmp; simp (maxDischargeDepth := 60) +contextual only [dspIssue_kept, h, Runs.next]
theorem execCmul_runs (core : Fin 16) (aa : Fin 4) (ds : Fin 16) (dt : Fin 16) (third : Bool) (mv : Moves) (h : Kept a s) : Runs
    a (execCmul core aa ds dt third mv s) := by
  unfold execCmul; simp (maxDischargeDepth := 60) +contextual only [dspIssue_kept, h, Runs.next]
theorem execCmac_runs (core : Fin 16) (aa : Fin 4) (ds : Fin 16) (dt : Fin 16) (third : Bool) (mv : Moves) (h : Kept a s) : Runs
    a (execCmac core aa ds dt third mv s) := by
  unfold execCmac; simp (maxDischargeDepth := 60) +contextual only [dspIssue_kept, h, Runs.next]
theorem execCmacc_runs (core : Fin 16) (aa : Fin 4) (ds : Fin 16) (dt : Fin 16) (third : Bool) (mv : Moves) (h : Kept a s) : Runs
    a (execCmacc core aa ds dt third mv s) := by
  unfold execCmacc; simp (maxDischargeDepth := 60) +contextual only [dspIssue_kept, h, Runs.next]
theorem execCnmac_runs (core : Fin 16) (aa : Fin 4) (ds : Fin 16) (dt : Fin 16) (third : Bool) (mv : Moves) (h : Kept a s) : Runs
    a (execCnmac core aa ds dt third mv s) := by
  unfold execCnmac; simp (maxDischargeDepth := 60) +contextual only [dspIssue_kept, h, Runs.next]
theorem execCpk_runs (core : Fin 16) (dd : Fin 16) (ab : Fin 4) (k : Fin 64) (mv : Moves) (h : Kept a s) : Runs a (execCpk core
    dd ab k mv s) := by
  unfold execCpk; simp (maxDischargeDepth := 60) +contextual only [dspIssue_kept, h, Runs.next]
theorem execCunp_runs (core : Fin 16) (dd : Fin 16) (ds : Fin 16) (mv : Moves) (h : Kept a s) : Runs a (execCunp core dd ds mv s)
    := by
  unfold execCunp; simp (maxDischargeDepth := 60) +contextual only [dspIssue_kept, h, Runs.next]
theorem execCadd_runs (core : Fin 16) (dd : Fin 16) (ds : Fin 16) (dt : Fin 16) (mv : Moves) (h : Kept a s) : Runs a (execCadd
    core dd ds dt mv s) := by
  unfold execCadd; simp (maxDischargeDepth := 60) +contextual only [dspIssue_kept, h, Runs.next]
theorem execCsub_runs (core : Fin 16) (dd : Fin 16) (ds : Fin 16) (dt : Fin 16) (mv : Moves) (h : Kept a s) : Runs a (execCsub
    core dd ds dt mv s) := by
  unfold execCsub; simp (maxDischargeDepth := 60) +contextual only [dspIssue_kept, h, Runs.next]
theorem execCconj_runs (core : Fin 16) (dd : Fin 16) (ds : Fin 16) (mv : Moves) (h : Kept a s) : Runs a (execCconj core dd ds mv
    s) := by
  unfold execCconj; simp (maxDischargeDepth := 60) +contextual only [dspIssue_kept, h, Runs.next]
theorem execSmax_runs (core : Fin 16) (u : Bool) (mv : Moves) (h : Kept a s) : Runs a (execSmax core u mv s) := by
  unfold execSmax; simp (maxDischargeDepth := 60) +contextual only [dspIssue_kept, h, Runs.next]
theorem execSmin_runs (core : Fin 16) (u : Bool) (mv : Moves) (h : Kept a s) : Runs a (execSmin core u mv s) := by
  unfold execSmin; simp (maxDischargeDepth := 60) +contextual only [dspIssue_kept, h, Runs.next]
theorem execSmaxd_runs (core : Fin 16) (ds : Fin 16) (dt : Fin 16) (u : Bool) (mv : Moves) (h : Kept a s) : Runs a (execSmaxd
    core ds dt u mv s) := by
  unfold execSmaxd; simp (maxDischargeDepth := 60) +contextual only [dspIssue_kept, h, Runs.next]
theorem execSmind_runs (core : Fin 16) (ds : Fin 16) (dt : Fin 16) (u : Bool) (mv : Moves) (h : Kept a s) : Runs a (execSmind
    core ds dt u mv s) := by
  unfold execSmind; simp (maxDischargeDepth := 60) +contextual only [dspIssue_kept, h, Runs.next]
theorem execSinit_runs (core : Fin 16) (mode : Fin 4) (mv : Moves) (h : Kept a s) : Runs a (execSinit core mode mv s) := by
  unfold execSinit; simp (maxDischargeDepth := 60) +contextual only [dspIssue_kept, h, Runs.next]
theorem execClrf_runs (core : Fin 16) (mask : Fin 8) (mv : Moves) (h : Kept a s) : Runs a (execClrf core mask mv s) := by
  unfold execClrf; simp (maxDischargeDepth := 60) +contextual only [dspIssue_kept, h, Runs.next]
theorem execEi_runs (core : Fin 16) (mv : Moves) (h : Kept a s) : Runs a (execEi core mv s) := by
  unfold execEi; simp (maxDischargeDepth := 60) +contextual only [dspIssue_kept, h, Runs.next]
theorem execDi_runs (core : Fin 16) (mv : Moves) (h : Kept a s) : Runs a (execDi core mv s) := by
  unfold execDi; simp (maxDischargeDepth := 60) +contextual only [dspIssue_kept, h, Runs.next]
theorem execFence_runs (core : Fin 16) (mv : Moves) (h : Kept a s) : Runs a (execFence core mv s) := by
  unfold execFence; simp (maxDischargeDepth := 60) +contextual only [dspIssue_kept, h, Runs.next]
theorem granted_kept (t : Nat) (initiator : Nat) (c : Cls) (h : Kept a s) : Kept a (State.granted s t initiator c) := by
  unfold State.granted; simp (maxDischargeDepth := 60) +contextual only [modFab_kept, h]
theorem dspDrain_kept (n : Nat) : ∀ (l : List Nat) {s : State}, Kept a s → Kept a (s.dspDrain n l)
  | [], _, h => h
  | _ :: l, s, h => by
    unfold State.dspDrain
    exact kept_ite (modCore_kept _ _ h) (kept_ite h (dspDrain_kept n l (dspSlot_kept _ _ h)))
theorem dspResume_kept (n : Nat) (fl : DspFlight) (h : Kept a s) : Kept a (State.dspResume s n fl) := by
  unfold State.dspResume
  dsimp only
  split <;> simp (maxDischargeDepth := 60) +contextual only [dspDrain_kept, dspFly_kept, dspRepeat_kept, modCore_kept,
      settle_kept, h]
theorem readArrives_kept (n : Nat) (w : Nat) (target : Nat) (fl : DspFlight) (h : Kept a s) : Kept a (State.readArrives s n w
    target fl) := by
  unfold State.readArrives
  simp (maxDischargeDepth := 60) +contextual only [dspResume_kept, flag_kept, granAccess_kept, granted_kept, modCore_kept,
      put_kept, raiseAt_kept, kept_ite, h]
theorem execWindowReadData_runs (core : Fin 16) (h : Kept a s) : Runs a (execWindowReadData core s) := by
  unfold execWindowReadData
  refine whileLive_runs h fun t k => ?_
  split <;> (try split) <;> simp (maxDischargeDepth := 60) +contextual only [readArrives_kept, k, Runs.next]
theorem writeCompletes_kept (n : Nat) (h : Kept a s) : Kept a (State.writeCompletes s n) := by
  unfold State.writeCompletes
  split <;> simp (maxDischargeDepth := 60) +contextual only [granAccess_kept, granted_kept, modCore_kept, raiseNow_kept,
      showBusy_kept, kept_ite, h]
theorem execWindowWriteDone_runs (core : Fin 16) (h : Kept a s) : Runs a (execWindowWriteDone core s) := by
  unfold execWindowWriteDone
  refine whileLive_runs h fun t k => ?_
  dsimp only
  (repeat' split) <;> simp (maxDischargeDepth := 60) +contextual only [dspResume_kept, writeCompletes_kept, k, Runs.next]
theorem execInterruptEntry_runs (core : Fin 16) (h : Kept a s) : Runs a (execInterruptEntry core s) := by
  unfold execInterruptEntry
  refine whileLive_runs h fun t k => ?_
  dsimp only
  (repeat' split) <;> simp (maxDischargeDepth := 60) +contextual only [enterVector_kept, modCore_kept, k, Runs.next]
theorem execWatchdogExpiry_runs (core : Fin 16) (h : Kept a s) : Runs a (execWatchdogExpiry core s) := by
  unfold execWatchdogExpiry
  simp (maxDischargeDepth := 60) +contextual only [dspRaise_kept, toCycle_kept, wdgKick_kept, whileLive_runs, h, Runs.next,
      runs_ite, implies_true]
theorem execWdgKick_runs (core : Fin 16) (h : Kept a s) : Runs a (execWdgKick core s) := by
  unfold execWdgKick
  simp (maxDischargeDepth := 60) +contextual only [wdgKick_kept, whileLive_runs, h, Runs.next, runs_ite, implies_true]
theorem doorbell_kept (n : Nat) (v : Nat) (h : Kept a s) : Kept a (State.doorbell s n v) := by
  unfold State.doorbell; simp (maxDischargeDepth := 60) +contextual only [dspRaise_kept, put_kept, h]
theorem execDoorbell_runs (core : Fin 16) (value : Word20) (h : Kept a s) : Runs a (execDoorbell core value s) := by
  unfold execDoorbell; simp (maxDischargeDepth := 60) +contextual only [doorbell_kept, whileLive_runs, h, Runs.next, implies_true]
theorem execDqDataRead_runs (core : Fin 12) (h : Kept a s) : Runs a (execDqDataRead core s) := by
  unfold execDqDataRead
  simp (maxDischargeDepth := 60) +contextual only [dqRead_kept, whileLive_runs, h, Runs.next, runs_ite, implies_true]
theorem execUpdDataWrite_runs (core : Fin 12) (value : Word20) (h : Kept a s) : Runs a (execUpdDataWrite core value s) := by
  unfold execUpdDataWrite
  simp (maxDischargeDepth := 60) +contextual only [updWrite_kept, whileLive_runs, h, Runs.next, runs_ite, implies_true]
theorem execNotify_runs (core : Fin 16) (value : Word20) (h : Kept a s) : Runs a (execNotify core value s) := by
  unfold execNotify
  simp (maxDischargeDepth := 60) +contextual only [notifyWrite_kept, whileLive_runs, h, Runs.next, runs_ite, implies_true]
theorem execFeedWidxRead_runs (core : Fin 16) (h : Kept a s) : Runs a (execFeedWidxRead core s) := by
  unfold execFeedWidxRead
  simp (maxDischargeDepth := 60) +contextual only [feedWidxRead_kept, whileLive_runs, h, Runs.next, runs_ite, implies_true]
theorem execFeedOverrunClear_runs (core : Fin 16) (h : Kept a s) : Runs a (execFeedOverrunClear core s) := by
  unfold execFeedOverrunClear
  simp (maxDischargeDepth := 60) +contextual only [overrunClear_kept, whileLive_runs, h, Runs.next, runs_ite, implies_true]
theorem execWinCfgWrite_runs (core : Fin 16) (window : Fin 4) (base : Fin 512) (en : Bool) (h : Kept a s) : Runs a
    (execWinCfgWrite core window base en s) := by
  unfold execWinCfgWrite; simp (maxDischargeDepth := 60) +contextual only [put_kept, whileLive_runs, h, Runs.next, implies_true]
theorem clearMemories_kept (n : Nat) (h : Kept a s) : Kept a (s.clearMemories n) := modDsp_kept' _ h sparseKeep_wf sparseKeep_wf
    sparseKeep_wf
theorem loadFails_kept (n : Nat) (h : Kept a s) : Kept a (State.loadFails s n) := by
  unfold State.loadFails; simp (maxDischargeDepth := 60) +contextual only [clearMemories_kept, modKernel_kept, h]
theorem copyImage_kept (n : Nat) (b : List Byte) (h : Kept a s) : Kept a (State.copyImage s n b) := by
  unfold State.copyImage
  simp (maxDischargeDepth := 60) +contextual only [clearMemories_kept, each_kept, progPut_kept, xyPut_kept, h, implies_true]
theorem execKernelLoadDone_runs (core : Fin 4) (h : Kept a s) : Runs a (execKernelLoadDone core s) := by
  unfold execKernelLoadDone
  refine whileLive_runs h fun t k => ?_
  dsimp only
  (repeat' split) <;> simp (maxDischargeDepth := 60) +contextual only [answer_kept, copyImage_kept, loadFails_kept,
      modKernel_kept, k, Runs.next]
theorem withdrawTriggers_kept (n : Nat) (h : Kept a s) : Kept a (State.withdrawTriggers s n) := by
  unfold State.withdrawTriggers
  simp (maxDischargeDepth := 60) +contextual only [each_kept, modKernel_kept, put_kept, h, implies_true]
theorem unloadCore_kept (n : Nat) (h : Kept a s) : Kept a (State.unloadCore s n) := by
  unfold State.unloadCore
  simp (maxDischargeDepth := 60) +contextual only [clearMemories_kept, modKernel_kept, returnKernelBays_kept, unloadsEnd_kept,
      withdrawFeed_kept, withdrawTriggers_kept, h]
theorem execKernelStopDone_runs (core : Fin 4) (h : Kept a s) : Runs a (execKernelStopDone core s) := by
  unfold execKernelStopDone
  simp (maxDischargeDepth := 60) +contextual only [answer_kept, each_kept, holdCore_kept, modKernel_kept, unloadCore_kept,
      whileLive_runs, kept_ite, h, Runs.next, runs_ite, implies_true]
theorem hold_kept (l : List Decoded) (h : Kept a s) : Kept a (State.hold s l) := by
  unfold State.hold; simp (maxDischargeDepth := 60) +contextual only [each_kept, modNav_kept, h, implies_true]
theorem decoded_kept (v : NavSolution) (h : Kept a s) : Kept a (State.decoded s v) := by
  unfold State.decoded; simp (maxDischargeDepth := 60) +contextual only [hold_kept, modNav_kept, when_kept, h, implies_true]
theorem compareDeclared_kept (v : NavSolution) (tov : Time) (h : Kept a s) : Kept a (State.compareDeclared s v tov) := by
  unfold State.compareDeclared; split <;> simp (maxDischargeDepth := 60) +contextual only [emit_kept, modNav_kept, kept_ite, h]
theorem spoofStart_kept (h : Kept a s) : Kept a (State.spoofStart s) := by
  unfold State.spoofStart; simp (maxDischargeDepth := 60) +contextual only [chooseSource_kept, flag_kept, modLtu_kept, h]
theorem detect_kept (v : NavSolution) (tov : Time) (h : Kept a s) : Kept a (State.detect s v tov) := by
  unfold State.detect
  simp (maxDischargeDepth := 60) +contextual only [emit_kept, modNav_kept, spoofStart_kept, when_kept, h, implies_true]
theorem exclusions_kept (v : NavSolution) (h : Kept a s) : Kept a (State.exclusions s v) := by
  unfold State.exclusions; simp (maxDischargeDepth := 60) +contextual only [each_kept, emit_kept, tally_kept, h, implies_true]
theorem trackFix_kept (v : NavSolution) (tov : Time) (h : Kept a s) : Kept a (State.trackFix s v tov) := by
  unfold State.trackFix; simp (maxDischargeDepth := 60) +contextual only [modNav_kept, h]
theorem report_kept (v : NavSolution) (tov : Time) (h : Kept a s) : Kept a (State.report s v tov) := by
  unfold State.report
  simp (maxDischargeDepth := 60) +contextual only [compareDeclared_kept, detect_kept, exclusions_kept, modNav_kept,
      sendReport_kept, trackFix_kept, h]
theorem execReportEpoch_runs (solution : NavSolution) (h : Kept a s) : Runs a (execReportEpoch solution s) := by
  unfold execReportEpoch
  simp (maxDischargeDepth := 60) +contextual only [advanceTo_kept, decoded_kept, report_kept, whileLive_runs, h, Runs.next,
      runs_ite, implies_true]
theorem execDetectorExpiry_runs (detector : Fin 8) (h : Kept a s) : Runs a (execDetectorExpiry detector s) := by
  unfold execDetectorExpiry
  simp (maxDischargeDepth := 60) +contextual only [advanceTo_kept, modNav_kept, when_kept, whileLive_runs, h, Runs.next,
      runs_ite, implies_true]
theorem captureOver_kept (h : Kept a s) : Kept a (State.captureOver s) := by
  unfold State.captureOver; simp (maxDischargeDepth := 60) +contextual only [modSnap_kept, showBgHeld_kept, h]
theorem captureAt_kept (c : Capture) (h : Kept a s) : ∀ r, s.captureAt c = some r → Kept a r.2 := by
  intro r e
  unfold State.captureAt at e
  split at e
  · cases e; exact markerFrom_kept _ h
  · obtain ⟨t, -, rfl⟩ := Option.map_eq_some_iff.mp e; exact h
theorem execCaptureStart_runs (h : Kept a s) : Runs a (execCaptureStart s) := by
  unfold execCaptureStart
  refine whileLive_runs h fun t k => ?_
  split
  · exact .next k
  · split
    · exact .next k
    · split
      · exact .next k
      · rename_i r u e
        have q := captureAt_kept _ k _ e
        split
        · exact .next (answerTo_kept _ _ (captureOver_kept q))
        · exact .next (showBgHeld_kept (modSnap_kept _ q))
theorem captureDrain_kept (c : Capture) (r : CaptureRun) (h : Kept a s) : Kept a (State.captureDrain s c r) := by
  unfold State.captureDrain; simp (maxDischargeDepth := 60) +contextual only [each_kept, toLeft_kept, kept_ite, h, implies_true]
theorem shiftsOf_kept (quant : Nat) : ∀ (l : List (List LaneWord)) {s : State}, Kept a s → Kept a (s.shiftsOf quant l).2.2
  | [], _, h => h
  | _ :: l, s, h => by
    unfold State.shiftsOf
    dsimp only
    split
    · exact shiftsOf_kept quant l h
    · split
      · exact shiftsOf_kept quant l h
      · exact shiftsOf_kept quant l (nextFree_kept h)
theorem captured_kept (c : Capture) (r : CaptureRun) (h : Kept a s) : Kept a (State.captured s c r).2 := by
  unfold State.captured; simp (maxDischargeDepth := 60) +contextual only [shiftsOf_kept, h]
theorem snapWrites_kept (initiator first : Nat) : ∀ (w : Nat) (l : List Nat) {s : State}, Kept a s →
    Kept a (s.snapWrites initiator first w l)
  | _, [], _, h => by unfold State.snapWrites; exact h
  | w, v :: l, s, h => by
    unfold State.snapWrites
    exact snapWrites_kept initiator first (w + 1) l (granAccess_kept _ _ _ _ (granted_kept _ _ _ h))
theorem gleanerWrite_kept (first w : Nat) (l : List Nat) (h : Kept a s) : Kept a (s.gleanerWrite first w l) :=
  snapWrites_kept _ _ _ _ h
theorem storeCapture_kept (c : Capture) (x : Captured) (header : List Byte) (h : Kept a s) : Kept a (State.storeCapture s c x
    header) := by
  unfold State.storeCapture; simp (maxDischargeDepth := 60) +contextual only [gleanerWrite_kept, h]
theorem snapStands_kept (b : BaySnap) (h : Kept a s) : Kept a (State.snapStands s b) := by
  unfold State.snapStands; simp (maxDischargeDepth := 60) +contextual only [dropSnaps_kept, modSnap_kept, h]
theorem execCaptureEnd_runs (h : Kept a s) : Runs a (execCaptureEnd s) := by
  unfold execCaptureEnd
  refine whileLive_runs h fun t k => ?_
  split <;> (try split) <;> simp (maxDischargeDepth := 60) +contextual only [advanceTo_kept, answerTo_kept, captureDrain_kept,
      captureEnds_kept, captureOver_kept, captured_kept, emit_kept, modSnap_kept, nextFree_kept, snapStands_kept,
      storeCapture_kept, kept_ite, k, Runs.next]
theorem compact_kept (first : Nat) (h : Kept a s) : Kept a (State.compact s first).2 := by
  unfold State.compact; simp (maxDischargeDepth := 60) +contextual only [headerAt_kept, snapReads_kept, h]
theorem execSnapCommitDone_runs (h : Kept a s) : Runs a (execSnapCommitDone s) := by
  unfold execSnapCommitDone
  refine whileLive_runs h fun t k => ?_
  split <;> simp (maxDischargeDepth := 60) +contextual only [answerTo_kept, compact_kept, modSnap_kept, snapWrites_kept,
      tally_kept, k, Runs.next, runs_ite]
theorem execScheduleWake_runs (entry : Fin 8) (h : Kept a s) : Runs a (execScheduleWake entry s) := by
  unfold execScheduleWake
  simp (maxDischargeDepth := 60) +contextual only [modPwr_kept, modSnap_kept, put_kept, h, Runs.next, runs_ite]
theorem mainOff_kept (mode : Nat) (orderly : Bool) (h : Kept a s) : Kept a (State.mainOff s mode orderly) := by
  unfold State.mainOff
  simp (maxDischargeDepth := 60) +contextual only [flag_kept, mainReset_kept, modPwr_kept, modSec_kept, put_kept, when_kept, h,
      implies_true, eq_self]
theorem execParkedReturn_runs (rtc : BitVec 48) (h : Kept a s) : Runs a (execParkedReturn rtc s) := by
  unfold execParkedReturn
  simp (maxDischargeDepth := 60) +contextual only [mainOff_kept, modPwr_kept, modSnap_kept, nextFree_kept, whileLive_runs,
      writeRelation_kept, h, Runs.next, runs_ite, implies_true]
theorem execTimeNowRead_runs (h : Kept a s) : Runs a (execTimeNowRead s) := by
  unfold execTimeNowRead
  simp (maxDischargeDepth := 60) +contextual only [latchNow_kept, whileLive_runs, h, Runs.next, implies_true]
theorem execSlewWrite_runs (value : Word) (h : Kept a s) : Runs a (execSlewWrite value s) := by
  unfold execSlewWrite; simp (maxDischargeDepth := 60) +contextual only [setSlew_kept, whileLive_runs, h, Runs.next, implies_true]
theorem execSlewDone_runs (h : Kept a s) : Runs a (execSlewDone s) := by
  unfold execSlewDone
  simp (maxDischargeDepth := 60) +contextual only [passMarkers_kept, whileLive_runs, h, Runs.next, runs_ite,
      implies_true]
theorem execStepCancel_runs (h : Kept a s) : Runs a (execStepCancel s) := by
  unfold execStepCancel
  simp (maxDischargeDepth := 60) +contextual only [cancelStep_kept, whileLive_runs, h, Runs.next, implies_true]
theorem passedTriggers_kept (old : Time) (new : Time) (h : Kept a s) : Kept a (State.passedTriggers s old new) := by
  unfold State.passedTriggers; simp (maxDischargeDepth := 60) +contextual only [modLtu_kept, h]
theorem execStepApply_runs (h : Kept a s) : Runs a (execStepApply s) := by
  unfold execStepApply
  refine whileLive_runs h fun t k => ?_
  split <;> simp (maxDischargeDepth := 60) +contextual only [cancelStep_kept, cutCapture_kept, discontinuity_kept, emit_kept,
      flag_kept, modLtu_kept, passMarkers_kept, passedTriggers_kept, put_kept, recordMark_kept, k, Runs.next, runs_ite]
theorem takeUtc_kept (rank : Nat) (offset : Int) (leap : Nat) (month : Nat) (h : Kept a s) : Kept a (State.takeUtc s rank offset
    leap month) := by
  unfold State.takeUtc; simp (maxDischargeDepth := 60) +contextual only [flag_kept, modLtu_kept, putInt_kept, put_kept, kept_ite, h]
theorem steer_kept (h : Kept a s) : Kept a (State.steer s) := by
  unfold State.steer; simp (maxDischargeDepth := 60) +contextual only [modLtu_kept, nextFree_kept, setInc_kept, h]
theorem enterSource_kept (e : Int) (h : Kept a s) : Kept a (State.enterSource s e) := by
  unfold State.enterSource; simp (maxDischargeDepth := 60) +contextual only [modLtu_kept, servoStep_kept, setSlew_kept, kept_ite, h]
theorem execTimeSolution_runs (solution : TimeSolution) (h : Kept a s) : Runs a (execTimeSolution solution s) := by
  unfold execTimeSolution
  split <;> simp (maxDischargeDepth := 60) +contextual only [chooseSource_kept, enterSource_kept, hstateSave_kept, modLtu_kept,
      setUnc_kept, showDegraded_kept, steer_kept, takeUtc_kept, whileLive_runs, kept_ite, h, Runs.next, runs_ite, implies_true]
theorem execGnssLossTimeout_runs (h : Kept a s) : Runs a (execGnssLossTimeout s) := by
  unfold execGnssLossTimeout
  simp (maxDischargeDepth := 60) +contextual only [advanceTo_kept, chooseSource_kept, modLtu_kept, whileLive_runs, h, Runs.next,
      runs_ite, implies_true]
theorem execSpoofHoldEnd_runs (h : Kept a s) : Runs a (execSpoofHoldEnd s) := by
  unfold execSpoofHoldEnd
  simp (maxDischargeDepth := 60) +contextual only [advanceTo_kept, chooseSource_kept, put_kept, whileLive_runs, h, Runs.next,
      runs_ite, implies_true]
theorem execLeapApply_runs (h : Kept a s) : Runs a (execLeapApply s) := by
  unfold execLeapApply
  simp (maxDischargeDepth := 60) +contextual only [advanceTo_kept, putInt_kept, put_kept, whileLive_runs, h, Runs.next, runs_ite,
      implies_true]
theorem execTriggerEnable_runs (trigger : Fin 32) (h : Kept a s) : Runs a (execTriggerEnable trigger s) := by
  unfold execTriggerEnable
  simp (maxDischargeDepth := 60) +contextual only [armTrigger_kept, whileLive_runs, h, Runs.next, runs_ite, implies_true]
theorem dspTrigger_kept (n : Nat) (j : Nat) (h : Kept a s) : Kept a (State.dspTrigger s n j) := by
  unfold State.dspTrigger; simp (maxDischargeDepth := 60) +contextual only [dspRaise_kept, flag_kept, put_kept, kept_ite, h]
theorem fireCore_kept (j : Nat) (n : Nat) (h : Kept a s) : Kept a (State.fireCore s j n) := by
  unfold State.fireCore; simp (maxDischargeDepth := 60) +contextual only [bump_kept, dspTrigger_kept, kept_ite, h]
theorem fireCapture_kept (j : Nat) (t : Time) (h : Kept a s) : Kept a (State.fireCapture s j t) := by
  unfold State.fireCapture; split <;> simp (maxDischargeDepth := 60) +contextual only [modSnap_kept, tally_kept, kept_ite, h]
theorem thrTrigger_kept (j : Nat) (t : Time) (h : Kept a s) : Kept a (State.thrTrigger s j t) := by
  unfold State.thrTrigger; split <;> simp (maxDischargeDepth := 60) +contextual only [modThr_kept, kept_ite, h]
theorem fireTargets_kept (j : Nat) (t : Time) (late : Bool) (h : Kept a s) : Kept a (State.fireTargets s j t late) := by
  unfold State.fireTargets
  simp (maxDischargeDepth := 60) +contextual only [each_kept, emitAt_kept, fireCapture_kept, fireCore_kept, thrTrigger_kept,
      when_kept, h, implies_true]
theorem showPins_kept (h : Kept a s) : Kept a (State.showPins s) := by
  unfold State.showPins; simp (maxDischargeDepth := 60) +contextual only [modLtu_kept, h]
theorem fireOutput_kept (j : Nat) (t : Time) (h : Kept a s) : Kept a (State.fireOutput s j t) := by
  unfold State.fireOutput; simp (maxDischargeDepth := 60) +contextual only [modTrig_kept, showPins_kept, kept_ite, h]
theorem execTriggerFire_runs (trigger : Fin 32) (h : Kept a s) : Runs a (execTriggerFire trigger s) := by
  unfold execTriggerFire
  simp (maxDischargeDepth := 60) +contextual only [advanceTo_kept, bumpBy_kept, fireOutput_kept, fireTargets_kept, flag_kept,
      modTrig_kept, put_kept, setTrigTime_kept, whileLive_runs, kept_ite, h, Runs.next, runs_ite, implies_true, eq_self]
theorem execTrigOutEnd_runs (trigger : Fin 32) (h : Kept a s) : Runs a (execTrigOutEnd trigger s) := by
  unfold execTrigOutEnd
  refine whileLive_runs h fun t k => ?_
  dsimp only
  (repeat' split) <;> simp (maxDischargeDepth := 60) +contextual only [advanceTo_kept, modTrig_kept, showPins_kept, k, Runs.next]
theorem capture_kept (i : Nat) (rising : Bool) (t : Time) (h : Kept a s) : Kept a (State.capture s i rising t) := by
  unfold State.capture
  simp (maxDischargeDepth := 60) +contextual only [bump_kept, emitAt_kept, flag_kept, putTimeRec_kept, put_kept, when_kept,
      kept_ite, h, implies_true]
theorem execCaptureEdge_runs (channel : Fin 16) (rising : Bool) (tick : Fin 375) (tap : Fin 128) (close : Bool) (h : Kept a s) :
    Runs a (execCaptureEdge channel rising tick tap close s) := by
  unfold execCaptureEdge
  simp (maxDischargeDepth := 60) +contextual only [advanceTo_kept, bump_kept, capture_kept, whileLive_runs, h, Runs.next,
      runs_ite, implies_true]
theorem execCapResultRead_runs (channel : Fin 16) (h : Kept a s) : Runs a (execCapResultRead channel s) := by
  unfold execCapResultRead
  simp (maxDischargeDepth := 60) +contextual only [capRead_kept, whileLive_runs, h, Runs.next, implies_true]
theorem execCapOverrunClear_runs (channel : Fin 16) (h : Kept a s) : Runs a (execCapOverrunClear channel s) := by
  unfold execCapOverrunClear
  simp (maxDischargeDepth := 60) +contextual only [capClear_kept, whileLive_runs, h, Runs.next, implies_true]
theorem tpDecide_kept (k : Nat) (t : Time) (h : Kept a s) : Kept a (State.tpDecide s k t) := by
  unfold State.tpDecide
  simp (maxDischargeDepth := 60) +contextual only [emit_kept, flag_kept, modPulse_kept, tpComplete_kept, when_kept, kept_ite, h,
      implies_true]
theorem execTpDecision_runs (pulse : Fin 4) (h : Kept a s) : Runs a (execTpDecision pulse s) := by
  unfold execTpDecision
  simp (maxDischargeDepth := 60) +contextual only [advanceTo_kept, tpDecide_kept, whileLive_runs, h, Runs.next, runs_ite,
      implies_true]
theorem execTpLeadingEdge_runs (pulse : Fin 4) (h : Kept a s) : Runs a (execTpLeadingEdge pulse s) := by
  unfold execTpLeadingEdge
  refine whileLive_runs h fun t k => ?_
  dsimp only
  split <;> simp (maxDischargeDepth := 60) +contextual only [advanceTo_kept, modPulse_kept, k, Runs.next, runs_ite]
theorem execTpTrailingEdge_runs (pulse : Fin 4) (h : Kept a s) : Runs a (execTpTrailingEdge pulse s) := by
  unfold execTpTrailingEdge
  refine whileLive_runs h fun t k => ?_
  dsimp only
  split <;> simp (maxDischargeDepth := 60) +contextual only [advanceTo_kept, modPulse_kept, tpComplete_kept, k, Runs.next, runs_ite]
theorem execTimeRelationWrite_runs (rtc : BitVec 48) (h : Kept a s) : Runs a (execTimeRelationWrite rtc s) := by
  unfold execTimeRelationWrite
  simp (maxDischargeDepth := 60) +contextual only [advanceTo_kept, nextFree_kept, whileLive_runs, writeRelation_kept, h,
      Runs.next, runs_ite, implies_true]
theorem wake_kept (cause : Nat) (uart : Nat) (h : Kept a s) : Kept a (State.wake s cause uart) := by
  unfold State.wake; simp (maxDischargeDepth := 60) +contextual only [modPwr_kept, put_kept, kept_ite, h]
theorem execRtcAlarm_runs (rtc : BitVec 48) (h : Kept a s) : Runs a (execRtcAlarm rtc s) := by
  unfold execRtcAlarm
  simp (maxDischargeDepth := 60) +contextual only [put_kept, rtcTo_kept, wake_kept, kept_ite, h, Runs.next, runs_ite]
theorem execRtcCalDone_runs (count : BitVec 30) (h : Kept a s) : Runs a (execRtcCalDone count s) := by
  unfold execRtcCalDone
  simp (maxDischargeDepth := 60) +contextual only [flag_kept, put_kept, whileLive_runs, h, Runs.next, runs_ite, implies_true]
theorem execRtcHandover_runs (rtc : BitVec 48) (h : Kept a s) : Runs a (execRtcHandover rtc s) := by
  unfold execRtcHandover
  simp (maxDischargeDepth := 60) +contextual only [chooseSource_kept, modLtu_kept, rtcTo_kept, setUnc_kept, tickFrom_kept,
      whileLive_runs, kept_ite, h, Runs.next, runs_ite, implies_true]
theorem execWideWrite_runs (which : Wide) (low : Word) (h : Kept a s) : Runs a (execWideWrite which low s) := by
  unfold execWideWrite; simp (maxDischargeDepth := 60) +contextual only [whileLive_runs, wideWrite_kept, h, Runs.next, implies_true]
theorem execLinkChange_runs (up : Bool) (mbit : Fin 3) (full : Bool) (h : Kept a s) : Runs a (execLinkChange up mbit full s) := by
  unfold execLinkChange
  simp (maxDischargeDepth := 60) +contextual only [flag_kept, netRestart_kept, put_kept, whileLive_runs, kept_ite, h, Runs.next,
      runs_ite, implies_true, eq_self]
theorem netDiscard_kept (h : Kept a s) : Kept a (State.netDiscard s) := by
  unfold State.netDiscard; simp (maxDischargeDepth := 60) +contextual only [bump_kept, h]
theorem execFrameRx_runs (h : Kept a s) : Runs a (execFrameRx s) := by
  unfold execFrameRx
  simp (maxDischargeDepth := 60) +contextual only [netDiscard_kept, whileLive_runs, kept_ite, h, Runs.next, implies_true]
theorem netUtc_kept (x1 : Announce) (h : Kept a s) : Kept a (State.netUtc s x1) := by
  unfold State.netUtc; simp (maxDischargeDepth := 60) +contextual only [takeUtc_kept, kept_ite, h]
theorem fmRefuse_kept (x1 : Announce) (h : Kept a s) : Kept a (State.fmRefuse s x1) := by
  unfold State.fmRefuse; simp (maxDischargeDepth := 60) +contextual only [bump_kept, emit_kept, flag_kept, modNet_kept, kept_ite, h]
theorem execAnnounceRx_runs (msg : Announce) (h : Kept a s) : Runs a (execAnnounceRx msg s) := by
  unfold execAnnounceRx
  refine whileLive_runs h fun t k => ?_
  dsimp only
  (repeat' split) <;> simp (maxDischargeDepth := 60) +contextual only [fmRefuse_kept, modNet_kept, netDiscard_kept, netUtc_kept,
      showFms_kept, k, Runs.next]
theorem refuseOffset_kept (o : Int) (h : Kept a s) : Kept a (State.refuseOffset s o) := by
  unfold State.refuseOffset; simp (maxDischargeDepth := 60) +contextual only [emit_kept, flag_kept, modNet_kept, h]
theorem enterNet_kept (o : Int) (first : Bool) (h : Kept a s) : Kept a (State.enterNet s o first) := by
  unfold State.enterNet
  simp (maxDischargeDepth := 60) +contextual only [enterSource_kept, modNet_kept, refuseOffset_kept, setSlew_kept,
      slewWhole_kept, kept_ite, h]
theorem netQualify_kept (o : Int) (h : Kept a s) : Kept a (State.netQualify s o) := by
  unfold State.netQualify
  simp (maxDischargeDepth := 60) +contextual only [chooseSource_kept, enterNet_kept, flag_kept, modLtu_kept, modNet_kept,
      put_kept, kept_ite, h]
theorem requalify_kept (o : Int) (mpd : Int) (l : List Int) (h : Kept a s) : Kept a (State.requalify s o mpd l) := by
  unfold State.requalify; simp (maxDischargeDepth := 60) +contextual only [modNet_kept, netQualify_kept, kept_ite, h]
theorem asymMeasure_kept (h : Kept a s) : Kept a (State.asymMeasure s) := by
  unfold State.asymMeasure
  simp (maxDischargeDepth := 60) +contextual only [emit_kept, flag_kept, modNet_kept, putInt_kept, kept_ite, h]
theorem useOffset_kept (o : Int) (mpd : Int) (h : Kept a s) : Kept a (State.useOffset s o mpd) := by
  unfold State.useOffset
  simp (maxDischargeDepth := 60) +contextual only [asymMeasure_kept, enterNet_kept, modNet_kept, netQualify_kept, nextFree_kept,
      setUnc_kept, steer_kept, kept_ite, h]
theorem stepDetected_kept (o : Int) (h : Kept a s) : Kept a (State.stepDetected s o) := by
  unfold State.stepDetected
  simp (maxDischargeDepth := 60) +contextual only [bump_kept, emit_kept, flag_kept, modNet_kept, netUnqualify_kept,
      refuseOffset_kept, kept_ite, h]
theorem measured_kept (o : Int) (mpd : Int) (h : Kept a s) : Kept a (State.measured s o mpd) := by
  unfold State.measured
  dsimp only
  (repeat' split) <;> simp (maxDischargeDepth := 60) +contextual only [bump_kept, modNet_kept, portState_kept, putInt_kept,
      put_kept, requalify_kept, stepDetected_kept, useOffset_kept, h]
theorem syncDone_kept (t1 : Int) (t2 : Int) (h : Kept a s) : Kept a (State.syncDone s t1 t2) := by
  unfold State.syncDone; split <;> (try split) <;> simp (maxDischargeDepth := 60) +contextual only [measured_kept, modNet_kept, h]
theorem execSyncRx_runs (msg : EventMsg) (h : Kept a s) : Runs a (execSyncRx msg s) := by
  unfold execSyncRx
  simp (maxDischargeDepth := 60) +contextual only [advanceTo_kept, modNet_kept, netDiscard_kept, syncDone_kept, whileLive_runs,
      h, Runs.next, runs_ite, implies_true]
theorem execFollowUpRx_runs (msg : GeneralMsg) (h : Kept a s) : Runs a (execFollowUpRx msg s) := by
  unfold execFollowUpRx
  refine whileLive_runs h fun t k => ?_
  (repeat' split) <;> simp (maxDischargeDepth := 60) +contextual only [modNet_kept, netDiscard_kept, syncDone_kept, k, Runs.next]
theorem netSend_kept (kind : Nat) (seq : Nat) (t : Time) (followUp : Bool) (d : Option Master) (h : Kept a s) : Kept a
    (State.netSend s kind seq t followUp d) := by
  unfold State.netSend; simp (maxDischargeDepth := 60) +contextual only [modNet_kept, h]
theorem execDelayReqRx_runs (msg : EventMsg) (h : Kept a s) : Runs a (execDelayReqRx msg s) := by
  unfold execDelayReqRx
  simp (maxDischargeDepth := 60) +contextual only [advanceTo_kept, netDiscard_kept, netSend_kept, whileLive_runs, h, Runs.next,
      runs_ite, implies_true]
theorem execDelayRespRx_runs (msg : GeneralMsg) (h : Kept a s) : Runs a (execDelayRespRx msg s) := by
  unfold execDelayRespRx
  refine whileLive_runs h fun t k => ?_
  (repeat' split) <;> simp (maxDischargeDepth := 60) +contextual only [modNet_kept, netDiscard_kept, k, Runs.next]
theorem execPdelayReqRx_runs (msg : EventMsg) (h : Kept a s) : Runs a (execPdelayReqRx msg s) := by
  unfold execPdelayReqRx
  simp (maxDischargeDepth := 60) +contextual only [advanceTo_kept, modNet_kept, netDiscard_kept, netSend_kept, nextFree_kept,
      whileLive_runs, kept_ite, h, Runs.next, runs_ite, implies_true]
theorem peerDelay_kept (t1 : Int) (t2 : Int) (t3 : Int) (t4 : Int) (h : Kept a s) : Kept a (State.peerDelay s t1 t2 t3 t4) := by
  unfold State.peerDelay; simp (maxDischargeDepth := 60) +contextual only [modNet_kept, put_kept, h]
theorem execPdelayRespRx_runs (msg : EventMsg) (h : Kept a s) : Runs a (execPdelayRespRx msg s) := by
  unfold execPdelayRespRx
  refine whileLive_runs h fun t k => ?_
  (repeat' split) <;> simp (maxDischargeDepth := 60) +contextual only [advanceTo_kept, modNet_kept, netDiscard_kept,
      peerDelay_kept, k, Runs.next]
theorem execPdelayRespFollowUpRx_runs (msg : GeneralMsg) (h : Kept a s) : Runs a (execPdelayRespFollowUpRx msg s) := by
  unfold execPdelayRespFollowUpRx
  refine whileLive_runs h fun t k => ?_
  (repeat' split) <;> simp (maxDischargeDepth := 60) +contextual only [netDiscard_kept, peerDelay_kept, k, Runs.next]
theorem execSyncTx_runs (ball : Time) (h : Kept a s) : Runs a (execSyncTx ball s) := by
  unfold execSyncTx
  simp (maxDischargeDepth := 60) +contextual only [advanceTo_kept, modNet_kept, netSend_kept, whileLive_runs, h, Runs.next,
      runs_ite, implies_true]
theorem execAnnounceTx_runs (h : Kept a s) : Runs a (execAnnounceTx s) := by
  unfold execAnnounceTx
  simp (maxDischargeDepth := 60) +contextual only [modNet_kept, netSend_kept, showClass_kept, whileLive_runs, h, Runs.next,
      runs_ite, implies_true]
theorem execDelayReqTx_runs (ball : Time) (h : Kept a s) : Runs a (execDelayReqTx ball s) := by
  unfold execDelayReqTx
  simp (maxDischargeDepth := 60) +contextual only [advanceTo_kept, modNet_kept, netSend_kept, whileLive_runs, h, Runs.next,
      runs_ite, implies_true]
theorem execPdelayReqTx_runs (ball : Time) (h : Kept a s) : Runs a (execPdelayReqTx ball s) := by
  unfold execPdelayReqTx
  simp (maxDischargeDepth := 60) +contextual only [advanceTo_kept, modNet_kept, netSend_kept, whileLive_runs, h, Runs.next,
      runs_ite, implies_true]
theorem selectMaster_kept (k : Option Nat) (h : Kept a s) : Kept a (State.selectMaster s k) := by
  unfold State.selectMaster
  simp (maxDischargeDepth := 60) +contextual only [flag_kept, modNet_kept, netUnqualify_kept, showFms_kept, kept_ite, h]
theorem bmca_kept (h : Kept a s) : Kept a (State.bmca s) := by
  unfold State.bmca
  dsimp only
  split <;> simp (maxDischargeDepth := 60) +contextual only [portState_kept, put_kept, selectMaster_kept, showClass_kept,
      showFms_kept, kept_ite, h]
theorem execBmca_runs (h : Kept a s) : Runs a (execBmca s) := by
  unfold execBmca; simp (maxDischargeDepth := 60) +contextual only [bmca_kept, whileLive_runs, kept_ite, h, Runs.next, implies_true]
theorem masterExpires_kept (k : Nat) (h : Kept a s) : Kept a (State.masterExpires s k) := by
  unfold State.masterExpires
  simp (maxDischargeDepth := 60) +contextual only [modNet_kept, portState_kept, selectMaster_kept, showFms_kept, kept_ite, h]
theorem execAnnounceTimeout_runs (entry : Fin 8) (h : Kept a s) : Runs a (execAnnounceTimeout entry s) := by
  unfold execAnnounceTimeout
  refine whileLive_runs h fun t k => ?_
  split <;> simp (maxDischargeDepth := 60) +contextual only [advanceTo_kept, masterExpires_kept, k, Runs.next]
theorem execSyncTimeout_runs (h : Kept a s) : Runs a (execSyncTimeout s) := by
  unfold execSyncTimeout
  simp (maxDischargeDepth := 60) +contextual only [advanceTo_kept, netUnqualify_kept, whileLive_runs, kept_ite, h, Runs.next,
      implies_true]
theorem execSlewPart_runs (h : Kept a s) : Runs a (execSlewPart s) := by
  unfold execSlewPart
  simp (maxDischargeDepth := 60) +contextual only [modNet_kept, passMarkers_kept, setSlew_kept, when_kept, whileLive_runs, h,
      Runs.next, runs_ite, implies_true]
theorem fixRound_kept (x1 : Nat) (h : Kept a s) : Kept a (State.fixRound s x1) := by
  unfold State.fixRound; split <;> simp (maxDischargeDepth := 60) +contextual only [modRound_kept, h]
theorem reportStore_kept (h : Kept a s) : Kept a (State.reportStore s) := by
  unfold State.reportStore; simp (maxDischargeDepth := 60) +contextual only [emit_kept, when_kept, h, implies_true]
theorem nextSts_kept (x1 : RadioAct) (h : Kept a s) : Kept a (State.nextSts s x1) := by
  unfold State.nextSts; split <;> simp (maxDischargeDepth := 60) +contextual only [modSession_kept, when_kept, h, implies_true]
theorem transmit_kept (x1 : RadioAct) (temp : Nat) (supply : Nat) (h : Kept a s) : Kept a (State.transmit s x1 temp supply) := by
  unfold State.transmit
  dsimp only
  (repeat' split) <;> simp (maxDischargeDepth := 60) +contextual only [bump_kept, endAct_kept, flag_kept, modRound_kept,
      modUwb_kept, nextSts_kept, put_kept, setWord_kept, when_kept, h, implies_true]
theorem receive_kept (x1 : RadioAct) (h : Kept a s) : Kept a (State.receive s x1) := by
  unfold State.receive; simp (maxDischargeDepth := 60) +contextual only [modUwb_kept, nextSts_kept, put_kept, h]
theorem execActivityCommit_runs (temp : BitVec 8) (supply : BitVec 16) (h : Kept a s) : Runs a (execActivityCommit temp supply s)
    := by
  unfold execActivityCommit
  refine whileLive_runs h fun t k => ?_
  dsimp only
  (repeat' split) <;> simp (maxDischargeDepth := 60) +contextual only [advanceTo_kept, bump_kept, coexRelease_kept, endAct_kept,
      fixRound_kept, flag_kept, modUwb_kept, receive_kept, reportStore_kept, transmit_kept, when_kept, k, Runs.next, implies_true]
theorem calBegin_kept (ch : Nat) (back : Nat) (h : Kept a s) : Kept a (State.calBegin s ch back) := by
  unfold State.calBegin; simp (maxDischargeDepth := 60) +contextual only [bStop_kept, modUwb_kept, put_kept, h]
theorem tune_kept (ch : Nat) (h : Kept a s) : Kept a (State.tune s ch) := by
  unfold State.tune; simp (maxDischargeDepth := 60) +contextual only [bStart_kept, put_kept, h]
theorem execStateRaise_runs (h : Kept a s) : Runs a (execStateRaise s) := by
  unfold execStateRaise
  refine whileLive_runs h fun t k => ?_
  split <;> simp (maxDischargeDepth := 60) +contextual only [calBegin_kept, put_kept, tune_kept, k, Runs.next, runs_ite]
theorem execTxEnd_runs (h : Kept a s) : Runs a (execTxEnd s) := by
  unfold execTxEnd
  refine whileLive_runs h fun t k => ?_
  (repeat' split) <;> simp (maxDischargeDepth := 60) +contextual only [advanceTo_kept, answerTo_kept, charge_kept, modRound_kept,
      radioIdle_kept, k, Runs.next]
theorem keepImpulse_kept (h : Kept a s) : Kept a (State.keepImpulse s) := by
  unfold State.keepImpulse
  split <;> simp (maxDischargeDepth := 60) +contextual only [each_kept, granWriteAt_kept, nextFree_kept, h, implies_true]
theorem windowOver_kept (l : RadioLive) (h : Kept a s) : Kept a (State.windowOver s l) := by
  unfold State.windowOver
  split <;> (try split) <;> simp (maxDischargeDepth := 60) +contextual only [answerTo_kept, modRound_kept, radioIdle_kept,
      radioNote_kept, h]
theorem execRxFrame_runs (frame : RadioFrame) (h : Kept a s) : Runs a (execRxFrame frame s) := by
  unfold execRxFrame
  refine whileLive_runs h fun t k => ?_
  dsimp only
  (repeat' split) <;> simp (maxDischargeDepth := 60) +contextual only [advanceTo_kept, flag_kept, keepImpulse_kept, modUwb_kept,
      radioIdle_kept, windowOver_kept, k, Runs.next]
theorem execRxWindowClose_runs (h : Kept a s) : Runs a (execRxWindowClose s) := by
  unfold execRxWindowClose
  refine whileLive_runs h fun t k => ?_
  split <;> (try split) <;> simp (maxDischargeDepth := 60) +contextual only [advanceTo_kept, windowOver_kept, k, Runs.next]
theorem execFirstPathDone_runs (path : FirstPath) (h : Kept a s) : Runs a (execFirstPathDone path s) := by
  unfold execFirstPathDone
  refine whileLive_runs h fun t k => ?_
  (repeat' split) <;> simp (maxDischargeDepth := 60) +contextual only [answerTo_kept, emit_kept, flag_kept, modRound_kept,
      modUwb_kept, when_kept, k, Runs.next, implies_true]
theorem roundResult_kept (x : Session) (r : Round) (late : Bool) (h : Kept a s) : Kept a (State.roundResult s x r late) := by
  unfold State.roundResult; split <;> simp (maxDischargeDepth := 60) +contextual only [emit_kept, nextFree_kept, kept_ite, h]
theorem missRound_kept (x1 : Nat) (h : Kept a s) : Kept a (State.missRound s x1) := by
  unfold State.missRound; simp (maxDischargeDepth := 60) +contextual only [modRound_kept, modUwb_kept, tally_kept, h]
theorem planRound_kept (id r : Nat) (h : Kept a s) : Kept a (s.planRound id r) := by
  unfold State.planRound
  split
  · exact h
  · refine kept_ite h (kept_ite (tally_kept _ _ (modRound_kept _ _ (modSession_kept _ _ (tally_kept _ _ h))))
      (modUwb_kept _ (each_kept _ (fun t x e => ?_) _ (modSession_kept _ _ (tally_kept _ _ h)))))
    split
    · exact missRound_kept _ e
    · exact modUwb_kept _ e
theorem afterRound_kept (x : Session) (r : Nat) (h : Kept a s) : Kept a (State.afterRound s x r) := by
  unfold State.afterRound
  simp (maxDischargeDepth := 60) +contextual only [dropSession_kept, modSession_kept, planRound_kept, kept_ite, h]
theorem execRangingRoundEnd_runs (handle : Fin 16) (h : Kept a s) : Runs a (execRangingRoundEnd handle s) := by
  unfold execRangingRoundEnd
  refine whileLive_runs h fun t k => ?_
  split <;> (try split) <;> simp (maxDischargeDepth := 60) +contextual only [afterRound_kept, modSession_kept, roundResult_kept,
      kept_ite, k, Runs.next, runs_ite]
theorem execRoundTimeout_runs (handle : Fin 16) (h : Kept a s) : Runs a (execRoundTimeout handle s) := by
  unfold execRoundTimeout
  refine whileLive_runs h fun t k => ?_
  split <;> (try split) <;> simp (maxDischargeDepth := 60) +contextual only [advanceTo_kept, modSession_kept, roundResult_kept,
      k, Runs.next]
theorem execTempCalDue_runs (temp : BitVec 8) (h : Kept a s) : Runs a (execTempCalDue temp s) := by
  unfold execTempCalDue
  simp (maxDischargeDepth := 60) +contextual only [flag_kept, modUwb_kept, whileLive_runs, h, Runs.next, runs_ite, implies_true]
theorem execCalStart_runs (h : Kept a s) : Runs a (execCalStart s) := by
  unfold execCalStart
  refine whileLive_runs h fun t k => ?_
  split <;> simp (maxDischargeDepth := 60) +contextual only [calBegin_kept, each_kept, endAct_kept, modUwb_kept, k, Runs.next,
      runs_ite, implies_true]
theorem execCalDone_runs (temp : BitVec 8) (h : Kept a s) : Runs a (execCalDone temp s) := by
  unfold execCalDone
  refine whileLive_runs h fun t k => ?_
  split <;> simp (maxDischargeDepth := 60) +contextual only [answer_kept, each_kept, flag_kept, modUwb_kept, put_kept,
      radioTo_kept, tune_kept, kept_ite, k, Runs.next, implies_true]
theorem execGntChange_runs (level : Bool) (h : Kept a s) : Runs a (execGntChange level s) := by
  unfold execGntChange
  simp (maxDischargeDepth := 60) +contextual only [flag_kept, modUwb_kept, showGnt_kept, when_kept, h, Runs.next, runs_ite,
      implies_true]
theorem execListenWindow_runs (h : Kept a s) : Runs a (execListenWindow s) := by
  unfold execListenWindow
  refine whileLive_runs h fun t k => ?_
  (repeat' split) <;> simp (maxDischargeDepth := 60) +contextual only [advanceTo_kept, modUwb_kept, receive_kept, k, Runs.next]
theorem stripChar_kept (c : Nat) (n : Nat) (e : RxEntry) (h : Kept a s) : Kept a (State.stripChar s c n e) := by
  unfold State.stripChar
  simp (maxDischargeDepth := 60) +contextual only [modCvu_kept, overrun_kept, put_kept, showFed_kept, showRts_kept,
      stripEnd_kept, kept_ite, h]
theorem rxEntry_kept (n : Nat) (e : RxEntry) (h : Kept a s) : Kept a (State.rxEntry s n e) := by
  unfold State.rxEntry; split <;> simp (maxDischargeDepth := 60) +contextual only [rxPush_kept, stripChar_kept, h]
theorem cardChar_kept (n : Nat) (raw : Nat) (parity : Nat) (h : Kept a s) : Kept a (State.cardChar s n raw parity) := by
  unfold State.cardChar
  simp (maxDischargeDepth := 60) +contextual only [flag_kept, modUart_kept, put_kept, rxEntry_kept, uartEvent_kept, when_kept,
      kept_ite, h, implies_true, and_self]
theorem cardHeard_kept (n : Nat) (h : Kept a s) : Kept a (State.cardHeard s n) := by
  unfold State.cardHeard; simp (maxDischargeDepth := 60) +contextual only [modUart_kept, h, implies_true, and_self]
theorem linEnd_kept (n err : Nat) (h : Kept a s) : Kept a (s.linEnd n err) := by
  unfold State.linEnd
  exact showUart_kept _ (uartEvent_kept _ _ (put_kept _ _ (put_kept _ _ (modUart_kept _ _ (fun u k => by simpa using k) h))))
theorem linByte_kept (n : Nat) (e : RxEntry) (h : Kept a s) : Kept a (State.linByte s n e) := by
  unfold State.linByte
  split <;> simp (maxDischargeDepth := 60) +contextual only [linEnd_kept, modUart_kept, rxPush_kept, kept_ite, h, implies_true,
      and_self]
theorem execUartRxChar_runs (uart : Fin 8) (samples : BitVec 12) (h : Kept a s) : Runs a (execUartRxChar uart samples s) := by
  unfold execUartRxChar
  simp (maxDischargeDepth := 60) +contextual only [cardChar_kept, cardHeard_kept, flag_kept, linByte_kept, modUart_kept,
      rxEntry_kept, uartEvent_kept, whileLive_runs, kept_ite, h, Runs.next, runs_ite, implies_true, and_self]
theorem breakOver_kept (n : Nat) (len : Nat) (h : Kept a s) : Kept a (State.breakOver s n len) := by
  unfold State.breakOver
  dsimp only
  split <;> simp (maxDischargeDepth := 60) +contextual only [cvuCut_kept, put_kept, rxPush_kept, h]
theorem execUartBreakRx_runs (uart : Fin 8) (len : Nat) (h : Kept a s) : Runs a (execUartBreakRx uart len s) := by
  unfold execUartBreakRx
  simp (maxDischargeDepth := 60) +contextual only [breakOver_kept, linEnd_kept, when_kept, whileLive_runs, h, Runs.next,
      runs_ite, implies_true]
theorem execUartStuck_runs (uart : Fin 8) (h : Kept a s) : Runs a (execUartStuck uart s) := by
  unfold execUartStuck
  simp (maxDischargeDepth := 60) +contextual only [flag_kept, linEnd_kept, uartEvent_kept, when_kept, whileLive_runs, h,
      Runs.next, runs_ite, implies_true]
theorem execUartStuckEnd_runs (uart : Fin 8) (len : Nat) (h : Kept a s) : Runs a (execUartStuckEnd uart len s) := by
  unfold execUartStuckEnd
  simp (maxDischargeDepth := 60) +contextual only [breakOver_kept, put_kept, uartEvent_kept, whileLive_runs, h, Runs.next,
      runs_ite, implies_true]
theorem linPidSeen_kept (n : Nat) (pid : Nat) (h : Kept a s) : Kept a (State.linPidSeen s n pid) := by
  unfold State.linPidSeen
  dsimp only
  (repeat' split) <;> simp (maxDischargeDepth := 60) +contextual only [linEnd_kept, modUart_kept, put_kept, h, implies_true,
      and_self]
theorem txEnd_kept (n : Nat) (b : Nat) (low : Bool) (h : Kept a s) : Kept a (State.txEnd s n b low) := by
  unfold State.txEnd
  dsimp only
  (repeat' split) <;> simp (maxDischargeDepth := 60) +contextual only [linEnd_kept, linPidSeen_kept, modUart_kept, showUart_kept,
      uartEvent_kept, h, implies_true, and_self]
theorem appendByte_kept (n : Nat) (b : Nat) (h : Kept a s) : Kept a (State.appendByte s n b) := by
  unfold State.appendByte
  split <;> simp (maxDischargeDepth := 60) +contextual only [cvuEnd_kept, modCvu_kept, modUart_kept, put_kept, showFed_kept,
      kept_ite, h, implies_true, and_self]
theorem txTake_kept (n : Nat) (h : Kept a s) : Kept a (s.txTake n) := by
  unfold State.txTake
  extract_lets u div start took
  have k (t : State) (b : Nat) (e : Kept a t) : Kept a (took t b) := modUart_kept _ _ (fun _ q => q) e
  split
  · exact showUart_kept _ (k _ _ (modUart_kept _ _ (fun _ q => q) h))
  · split
    · exact h
    · rename_i b rest _ q _
      refine showUart_kept _ (appendByte_kept _ _ (k _ _ (modUart_kept' _ _ h fun w => ⟨w.1, ?_⟩)))
      have e : (s.uart n).tx = b :: rest := q
      have l := w.2
      rw [e] at l
      exact Nat.le_of_succ_le l
  · exact h
theorem txChar_kept (n : Nat) (cts : Bool) (low : Bool) (h : Kept a s) : Kept a (State.txChar s n cts low) := by
  unfold State.txChar
  dsimp only
  split <;> simp (maxDischargeDepth := 60) +contextual only [breakBegin_kept, put_kept, txEnd_kept, txTake_kept, uartEvent_kept,
      when_kept, kept_ite, h, implies_true]
theorem execUartTxChar_runs (uart : Fin 8) (cts : Bool) (low : Bool) (h : Kept a s) : Runs a (execUartTxChar uart cts low s) := by
  unfold execUartTxChar
  simp (maxDischargeDepth := 60) +contextual only [advanceTo_kept, txChar_kept, when_kept, whileLive_runs, h, Runs.next,
      runs_ite, implies_true]
theorem execUartDataRead_runs (uart : Fin 8) (h : Kept a s) : Runs a (execUartDataRead uart s) := by
  unfold execUartDataRead
  simp (maxDischargeDepth := 60) +contextual only [uartRead_kept, whileLive_runs, h, Runs.next, implies_true]
theorem execUartDataWrite_runs (uart : Fin 8) (value : Word) (h : Kept a s) : Runs a (execUartDataWrite uart value s) := by
  unfold execUartDataWrite
  simp (maxDischargeDepth := 60) +contextual only [uartWrite_kept, whileLive_runs, h, Runs.next, implies_true]
theorem execUartStatusRead_runs (uart : Fin 8) (h : Kept a s) : Runs a (execUartStatusRead uart s) := by
  unfold execUartStatusRead
  simp (maxDischargeDepth := 60) +contextual only [modUart_kept, whileLive_runs, h, Runs.next, implies_true, and_self]
theorem execFlushRx_runs (uart : Fin 8) (h : Kept a s) : Runs a (execFlushRx uart s) := by
  unfold execFlushRx
  simp (maxDischargeDepth := 60) +contextual only [flushRx_kept, uartTouch_kept, whileLive_runs, h, Runs.next, implies_true]
theorem execFlushTx_runs (uart : Fin 8) (h : Kept a s) : Runs a (execFlushTx uart s) := by
  unfold execFlushTx
  simp (maxDischargeDepth := 60) +contextual only [flushTx_kept, uartTouch_kept, whileLive_runs, h, Runs.next, implies_true]
theorem execUartBreakSend_runs (uart : Fin 8) (h : Kept a s) : Runs a (execUartBreakSend uart s) := by
  unfold execUartBreakSend
  simp (maxDischargeDepth := 60) +contextual only [breakSend_kept, whileLive_runs, h, Runs.next, implies_true]
theorem execUartBreakDone_runs (uart : Fin 8) (h : Kept a s) : Runs a (execUartBreakDone uart s) := by
  unfold execUartBreakDone
  simp (maxDischargeDepth := 60) +contextual only [advanceTo_kept, modUart_kept, put_kept, showUart_kept, whileLive_runs, h,
      Runs.next, runs_ite, implies_true, and_self]
theorem execLinHeaderSend_runs (uart : Fin 8) (h : Kept a s) : Runs a (execLinHeaderSend uart s) := by
  unfold execLinHeaderSend
  simp (maxDischargeDepth := 60) +contextual only [linHeader_kept, whileLive_runs, h, Runs.next, implies_true]
theorem execLinBreakDetect_runs (uart : Fin 8) (departure : BitVec 16) (h : Kept a s) : Runs a (execLinBreakDetect uart departure
    s) := by
  unfold execLinBreakDetect
  simp (maxDischargeDepth := 60) +contextual only [linEnd_kept, modUart_kept, whileLive_runs, kept_ite, h, Runs.next, runs_ite,
      implies_true, and_self]
theorem execLinPid_runs (uart : Fin 8) (pid : BitVec 8) (h : Kept a s) : Runs a (execLinPid uart pid s) := by
  unfold execLinPid
  refine whileLive_runs h fun t k => ?_
  split <;> simp (maxDischargeDepth := 60) +contextual only [linPidSeen_kept, k, Runs.next, runs_ite]
theorem execLinResponseStart_runs (uart : Fin 8) (h : Kept a s) : Runs a (execLinResponseStart uart s) := by
  unfold execLinResponseStart
  refine whileLive_runs h fun t k => ?_
  split
  · split
    · exact .next k
    · extract_lets
      have e (x : Time) : Kept a (t.advanceTo x) := advanceTo_kept _ k
      split
      · exact .next (linEnd_kept _ _ (e _))
      · refine .next (showUart_kept _ (modUart_kept _ _ (fun u q => ⟨q.1, ?_⟩) (e _)))
        rw [List.length_drop]
        exact Nat.le_trans (Nat.sub_le _ _) q.2
  · exact .next k
theorem execLinTimeout_runs (uart : Fin 8) (h : Kept a s) : Runs a (execLinTimeout uart s) := by
  unfold execLinTimeout
  refine whileLive_runs h fun t k => ?_
  split <;> simp (maxDischargeDepth := 60) +contextual only [advanceTo_kept, linEnd_kept, k, Runs.next]
theorem execUartWake_runs (uart : Fin 8) (h : Kept a s) : Runs a (execUartWake uart s) := by
  unfold execUartWake; simp (maxDischargeDepth := 60) +contextual only [put_kept, wake_kept, h, Runs.next, runs_ite]
theorem execCvuStart_runs (unit : Fin 16) (h : Kept a s) : Runs a (execCvuStart unit s) := by
  unfold execCvuStart; simp (maxDischargeDepth := 60) +contextual only [cvuStart_kept, whileLive_runs, h, Runs.next, implies_true]
theorem execCvuAbort_runs (unit : Fin 16) (h : Kept a s) : Runs a (execCvuAbort unit s) := by
  unfold execCvuAbort; simp (maxDischargeDepth := 60) +contextual only [cvuAbort_kept, whileLive_runs, h, Runs.next, implies_true]
theorem execCvuDataWrite_runs (unit : Fin 16) (value : Word) (h : Kept a s) : Runs a (execCvuDataWrite unit value s) := by
  unfold execCvuDataWrite
  simp (maxDischargeDepth := 60) +contextual only [cvuWrite_kept, whileLive_runs, h, Runs.next, implies_true]
theorem execCvuDone_runs (unit : Fin 16) (h : Kept a s) : Runs a (execCvuDone unit s) := by
  unfold execCvuDone
  simp (maxDischargeDepth := 60) +contextual only [advanceTo_kept, cvuEnd_kept, put_kept, whileLive_runs, h, Runs.next, runs_ite,
      implies_true]
theorem execToVbak_runs (h : Kept a s) : Runs a (execToVbak s) := by
  unfold execToVbak
  simp (maxDischargeDepth := 60) +contextual only [flag_kept, modPwr_kept, put_kept, kept_ite, h, Runs.next, runs_ite]
theorem toVsys_kept (h : Kept a s) : Kept a (State.toVsys s) := by
  unfold State.toVsys; simp (maxDischargeDepth := 60) +contextual only [flag_kept, put_kept, h]
theorem execToVsys_runs (h : Kept a s) : Runs a (execToVsys s) := by
  unfold execToVsys; simp (maxDischargeDepth := 60) +contextual only [toVsys_kept, kept_ite, h, Runs.next]
theorem execVbakLow_runs (h : Kept a s) : Runs a (execVbakLow s) := by
  unfold execVbakLow; simp (maxDischargeDepth := 60) +contextual only [toVsys_kept, kept_ite, h, Runs.next]
theorem aonClear_kept (h : Kept a s) : Kept a s.aonClear := by
  unfold State.aonClear
  exact modSec_kept _ (fun _ e => e) (fun _ e => e) (modPwr_kept _ (modLtu_kept _ (put_kept _ _ (put_kept _ _ (h.regs _
      sparseKeep_wf)))))
theorem execAonPowerLoss_runs (h : Kept a s) : Runs a (execAonPowerLoss s) := by
  unfold execAonPowerLoss
  simp (maxDischargeDepth := 60) +contextual only [aonClear_kept, mainOff_kept, modPwr_kept, kept_ite, h, Runs.next, runs_ite]
theorem execAonPowerUp_runs (onVbak : Bool) (h : Kept a s) : Runs a (execAonPowerUp onVbak s) := by
  unfold execAonPowerUp
  simp (maxDischargeDepth := 60) +contextual only [aonClear_kept, modPwr_kept, put_kept, h, Runs.next, runs_ite]
theorem powerFails_kept (pfail : Bool) (h : Kept a s) : Kept a (State.powerFails s pfail) := by
  unfold State.powerFails; simp (maxDischargeDepth := 60) +contextual only [flag_kept, put_kept, kept_ite, h]
theorem modeEvent_kept (mode : Nat) (previous : Nat) (cause : Nat) (h : Kept a s) : Kept a (State.modeEvent s mode previous
    cause) := by
  unfold State.modeEvent; simp (maxDischargeDepth := 60) +contextual only [emit_kept, flag_kept, h]
theorem execShutdownStart_runs (pfail : Bool) (rtc : BitVec 48) (h : Kept a s) : Runs a (execShutdownStart pfail rtc s) := by
  unfold execShutdownStart
  simp (maxDischargeDepth := 60) +contextual only [flag_kept, mainOff_kept, modeEvent_kept, powerFails_kept, shutdownSteps_kept,
      whileLive_runs, h, Runs.next, implies_true]
theorem execMainPowerStart_runs (h : Kept a s) : Runs a (execMainPowerStart s) := by
  unfold execMainPowerStart
  simp (maxDischargeDepth := 60) +contextual only [flag_kept, modPwr_kept, put_kept, h, Runs.next, runs_ite]
theorem openDebug_kept (scope : Nat) (h : Kept a s) : Kept a (State.openDebug s scope) := by
  unfold State.openDebug; simp (maxDischargeDepth := 60) +contextual only [emit_kept, flag_kept, put_kept, zeroiseSts_kept, h]
theorem strapAt_kept (strap : Bool) (h : Kept a s) : Kept a (State.strapAt s strap) := by
  unfold State.strapAt
  simp (maxDischargeDepth := 60) +contextual only [flag_kept, modSec_kept, openDebug_kept, put_kept, kept_ite, h, implies_true,
      eq_self]
theorem showStore_kept (h : Kept a s) : Kept a (State.showStore s) := by
  unfold State.showStore; simp (maxDischargeDepth := 60) +contextual only [put_kept, h]
theorem reloadTime_kept (orderly : Bool) (h : Kept a s) : Kept a (State.reloadTime s orderly) := by
  unfold State.reloadTime
  split <;> simp (maxDischargeDepth := 60) +contextual only [chooseSource_kept, discontinuity_kept, flag_kept, modLtu_kept,
      setUnc_kept, h]
theorem programPreset_kept (l : Nat) (p : Preset) (h : Kept a s) : Kept a (State.programPreset s l p) := by
  unfold State.programPreset; simp (maxDischargeDepth := 60) +contextual only [filterRequest_kept, put_kept, setWord_kept, h]
theorem prepareCapture_kept (entry : Nat) (h : Kept a s) : Kept a (State.prepareCapture s entry) := by
  unfold State.prepareCapture
  dsimp only
  split <;> simp (maxDischargeDepth := 60) +contextual only [armTrigger_kept, each_kept, flag_kept, laneEnable_kept,
      modSnap_kept, programPreset_kept, put_kept, setTrigTime_kept, startChain_kept, tally_kept, h, implies_true]
theorem execMainResetRelease_runs (strap hostSel : Bool) (rtc : BitVec 48) (h : Kept a s) :
    Runs a (execMainResetRelease strap hostSel rtc s) := by
  unfold execMainResetRelease
  split
  · exact .next h
  · extract_lets s0 s1 s2 s3 fw s4 s5
    have k0 : Kept a s0 := flag_kept _ (setRtc_kept _ (mainClear_kept h))
    have k1 : Kept a s1 := strapAt_kept _ (modPwr_kept _ k0)
    have k2 : Kept a s2 := modHost_kept _ (fun _ => rfl) (put_kept _ _ k1)
    have k3 : Kept a s3 := put_kept _ _ (put_kept _ _ k2)
    have k4 : Kept a s4 := showGnt_kept (showStore_kept (k3.same rfl rfl rfl rfl rfl rfl rfl rfl rfl rfl rfl rfl))
    have k5 : Kept a s5 := reloadTime_kept _ k4
    split
    · exact .next (prepareCapture_kept _ (put_kept _ _ k5))
    · exact .next (modPwr_kept _ k5)
theorem execRailFault_runs (h : Kept a s) : Runs a (execRailFault s) := by
  unfold execRailFault
  simp (maxDischargeDepth := 60) +contextual only [flag_kept, mainReset_kept, put_kept, h, Runs.next, runs_ite]
theorem execExtReset_runs (h : Kept a s) : Runs a (execExtReset s) := by
  unfold execExtReset
  simp (maxDischargeDepth := 60) +contextual only [flag_kept, mainReset_kept, modPwr_kept, h, Runs.next, runs_ite]
theorem execEarlyPfail_runs (pfail : Bool) (h : Kept a s) : Runs a (execEarlyPfail pfail s) := by
  unfold execEarlyPfail; simp (maxDischargeDepth := 60) +contextual only [mainOff_kept, powerFails_kept, h, Runs.next, runs_ite]
theorem execFrozenPfail_runs (h : Kept a s) : Runs a (execFrozenPfail s) := by
  unfold execFrozenPfail; simp (maxDischargeDepth := 60) +contextual only [flag_kept, mainOff_kept, h, Runs.next, runs_ite]
theorem wakeCopy_kept (h : Kept a s) : Kept a (State.wakeCopy s) := by
  unfold State.wakeCopy; simp (maxDischargeDepth := 60) +contextual only [each_kept, modPwr_kept, put_kept, h, implies_true]
theorem enterDormant_kept (mode : Nat) (h : Kept a s) : Kept a (State.enterDormant s mode) := by
  unfold State.enterDormant; simp (maxDischargeDepth := 60) +contextual only [mainOff_kept, wakeCopy_kept, h]
theorem netOff_kept (h : Kept a s) : Kept a s.netOff :=
  put_kept _ _ (modNet_kept _ (Kept.regs (netRestart_kept (put_kept _ _ h)) _ sparseKeep_wf))
theorem leaveLite_kept (h : Kept a s) : Kept a s.leaveLite := by
  have o : Kept a ((s.shfDisable.each (List.range 12) State.laneStop).thrDisable) :=
    thrDisable_kept (each_kept _ (fun _ _ e => laneStop_kept _ e) _ (shfDisable_kept h))
  unfold State.leaveLite
  extract_lets s0 s1 s2 s3 s4 s5 s6 s7
  have k1 : Kept a s1 := by
    unfold s1
    split
    · exact answerTo_kept _ _ (captureOver_kept o)
    · exact o
  have k2 : Kept a s2 := netOff_kept (stopActs_kept _ k1)
  have k3 : Kept a s3 := by
    unfold s3
    split
    · exact kept_ite k2 (auditRelease_kept _ k2)
    · exact k2
  have k4 : Kept a s4 := modGran_kept _ (fun _ => rfl) (fun _ => rfl) k3
  have k6 : Kept a s6 := stopChain_kept (modNav_kept _ k4)
  have k7 : Kept a s7 := k6.regs _ sparseKeep_wf
  exact k7.same rfl rfl rfl rfl rfl rfl rfl rfl rfl rfl rfl rfl
theorem setCores_kept (now : Nat) (h : Kept a s) : Kept a (State.setCores s now) := by
  unfold State.setCores
  simp (maxDischargeDepth := 60) +contextual only [clearMemories_kept, coreReset_kept, each_kept, modCore_kept, put_kept,
      kept_ite, h, implies_true]
theorem setMode_kept (mode : Nat) (h : Kept a s) : Kept a (State.setMode s mode) := by
  unfold State.setMode; simp (maxDischargeDepth := 60) +contextual only [put_kept, setCores_kept, h]
theorem enterLite_kept (h : Kept a s) : Kept a s.enterLite := modGran_kept' _ h sparseKeep_wf id
theorem moveChannel_kept (c : Nat) (d : Nat) (h : Kept a s) : Kept a (State.moveChannel s c d) := by
  unfold State.moveChannel
  simp (maxDischargeDepth := 60) +contextual only [each_kept, setChan_kept, setLock_kept, setWord_kept, kept_ite, h, implies_true]
theorem squeeze_kept (h : Kept a s) : Kept a s.squeeze := by
  unfold State.squeeze
  refine each_kept _ (fun t x e => showSheaf_kept _ e) _ (each_kept _ (fun t x e => put_kept _ _ e) _ (each_kept _ (fun t x e =>
      ?_) _ h))
  dsimp only
  split
  · exact chanEnd_kept _ _ e
  · exact kept_ite (moveChannel_kept _ _ (moveChannel_kept _ _ e)) (moveChannel_kept _ _ e)
theorem modeHop_kept (m : Nat) (h : Kept a s) : Kept a (State.modeHop s m) := by
  unfold State.modeHop
  simp (maxDischargeDepth := 60) +contextual only [enterLite_kept, leaveLite_kept, setMode_kept, squeeze_kept, kept_ite, h]
theorem execModeTransitionDone_runs (h : Kept a s) : Runs a (execModeTransitionDone s) := by
  unfold execModeTransitionDone
  refine whileLive_runs h fun t k => ?_
  split <;> simp (maxDischargeDepth := 60) +contextual only [answerTo_kept, enterDormant_kept, modPwr_kept, modeEvent_kept,
      modeHop_kept, put_kept, k, Runs.next, runs_ite]
theorem execHostWake_runs (h : Kept a s) : Runs a (execHostWake s) := by
  unfold execHostWake; simp (maxDischargeDepth := 60) +contextual only [wake_kept, kept_ite, h, Runs.next]
theorem uartWoke_kept (h : Kept a s) : Kept a (State.uartWoke s) := by
  unfold State.uartWoke; simp (maxDischargeDepth := 60) +contextual only [flag_kept, kept_ite, h]
theorem uartsRestore_kept (h : Kept a s) : Kept a (State.uartsRestore s) := by
  unfold State.uartsRestore
  simp (maxDischargeDepth := 60) +contextual only [each_kept, modPwr_kept, modUart_kept, put_kept, setWord_kept, h, implies_true,
      and_self]
theorem sealSend_kept (h : Kept a s) : Kept a (State.sealSend s) := by
  unfold State.sealSend
  split <;> simp (maxDischargeDepth := 60) +contextual only [emit_kept, modSec_kept, kept_ite, h, implies_true, eq_self]
theorem sealZeroise_kept (h : Kept a s) : Kept a (State.sealZeroise s) := by
  unfold State.sealZeroise
  simp (maxDischargeDepth := 60) +contextual only [modSec_kept, zeroiseSts_kept, kept_ite, h, implies_true, eq_self]
theorem sealBreak_kept (cause : Nat) (rtc : Nat) (h : Kept a s) : Kept a (State.sealBreak s cause rtc) := by
  unfold State.sealBreak
  simp (maxDischargeDepth := 60) +contextual only [bump_kept, flag_kept, modSec_kept, put_kept, sealSend_kept, sealZeroise_kept,
      kept_ite, h, implies_true, eq_self]
theorem startLockout_kept (f : Nat) (h : Kept a s) : Kept a (State.startLockout s f) := by
  unfold State.startLockout; simp (maxDischargeDepth := 60) +contextual only [emit_kept, flag_kept, put_kept, kept_ite, h]
theorem setFailures_kept (f : Nat) (h : Kept a s) : Kept a (State.setFailures s f) := by
  unfold State.setFailures; simp (maxDischargeDepth := 60) +contextual only [modSec_kept, put_kept, h, implies_true, eq_self]
theorem afterAonLoss_kept (h : Kept a s) : Kept a (State.afterAonLoss s) := by
  unfold State.afterAonLoss
  simp (maxDischargeDepth := 60) +contextual only [modSec_kept, sealBreak_kept, setFailures_kept, startLockout_kept, kept_ite, h,
      implies_true, eq_self]
theorem execBootDone_runs (h : Kept a s) : Runs a (execBootDone s) := by
  unfold execBootDone
  split <;> simp (maxDischargeDepth := 60) +contextual only [afterAonLoss_kept, flag_kept, modPwr_kept, modeEvent_kept, put_kept,
      setMode_kept, uartWoke_kept, uartsRestore_kept, kept_ite, h, Runs.next, runs_ite]
theorem execPresPress_runs (h : Kept a s) : Runs a (execPresPress s) := by
  unfold execPresPress
  simp (maxDischargeDepth := 60) +contextual only [flag_kept, wake_kept, whileAon_runs, h, Runs.next, implies_true]
theorem execPresRelease_runs (h : Kept a s) : Runs a (execPresRelease s) := by
  unfold execPresRelease
  simp (maxDischargeDepth := 60) +contextual only [flag_kept, put_kept, whileAon_runs, h, Runs.next, runs_ite, implies_true]
theorem execPresWindowExpiry_runs (h : Kept a s) : Runs a (execPresWindowExpiry s) := by
  unfold execPresWindowExpiry; simp (maxDischargeDepth := 60) +contextual only [put_kept, whileAon_runs, h, Runs.next, implies_true]
theorem execSealCheck_runs (rtc : BitVec 48) (level : Bool) (first : Bool) (second : Bool) (h : Kept a s) : Runs a (execSealCheck
    rtc level first second s) := by
  unfold execSealCheck
  simp (maxDischargeDepth := 60) +contextual only [modSec_kept, rtcTo_kept, sealBreak_kept, wake_kept, whileAon_runs, h,
      Runs.next, runs_ite, implies_true, eq_self]
theorem execTrngFail_runs (h : Kept a s) : Runs a (execTrngFail s) := by
  unfold execTrngFail
  simp (maxDischargeDepth := 60) +contextual only [flag_kept, put_kept, whileLive_runs, h, Runs.next, implies_true]
theorem authAnswer_kept (x1 : AuthRun) (ans : Answer) (h : Kept a s) : Kept a (State.authAnswer s x1 ans) := by
  unfold State.authAnswer
  split <;> simp (maxDischargeDepth := 60) +contextual only [answer_kept, modSec_kept, h, implies_true, eq_self]
theorem execAuthVerifyDone_runs (h : Kept a s) : Runs a (execAuthVerifyDone s) := by
  unfold execAuthVerifyDone
  refine whilePowered_runs h fun t k => ?_
  split <;> simp (maxDischargeDepth := 60) +contextual only [authAnswer_kept, flag_kept, modSec_kept, openDebug_kept, put_kept,
      setFailures_kept, startLockout_kept, toLifecycle_kept, k, Runs.next, runs_ite, implies_true, eq_self]
theorem execLockoutEnd_runs (rtc : BitVec 48) (h : Kept a s) : Runs a (execLockoutEnd rtc s) := by
  unfold execLockoutEnd
  simp (maxDischargeDepth := 60) +contextual only [emit_kept, put_kept, rtcTo_kept, whileAon_runs, kept_ite, h, Runs.next,
      runs_ite, implies_true]
theorem dropNonce_kept (h : Kept a s) : Kept a (State.dropNonce s) := by
  unfold State.dropNonce; simp (maxDischargeDepth := 60) +contextual only [modSec_kept, put_kept, h, implies_true, eq_self]
theorem execNonceExpiry_runs (h : Kept a s) : Runs a (execNonceExpiry s) := by
  unfold execNonceExpiry
  simp (maxDischargeDepth := 60) +contextual only [dropNonce_kept, whileAon_runs, h, Runs.next, implies_true]
theorem execServiceTimeout_runs (h : Kept a s) : Runs a (execServiceTimeout s) := by
  unfold execServiceTimeout; simp (maxDischargeDepth := 60) +contextual only [endDebug_kept, kept_ite, h, Runs.next]
theorem freeze_kept (ticks : Nat) (h : Kept a s) : Kept a (State.freeze s ticks) := by
  unfold State.freeze
  simp (maxDischargeDepth := 60) +contextual only [bump_kept, cancelStep_kept, flag_kept, gatesClose_kept, modLtu_kept,
      modSec_kept, put_kept, tapCheck_kept, when_kept, h, implies_true, eq_self]
theorem execFreeze_runs (ticks : Fin 12) (h : Kept a s) : Runs a (execFreeze ticks s) := by
  unfold execFreeze
  simp (maxDischargeDepth := 60) +contextual only [bump_kept, flag_kept, freeze_kept, whileLive_runs, h, Runs.next, runs_ite,
      implies_true]
theorem thawClock_kept (n : Nat) (rtc : Nat) (h : Kept a s) : Kept a (State.thawClock s n rtc) := by
  unfold State.thawClock
  simp (maxDischargeDepth := 60) +contextual only [chooseSource_kept, fabAgain_kept, modLtu_kept, put_kept, h]
theorem tpPassed_kept (k : Nat) : ∀ (n : Nat) (old new : Time) {s : State}, Kept a s → Kept a (s.tpPassed k n old new)
  | 0, _, _, _, h => h
  | n + 1, _, _, s, h => by
    unfold State.tpPassed
    exact kept_ite h (tpPassed_kept k n _ _ (tpComplete_kept _ _ (flag_kept _ (when_kept (modPulse_kept _ _ h) fun _ e =>
    emit_kept _ e))))
theorem tpThaw_kept (old : Time) (new : Time) (h : Kept a s) : Kept a (State.tpThaw s old new) := by
  unfold State.tpThaw; simp (maxDischargeDepth := 60) +contextual only [each_kept, tpPassed_kept, kept_ite, h, implies_true]
theorem thawRadio_kept (h : Kept a s) : Kept a (State.thawRadio s) := by
  unfold State.thawRadio; simp (maxDischargeDepth := 60) +contextual only [each_kept, endAct_kept, modUwb_kept, h, implies_true]
theorem endpointReset_kept (h : Kept a s) : Kept a (State.endpointReset s) := by
  unfold State.endpointReset; simp (maxDischargeDepth := 60) +contextual only [modHost_kept, h, implies_true, eq_self]
theorem linkLoss_kept (cause : Nat) (h : Kept a s) : Kept a (State.linkLoss s cause) := by
  unfold State.linkLoss
  simp (maxDischargeDepth := 60) +contextual only [bayHome_kept, bump_kept, cvuReturn_kept, each_kept, emit_kept,
      endpointReset_kept, flag_kept, loadFails_kept, modHost_kept, modSnap_kept, put_kept, uartReturn_kept, zeroiseSts_kept,
      kept_ite, h, implies_true, eq_self]
theorem flushVectors_kept (h : Kept a s) : Kept a (State.flushVectors s) := by
  unfold State.flushVectors; simp (maxDischargeDepth := 60) +contextual only [modHost_kept, kept_ite, h, implies_true, eq_self]
theorem replay_kept (h : Kept a s) : Kept a s.replay :=
  each_kept _ (fun t x e => by cases x <;> first | exact emitAt_kept _ _ e | exact respond_kept _ _ _ _ e) _ (modHost_kept _ (fun
      _ => rfl) h)
theorem execThaw_runs (refPeriods : BitVec 48) (rtcPeriods : BitVec 48) (h : Kept a s) : Runs a (execThaw refPeriods rtcPeriods
    s) := by
  unfold execThaw
  refine whilePowered_runs h fun t k => ?_
  dsimp only
  (repeat' split) <;> simp (maxDischargeDepth := 60) +contextual only [discontinuity_kept, flag_kept, flushVectors_kept,
      gatesOpen_kept, linkLoss_kept, modHost_kept, modeEvent_kept, passedTriggers_kept, put_kept, replay_kept, sealSend_kept,
      showGnt_kept, tapCheck_kept, thawClock_kept, thawRadio_kept, tpThaw_kept, k, Runs.next, implies_true, eq_self]
theorem modTap_kept (f : TapState → TapState) (h : Kept a s) : Kept a (State.modTap s f) := by
  unfold State.modTap; simp (maxDischargeDepth := 60) +contextual only [modSec_kept, h, implies_true, eq_self]
theorem execTapReset_runs (h : Kept a s) : Runs a (execTapReset s) := by
  unfold execTapReset; simp (maxDischargeDepth := 60) +contextual only [modTap_kept, whileTap_runs, h, Runs.next, implies_true]
theorem tapOut_kept (v : Nat) (h : Kept a s) : Kept a (State.tapOut s v) := by
  unfold State.tapOut; simp (maxDischargeDepth := 60) +contextual only [modTap_kept, h]
theorem tapSelect_kept (code : Nat) (h : Kept a s) : Kept a (State.tapSelect s code) := by
  unfold State.tapSelect; simp (maxDischargeDepth := 60) +contextual only [flag_kept, modTap_kept, kept_ite, h]
theorem execIdcode_runs (h : Kept a s) : Runs a (execIdcode s) := by
  unfold execIdcode
  simp (maxDischargeDepth := 60) +contextual only [tapOut_kept, tapSelect_kept, whileTap_runs, h, Runs.next, implies_true]
theorem execSamplePreload_runs (sampled : List Bool) (preload : List Bool) (h : Kept a s) : Runs a (execSamplePreload sampled
    preload s) := by
  unfold execSamplePreload
  simp (maxDischargeDepth := 60) +contextual only [modTap_kept, tapOut_kept, tapSelect_kept, whileTap_runs, h, Runs.next,
      implies_true]
theorem execExtest_runs (h : Kept a s) : Runs a (execExtest s) := by
  unfold execExtest; simp (maxDischargeDepth := 60) +contextual only [tapSelect_kept, whileTap_runs, h, Runs.next, implies_true]
theorem execClamp_runs (h : Kept a s) : Runs a (execClamp s) := by
  unfold execClamp; simp (maxDischargeDepth := 60) +contextual only [tapSelect_kept, whileTap_runs, h, Runs.next, implies_true]
theorem execHighz_runs (h : Kept a s) : Runs a (execHighz s) := by
  unfold execHighz; simp (maxDischargeDepth := 60) +contextual only [tapSelect_kept, whileTap_runs, h, Runs.next, implies_true]
theorem execAuth_runs (h : Kept a s) : Runs a (execAuth s) := by
  unfold execAuth; simp (maxDischargeDepth := 60) +contextual only [tapSelect_kept, whileTap_runs, h, Runs.next, implies_true]
theorem authOpen_kept (h : Kept a s) : Kept a (State.authOpen s).2 := by
  unfold State.authOpen; split <;> (try split) <;> simp (maxDischargeDepth := 60) +contextual only [openDebug_kept, kept_ite, h]
theorem tapAnswer_kept (x1 : Answer) (h : Kept a s) : Kept a (State.tapAnswer s x1) := by
  unfold State.tapAnswer; simp (maxDischargeDepth := 60) +contextual only [modTap_kept, h]
theorem execAuthOpen_runs (h : Kept a s) : Runs a (execAuthOpen s) := by
  unfold execAuthOpen
  simp (maxDischargeDepth := 60) +contextual only [authOpen_kept, tapAnswer_kept, whileAuth_runs, h, implies_true]
theorem authClose_kept (h : Kept a s) : Kept a (State.authClose s).2 := by
  unfold State.authClose; simp (maxDischargeDepth := 60) +contextual only [endDebug_kept, h]
theorem execAuthClose_runs (h : Kept a s) : Runs a (execAuthClose s) := by
  unfold execAuthClose
  simp (maxDischargeDepth := 60) +contextual only [authClose_kept, tapAnswer_kept, whileAuth_runs, h, implies_true]
theorem authBegin_kept (req : Option OpenReq) (response : Bool) (data : List Byte) (h : Kept a s) : Kept a (State.authBegin s req
    response data).2 := by
  unfold State.authBegin
  (repeat' (first | with_reducible refine kept_ite ?_ ?_ | split))
  all_goals first
    | with_reducible exact h
    | simp (maxDischargeDepth := 60) +contextual only [dropNonce_kept, modSec_kept, put_kept, h, implies_true, eq_self]
theorem tapBegin_kept (response : Bool) (data : List Byte) (h : Kept a s) : Kept a (State.tapBegin s response data) := by
  unfold State.tapBegin; dsimp only; split <;> simp (maxDischargeDepth := 60) +contextual only [authBegin_kept, tapAnswer_kept, h]
theorem execTapAuthPassword_runs (password : BitVec 128) (h : Kept a s) : Runs a (execTapAuthPassword password s) := by
  unfold execTapAuthPassword; simp (maxDischargeDepth := 60) +contextual only [tapBegin_kept, whileAuth_runs, h, implies_true]
theorem authChallenge_kept (nonce : BitVec 256) (h : Kept a s) : Kept a (State.authChallenge s nonce).2 := by
  unfold State.authChallenge
  dsimp only
  (repeat' split) <;> simp (maxDischargeDepth := 60) +contextual only [flag_kept, modSec_kept, h, implies_true, eq_self]
theorem execTapAuthChallenge_runs (nonce : BitVec 256) (h : Kept a s) : Runs a (execTapAuthChallenge nonce s) := by
  unfold execTapAuthChallenge
  simp (maxDischargeDepth := 60) +contextual only [authChallenge_kept, tapAnswer_kept, whileAuth_runs, h, implies_true]
theorem execTapAuthResponse_runs (scope : Word) (sigR : BitVec 256) (sigS : BitVec 256) (h : Kept a s) : Runs a
    (execTapAuthResponse scope sigR sigS s) := by
  unfold execTapAuthResponse; simp (maxDischargeDepth := 60) +contextual only [tapBegin_kept, whileAuth_runs, h, implies_true]
theorem execDbgReg_runs (block : BitVec 8) (offset : BitVec 24) (value : Option Word) (h : Kept a s) : Runs a (execDbgReg block
    offset value s) := by
  unfold execDbgReg
  split <;> simp (maxDischargeDepth := 60) +contextual only [regRead_kept, regWrite_kept, tapOut_kept, tapSelect_kept,
      whileTap_runs, h, Runs.next, runs_ite, implies_true]
theorem execFrzRead_runs (command : BitVec 64) (h : Kept a s) : Runs a (execFrzRead command s) := by
  unfold execFrzRead
  simp (maxDischargeDepth := 60) +contextual only [flag_kept, modTap_kept, nextFree_kept, tapOut_kept, tapSelect_kept, when_kept,
      whileTap_runs, h, Runs.next, runs_ite, implies_true]
theorem execDbgStatus_runs (word : Fin 12) (h : Kept a s) : Runs a (execDbgStatus word s) := by
  unfold execDbgStatus
  simp (maxDischargeDepth := 60) +contextual only [tapOut_kept, tapSelect_kept, whileTap_runs, h, Runs.next, implies_true]
theorem execBypass_runs (h : Kept a s) : Runs a (execBypass s) := by
  unfold execBypass; simp (maxDischargeDepth := 60) +contextual only [modTap_kept, whileTap_runs, h, Runs.next, implies_true]
theorem completes_kept (c : Completion) (h : Kept a s) : Kept a (State.completes s c) := by
  unfold State.completes; simp (maxDischargeDepth := 60) +contextual only [modHost_kept, h, implies_true, eq_self]
theorem slotRead_kept (off : Nat) (h : Kept a s) : Kept a (State.slotRead s off).2 := by
  unfold State.slotRead; split <;> simp (maxDischargeDepth := 60) +contextual only [granReadAt_kept, refuse_kept, h]
theorem bar4Read_kept {α : Type} : ∀ (l : List (Nat × List (Option α))) {s : State}, Kept a s → Kept a (s.bar4Read l).2
  | [], _, h => h
  | [(x, y)], s, h => by
    unfold State.bar4Read
    dsimp only
    split
    · exact slotRead_kept _ h
    · exact h
  | (x, y) :: (z, w) :: l, s, h => by
    unfold State.bar4Read
    split
    · exact bar4Read_kept l (slotRead_kept _ h)
    · refine bar4Read_kept ((z, w) :: l) ?_
      split
      · exact slotRead_kept _ h
      · exact h
theorem hostBaleRead_kept (w : Nat) (clash : Option Word) (h : Kept a s) : Kept a (State.hostBaleRead s w clash).2 := by
  unfold State.hostBaleRead; split <;> simp (maxDischargeDepth := 60) +contextual only [baleCount_kept, baleWrite_kept, h]
theorem controlRead_kept (off : Nat) (h : Kept a s) : Kept a (s.controlRead off).2 := by
  unfold State.controlRead
  repeat' split
  all_goals first | exact h | exact regRead_kept _ h
theorem bar0Read_kept (off : Nat) (full : Bool) (clash : List (Nat × Word)) (h : Kept a s) : Kept a (State.bar0Read s off full
    clash).2 := by
  unfold State.bar0Read
  split <;> (try split) <;> simp (maxDischargeDepth := 60) +contextual only [controlRead_kept, hostBaleRead_kept, h]
theorem bar2Read_kept (off : Nat) (full : Bool) (h : Kept a s) : Kept a (s.bar2Read off full).2 := by
  unfold State.bar2Read
  repeat' split
  all_goals simp (maxDischargeDepth := 60) only [regRead_kept, refuse_kept, h]
theorem barReads_kept (bar : Nat) (clash : List (Nat × Word)) : ∀ (l : List (Nat × List (Option Unit))) {s : State}, Kept a s →
    Kept a (s.barReads bar clash l).2
  | [], _, h => h
  | (x, y) :: l, s, h => by
    unfold State.barReads
    refine barReads_kept bar clash l ?_
    split
    · exact bar0Read_kept _ _ _ h
    · exact bar2Read_kept _ _ h
theorem barRead_kept (bar address length : Nat) (clash : List (Nat × Word)) (h : Kept a s) : Kept a (s.barRead bar address length
    clash).2 := by
  unfold State.barRead
  dsimp only
  split
  · exact bar4Read_kept _ h
  · exact barReads_kept _ _ _ h
theorem halfWrite_kept (off : Nat) (v : Nat) (h : Kept a s) : Kept a (State.halfWrite s off v) := by
  unfold State.halfWrite
  split <;> simp (maxDischargeDepth := 60) +contextual only [granReadAt_kept, granWriteAt_kept, refuse_kept, kept_ite, h]
theorem slotWrite_kept (off : Nat) (v : Nat) (h : Kept a s) : Kept a (State.slotWrite s off v) := by
  unfold State.slotWrite; split <;> simp (maxDischargeDepth := 60) +contextual only [granWriteAt_kept, refuse_kept, h]
theorem bar4Write_kept : ∀ (l : List (Nat × List (Option Byte))) {s : State}, Kept a s → Kept a (s.bar4Write l)
  | [], _, h => h
  | [(x, y)], s, h => kept_ite (halfWrite_kept _ _ h) h
  | (x, y) :: (z, w) :: l, s, h => by
    unfold State.bar4Write
    exact kept_ite (bar4Write_kept l (slotWrite_kept _ _ h)) (bar4Write_kept ((z, w) :: l) (kept_ite (halfWrite_kept _ _ h) h))
theorem hostBaleWrite_kept (w : Nat) (lanes : List (Option Byte)) (clash : Option Word) (h : Kept a s) : Kept a
    (State.hostBaleWrite s w lanes clash) := by
  unfold State.hostBaleWrite; split <;> simp (maxDischargeDepth := 60) +contextual only [baleClash_kept, baleWrite_kept, h]
theorem msixWrite_kept (off : Nat) (v : Nat) (h : Kept a s) : Kept a (State.msixWrite s off v) := by
  unfold State.msixWrite
  simp (maxDischargeDepth := 60) +contextual only [flushVectors_kept, modHost_kept, h, implies_true, eq_self]
theorem controlWrite_kept (off : Nat) (v : Nat) (h : Kept a s) : Kept a (State.controlWrite s off v) := by
  unfold State.controlWrite; simp (maxDischargeDepth := 60) +contextual only [msixWrite_kept, regWrite_kept, kept_ite, h]
theorem bar0Write_kept (off : Nat) (lanes : List (Option Byte)) (clash : List (Nat × Word)) (h : Kept a s) : Kept a
    (State.bar0Write s off lanes clash) := by
  unfold State.bar0Write; simp (maxDischargeDepth := 60) +contextual only [controlWrite_kept, hostBaleWrite_kept, kept_ite, h]
theorem pageTouch_kept (o : Nat) (h : Kept a s) : Kept a (State.pageTouch s o) := by
  unfold State.pageTouch; simp (maxDischargeDepth := 60) +contextual only [modLtu_kept, kept_ite, h]
theorem bar2Write_kept (off : Nat) (lanes : List (Option Byte)) (h : Kept a s) : Kept a (State.bar2Write s off lanes) := by
  unfold State.bar2Write; simp (maxDischargeDepth := 60) +contextual only [pageTouch_kept, refuse_kept, regWrite_kept, kept_ite, h]
theorem barWrite_kept (bar : Nat) (address : Nat) (l : List (Option Byte)) (clash : List (Nat × Word)) (h : Kept a s) : Kept a
    (State.barWrite s bar address l clash) := by
  unfold State.barWrite
  simp (maxDischargeDepth := 60) +contextual only [bar0Write_kept, bar2Write_kept, bar4Write_kept, each_kept, kept_ite, h,
      implies_true]
theorem cfgWord_kept (o : Nat) (h : Kept a s) : Kept a (s.cfgWord o).2 := by
  unfold State.cfgWord
  repeat' split
  all_goals first | exact h | exact nextFree_kept h
theorem setPower_kept (d3 : Bool) (h : Kept a s) : Kept a (State.setPower s d3) := by
  unfold State.setPower
  simp (maxDischargeDepth := 60) +contextual only [linkLoss_kept, modHost_kept, kept_ite, h, implies_true, eq_self]
theorem hostRequest_kept (t : Tlp) (clash : List (Nat × Word)) (h : Kept a s) : Kept a (State.hostRequest s t clash) := by
  unfold State.hostRequest
  split <;> simp (maxDischargeDepth := 60) +contextual only [barRead_kept, barWrite_kept, cfgWord_kept, completes_kept,
      flushVectors_kept, modHost_kept, setPower_kept, kept_ite, h, implies_true, eq_self]
theorem execHostTlp_runs (tlp : Tlp) (clash : List (Nat × Word)) (h : Kept a s) : Runs a (execHostTlp tlp clash s) := by
  unfold execHostTlp
  simp (maxDischargeDepth := 60) +contextual only [completes_kept, hostRequest_kept, whilePowered_runs, h, Runs.next, runs_ite,
      implies_true]
theorem execLinkUp_runs (speed : Fin 4) (x2 : Bool) (h : Kept a s) : Runs a (execLinkUp speed x2 s) := by
  unfold execLinkUp
  simp (maxDischargeDepth := 60) +contextual only [flushVectors_kept, modHost_kept, put_kept, whileLive_runs, h, Runs.next,
      runs_ite, implies_true, eq_self]
theorem execHostLinkLoss_runs (cause : Fin 5) (h : Kept a s) : Runs a (execHostLinkLoss cause s) := by
  unfold execHostLinkLoss
  simp (maxDischargeDepth := 60) +contextual only [linkLoss_kept, modHost_kept, whileLive_runs, h, Runs.next, runs_ite,
      implies_true, eq_self]
theorem execSpiTimeout_runs (h : Kept a s) : Runs a (execSpiTimeout s) := by
  unfold execSpiTimeout
  simp (maxDischargeDepth := 60) +contextual only [linkLoss_kept, whileLive_runs, h, Runs.next, runs_ite, implies_true]
theorem execHlDb_runs (cls : Cls) (reqProd : BitVec 16) (rspCons : BitVec 16) (h : Kept a s) : Runs a (execHlDb cls reqProd
    rspCons s) := by
  unfold execHlDb; simp (maxDischargeDepth := 60) +contextual only [ringDoorbell_kept, whileLive_runs, h, Runs.next, implies_true]
theorem layoutRings_kept (h : Kept a s) : Kept a (State.layoutRings s) := by
  unfold State.layoutRings
  simp (maxDischargeDepth := 60) +contextual only [baleBytes_kept, baleWrite_kept, descriptor_kept, each_kept, h, implies_true]
theorem emptyRings_kept (h : Kept a s) : Kept a (State.emptyRings s) := by
  unfold State.emptyRings; simp (maxDischargeDepth := 60) +contextual only [modHost_kept, h, implies_true, eq_self]
theorem execRingInitDone_runs (h : Kept a s) : Runs a (execRingInitDone s) := by
  unfold execRingInitDone
  simp (maxDischargeDepth := 60) +contextual only [emptyRings_kept, layoutRings_kept, modHost_kept, put_kept, sealSend_kept,
      whileLive_runs, h, Runs.next, runs_ite, implies_true, eq_self]
theorem execEvtConsWrite_runs (value : BitVec 16) (h : Kept a s) : Runs a (execEvtConsWrite value s) := by
  unfold execEvtConsWrite
  simp (maxDischargeDepth := 60) +contextual only [evtCons_kept, whileLive_runs, h, Runs.next, implies_true]
theorem execHlTime_runs (h : Kept a s) : Runs a (execHlTime s) := by
  unfold execHlTime
  simp (maxDischargeDepth := 60) +contextual only [latchHostTime_kept, whileLive_runs, h, Runs.next, implies_true]
theorem execMsixUnmask_runs (vector : Fin 32) (h : Kept a s) : Runs a (execMsixUnmask vector s) := by
  unfold execMsixUnmask
  simp (maxDischargeDepth := 60) +contextual only [flushVectors_kept, modHost_kept, whileLive_runs, h, Runs.next, implies_true,
      eq_self]
theorem execIrqModExpiry_runs (cls : Fin 3) (h : Kept a s) : Runs a (execIrqModExpiry cls s) := by
  unfold execIrqModExpiry
  simp (maxDischargeDepth := 60) +contextual only [advanceTo_kept, modHost_kept, sendVector_kept, whileLive_runs, h, Runs.next,
      runs_ite, implies_true, eq_self]
theorem spiRun_kept (l : List Byte) (clash : List (Nat × Word)) (h : Kept a s) : Kept a (State.spiRun s l clash) := by
  unfold State.spiRun
  simp (maxDischargeDepth := 60) +contextual only [barRead_kept, barWrite_kept, modHost_kept, kept_ite, h, implies_true, eq_self]
theorem execSpiTransaction_runs (mosi : List Byte) (clash : List (Nat × Word)) (h : Kept a s) : Runs a (execSpiTransaction mosi
    clash s) := by
  unfold execSpiTransaction
  simp (maxDischargeDepth := 60) +contextual only [modHost_kept, spiRun_kept, whilePowered_runs, h, Runs.next, runs_ite,
      implies_true, eq_self]
theorem execDevReset_runs (key : BitVec 8) (rtc : BitVec 48) (h : Kept a s) : Runs a (execDevReset key rtc s) := by
  unfold execDevReset; simp (maxDischargeDepth := 60) +contextual only [devReset_kept, whileLive_runs, h, Runs.next, implies_true]
theorem execResponseRelease_runs (cls : Cls) (h : Kept a s) : Runs a (execResponseRelease cls s) := by
  unfold execResponseRelease
  simp (maxDischargeDepth := 60) +contextual only [releaseAll_kept, whileLive_runs, h, Runs.next, implies_true]
theorem execPing_runs (r : Req) (p : List Byte) (h : Kept a s) : Runs a (execPing r p s) := by
  unfold execPing; simp (maxDischargeDepth := 60) +contextual only [answer_kept, serve_kept, h, Runs.next, implies_true]
theorem execGetInfo_runs (r : Req) (p : List Byte) (h : Kept a s) : Runs a (execGetInfo r p s) := by
  unfold execGetInfo; simp (maxDischargeDepth := 60) +contextual only [answer_kept, serve_kept, h, Runs.next, implies_true]
theorem startMode_kept (q : OpenReq) (target : Nat) (h : Kept a s) : Kept a (State.startMode s q target) := by
  unfold State.startMode
  split <;> simp (maxDischargeDepth := 60) +contextual only [answer_kept, beginMove_kept, modeRefused_kept, put_kept, kept_ite, h]
theorem execSetMode_runs (r : Req) (p : List Byte) (h : Kept a s) : Runs a (execSetMode r p s) := by
  unfold execSetMode
  refine .next (serve_kept _ _ _ _ _ (fun q t k => ?_) h)
  (repeat' split) <;> simp (maxDischargeDepth := 60) +contextual only [answer_kept, flag_kept, modPwr_kept, put_kept,
      startMode_kept, k]
theorem execPowerCfg_runs (r : Req) (p : List Byte) (h : Kept a s) : Runs a (execPowerCfg r p s) := by
  unfold execPowerCfg
  simp (maxDischargeDepth := 60) +contextual only [answer_kept, put_kept, serve_kept, h, Runs.next, implies_true]
theorem execWakeAlarm_runs (r : Req) (p : List Byte) (h : Kept a s) : Runs a (execWakeAlarm r p s) := by
  unfold execWakeAlarm
  simp (maxDischargeDepth := 60) +contextual only [answer_kept, put_kept, serve_kept, h, Runs.next, implies_true]
theorem execFwChunk_runs (r : Req) (p : List Byte) (h : Kept a s) : Runs a (execFwChunk r p s) := by
  unfold execFwChunk
  simp (maxDischargeDepth := 60) +contextual only [answer_kept, modFw_kept, serve_kept, kept_ite, h, Runs.next, implies_true]
theorem execFwCommit_runs (r : Req) (p : List Byte) (h : Kept a s) : Runs a (execFwCommit r p s) := by
  unfold execFwCommit
  simp (maxDischargeDepth := 60) +contextual only [accept_kept, answer_kept, modFw_kept, serve_kept, kept_ite, h, Runs.next,
      implies_true]
theorem execLaneSet_runs (r : Req) (p : List Byte) (h : Kept a s) : Runs a (execLaneSet r p s) := by
  unfold execLaneSet
  split <;> simp (maxDischargeDepth := 60) +contextual only [answerTo_kept, answer_kept, laneEnable_kept, laneRestart_kept,
      laneStop_kept, modLane_kept, noRoom_kept, programPreset_kept, serve_kept, kept_ite, h, Runs.next, implies_true]
theorem programChannel_kept (c : Nat) (lane : Nat) (core : Nat) (sig : Nat) (sat : Nat) (m : Nat) (align : Bool) (s3 : Bool)
    (prio : Nat) (h : Kept a s) : Kept a (State.programChannel s c lane core sig sat m align s3 prio) := by
  unfold State.programChannel; simp (maxDischargeDepth := 60) +contextual only [nextFree_kept, putInt_kept, put_kept, h]
theorem admitTo_kept (c : Nat) (lane : Nat) (core : Nat) (sig : Nat) (sat : Nat) (m : Nat) (align : Bool) (s3 : Bool) (h : Kept a
    s) : Kept a (State.admitTo s c lane core sig sat m align s3) := by
  unfold State.admitTo
  simp (maxDischargeDepth := 60) +contextual only [chanStart_kept, emit_kept, programChannel_kept, put_kept, kept_ite, h]
theorem request_kept (sig : Nat) (sat : Nat) (m : Nat) (align : Bool) (s3 : Bool) (lane : Nat) (h : Kept a s) : Kept a
    (State.request s sig sat m align s3 lane).2 := by
  unfold State.request
  dsimp only
  (repeat' split) <;> simp (maxDischargeDepth := 60) +contextual only [admitTo_kept, chanStop_kept, emit_kept, tally_kept, h]
theorem requestSat_kept (s : State) (sig m : Nat) (align s3 : Bool) (lane : Nat) (x : Nat × Nat × State) (sat : Nat) (h : Kept a
    x.2.2) :
    Kept a (s.requestSat sig m align s3 lane x sat).2.2 := by
  unfold State.requestSat
  extract_lets t top
  split
  · exact tally_kept _ _ h
  · have k := request_kept sig sat m align s3 lane (s := t) h
    generalize t.request sig sat m align s3 lane = r at k ⊢
    obtain ⟨d, u⟩ := r
    cases d <;> exact k
theorem execSignalAdd_runs (r : Req) (p : List Byte) (h : Kept a s) : Runs a (execSignalAdd r p s) := by
  have fold : ∀ (l : List Nat) (s : State) (sig m : Nat) (align s3 : Bool) (lane : Nat) (x : Nat × Nat × State), Kept a x.2.2 →
      Kept a (l.foldl (s.requestSat sig m align s3 lane) x).2.2 := by
    intro l s sig m align s3 lane
    induction l with
    | nil => exact fun x k => k
    | cons y l ih => exact fun x k => ih _ (requestSat_kept s sig m align s3 lane x y k)
  unfold execSignalAdd
  extract_lets sig sat m align s3 used mode
  refine .next (serve_kept _ _ _ _ _ (fun q t k => ?_) h)
  extract_lets lane
  split
  · exact answer_kept _ _ (fold _ _ _ _ _ _ _ _ (accept_kept _ k))
  · have w := request_kept sig sat m align s3 lane (s := t) k
    generalize t.request sig sat m align s3 lane = r at w ⊢
    obtain ⟨d, u⟩ := r
    cases d
    · exact answer_kept _ _ w
    · exact answer_kept _ _ w
theorem execSignalDrop_runs (r : Req) (p : List Byte) (h : Kept a s) : Runs a (execSignalDrop r p s) := by
  unfold execSignalDrop
  simp (maxDischargeDepth := 60) +contextual only [answer_kept, chanStop_kept, each_kept, serve_kept, h, Runs.next, implies_true]
theorem execChannelPolicy_runs (r : Req) (p : List Byte) (h : Kept a s) : Runs a (execChannelPolicy r p s) := by
  unfold execChannelPolicy
  simp (maxDischargeDepth := 60) +contextual only [answer_kept, each_kept, modNav_kept, modShf_kept, put_kept, serve_kept, h,
      Runs.next, implies_true]
theorem execReportCfg_runs (r : Req) (p : List Byte) (h : Kept a s) : Runs a (execReportCfg r p s) := by
  unfold execReportCfg
  simp (maxDischargeDepth := 60) +contextual only [answer_kept, modNav_kept, serve_kept, kept_ite, h, Runs.next, implies_true]
theorem execAiding_runs (r : Req) (p : List Byte) (h : Kept a s) : Runs a (execAiding r p s) := by
  unfold execAiding
  simp (maxDischargeDepth := 60) +contextual only [answer_kept, modNav_kept, serve_kept, h, Runs.next, implies_true]
theorem takeRtcm_kept (q : OpenReq) (p : List Byte) (good : Nat → Bool) (use : State → Nat × List Byte → State)
    (hu : ∀ t x, Kept a t → Kept a (use t x)) (h : Kept a s) : Kept a (s.takeRtcm q p good use) := by
  unfold State.takeRtcm
  split
  · exact answer_kept _ _ h
  · exact answer_kept _ _ (tally_kept _ _ h)
  · exact answer_kept _ _ (each_kept _ hu _ (tally_kept _ _ h))
theorem execNavAiding_runs (r : Req) (p : List Byte) (h : Kept a s) : Runs a (execNavAiding r p s) := by
  unfold execNavAiding
  simp (maxDischargeDepth := 60) +contextual only [modNav_kept, serve_kept, takeRtcm_kept, h, Runs.next, implies_true]
theorem takeFrame_kept (f : Nat × List Byte) (h : Kept a s) : Kept a (State.takeFrame s f) := by
  unfold State.takeFrame; simp (maxDischargeDepth := 60) +contextual only [modNav_kept, h]
theorem execCorrections_runs (r : Req) (p : List Byte) (h : Kept a s) : Runs a (execCorrections r p s) := by
  unfold execCorrections
  simp (maxDischargeDepth := 60) +contextual only [serve_kept, takeFrame_kept, takeRtcm_kept, h, Runs.next, implies_true]
theorem writeJob_kept (j : Nat) (x : PlanJob) (h : Kept a s) : Kept a (State.writeJob s j x) := by
  unfold State.writeJob; simp (maxDischargeDepth := 60) +contextual only [flag_kept, putInt_kept, put_kept, h]
theorem writeJobs_kept : ∀ (j : Nat) (l : List PlanJob) {s : State}, Kept a s → Kept a (s.writeJobs j l)
  | _, [], _, h => h
  | j, x :: l, s, h => by
    unfold State.writeJobs
    exact writeJobs_kept (j + 1) l (writeJob_kept _ _ h)
theorem execSearch_runs (r : Req) (p : List Byte) (h : Kept a s) : Runs a (execSearch r p s) := by
  unfold execSearch
  simp (maxDischargeDepth := 60) +contextual only [accept_kept, answer_kept, each_kept, flag_kept, latchPass_kept, modThr_kept,
      nextFree_kept, put_kept, serve_kept, tally_kept, writeJobs_kept, kept_ite, h, Runs.next, implies_true]
theorem execDeclare_runs (r : Req) (p : List Byte) (h : Kept a s) : Runs a (execDeclare r p s) := by
  unfold execDeclare
  simp (maxDischargeDepth := 60) +contextual only [answer_kept, modNav_kept, serve_kept, h, Runs.next, implies_true]
theorem chunksFrom_kept (q : OpenReq) : ∀ (n off : Nat) (l : List Byte) {s : State}, Kept a s → Kept a (s.chunksFrom q n off l)
  | 0, _, _, _, h => respond_kept _ _ _ _ h
  | n + 1, off, l, s, h => by
    unfold State.chunksFrom
    split
    · exact respond_kept _ _ _ _ h
    · exact chunksFrom_kept q n _ _ (respond_kept _ _ _ _ h)
theorem chunks_kept (q : OpenReq) (l : List Byte) (h : Kept a s) : Kept a (State.chunks s q l) := by
  unfold State.chunks; simp (maxDischargeDepth := 60) +contextual only [chunksFrom_kept, h]
theorem execNavDataGet_runs (r : Req) (p : List Byte) (h : Kept a s) : Runs a (execNavDataGet r p s) := by
  unfold execNavDataGet
  dsimp only
  split <;> simp (maxDischargeDepth := 60) +contextual only [chunks_kept, serve_kept, h, Runs.next, implies_true]
theorem execSnapArm_runs (r : Req) (p : List Byte) (h : Kept a s) : Runs a (execSnapArm r p s) := by
  unfold execSnapArm
  simp (maxDischargeDepth := 60) +contextual only [accept_kept, answer_kept, modSnap_kept, noRoom_kept, serve_kept, kept_ite, h,
      Runs.next, implies_true]
theorem execSnapAbort_runs (r : Req) (p : List Byte) (h : Kept a s) : Runs a (execSnapAbort r p s) := by
  unfold execSnapAbort
  simp (maxDischargeDepth := 60) +contextual only [answer_kept, cutCapture_kept, serve_kept, kept_ite, h, Runs.next, implies_true]
theorem anyHeader_kept (id : Nat) (h : Kept a s) : Kept a (State.anyHeader s id).2 := by
  unfold State.anyHeader; split <;> simp (maxDischargeDepth := 60) +contextual only [headerAt_kept, h]
theorem execSnapInfo_runs (r : Req) (p : List Byte) (h : Kept a s) : Runs a (execSnapInfo r p s) := by
  unfold execSnapInfo
  simp (maxDischargeDepth := 60) +contextual only [answer_kept, anyHeader_kept, serve_kept, h, Runs.next, implies_true]
theorem listBays_kept : ∀ (l : List BaySnap) {s : State}, Kept a s → Kept a (s.listBays l).2
  | [], _, h => by unfold State.listBays; exact h
  | b :: bs, s, h => by
    unfold State.listBays
    exact listBays_kept bs (headerAt_kept _ h)
theorem execSnapList_runs (r : Req) (p : List Byte) (h : Kept a s) : Runs a (execSnapList r p s) := by
  unfold execSnapList
  simp (maxDischargeDepth := 60) +contextual only [chunks_kept, listBays_kept, serve_kept, h, Runs.next, implies_true]
theorem execSnapLoad_runs (r : Req) (p : List Byte) (h : Kept a s) : Runs a (execSnapLoad r p s) := by
  unfold execSnapLoad
  simp (maxDischargeDepth := 60) +contextual only [answer_kept, modSnap_kept, noRoom_kept, serve_kept, kept_ite, h, Runs.next,
      implies_true]
theorem execSnapFix_runs (r : Req) (p : List Byte) (h : Kept a s) : Runs a (execSnapFix r p s) := by
  unfold execSnapFix
  refine .next (serve_kept _ _ _ _ _ (fun q t k => ?_) h)
  split <;> simp (maxDischargeDepth := 60) +contextual only [accept_kept, answer_kept, each_kept, fixReady_kept, handTo_kept,
      headerAt_kept, modSnap_kept, kept_ite, k, implies_true]
theorem execSnapSchedule_runs (r : Req) (p : List Byte) (h : Kept a s) : Runs a (execSnapSchedule r p s) := by
  unfold execSnapSchedule
  simp (maxDischargeDepth := 60) +contextual only [answer_kept, modSnap_kept, serve_kept, h, Runs.next, implies_true]
theorem execSnapPolicy_runs (r : Req) (p : List Byte) (h : Kept a s) : Runs a (execSnapPolicy r p s) := by
  unfold execSnapPolicy
  simp (maxDischargeDepth := 60) +contextual only [answer_kept, modSnap_kept, serve_kept, h, Runs.next, implies_true]
theorem execSnapExport_runs (r : Req) (p : List Byte) (h : Kept a s) : Runs a (execSnapExport r p s) := by
  unfold execSnapExport
  refine .next (serve_kept _ _ _ _ _ (fun q t k => ?_) h)
  (repeat' split) <;> simp (maxDischargeDepth := 60) +contextual only [accept_kept, answer_kept, chunks_kept, compact_kept,
      modSnap_kept, kept_ite, k]
theorem execSnapDelete_runs (r : Req) (p : List Byte) (h : Kept a s) : Runs a (execSnapDelete r p s) := by
  unfold execSnapDelete
  simp (maxDischargeDepth := 60) +contextual only [answer_kept, modSnap_kept, serve_kept, kept_ite, h, Runs.next, implies_true]
theorem execSnapCommit_runs (r : Req) (p : List Byte) (h : Kept a s) : Runs a (execSnapCommit r p s) := by
  unfold execSnapCommit
  refine .next (serve_kept _ _ _ _ _ (fun q t k => ?_) h)
  split <;> simp (maxDischargeDepth := 60) +contextual only [answer_kept, headerAt_kept, modSnap_kept, tally_kept, kept_ite, k]
theorem execTimeGet_runs (r : Req) (p : List Byte) (h : Kept a s) : Runs a (execTimeGet r p s) := by
  unfold execTimeGet; simp (maxDischargeDepth := 60) +contextual only [answer_kept, serve_kept, h, Runs.next, implies_true]
theorem execTimeCfg_runs (r : Req) (p : List Byte) (h : Kept a s) : Runs a (execTimeCfg r p s) := by
  unfold execTimeCfg
  simp (maxDischargeDepth := 60) +contextual only [answer_kept, chooseSource_kept, put_kept, serve_kept, h, Runs.next, implies_true]
theorem execUtcSet_runs (r : Req) (p : List Byte) (h : Kept a s) : Runs a (execUtcSet r p s) := by
  unfold execUtcSet
  simp (maxDischargeDepth := 60) +contextual only [answer_kept, serve_kept, takeUtc_kept, h, Runs.next, implies_true]
theorem execTrigArm_runs (r : Req) (p : List Byte) (h : Kept a s) : Runs a (execTrigArm r p s) := by
  unfold execTrigArm
  simp (maxDischargeDepth := 60) +contextual only [answer_kept, armTrigger_kept, modTrig_kept, put_kept, serve_kept,
      setTrigTime_kept, kept_ite, h, Runs.next, implies_true]
theorem execTrigCancel_runs (r : Req) (p : List Byte) (h : Kept a s) : Runs a (execTrigCancel r p s) := by
  unfold execTrigCancel
  simp (maxDischargeDepth := 60) +contextual only [answer_kept, modTrig_kept, put_kept, serve_kept, kept_ite, h, Runs.next,
      implies_true]
theorem execCapCfg_runs (r : Req) (p : List Byte) (h : Kept a s) : Runs a (execCapCfg r p s) := by
  unfold execCapCfg
  simp (maxDischargeDepth := 60) +contextual only [answer_kept, modLtu_kept, putTimeRec_kept, put_kept, serve_kept, h, Runs.next,
      implies_true]
theorem execCapRead_runs (r : Req) (p : List Byte) (h : Kept a s) : Runs a (execCapRead r p s) := by
  unfold execCapRead
  simp (maxDischargeDepth := 60) +contextual only [answer_kept, capRead_kept, serve_kept, h, Runs.next, implies_true]
theorem execTpCfg_runs (r : Req) (p : List Byte) (h : Kept a s) : Runs a (execTpCfg r p s) := by
  unfold execTpCfg
  simp (maxDischargeDepth := 60) +contextual only [answer_kept, put_kept, serve_kept, setTpEnable_kept, setTpPeriod_kept,
      setTpPhase_kept, setTpWidth_kept, h, Runs.next, implies_true]
theorem execNetCfg_runs (r : Req) (p : List Byte) (h : Kept a s) : Runs a (execNetCfg r p s) := by
  unfold execNetCfg
  simp (maxDischargeDepth := 60) +contextual only [answer_kept, modNet_kept, netRestart_kept, put_kept, serve_kept,
      showClass_kept, kept_ite, h, Runs.next, implies_true]
theorem execNetLat_runs (r : Req) (p : List Byte) (h : Kept a s) : Runs a (execNetLat r p s) := by
  unfold execNetLat
  simp (maxDischargeDepth := 60) +contextual only [answer_kept, modNet_kept, serve_kept, h, Runs.next, implies_true]
theorem execNetAsym_runs (r : Req) (p : List Byte) (h : Kept a s) : Runs a (execNetAsym r p s) := by
  unfold execNetAsym
  simp (maxDischargeDepth := 60) +contextual only [answer_kept, modNet_kept, serve_kept, setAsym_kept, kept_ite, h, Runs.next,
      implies_true]
theorem execNetRealign_runs (r : Req) (p : List Byte) (h : Kept a s) : Runs a (execNetRealign r p s) := by
  unfold execNetRealign
  simp (maxDischargeDepth := 60) +contextual only [answer_kept, realign_kept, serve_kept, h, Runs.next, implies_true]
theorem execNetInfo_runs (r : Req) (p : List Byte) (h : Kept a s) : Runs a (execNetInfo r p s) := by
  unfold execNetInfo; simp (maxDischargeDepth := 60) +contextual only [answer_kept, serve_kept, h, Runs.next, implies_true]
theorem execUwbCfg_runs (r : Req) (p : List Byte) (h : Kept a s) : Runs a (execUwbCfg r p s) := by
  unfold execUwbCfg
  simp (maxDischargeDepth := 60) +contextual only [answer_kept, put_kept, radioTo_kept, serve_kept, showGnt_kept, kept_ite, h,
      Runs.next, implies_true]
theorem execUwbCal_runs (r : Req) (p : List Byte) (h : Kept a s) : Runs a (execUwbCal r p s) := by
  unfold execUwbCal
  simp (maxDischargeDepth := 60) +contextual only [accept_kept, modUwb_kept, serve_kept, h, Runs.next, implies_true]
theorem execUwbPsdu_runs (r : Req) (p : List Byte) (h : Kept a s) : Runs a (execUwbPsdu r p s) := by
  unfold execUwbPsdu
  simp (maxDischargeDepth := 60) +contextual only [answer_kept, modUwb_kept, serve_kept, h, Runs.next, implies_true]
theorem queueAct_kept (q : OpenReq) (x2 : RadioAct) (h : Kept a s) : Kept a (State.queueAct s q x2) := by
  unfold State.queueAct
  simp (maxDischargeDepth := 60) +contextual only [accept_kept, answer_kept, modUwb_kept, radioNote_kept, when_kept, kept_ite, h,
      implies_true]
theorem execUwbTx_runs (r : Req) (p : List Byte) (h : Kept a s) : Runs a (execUwbTx r p s) := by
  unfold execUwbTx
  simp (maxDischargeDepth := 60) +contextual only [answer_kept, queueAct_kept, reportStore_kept, serve_kept, kept_ite, h,
      Runs.next, implies_true]
theorem execUwbRx_runs (r : Req) (p : List Byte) (h : Kept a s) : Runs a (execUwbRx r p s) := by
  unfold execUwbRx; simp (maxDischargeDepth := 60) +contextual only [queueAct_kept, serve_kept, h, Runs.next, implies_true]
theorem execUwbStop_runs (r : Req) (p : List Byte) (h : Kept a s) : Runs a (execUwbStop r p s) := by
  unfold execUwbStop
  simp (maxDischargeDepth := 60) +contextual only [answer_kept, serve_kept, stopActs_kept, h, Runs.next, implies_true]
theorem execSessionCreate_runs (r : Req) (p : List Byte) (h : Kept a s) : Runs a (execSessionCreate r p s) := by
  unfold execSessionCreate
  refine runs_ite (.next h) ?_
  dsimp only
  split <;> simp (maxDischargeDepth := 60) +contextual only [answer_kept, bump_kept, enter_kept, flag_kept, modUwb_kept,
      reportStore_kept, showSessions_kept, when_kept, h, Runs.next, implies_true]
theorem execSessionStart_runs (r : Req) (p : List Byte) (h : Kept a s) : Runs a (execSessionStart r p s) := by
  unfold execSessionStart
  refine .next (serve_kept _ _ _ _ _ (fun q t k => ?_) h)
  split <;> simp (maxDischargeDepth := 60) +contextual only [answer_kept, modSession_kept, planRound_kept, kept_ite, k]
theorem dropRound_kept (x1 : Nat) (h : Kept a s) : Kept a (State.dropRound s x1) := by
  unfold State.dropRound; simp (maxDischargeDepth := 60) +contextual only [modSession_kept, modUwb_kept, h]
theorem execSessionStop_runs (r : Req) (p : List Byte) (h : Kept a s) : Runs a (execSessionStop r p s) := by
  unfold execSessionStop
  refine .next (serve_kept _ _ _ _ _ (fun q t k => ?_) h)
  split <;> simp (maxDischargeDepth := 60) +contextual only [answer_kept, dropRound_kept, modSession_kept, kept_ite, k]
theorem execSessionDelete_runs (r : Req) (p : List Byte) (h : Kept a s) : Runs a (execSessionDelete r p s) := by
  unfold execSessionDelete
  refine .next (serve_kept _ _ _ _ _ (fun q t k => ?_) h)
  split <;> simp (maxDischargeDepth := 60) +contextual only [accept_kept, answer_kept, dropSession_kept, modSession_kept,
      kept_ite, k]
theorem execSessionPsdu_runs (r : Req) (p : List Byte) (h : Kept a s) : Runs a (execSessionPsdu r p s) := by
  unfold execSessionPsdu
  refine .next (serve_kept _ _ _ _ _ (fun q t k => ?_) h)
  split <;> simp (maxDischargeDepth := 60) +contextual only [answer_kept, modSession_kept, kept_ite, k]
theorem execRemoteIntervals_runs (r : Req) (p : List Byte) (h : Kept a s) : Runs a (execRemoteIntervals r p s) := by
  unfold execRemoteIntervals
  refine .next (serve_kept _ _ _ _ _ (fun q t k => ?_) h)
  (repeat' split) <;> simp (maxDischargeDepth := 60) +contextual only [answer_kept, modRound_kept, modSession_kept,
      roundResult_kept, kept_ite, k]
theorem writeStore_kept (head : List Byte) (h : Kept a s) : Kept a (State.writeStore s head) := by
  unfold State.writeStore; simp (maxDischargeDepth := 60) +contextual only [modUwb_kept, showStore_kept, h]
theorem lockSession_kept (x : Session) (h : Kept a s) : Kept a (State.lockSession s x) := by
  unfold State.lockSession
  simp (maxDischargeDepth := 60) +contextual only [each_kept, endAct_kept, modSession_kept, modUwb_kept, kept_ite, h, implies_true]
theorem execRegWrite_runs (r : Req) (p : List Byte) (h : Kept a s) : Runs a (execRegWrite r p s) := by
  unfold execRegWrite
  refine .next (serve_kept _ _ _ _ _ (fun q t k => ?_) h)
  (repeat' split) <;> simp (maxDischargeDepth := 60) +contextual only [answer_kept, each_kept, lockSession_kept, writeStore_kept,
      k, implies_true]
theorem execRegReadRegulatory_runs (r : Req) (p : List Byte) (h : Kept a s) : Runs a (execRegReadRegulatory r p s) := by
  unfold execRegReadRegulatory
  refine .next (serve_kept _ _ _ _ _ (fun q t k => ?_) h)
  split <;> simp (maxDischargeDepth := 60) +contextual only [answer_kept, k]
theorem execAntDelay_runs (r : Req) (p : List Byte) (h : Kept a s) : Runs a (execAntDelay r p s) := by
  unfold execAntDelay
  simp (maxDischargeDepth := 60) +contextual only [answer_kept, modUwb_kept, serve_kept, kept_ite, h, Runs.next, implies_true]
theorem execListenCfg_runs (r : Req) (p : List Byte) (h : Kept a s) : Runs a (execListenCfg r p s) := by
  unfold execListenCfg
  simp (maxDischargeDepth := 60) +contextual only [answer_kept, modUwb_kept, serve_kept, h, Runs.next, implies_true]
theorem inLife_kept (q : OpenReq) (states : List Nat) (f : State → State) (hf : ∀ t, Kept a t → Kept a (f t)) (h : Kept a s) :
    Kept a (s.inLife q states f) := kept_ite (hf s h) (answer_kept _ _ h)
theorem showPres_kept (h : Kept a s) : Kept a (State.showPres s) := by
  unfold State.showPres; simp (maxDischargeDepth := 60) +contextual only [put_kept, kept_ite, h]
theorem execSecGet_runs (r : Req) (p : List Byte) (h : Kept a s) : Runs a (execSecGet r p s) := by
  unfold execSecGet
  simp (maxDischargeDepth := 60) +contextual only [answer_kept, inLife_kept, serve_kept, h, Runs.next, implies_true]
theorem strapOff_kept (h : Kept a s) : Kept a (State.strapOff s) := by
  unfold State.strapOff; simp (maxDischargeDepth := 60) +contextual only [put_kept, kept_ite, h]
theorem blow_kept (v : Nat) (h : Kept a s) : Kept a (State.blow s v) := by
  unfold State.blow; simp (maxDischargeDepth := 60) +contextual only [modSec_kept, toLifecycle_kept, h, implies_true, eq_self]
theorem retire_kept (h : Kept a s) : Kept a (State.retire s) := by
  unfold State.retire
  simp (maxDischargeDepth := 60) +contextual only [blow_kept, closeDebug_kept, modSec_kept, strapOff_kept, tapCheck_kept,
      zeroiseSts_kept, h, implies_true, eq_self]
theorem execLifecycle_runs (r : Req) (p : List Byte) (h : Kept a s) : Runs a (execLifecycle r p s) := by
  unfold execLifecycle
  simp (maxDischargeDepth := 60) +contextual only [accept_kept, answer_kept, blow_kept, closeDebug_kept, endDebug_kept,
      modSec_kept, retire_kept, serve_kept, strapOff_kept, tapCheck_kept, kept_ite, h, Runs.next, implies_true, eq_self]
theorem installAes_kept (q : OpenReq) (p : List Byte) (present : Option (List Byte)) (gen : Nat) (put : SecState → List Byte →
    SecState)
    (hm : ∀ c v, (put c v).marketFuse = c.marketFuse) (hv : ∀ c v, (put c v).vendorOff = c.vendorOff) (h : Kept a s) :
    Kept a (s.installAes q p present gen put) := by
  have set : ∀ v, Kept a (s.modSec fun c => put c v) := fun v =>
    modSec_kept _ (fun c e => by rw [hm]; exact e) (fun c e => by rw [hv]; exact e) h
  unfold State.installAes
  split
  · exact answer_kept _ _ (set _)
  · split
    · exact answer_kept _ _ h
    · split
      · exact answer_kept _ _ h
      · exact answer_kept _ _ (set _)
theorem execKeyInstall_runs (r : Req) (p : List Byte) (salt : BitVec 128) (h : Kept a s) : Runs a (execKeyInstall r p salt s) := by
  unfold execKeyInstall
  simp (maxDischargeDepth := 60) +contextual only [answer_kept, inLife_kept, installAes_kept, modSec_kept, serve_kept, kept_ite,
      h, Runs.next, implies_true, eq_self]
theorem execCertRead_runs (r : Req) (p : List Byte) (h : Kept a s) : Runs a (execCertRead r p s) := by
  unfold execCertRead
  refine .next (serve_kept _ _ _ _ _ (fun q t k => ?_) h)
  (repeat' split) <;> simp (maxDischargeDepth := 60) +contextual only [answer_kept, chunks_kept, k]
theorem execCertInstall_runs (r : Req) (p : List Byte) (h : Kept a s) : Runs a (execCertInstall r p s) := by
  have st : ∀ (b : List Byte) {v : State}, Kept a v → Kept a (v.modSec fun c => { c with certStage := b }) :=
    fun b _ e => modSec_kept _ (fun _ k => k) (fun _ k => k) e
  unfold execCertInstall
  refine .next (serve_kept _ _ _ _ _ (fun q t k => inLife_kept _ _ _ (fun u e => ?_) k) h)
  dsimp only
  split
  · exact answer_kept _ _ (st _ e)
  · split
    · exact answer_kept _ _ (st _ e)
    · exact kept_ite (answer_kept _ _ (st _ e)) (kept_ite (answer_kept _ _ (st _ e)) (kept_ite
        (answer_kept _ _ (modSec_kept _ (fun _ k => k) (fun _ k => k) (st _ e))) (answer_kept _ _ (st _ e))))
theorem execSecMin_runs (r : Req) (p : List Byte) (h : Kept a s) : Runs a (execSecMin r p s) := by
  unfold execSecMin
  simp (maxDischargeDepth := 60) +contextual only [answer_kept, inLife_kept, modSec_kept, serve_kept, kept_ite, h, Runs.next,
      implies_true, eq_self]
theorem execAuthChallenge_runs (r : Req) (p : List Byte) (nonce : BitVec 256) (h : Kept a s) : Runs a (execAuthChallenge r p
    nonce s) := by
  unfold execAuthChallenge
  simp (maxDischargeDepth := 60) +contextual only [answer_kept, authChallenge_kept, serve_kept, h, Runs.next, implies_true]
theorem authMessage_kept (q : OpenReq) (response : Bool) (p : List Byte) (h : Kept a s) : Kept a (State.authMessage s q response
    p) := by
  unfold State.authMessage; dsimp only; split <;> simp (maxDischargeDepth := 60) +contextual only [answer_kept, authBegin_kept, h]
theorem execAuthResponse_runs (r : Req) (p : List Byte) (h : Kept a s) : Runs a (execAuthResponse r p s) := by
  unfold execAuthResponse
  simp (maxDischargeDepth := 60) +contextual only [authMessage_kept, serve_kept, h, Runs.next, implies_true]
theorem execAuthPassword_runs (r : Req) (p : List Byte) (h : Kept a s) : Runs a (execAuthPassword r p s) := by
  unfold execAuthPassword
  simp (maxDischargeDepth := 60) +contextual only [authMessage_kept, serve_kept, h, Runs.next, implies_true]
theorem execSealReq_runs (r : Req) (p : List Byte) (h : Kept a s) : Runs a (execSealReq r p s) := by
  unfold execSealReq
  simp (maxDischargeDepth := 60) +contextual only [answer_kept, inLife_kept, sealClear_kept, sealSet_kept, serve_kept, kept_ite,
      h, Runs.next, implies_true]
theorem execMarketLock_runs (r : Req) (p : List Byte) (h : Kept a s) : Runs a (execMarketLock r p s) := by
  unfold execMarketLock
  simp (maxDischargeDepth := 60) +contextual only [answer_kept, flag_kept, modSec_kept, serve_kept, showStore_kept, kept_ite, h,
      Runs.next, implies_true, eq_self]
theorem execVendorDebugOff_runs (r : Req) (p : List Byte) (h : Kept a s) : Runs a (execVendorDebugOff r p s) := by
  unfold execVendorDebugOff
  simp (maxDischargeDepth := 60) +contextual only [answer_kept, dropNonce_kept, flag_kept, inLife_kept, modSec_kept, serve_kept,
      kept_ite, h, Runs.next, implies_true, eq_self]
theorem execDebug_runs (r : Req) (p : List Byte) (h : Kept a s) : Runs a (execDebug r p s) := by
  unfold execDebug
  split <;> simp (maxDischargeDepth := 60) +contextual only [answer_kept, authClose_kept, authOpen_kept, serve_kept, h,
      Runs.next, implies_true]
theorem execRegRead_runs (r : Req) (p : List Byte) (h : Kept a s) : Runs a (execRegRead r p s) := by
  unfold execRegRead; simp (maxDischargeDepth := 60) +contextual only [answer_kept, serve_kept, h, Runs.next, implies_true]
theorem execSignalStatus_runs (r : Req) (p : List Byte) (h : Kept a s) : Runs a (execSignalStatus r p s) := by
  unfold execSignalStatus; simp (maxDischargeDepth := 60) +contextual only [chunks_kept, serve_kept, h, Runs.next, implies_true]
theorem execAcqSummary_runs (r : Req) (p : List Byte) (h : Kept a s) : Runs a (execAcqSummary r p s) := by
  unfold execAcqSummary; simp (maxDischargeDepth := 60) +contextual only [chunks_kept, serve_kept, h, Runs.next, implies_true]
theorem execCounters_runs (r : Req) (p : List Byte) (h : Kept a s) : Runs a (execCounters r p s) := by
  unfold execCounters; simp (maxDischargeDepth := 60) +contextual only [answer_kept, serve_kept, h, Runs.next, implies_true]
theorem execEventLog_runs (r : Req) (p : List Byte) (h : Kept a s) : Runs a (execEventLog r p s) := by
  unfold execEventLog; simp (maxDischargeDepth := 60) +contextual only [chunks_kept, serve_kept, h, Runs.next, implies_true]
theorem execCountersClear_runs (r : Req) (p : List Byte) (h : Kept a s) : Runs a (execCountersClear r p s) := by
  unfold execCountersClear
  simp (maxDischargeDepth := 60) +contextual only [answer_kept, modHost_kept, serve_kept, h, Runs.next, implies_true, eq_self]
theorem execPairRetest_runs (r : Req) (p : List Byte) (h : Kept a s) : Runs a (execPairRetest r p s) := by
  unfold execPairRetest
  refine .next (serve_kept _ _ _ _ _ (fun q t k => ?_) h)
  dsimp only
  split <;> simp (maxDischargeDepth := 60) +contextual only [accept_kept, answer_kept, modStw_kept, setPair_kept, k]
theorem imageComplete_kept (q : OpenReq) (n : Nat) (l : KernelLoad) (h : Kept a s) : Kept a (State.imageComplete s q n l) := by
  unfold State.imageComplete
  split <;> simp (maxDischargeDepth := 60) +contextual only [accept_kept, answer_kept, loadFails_kept, modKernel_kept, h]
theorem takeChunk_kept (q : OpenReq) (n : Nat) (l : KernelLoad) (data : List Byte) (h : Kept a s) : Kept a (State.takeChunk s q n
    l data) := by
  unfold State.takeChunk
  simp (maxDischargeDepth := 60) +contextual only [answer_kept, imageComplete_kept, loadFails_kept, modKernel_kept, kept_ite, h]
theorem execKernelLoad_runs (r : Req) (p : List Byte) (h : Kept a s) : Runs a (execKernelLoad r p s) := by
  unfold execKernelLoad
  refine .next (serve_kept _ _ _ _ _ (fun q t k => ?_) h)
  (repeat' split) <;> simp (maxDischargeDepth := 60) +contextual only [answer_kept, loadFails_kept, takeChunk_kept, k]
theorem execKernelStart_runs (r : Req) (p : List Byte) (h : Kept a s) : Runs a (execKernelStart r p s) := by
  unfold execKernelStart
  refine .next (serve_kept _ _ _ _ _ (fun q t k => ?_) h)
  split <;> simp (maxDischargeDepth := 60) +contextual only [answer_kept, coreReset_kept, modCore_kept, modKernel_kept, put_kept, k]
theorem execKernelStop_runs (r : Req) (p : List Byte) (h : Kept a s) : Runs a (execKernelStop r p s) := by
  unfold execKernelStop
  refine .next (serve_kept _ _ _ _ _ (fun q t k => ?_) h)
  split <;> simp (maxDischargeDepth := 60) +contextual only [answer_kept, modCore_kept, modKernel_kept, k]
theorem execKernelUnload_runs (r : Req) (p : List Byte) (h : Kept a s) : Runs a (execKernelUnload r p s) := by
  unfold execKernelUnload
  refine .next (serve_kept _ _ _ _ _ (fun q t k => ?_) h)
  dsimp only
  split <;> simp (maxDischargeDepth := 60) +contextual only [accept_kept, answerTo_kept, answer_kept, loadFails_kept,
      modCore_kept, modKernel_kept, unloadCore_kept, k]
theorem execKernelStatus_runs (r : Req) (p : List Byte) (h : Kept a s) : Runs a (execKernelStatus r p s) := by
  unfold execKernelStatus; simp (maxDischargeDepth := 60) +contextual only [answer_kept, serve_kept, h, Runs.next, implies_true]
theorem execKernelFeed_runs (r : Req) (p : List Byte) (h : Kept a s) : Runs a (execKernelFeed r p s) := by
  unfold execKernelFeed
  simp (maxDischargeDepth := 60) +contextual only [answer_kept, flag_kept, modCore_kept, put_kept, runLane_kept, serve_kept,
      withdrawFeed_kept, kept_ite, h, Runs.next, implies_true]
theorem execKernelDoorbell_runs (r : Req) (p : List Byte) (h : Kept a s) : Runs a (execKernelDoorbell r p s) := by
  unfold execKernelDoorbell
  simp (maxDischargeDepth := 60) +contextual only [answer_kept, doorbell_kept, serve_kept, kept_ite, h, Runs.next, implies_true]
theorem execKernelTrig_runs (r : Req) (p : List Byte) (h : Kept a s) : Runs a (execKernelTrig r p s) := by
  unfold execKernelTrig
  refine .next (serve_kept _ _ _ _ _ (fun q t k => ?_) h)
  split <;> simp (maxDischargeDepth := 60) +contextual only [answer_kept, modKernel_kept, put_kept, k]
theorem execAlignmentMarker_runs (h : Kept a s) : Runs a (execAlignmentMarker s) := by
  unfold execAlignmentMarker
  simp (maxDischargeDepth := 60) +contextual only [passMarkers_kept, refTicks_kept, rootMarkers_kept, whilePowered_runs,
      kept_ite, h, Runs.next, runs_ite, implies_true]
theorem execCoexReqAssert_runs (h : Kept a s) : Runs a (execCoexReqAssert s) := by
  unfold execCoexReqAssert
  refine whileLive_runs h fun t k => ?_
  split <;> simp (maxDischargeDepth := 60) +contextual only [advanceTo_kept, modUwb_kept, k, Runs.next, runs_ite]
theorem execWakeMaskRelease_runs (uart : Fin 8) (h : Kept a s) : Runs a (execWakeMaskRelease uart s) := by
  unfold execWakeMaskRelease; simp (maxDischargeDepth := 60) +contextual only [put_kept, kept_ite, h, Runs.next]
theorem execLaneFeedWord_runs (core : Fin 4) (h : Kept a s) : Runs a (execLaneFeedWord core s) := by
  unfold execLaneFeedWord
  refine whileLive_runs h fun t k => ?_
  dsimp only
  (repeat' split) <;> simp (maxDischargeDepth := 60) +contextual only [feedTake_kept, toLeft_kept, k, Runs.next]
theorem execFwCommitDone_runs (written : Bool) (h : Kept a s) : Runs a (execFwCommitDone written s) := by
  unfold execFwCommitDone
  refine whileLive_runs h fun t k => ?_
  split <;> simp (maxDischargeDepth := 60) +contextual only [answer_kept, modFw_kept, k, Runs.next, runs_ite]
theorem execProvisionDone_runs (done : Bool) (h : Kept a s) : Runs a (execProvisionDone done s) := by
  unfold execProvisionDone
  refine whileLive_runs h fun t k => ?_
  split <;> simp (maxDischargeDepth := 60) +contextual only [answer_kept, blow_kept, modSec_kept, k, Runs.next, runs_ite,
      implies_true, eq_self]
theorem execPairRetestDone_runs (pass : Bool) (h : Kept a s) : Runs a (execPairRetestDone pass s) := by
  unfold execPairRetestDone
  refine whileLive_runs h fun t k => ?_
  split <;> simp (maxDischargeDepth := 60) +contextual only [answer_kept, each_kept, flag_kept, modStw_kept,
      setPair_kept, kept_ite, k, Runs.next, runs_ite, implies_true, eq_self]
theorem execSnapLoadDone_runs (h : Kept a s) : Runs a (execSnapLoadDone s) := by
  unfold execSnapLoadDone
  refine whileLive_runs h fun t k => ?_
  dsimp only
  (repeat' split) <;> simp (maxDischargeDepth := 60) +contextual only [answerTo_kept, gleanerWrite_kept, modSnap_kept,
      snapStands_kept, k, Runs.next]
theorem modFile_kept (n : Nat) (f : DspFile → DspFile) (h : Kept a s) : Kept a (State.modFile s n f) := by
  unfold State.modFile; simp (maxDischargeDepth := 60) +contextual only [modCore_kept, h]
theorem group01_runs {k : Nat} {x : Cls × (Req → List Byte → State → Result)} (e : group01 k = some x) (r : Req) (p : List Byte)
    (h : Kept a s) :
    Runs a (x.2 r p s) := by
  unfold group01 at e
  split at e
  · cases e; exact execPing_runs _ _ h
  · cases e; exact execGetInfo_runs _ _ h
  · cases e; exact execSetMode_runs _ _ h
  · cases e; exact execPowerCfg_runs _ _ h
  · cases e; exact execWakeAlarm_runs _ _ h
  · cases e; exact execFwChunk_runs _ _ h
  · cases e; exact execFwCommit_runs _ _ h
  · cases e
theorem group02_runs {k : Nat} {x : Cls × (Req → List Byte → State → Result)} (e : group02 k = some x) (r : Req) (p : List Byte)
    (h : Kept a s) :
    Runs a (x.2 r p s) := by
  unfold group02 at e
  split at e
  · cases e; exact execLaneSet_runs _ _ h
  · cases e; exact execSignalAdd_runs _ _ h
  · cases e; exact execSignalDrop_runs _ _ h
  · cases e; exact execChannelPolicy_runs _ _ h
  · cases e; exact execReportCfg_runs _ _ h
  · cases e; exact execAiding_runs _ _ h
  · cases e; exact execNavAiding_runs _ _ h
  · cases e; exact execCorrections_runs _ _ h
  · cases e; exact execSearch_runs _ _ h
  · cases e; exact execDeclare_runs _ _ h
  · cases e; exact execNavDataGet_runs _ _ h
  · cases e
theorem group03_runs {k : Nat} {x : Cls × (Req → List Byte → State → Result)} (e : group03 k = some x) (r : Req) (p : List Byte)
    (h : Kept a s) :
    Runs a (x.2 r p s) := by
  unfold group03 at e
  split at e
  · cases e; exact execSnapArm_runs _ _ h
  · cases e; exact execSnapAbort_runs _ _ h
  · cases e; exact execSnapInfo_runs _ _ h
  · cases e; exact execSnapList_runs _ _ h
  · cases e; exact execSnapLoad_runs _ _ h
  · cases e; exact execSnapFix_runs _ _ h
  · cases e; exact execSnapSchedule_runs _ _ h
  · cases e; exact execSnapPolicy_runs _ _ h
  · cases e; exact execSnapExport_runs _ _ h
  · cases e; exact execSnapDelete_runs _ _ h
  · cases e; exact execSnapCommit_runs _ _ h
  · cases e
theorem group04_runs {k : Nat} {x : Cls × (Req → List Byte → State → Result)} (e : group04 k = some x) (r : Req) (p : List Byte)
    (h : Kept a s) :
    Runs a (x.2 r p s) := by
  unfold group04 at e
  split at e
  · cases e; exact execTimeGet_runs _ _ h
  · cases e; exact execTimeCfg_runs _ _ h
  · cases e; exact execUtcSet_runs _ _ h
  · cases e; exact execTrigArm_runs _ _ h
  · cases e; exact execTrigCancel_runs _ _ h
  · cases e; exact execCapCfg_runs _ _ h
  · cases e; exact execCapRead_runs _ _ h
  · cases e; exact execTpCfg_runs _ _ h
  · cases e
theorem group05_runs {k : Nat} {x : Cls × (Req → List Byte → State → Result)} (e : group05 k = some x) (r : Req) (p : List Byte)
    (h : Kept a s) :
    Runs a (x.2 r p s) := by
  unfold group05 at e
  split at e
  · cases e; exact execNetCfg_runs _ _ h
  · cases e; exact execNetLat_runs _ _ h
  · cases e; exact execNetAsym_runs _ _ h
  · cases e; exact execNetRealign_runs _ _ h
  · cases e; exact execNetInfo_runs _ _ h
  · cases e
theorem group06_runs {k : Nat} {x : Cls × (Req → List Byte → State → Result)} (e : group06 k = some x) (r : Req) (p : List Byte)
    (h : Kept a s) :
    Runs a (x.2 r p s) := by
  unfold group06 at e
  split at e
  · cases e; exact execUwbCfg_runs _ _ h
  · cases e; exact execUwbCal_runs _ _ h
  · cases e; exact execUwbPsdu_runs _ _ h
  · cases e; exact execUwbTx_runs _ _ h
  · cases e; exact execUwbRx_runs _ _ h
  · cases e; exact execUwbStop_runs _ _ h
  · cases e; exact execSessionCreate_runs _ _ h
  · cases e; exact execSessionStart_runs _ _ h
  · cases e; exact execSessionStop_runs _ _ h
  · cases e; exact execSessionDelete_runs _ _ h
  · cases e; exact execSessionPsdu_runs _ _ h
  · cases e; exact execRemoteIntervals_runs _ _ h
  · cases e; exact execRegWrite_runs _ _ h
  · cases e; exact execRegReadRegulatory_runs _ _ h
  · cases e; exact execAntDelay_runs _ _ h
  · cases e; exact execListenCfg_runs _ _ h
  · cases e
theorem group07_runs {k : Nat} {x : Cls × (Req → List Byte → State → Result)} (e : group07 k = some x) (r : Req) (p : List Byte)
    (h : Kept a s) :
    Runs a (x.2 r p s) := by
  unfold group07 at e
  split at e
  · cases e; exact execDelegate_runs _ _ h
  · cases e; exact execReturnBlock_runs _ _ h
  · cases e; exact execOwners_runs _ _ h
  · cases e
theorem group08_runs {k : Nat} {x : Cls × (Req → List Byte → State → Result)} (e : group08 k = some x) (r : Req) (p : List Byte)
    (h : Kept a s) :
    Runs a (x.2 r p s) := by
  unfold group08 at e
  split at e
  · cases e; exact execSecGet_runs _ _ h
  · cases e; exact execLifecycle_runs _ _ h
  · cases e; exact execKeyInstall_runs _ _ _ (nextFree_kept h)
  · cases e; exact execCertRead_runs _ _ h
  · cases e; exact execCertInstall_runs _ _ h
  · cases e; exact execSecMin_runs _ _ h
  · cases e; exact execAuthChallenge_runs _ _ _ (nextFree_kept h)
  · cases e; exact execAuthResponse_runs _ _ h
  · cases e; exact execAuthPassword_runs _ _ h
  · cases e; exact execSealReq_runs _ _ h
  · cases e; exact execMarketLock_runs _ _ h
  · cases e; exact execVendorDebugOff_runs _ _ h
  · cases e; exact execDebug_runs _ _ h
  · cases e
theorem group09_runs {k : Nat} {x : Cls × (Req → List Byte → State → Result)} (e : group09 k = some x) (r : Req) (p : List Byte)
    (h : Kept a s) :
    Runs a (x.2 r p s) := by
  unfold group09 at e
  split at e
  · cases e; exact execRegRead_runs _ _ h
  · cases e; exact execSignalStatus_runs _ _ h
  · cases e; exact execAcqSummary_runs _ _ h
  · cases e; exact execCounters_runs _ _ h
  · cases e; exact execEventLog_runs _ _ h
  · cases e; exact execCountersClear_runs _ _ h
  · cases e; exact execPairRetest_runs _ _ h
  · cases e
theorem group0A_runs {k : Nat} {x : Cls × (Req → List Byte → State → Result)} (e : group0A k = some x) (r : Req) (p : List Byte)
    (h : Kept a s) :
    Runs a (x.2 r p s) := by
  unfold group0A at e
  split at e
  · cases e; exact execKernelLoad_runs _ _ h
  · cases e; exact execKernelStart_runs _ _ h
  · cases e; exact execKernelStop_runs _ _ h
  · cases e; exact execKernelUnload_runs _ _ h
  · cases e; exact execKernelStatus_runs _ _ h
  · cases e; exact execKernelFeed_runs _ _ h
  · cases e; exact execKernelDoorbell_runs _ _ h
  · cases e; exact execKernelTrig_runs _ _ h
  · cases e
theorem requestOf_runs {op : Nat} {x : Cls × (Req → List Byte → State → Result)} (e : requestOf op = some x) (r : Req) (p : List
    Byte)
    (h : Kept a s) : Runs a (x.2 r p s) := by
  unfold requestOf at e
  split at e
  · exact group01_runs e r p h
  · exact group02_runs e r p h
  · exact group03_runs e r p h
  · exact group04_runs e r p h
  · exact group05_runs e r p h
  · exact group06_runs e r p h
  · exact group07_runs e r p h
  · exact group08_runs e r p h
  · exact group09_runs e r p h
  · exact group0A_runs e r p h
  · cases e
theorem runRequest_kept (op : Nat) (r : Req) (p : List Byte) (h : Kept a s) : Kept a (s.runRequest op r p) := by
  unfold State.runRequest
  split
  · rename_i x e
    exact run_kept h fun t k => requestOf_runs e r p k
  · exact h
theorem readCounts_kept (w : Nat) (n : Nat) (h : Kept a s) : Kept a (State.readCounts s w n) := by
  unfold State.readCounts; simp (maxDischargeDepth := 60) +contextual only [baleCount_kept, each_kept, h, implies_true]
theorem takeMessage_kept (c : Cls) (h : Kept a s) : Kept a (State.takeMessage s c) := by
  unfold State.takeMessage
  dsimp only
  (repeat' split) <;> simp (maxDischargeDepth := 60) +contextual only [answer_kept, descriptor_kept, modHost_kept, nextFree_kept,
      put_kept, readCounts_kept, ringError_kept, runRequest_kept, h, implies_true, eq_self]
theorem runDeferred_kept (d : Deferred) (rest : List Deferred) (h : Kept a s) : Kept a (State.runDeferred s d rest) := by
  unfold State.runDeferred
  simp (maxDischargeDepth := 60) +contextual only [modHost_kept, runRequest_kept, h, implies_true, eq_self]
theorem takeSlot_kept (h : Kept a s) : Kept a (State.takeSlot s) := by
  unfold State.takeSlot; split <;> simp (maxDischargeDepth := 60) +contextual only [modPwr_kept, put_kept, startMode_kept, h]
theorem idle_kept (h : Kept a s) : Kept a s.idle := by
  unfold State.idle
  split
  · exact h
  · split
    · exact runDeferred_kept _ _ h
    · split
      · exact takeSlot_kept h
      · split
        · exact h
        · split
          · exact h
          · exact takeMessage_kept _ (modHost_kept _ (fun _ => rfl) h)

end Sys2Proof.Machine
end

