-- ==== Sys2Proof/Laws/Reports.lean ====
section
/-! SUPPORT. What events, responses and interrupts may change: one lemma for each operation that makes one. -/

namespace Sys2Proof.Machine

theorem ReportsOnly.refl (s : State) : ReportsOnly s (s) where
  fab := rfl
  stw := rfl
  fe := rfl
  lanes := rfl
  thr := rfl
  clk := rfl
  shf := rfl
  dsp := rfl
  nav := rfl
  snap := rfl
  ltu := rfl
  net := rfl
  uwb := rfl
  uarts := rfl
  cvus := rfl
  pwr := rfl
  sec := rfl
  fw := rfl
  free := rfl
  pending := rfl
  gran := rfl
  wf := fun h => h
  word := fun _ _ _ => rfl

theorem ReportsOnly.trans {s t u : State} (a : ReportsOnly s t) (b : ReportsOnly t u) : ReportsOnly s u where
  fab := b.fab.trans a.fab
  stw := b.stw.trans a.stw
  gran := by rw [b.gran, a.gran]
  fe := b.fe.trans a.fe
  lanes := b.lanes.trans a.lanes
  thr := b.thr.trans a.thr
  clk := b.clk.trans a.clk
  shf := b.shf.trans a.shf
  dsp := b.dsp.trans a.dsp
  nav := b.nav.trans a.nav
  snap := b.snap.trans a.snap
  ltu := b.ltu.trans a.ltu
  net := b.net.trans a.net
  uwb := b.uwb.trans a.uwb
  uarts := b.uarts.trans a.uarts
  cvus := b.cvus.trans a.cvus
  pwr := b.pwr.trans a.pwr
  sec := b.sec.trans a.sec
  fw := b.fw.trans a.fw
  free := b.free.trans a.free
  pending := b.pending.trans a.pending
  wf := fun h => b.wf (a.wf h)
  word := fun h x hx => (b.word (a.wf h) x hx).trans (a.word h x hx)

theorem modHost_reportsOnly (s : State) (f : HostState → HostState) : ReportsOnly s (s.modHost f) where
  fab := rfl
  stw := rfl
  fe := rfl
  lanes := rfl
  thr := rfl
  clk := rfl
  shf := rfl
  dsp := rfl
  nav := rfl
  snap := rfl
  ltu := rfl
  net := rfl
  uwb := rfl
  uarts := rfl
  cvus := rfl
  pwr := rfl
  sec := rfl
  fw := rfl
  free := rfl
  pending := rfl
  gran := rfl
  wf := fun h => h
  word := fun _ _ _ => rfl

theorem put_reportsOnly (s : State) {f : Field} (v : Nat) (h : f.addr ∈ reportRegisters) : ReportsOnly s (s.put f v) where
  fab := rfl
  stw := rfl
  fe := rfl
  lanes := rfl
  thr := rfl
  clk := rfl
  shf := rfl
  dsp := rfl
  nav := rfl
  snap := rfl
  ltu := rfl
  net := rfl
  uwb := rfl
  uarts := rfl
  cvus := rfl
  pwr := rfl
  sec := rfl
  fw := rfl
  free := rfl
  pending := rfl
  gran := rfl
  wf := State.put_wf f v
  word := fun wf a ha => State.word_put_of_ne wf f v a (fun e => ha (e ▸ h))

theorem baleSet_reportsOnly (s : State) (f : List (Nat × BitVec 39) → List (Nat × BitVec 39))
    (hf : sparseWf baleDefault s.gran.bale = true → sparseWf baleDefault (f s.gran.bale) = true) : ReportsOnly s (s.modGran fun g => { g with bale := f g.bale }) where
  fab := rfl
  stw := rfl
  fe := rfl
  lanes := rfl
  thr := rfl
  clk := rfl
  shf := rfl
  dsp := rfl
  nav := rfl
  snap := rfl
  ltu := rfl
  net := rfl
  uwb := rfl
  uarts := rfl
  cvus := rfl
  pwr := rfl
  sec := rfl
  fw := rfl
  free := rfl
  pending := rfl
  gran := rfl
  wf := by
    intro h
    simp only [Memory.wf, Bool.and_eq_true, State.modGran_regs, State.modGran_gran, State.modGran_dsp] at h ⊢
    exact ⟨⟨⟨⟨h.1.1.1.1, hf h.1.1.1.2⟩, h.1.1.2⟩, h.1.2⟩, h.2⟩
  word := fun _ _ _ => rfl

theorem baleWrite_reportsOnly (s : State) (w v : Nat) : ReportsOnly s (s.baleWrite w v) := by
  unfold State.baleWrite
  exact baleSet_reportsOnly s (fun l => sparseSet baleDefault l w (BitVec.ofNat 39 (eccStore 32 v))) sparseSet_wf

theorem baleBytes_reportsOnly : ∀ (l : List Byte) (s : State) (a : Nat), ReportsOnly s (s.baleBytes a l)
  | [], s, _ => by unfold State.baleBytes; exact ReportsOnly.refl s
  | [b0], s, _ => by unfold State.baleBytes; exact baleWrite_reportsOnly s _ _
  | [b0, b1], s, _ => by unfold State.baleBytes; exact baleWrite_reportsOnly s _ _
  | [b0, b1, b2], s, _ => by unfold State.baleBytes; exact baleWrite_reportsOnly s _ _
  | b0 :: b1 :: b2 :: b3 :: bs, s, _ => by
    unfold State.baleBytes
    exact (baleWrite_reportsOnly s _ _).trans (baleBytes_reportsOnly bs _ _)

theorem sendVector_reportsOnly (s : State) (v : Nat) : ReportsOnly s (s.sendVector v) := by
  unfold State.sendVector
  split
  · exact ReportsOnly.refl s
  · exact modHost_reportsOnly s _

theorem cause_reportsOnly (s : State) (b v : Nat) : ReportsOnly s (s.cause b v) := by
  unfold State.cause State.flag
  have h : ReportsOnly s (s.put ⟨HL_IRQ_CAUSE, b, 1⟩ 1) := put_reportsOnly s 1 (by simp [reportRegisters])
  dsimp only
  split
  · exact h.trans (sendVector_reportsOnly _ v)
  · exact h

theorem signalRing_reportsOnly (s : State) (c : Nat) : ReportsOnly s (s.signalRing c) := by
  unfold State.signalRing State.flag
  have h : ReportsOnly s (s.put ⟨HL_IRQ_CAUSE, c + 2, 1⟩ 1) := put_reportsOnly s 1 (by simp [reportRegisters])
  dsimp only
  split
  · exact h
  · split
    · exact h.trans (modHost_reportsOnly _ _)
    · have h' := h.trans (sendVector_reportsOnly _ (c + 1))
      split
      · exact h'
      · exact h'.trans (modHost_reportsOnly _ _)

theorem descriptor_reportsOnly (s : State) (r c o : Nat) : ReportsOnly s (s.descriptor r c o) := baleWrite_reportsOnly s _ _

theorem tally_reportsOnly (s : State) (i n : Nat) : ReportsOnly s (s.tally i n) := modHost_reportsOnly s _

theorem logEvent_reportsOnly (s : State) (e : Event) (n : Option Nat) (t : Time) : ReportsOnly s (s.logEvent e n t) :=
  modHost_reportsOnly s _

/-- A message written on a ring. -/
theorem produce_reportsOnly (s t : State) (c : Cls) (m : Msg) (h : s.produce c m = some t) : ReportsOnly s t := by
  unfold State.produce at h
  dsimp only at h
  split at h
  · exact absurd h (by simp)
  · next start _ =>
    cases h
    have h1 : ReportsOnly s (if start == (vget {} s.host.rsps (clsNum c)).offset then s
        else s.baleBytes (ringBase (rspRingId c) + (vget {} s.host.rsps (clsNum c)).offset) (le 2 0)) := by
      split
      · exact ReportsOnly.refl s
      · exact baleBytes_reportsOnly _ _ _
    have written : ∀ u : State, ReportsOnly s u → ∀ a l f r k o, ReportsOnly s (((u.baleBytes a l).modHost f).descriptor r k o) :=
      fun u hu a l f r k o => ((hu.trans (baleBytes_reportsOnly l u a)).trans (modHost_reportsOnly _ f)).trans
        (descriptor_reportsOnly _ r k o)
    cases c <;> dsimp only
    · exact (written _ h1 _ _ _ _ _ _).trans (cause_reportsOnly _ 0 0)
    · exact (written _ h1 _ _ _ _ _ _).trans (signalRing_reportsOnly _ 0)
    · exact (written _ h1 _ _ _ _ _ _).trans (signalRing_reportsOnly _ 1)
    · exact (written _ h1 _ _ _ _ _ _).trans (signalRing_reportsOnly _ 2)

theorem produce_getD_reportsOnly {s u : State} (c : Cls) (m : Msg) (h : ReportsOnly s u) : ReportsOnly s ((s.produce c m).getD u) := by
  cases e : s.produce c m with
  | none => exact h
  | some t => exact produce_reportsOnly s t c m e

/-- A response. -/
theorem respond_reportsOnly (s : State) (r : OpenReq) (final : Bool) (status : Nat) (p : List Byte) :
    ReportsOnly s (s.respond r final status p) := by
  unfold State.respond
  dsimp only
  split
  · exact modHost_reportsOnly s _
  · split
    · exact ReportsOnly.refl s
    · split
      · exact produce_getD_reportsOnly _ _ (modHost_reportsOnly s _)
      · exact modHost_reportsOnly s _

theorem answer_reportsOnly (s : State) (q : OpenReq) (a : Answer) : ReportsOnly s (s.answer q a) := respond_reportsOnly s q _ _ _

theorem accept_reportsOnly (s : State) (q : OpenReq) : ReportsOnly s (s.accept q) := respond_reportsOnly s q _ _ _

theorem answerTo_reportsOnly (s : State) (q : Option OpenReq) (a : Answer) : ReportsOnly s (s.answerTo q a) := by
  cases q with
  | none => exact ReportsOnly.refl s
  | some q => exact answer_reportsOnly s q a

theorem chunks_reportsOnly (q : OpenReq) : ∀ (n off : Nat) (l : List Byte) (s : State), ReportsOnly s (s.chunksFrom q n off l)
  | 0, _, _, s => respond_reportsOnly s q _ _ _
  | n + 1, off, l, s => by
    unfold State.chunksFrom
    split
    · exact respond_reportsOnly s q _ _ _
    · exact (respond_reportsOnly s q _ _ _).trans (chunks_reportsOnly q n _ _ _)

theorem emitVector_reportsOnly (s : State) (e : Event) (t : Time) : ReportsOnly s (s.emitVector e t) := by
  unfold State.emitVector
  dsimp only
  have h := (logEvent_reportsOnly s e (some s.host.evNumber) t).trans
    (modHost_reportsOnly _ fun h => { h with evNumber := (s.host.evNumber + 1) % 2 ^ 32 })
  split
  · exact ((h.trans (put_reportsOnly _ _ (by simp [reportRegisters, HL_EVT_LOST.lost]))).trans (tally_reportsOnly _ 15 1)).trans
      (cause_reportsOnly _ 7 4)
  · exact ((h.trans (modHost_reportsOnly _ _)).trans (put_reportsOnly _ _ (by simp [reportRegisters, HL_EVT_PROD.prod]))).trans
      (cause_reportsOnly _ 1 0)

theorem emitRing_reportsOnly (s : State) (c : Cls) (e : Event) (t : Time) : ReportsOnly s (s.emitRing c e t) := by
  unfold State.emitRing
  dsimp only
  have h := logEvent_reportsOnly s e none t
  split
  · exact h
  · split
    · exact (h.trans (modHost_reportsOnly _ _)).trans (produce_getD_reportsOnly _ _ (tally_reportsOnly _ _ _))
    · exact (h.trans (modHost_reportsOnly _ _)).trans (tally_reportsOnly _ _ _)

/-- An event. -/
theorem emitAt_reportsOnly (s : State) (t : Time) (e : Event) : ReportsOnly s (s.emitAt t e) := by
  unfold State.emitAt
  split
  · exact modHost_reportsOnly s _
  · split
    · exact emitVector_reportsOnly s e t
    · exact emitRing_reportsOnly s _ e t
    · exact logEvent_reportsOnly s e none t

theorem emit_reportsOnly (s : State) (e : Event) : ReportsOnly s (s.emit e) := emitAt_reportsOnly s _ e

end Sys2Proof.Machine
end

