-- ==== Sys2Proof/WellFormed.lean ====
section
/-! DEFINITION. Which commands are well formed: what their operand types do not already say. A meaning is total all the
same: it limits or ignores an operand outside its range. -/

namespace Sys2Proof

/-- A request of a message ring: seq and tag fit their fields, and the payload is of 0 to 1,004 bytes (R546). -/
def requestOk (r : Req) (p : List Byte) : Bool := decide (r.seq < 65536) && decide (r.tag < 4294967296) && decide (p.length ≤ 1004)

/-- A target that exists at the crossbar: a granary address of 26 bits (R88), a word of the bale (R110). -/
def targetOk : FabTarget → Bool
  | .granary a => decide (a < 67108864)
  | .bale w => decide (w < 16384)
  | .register _ => true
  | .silo => true

/-- A request at the crossbar: a 6-bit initiator ID that issues requests (R90), at least one word, and an existing target. -/
def fabReqOk (r : FabReq) : Bool :=
  isInitiator r.initiator && targetOk r.target &&
    (decide (1 ≤ r.reads) || !r.writes.isEmpty)

/-- A request of the host: reads of up to 512 bytes, writes of up to 256 (R536). -/
def tlpOk : Tlp → Bool
  | .memRead _ _ n => decide (1 ≤ n) && decide (n ≤ 512)
  | .memWrite _ _ l => decide (1 ≤ l.length) && decide (l.length ≤ 256)
  | .cfgRead o => decide (o < 4096)
  | .cfgCommand _ _ => true
  | .cfgMsix _ _ => true
  | .cfgPower _ => true

/-- A well-formed command. -/
def Instr.wellFormed : Instr → Bool
  | .interconnectRequest elapsed reqs => reqs.all fabReqOk
  | .clearCount => true
  | .ceRewrite _ _ => true
  | .mirrorRepair _ => true
  | .lockstepMismatch _ _ => true
  | .heartbeatLost _ => true
  | .deferredReturn _ => true
  | .dcoCalDone => true
  | .freqAcquired _ => true
  | .lockWindowEnd _ _ _ _ => true
  | .phaseAligned => true
  | .gatesOpen => true
  | .relock _ => true
  | .refMissing => true
  | .coastExpiry _ => true
  | .refReturn _ _ _ => true
  | .phaseWalk _ _ _ _ => true
  | .walkDone => true
  | .refJump _ _ _ => true
  | .syncInEdge _ => true
  | .syncWaitExpiry => true
  | .laneSyncCmd _ => true
  | .syncLanded => true
  | .clkbEnable => true
  | .clkbChannelWrite _ => true
  | .bFreqAcquired _ => true
  | .bLockWindowEnd _ _ => true
  | .granaryInitDone => true
  | .bayGo _ => true
  | .handoverStart _ => true
  | .handoverDone _ => true
  | .lendableClear _ => true
  | .groupEnable _ => true
  | .groupMembersWrite _ _ => true
  | .groupDisable _ => true
  | .groupLeave _ => true
  | .auditSegmentStart => true
  | .auditCopyDone => true
  | .auditTestDone faulty => decide (faulty.length ≤ 4096)
  | .auditWritebackDone => true
  | .auditDisable => true
  | .clearCounts => true
  | .baleCollClear => true
  | .gnssEnable => true
  | .fgCalStart => true
  | .fgCalDone => true
  | .sampleRelease => true
  | .gnssDisable => true
  | .agcWindowEnd => true
  | .blankAssert _ => true
  | .blankDeassert _ => true
  | .blankPostEnd => true
  | .blankStuck => true
  | .antMeasure _ => true
  | .antRetry => true
  | .bgCalUpdate => true
  | .laneEnable _ => true
  | .laneRestart _ => true
  | .laneStart _ => true
  | .laneDisable _ => true
  | .ncoFreqWrite _ _ => true
  | .filterRequest _ _ _ => true
  | .fadeStart _ => true
  | .fadeEnd _ => true
  | .bankWrite _ _ _ _ => true
  | .notchDetect _ => true
  | .notchEngage _ _ => true
  | .notchRelease _ _ => true
  | .notchFreqWrite _ _ _ => true
  | .passLatch => true
  | .passAbort => true
  | .thrDisable => true
  | .freeA => true
  | .freeB => true
  | .roundStart => true
  | .blockEnd => true
  | .roundDone => true
  | .peakSearchDone => true
  | .channelStart _ => true
  | .channelRun _ => true
  | .channelStop _ => true
  | .sweepEnd _ => true
  | .loopUpdate => true
  | .loopUpdateApply _ => true
  | .codeRamWrite _ _ _ => true
  | .sheafDisable => true
  | .lostTimeout _ => true
  | .nop _ => true
  | .br _ _ _ => true
  | .call _ _ _ => true
  | .ret _ _ => true
  | .reti _ => true
  | .brr _ _ _ => true
  | .loop _ _ _ => true
  | .loopr _ _ _ => true
  | .rpt _ _ => true
  | .rptr _ _ => true
  | .rot _ => true
  | .halt _ => true
  | .mv _ _ => true
  | .mov _ _ _ _ => true
  | .ldi _ _ _ => true
  | .add _ _ _ _ _ => true
  | .sub _ _ _ _ _ => true
  | .adds _ _ _ _ _ => true
  | .subs _ _ _ _ _ => true
  | .and _ _ _ _ _ => true
  | .or _ _ _ _ _ => true
  | .xor _ _ _ _ _ => true
  | .not _ _ _ _ => true
  | .neg _ _ _ _ => true
  | .abs _ _ _ _ => true
  | .cmp _ _ _ _ => true
  | .addi _ _ _ _ _ => true
  | .asl _ _ _ _ _ => true
  | .asr _ _ _ _ _ => true
  | .lsr _ _ _ _ _ => true
  | .nrm _ _ _ _ => true
  | .mul _ _ _ _ _ _ => true
  | .mac _ _ _ _ _ _ => true
  | .nmac _ _ _ _ _ _ => true
  | .mulm _ _ _ _ _ _ => true
  | .macm _ _ _ _ _ _ => true
  | .macu _ _ _ _ _ _ => true
  | .clr _ _ _ => true
  | .aadd _ _ _ _ => true
  | .asub _ _ _ _ => true
  | .amov _ _ _ _ => true
  | .aneg _ _ _ _ => true
  | .aabs _ _ _ _ => true
  | .ashl _ _ _ _ _ => true
  | .ashr _ _ _ _ _ => true
  | .ext _ _ _ _ _ => true
  | .dep _ _ _ _ _ => true
  | .acmp _ _ _ _ => true
  | .cmul _ _ _ _ _ _ => true
  | .cmac _ _ _ _ _ _ => true
  | .cmacc _ _ _ _ _ _ => true
  | .cnmac _ _ _ _ _ _ => true
  | .cpk _ _ _ _ _ => true
  | .cunp _ _ _ _ => true
  | .cadd _ _ _ _ _ => true
  | .csub _ _ _ _ _ => true
  | .cconj _ _ _ _ => true
  | .smax _ _ _ => true
  | .smin _ _ _ => true
  | .smaxd _ _ _ _ _ => true
  | .smind _ _ _ _ _ => true
  | .sinit _ _ _ => true
  | .clrf _ _ _ => true
  | .ei _ _ => true
  | .di _ _ => true
  | .fence _ _ => true
  | .windowReadData _ => true
  | .windowWriteDone _ => true
  | .interruptEntry _ => true
  | .watchdogExpiry _ => true
  | .wdgKick _ => true
  | .doorbell _ _ => true
  | .dqDataRead _ => true
  | .updDataWrite _ _ => true
  | .notify _ _ => true
  | .feedWidxRead _ => true
  | .feedOverrunClear _ => true
  | .winCfgWrite _ _ _ _ => true
  | .kernelLoadDone _ => true
  | .kernelStopDone _ => true
  | .reportEpoch _ => true
  | .detectorExpiry _ => true
  | .captureStart => true
  | .captureEnd => true
  | .snapCommitDone => true
  | .scheduleWake _ => true
  | .parkedReturn _ => true
  | .timeNowRead => true
  | .slewWrite _ => true
  | .slewDone => true
  | .stepArm => true
  | .stepCancel => true
  | .stepApply => true
  | .timeSolution _ => true
  | .gnssLossTimeout => true
  | .spoofHoldEnd => true
  | .leapApply => true
  | .triggerEnable _ => true
  | .triggerFire _ => true
  | .trigOutEnd _ => true
  | .captureEdge _ _ _ _ _ => true
  | .capResultRead _ => true
  | .capOverrunClear _ => true
  | .tpDecision _ => true
  | .tpLeadingEdge _ => true
  | .tpTrailingEdge _ => true
  | .timeRelationWrite _ => true
  | .rtcAlarm _ => true
  | .rtcCalDone _ => true
  | .rtcHandover _ => true
  | .wideWrite _ _ => true
  | .linkChange _ _ _ => true
  | .frameRx => true
  | .announceRx _ => true
  | .syncRx _ => true
  | .followUpRx _ => true
  | .delayReqRx _ => true
  | .delayRespRx _ => true
  | .pdelayReqRx _ => true
  | .pdelayRespRx _ => true
  | .pdelayRespFollowUpRx _ => true
  | .syncTx _ => true
  | .announceTx => true
  | .delayReqTx _ => true
  | .pdelayReqTx _ => true
  | .bmca => true
  | .announceTimeout _ => true
  | .syncTimeout => true
  | .slewPart => true
  | .activityCommit _ _ => true
  | .stateRaise => true
  | .txEnd => true
  | .rxFrame _ => true
  | .rxWindowClose => true
  | .firstPathDone _ => true
  | .rangingRoundEnd _ => true
  | .roundTimeout _ => true
  | .tempCalDue _ => true
  | .calStart => true
  | .calDone _ => true
  | .gntChange _ => true
  | .listenWindow => true
  | .uartRxChar _ _ => true
  | .uartBreakRx _ _ => true
  | .uartStuck _ => true
  | .uartStuckEnd _ _ => true
  | .uartTxChar _ _ _ => true
  | .uartDataRead _ => true
  | .uartDataWrite _ _ => true
  | .uartStatusRead _ => true
  | .flushRx _ => true
  | .flushTx _ => true
  | .uartBreakSend _ => true
  | .uartBreakDone _ => true
  | .linHeaderSend _ => true
  | .linBreakDetect _ _ => true
  | .linPid _ _ => true
  | .linResponseStart _ => true
  | .linTimeout _ => true
  | .uartWake _ => true
  | .cvuStart _ => true
  | .cvuAbort _ => true
  | .cvuDataWrite _ _ => true
  | .cvuDone _ => true
  | .toVbak => true
  | .toVsys => true
  | .vbakLow => true
  | .aonPowerLoss => true
  | .aonPowerUp _ => true
  | .shutdownStart _ _ => true
  | .mainPowerStart => true
  | .mainResetRelease _ _ _ => true
  | .railFault => true
  | .extReset => true
  | .earlyPfail _ => true
  | .frozenPfail => true
  | .modeTransitionDone => true
  | .hostWake => true
  | .bootDone => true
  | .presPress => true
  | .presRelease => true
  | .presWindowExpiry => true
  | .sealCheck _ _ _ _ => true
  | .trngFail => true
  | .authVerifyDone => true
  | .lockoutEnd _ => true
  | .nonceExpiry => true
  | .serviceTimeout => true
  | .freeze _ => true
  | .thaw _ _ => true
  | .tapReset => true
  | .idcode => true
  | .samplePreload _ _ => true
  | .extest => true
  | .clamp => true
  | .highz => true
  | .auth => true
  | .authOpen => true
  | .authClose => true
  | .tapAuthPassword _ => true
  | .tapAuthChallenge _ => true
  | .tapAuthResponse _ _ _ => true
  | .dbgReg _ _ _ => true
  | .frzRead _ => true
  | .dbgStatus _ => true
  | .bypass => true
  | .hostTlp tlp clash => tlpOk tlp && clash.all fun x => decide (x.1 < 16384)
  | .linkUp _ _ => true
  | .hostLinkLoss _ => true
  | .spiTimeout => true
  | .hlDb _ _ _ => true
  | .ringInit => true
  | .ringInitDone => true
  | .evtConsWrite _ => true
  | .hlTime => true
  | .msixUnmask _ => true
  | .irqModExpiry _ => true
  | .spiTransaction mosi clash => clash.all fun x => decide (x.1 < 16384)
  | .devReset _ _ => true
  | .responseRelease _ => true
  | .registerWrite _ _ => true
  | .ping r p => requestOk r p
  | .getInfo r p => requestOk r p
  | .setMode r p => requestOk r p
  | .powerCfg r p => requestOk r p
  | .wakeAlarm r p => requestOk r p
  | .fwChunk r p => requestOk r p
  | .fwCommit r p => requestOk r p
  | .laneSet r p => requestOk r p
  | .signalAdd r p => requestOk r p
  | .signalDrop r p => requestOk r p
  | .channelPolicy r p => requestOk r p
  | .reportCfg r p => requestOk r p
  | .aiding r p => requestOk r p
  | .navAiding r p => requestOk r p
  | .corrections r p => requestOk r p
  | .search r p => requestOk r p
  | .declare r p => requestOk r p
  | .navDataGet r p => requestOk r p
  | .snapArm r p => requestOk r p
  | .snapAbort r p => requestOk r p
  | .snapInfo r p => requestOk r p
  | .snapList r p => requestOk r p
  | .snapLoad r p => requestOk r p
  | .snapFix r p => requestOk r p
  | .snapSchedule r p => requestOk r p
  | .snapPolicy r p => requestOk r p
  | .snapExport r p => requestOk r p
  | .snapDelete r p => requestOk r p
  | .snapCommit r p => requestOk r p
  | .timeGet r p => requestOk r p
  | .timeCfg r p => requestOk r p
  | .utcSet r p => requestOk r p
  | .trigArm r p => requestOk r p
  | .trigCancel r p => requestOk r p
  | .capCfg r p => requestOk r p
  | .capRead r p => requestOk r p
  | .tpCfg r p => requestOk r p
  | .netCfg r p => requestOk r p
  | .netLat r p => requestOk r p
  | .netAsym r p => requestOk r p
  | .netRealign r p => requestOk r p
  | .netInfo r p => requestOk r p
  | .uwbCfg r p => requestOk r p
  | .uwbCal r p => requestOk r p
  | .uwbPsdu r p => requestOk r p
  | .uwbTx r p => requestOk r p
  | .uwbRx r p => requestOk r p
  | .uwbStop r p => requestOk r p
  | .sessionCreate r p => requestOk r p
  | .sessionStart r p => requestOk r p
  | .sessionStop r p => requestOk r p
  | .sessionDelete r p => requestOk r p
  | .sessionPsdu r p => requestOk r p
  | .remoteIntervals r p => requestOk r p
  | .regWrite r p => requestOk r p
  | .regReadRegulatory r p => requestOk r p
  | .antDelay r p => requestOk r p
  | .listenCfg r p => requestOk r p
  | .delegate r p => requestOk r p
  | .returnBlock r p => requestOk r p
  | .owners r p => requestOk r p
  | .secGet r p => requestOk r p
  | .lifecycle r p => requestOk r p
  | .keyInstall r p _ => requestOk r p
  | .certRead r p => requestOk r p
  | .certInstall r p => requestOk r p
  | .secMin r p => requestOk r p
  | .authChallenge r p _ => requestOk r p
  | .authResponse r p => requestOk r p
  | .authPassword r p => requestOk r p
  | .sealReq r p => requestOk r p
  | .marketLock r p => requestOk r p
  | .vendorDebugOff r p => requestOk r p
  | .debug r p => requestOk r p
  | .regRead r p => requestOk r p
  | .signalStatus r p => requestOk r p
  | .acqSummary r p => requestOk r p
  | .counters r p => requestOk r p
  | .eventLog r p => requestOk r p
  | .countersClear r p => requestOk r p
  | .pairRetest r p => requestOk r p
  | .kernelLoad r p => requestOk r p
  | .kernelStart r p => requestOk r p
  | .kernelStop r p => requestOk r p
  | .kernelUnload r p => requestOk r p
  | .kernelStatus r p => requestOk r p
  | .kernelFeed r p => requestOk r p
  | .kernelDoorbell r p => requestOk r p
  | .kernelTrig r p => requestOk r p
  | .alignmentMarker => true
  | .coexReqAssert => true
  | .wakeMaskRelease _ => true
  | .laneFeedWord _ => true
  | .fwCommitDone _ => true
  | .provisionDone _ => true
  | .pairRetestDone _ => true
  | .snapLoadDone => true

end Sys2Proof
end

