-- ==== Sys2Proof/Tests/Slice0.lean ====
section
/-! SUPPORT. Commands that are not well formed, values worked out by hand from the spec, and, for the hypotheses of every
statement of Certificates/Slice0/Obligations.lean, a state and operands that meet them all. A witness is named after its
statement and the number of the clause, from 0, whose hypotheses it meets; a clause with the same hypotheses as an earlier
one has no witness of its own, and a variable that a clause only abbreviates a value with stands as that value. Where a
clause asks something of a function that the model leaves free (a key that unwraps, an image that verifies), its witness
holds for any value of the function that meets it. -/

open Sys2Proof Sys2Proof.Machine

namespace Sys2Proof.Tests

set_option Elab.async false

/-- A payload of n bytes, zero but for those listed by their offset. -/
def payload (n : Nat) (l : List (Nat × Nat)) : List Byte := (List.range n).map fun i => BitVec.ofNat 8 ((l.lookup i).getD 0)

/-! ### Sample values -/

def sampleReq : OpenReq := ⟨.A, 1, 1, 0x0101, 0⟩
def samplePhy : Phy := ⟨5, 0, 9, 0, 64, 6, 1, 0, 0, 0⟩
def sampleAct : RadioAct := ⟨true, none, 1, samplePhy, 0, 0, some 0, some 1, [], none, none, false⟩
def sampleLive : RadioLive := ⟨sampleAct, 0, 0, 0, 0, 0, false⟩
def samplePass : ThrPass :=
  { k := 1, offline := false, header := 0, head := [], startMode := 0, trigger := 0, grpA := 0, grpB := 0, dual := false, blankMax := 0,
    limit := 64, jobs := [], rounds := 1 }
def sampleCapture : Capture :=
  { req := none, entry := 0, lanes := [0], quant := 0, lengthMs := 2, trigger := 255, firstBay := 0, armedAt := 0 }
def sampleRun : CaptureRun := { tStart := 0, cycle := 0, gainCode := 0, tUnc := 0, lanes := [(60, 0)] }
def sampleSession : Session :=
  { id := 1, handle := 0, method := 0, role := 0, prio := 0, sign := false, insert := false, remoteSrc := false,
    phy := samplePhy, key := [], v := 0, period := 1000, slotUs := 1000, guard := 0, insertOff := 0, timeout := 0,
    stsMin := 0, fpTol := 0 }
def sampleMaster : Master := ⟨1, 1, 6, 0, 0, 0, 0, 1, 0, 0, none⟩
def sampleSolution : NavSolution :=
  ⟨0, 0, 0, 0, 0, 0, none, none, none, none, 0, false, false, false, false, 0, 0, 0, 0, false, ⟨0, [], [], false, none, []⟩, false, false,
    false, [], 0, [], false⟩
def sampleStore : List Byte :=
  let c := payload 36 [(0, 0x57), (1, 0x59), (2, 0x52), (3, 0x47), (4, 1), (6, 3)]
  c ++ le 4 (crc32c c)
def sampleAct2 : RadioAct := { sampleAct with tx := false, time := some 1000000000000 }

/-! ### Commands that are not well formed -/

theorem test_no_word_decodes : decodeTableWord 32 0 = none := by decide
theorem test_wf_initiator : (Instr.interconnectRequest 0 [⟨0x21, .A, .granary 0, [], 1, 0⟩]).wellFormed = false := by decide
theorem test_wf_no_initiator : (Instr.interconnectRequest 0 [⟨0, .A, .granary 0, [], 1, 0⟩]).wellFormed = false := by decide
theorem test_wf_fault_initiator : (Instr.interconnectRequest 0 [⟨2, .A, .granary 0, [], 1, 0⟩]).wellFormed = false := by decide
theorem test_wf_granary : (Instr.interconnectRequest 0 [⟨1, .A, .granary 67108864, [], 1, 0⟩]).wellFormed = false := by decide
theorem test_wf_bale : (Instr.interconnectRequest 0 [⟨1, .A, .bale 16384, [], 1, 0⟩]).wellFormed = false := by decide
theorem test_wf_no_word : (Instr.interconnectRequest 0 [⟨1, .A, .granary 0, [], 0, 0⟩]).wellFormed = false := by decide
theorem test_wf_request_taken : (Instr.interconnectRequest 0 [⟨0x20, .H, .granary 67108863, [5], 0, 0⟩]).wellFormed = true := by decide
theorem test_wf_faulty : (Instr.auditTestDone (List.replicate 4097 0)).wellFormed = false := by decide +kernel
theorem test_wf_read : (Instr.hostTlp (.memRead 0 0 513) []).wellFormed = false := by decide
theorem test_wf_write : (Instr.hostTlp (.memWrite 0 0 []) []).wellFormed = false := by decide
theorem test_wf_config : (Instr.hostTlp (.cfgRead 4096) []).wellFormed = false := by decide
theorem test_wf_clash : (Instr.hostTlp (.cfgRead 4095) [(16384, 0)]).wellFormed = false := by decide
theorem test_wf_spi_clash : (Instr.spiTransaction [] [(16384, 0)]).wellFormed = false := by decide
theorem test_wf_seq : (Instr.ping ⟨65536, 0⟩ []).wellFormed = false := by decide
theorem test_wf_tag : (Instr.ping ⟨0, 4294967296⟩ []).wellFormed = false := by decide
theorem test_wf_payload : (Instr.ping ⟨0, 0⟩ (List.replicate 1005 0)).wellFormed = false := by decide +kernel

/-! ### Values worked out by hand from the spec -/

/-- R467, by hand: the identifiers 0x00, 0x3C and 0x3D with their parity bits. -/
theorem test_linPid : linPid 0x00 = 0x80 ∧ linPid 0x3C = 0x3C ∧ linPid 0x3D = 0x7D := by decide
/-- R467, by hand: 0xFF + 0x01 carries round to 0x01, inverted. -/
theorem test_linSum : linSum 0x80 false [0xFF, 0x01] = 0xFE := by decide
/-- R267, by hand: 0x7FFFF + 1 wraps and sets N and V. -/
theorem test_add_wraps :
    (match exec (.add 11 0 1 2 noMoves) ((State.reset.put CLK_STATUS.locked 1).modCore 11 fun c =>
        { c with file := { c.file with d := vmod (fun _ => 0x7FFFF) (vmod (fun _ => 1) c.file.d 2) 1 } }) with
      | .next t => vget 0 (t.landed 11).d 0 == 0x80000
      | _ => false) = true := by decide +kernel
/-- R46: the granary answers ones where it refuses, and stores nothing. -/
theorem test_granary_refuses : ((State.reset.granAccess 0x20 0 0x4000000 (some 5)).1 = 2 ^ 40 - 1) := by decide +kernel
/-- R87, by hand: a word with one bit of its code flipped reads corrected. -/
theorem test_granary_corrects : (granLoad (granStore 0x5A5A5A5A5A 7 ^^^ 4) 7).data = 0x5A5A5A5A5A := by decide +kernel
/-- Log entry 1: on an empty queue after reset a step changes nothing. -/
theorem test_idle : State.reset.idle = State.reset := by decide +kernel

theorem test_reset_live : State.reset.mainLive = true := by decide +kernel
theorem test_reset_frozen : State.reset.frozen = false := by decide +kernel
theorem test_reset_takes : State.reset.takes 5 := by constructor <;> decide +kernel
theorem test_reset_takes_always : State.reset.takes 0 := by constructor <;> decide +kernel

/-- KERNEL_LOAD_DONE of an image that verifies, whichever images the free functions accept. -/
theorem witness_KernelRequestsComplete_12 (k b : List Byte)
    (h : (State.reset.modSec fun c => { c with kernelKey := some k }).imageVerifies b = true) :
    ∃ (s : State) (core : Fin 4) (l : KernelLoad) (q : OpenReq), s.mainLive = true ∧ s.frozen = false ∧
      (s.kernel (12 + core)).load = some l ∧ l.checking = some q ∧ s.imageVerifies l.bytes = true ∧
      s.sec.secMin ≤ fieldAt l.bytes 12 4 :=
  ⟨(State.reset.modSec fun c => { c with kernelKey := some k }).modKernel 15 fun x => { x with load := some ⟨62, b, 128, some sampleReq⟩ },
    3, ⟨62, b, 128, some sampleReq⟩, sampleReq, test_reset_live, test_reset_frozen, rfl, rfl, h, Nat.zero_le _⟩

/-- SESSION_CREATE with a key that unwraps, whichever keys the free functions accept. -/
theorem witness_RadioRequestsComplete_7 (k v : List Byte) (h : Config.keyUnwrap k (List.replicate 24 0) = some v) :
    ∃ (s : State) (p : List Byte), s.takes 5 ∧ s.sessionArgs p = none ∧ s.sessionBar p = none := by
  refine ⟨State.reset.modSec fun c => { c with transportKey := some k },
    payload 76 [(0, 1), (4, 3), (8, 5), (10, 9), (12, 64), (15, 2), (60, 0xE8), (61, 3), (64, 250), (66, 1)], ?_, ?_, ?_⟩
  · exact ⟨test_reset_takes.served, test_reset_takes.life, test_reset_takes.mode, rfl⟩
  · rfl
  · have e : ((payload 76 [(0, 1), (4, 3), (8, 5), (10, 9), (12, 64), (15, 2), (60, 0xE8), (61, 3), (64, 250), (66, 1)]).drop 20).take 24
        = List.replicate 24 0 := by decide +kernel
    have m : byteAt (payload 76 [(0, 1), (4, 3), (8, 5), (10, 9), (12, 64), (15, 2), (60, 0xE8), (61, 3), (64, 250), (66, 1)]) 4 = 3 := by
      decide +kernel
    simp only [State.sessionBar, State.modSec, e, h, m, State.reset]; rfl

/-- FW_COMMIT_DONE of an image that verifies, whichever images the free functions accept. -/
theorem witness_SystemRequestsComplete_7 (image : List Byte) (h : Config.fwVerifies image = true)
    (v : Config.fwMinimum ≤ (Config.fwVersion (some image)).toNat) :
    ∃ (s : State) (image : List Byte) (q : OpenReq), s.mainLive = true ∧ s.fw.commit = some (image, q) ∧
      Config.fwVerifies image = true ∧ Config.fwMinimum ≤ (Config.fwVersion (some image)).toNat :=
  ⟨State.reset.modFw fun f => { f with commit := some (image, sampleReq) }, image, sampleReq, test_reset_live, rfl, h, v⟩

/-- RX_FRAME of a frame whose STS and payload end with its RMARKER, whatever the other forms last. -/
theorem witness_RadioCommandsComplete_7 (h : samplePhy.tail 0 = 0) :
    ∃ (s : State) (frame : RadioFrame) (l : RadioLive) (k : RadioLive) (c : Time),
      (s.mainLive = true) ∧
      (s.radioState = 4) ∧
      (s.frozen = false) ∧
      (s.uwb.live = some l) ∧
      (((s.advanceTo ((s.markTime frame.rmarker) + l.act.phy.tail frame.psdu.length)).keepImpulse).uwb.live = some k) ∧
      (k.act.listen = false) ∧
      (k.act.close = some c) := by
  refine ⟨(((State.reset.put UWB_CTRL.enable 1).put UWB_STATUS.state 4).modUwb fun u => { u with live := some { sampleLive with act := { sampleAct with tx := false, close := some 1000 } } }),
    ⟨⟨0, 0, 0⟩, true, false, 0, []⟩, { sampleLive with act := { sampleAct with tx := false, close := some 1000 } }, { sampleLive with act := { sampleAct with tx := false, close := some 1000 } }, 1000, ?_, ?_, ?_, ?_, ?_, ?_, ?_⟩
  rotate_right 3
  · show ((State.advanceTo _ (_ + samplePhy.tail 0)).keepImpulse).uwb.live = _
    rw [h]; decide +kernel
  all_goals decide +kernel

/-- SIGNAL_ADD of a satellite that the device has a template for, whichever those are. -/
theorem witness_GnssRequestsComplete_2 (h : Config.hasTemplate 1 1 = true) :
    ∃ (s : State) (p : List Byte) (lane c : Nat) (t : State),
      s.takes (if 64 ≤ ((s.shf.chans.map Prod.fst).filter fun c => s.chanState c != 0).length then 6 else 5) ∧ p.length = 4 ∧
      sigTracked (byteAt p 0) = true ∧ s.laneFor (byteAt p 0) = some lane ∧ byteAt p 1 ≠ 0 ∧
      Config.hasTemplate (byteAt p 0) (byteAt p 1) = true ∧
      okIntegration (byteAt p 0) (byteAt p 1) (byteAt p 2) (bit (byteAt p 3) 0) = true ∧ byteAt p 3 < 4 ∧
      s.request (byteAt p 0) (byteAt p 1) (byteAt p 2) (bit (byteAt p 3) 0) (bit (byteAt p 3) 1) lane = (.admitted c, t) := by
  refine ⟨(((State.reset.put (LANE_STATUS.running 11) 1).put (LANE_NCO_FREQ.inc 11) (presetInc ⟨1575420, 15, 60, 23⟩)).modLane 11
    fun l => { l with cfg := some ⟨0, 15, 0, 0, 60, 0⟩ }), payload 4 [(0, 1), (1, 1), (2, 1)], 11, 0, _, ?_, rfl, ?_, ?_, ?_, h, ?_, ?_, rfl⟩
  · constructor <;> decide +kernel
  all_goals decide +kernel

/-- SEARCH for one satellite without orbit data, where the firmware knows no drift of the reference. -/
theorem witness_GnssRequestsComplete_7 (h : Config.driftUnc 0 = none) :
    ∃ (s : State) (p : List Byte), s.takes (if bit (byteAt p 0) 0 then 7 else 5) ∧ byteAt p 0 < 2 ∧ 2 ≤ byteAt p 1 ∧
      byteAt p 1 ≤ 9 ∧ 1 ≤ byteAt p 4 ∧ byteAt p 4 ≤ 64 ∧ fieldAt p 5 3 = 0 ∧ p.length = 8 + 2 * byteAt p 4 ∧
      s.is THR_CTRL.enable = true ∧ s.thr.queued = none ∧ (s.searchPlan (searchList p)).length ≤ 64 := by
  refine ⟨(State.reset.put THR_CTRL.enable 1).modNav fun n => { n with aiding := some [] }, payload 10 [(1, 9), (4, 1), (8, 1), (9, 1)],
    ?_, ?_, ?_, ?_, ?_, ?_, ?_, ?_, ?_, ?_, ?_⟩
  · constructor <;> decide +kernel
  rotate_right
  · have e : searchList (payload 10 [(1, 9), (4, 1), (8, 1), (9, 1)]) = [(1, 1)] := by decide +kernel
    have b : ((State.reset.put THR_CTRL.enable 1).modNav fun n => { n with aiding := some [] }).searchBins 1 1 =
        binsFor (dopplerHalf 1575420000 50000 (0 + orbitRate 0) 0).1 (dopplerHalf 1575420000 50000 (0 + orbitRate 0) 0).2 := by
      have f : ((State.reset.put THR_CTRL.enable 1).modNav fun n => { n with aiding := some [] }).driftUnc = 50000 := by
        show (Config.driftUnc 0).getD 50000 = 50000
        rw [h]; rfl
      unfold State.searchBins
      rw [f]; rfl
    rw [e]
    simp only [State.searchPlan, State.searchFor, b, List.map_cons, List.map_nil]
    decide +kernel
  all_goals decide +kernel

/-- KEY_INSTALL of a snapshot export key that unwraps, whichever keys the free functions accept. -/
theorem witness_SecurityRequestsComplete_8 (k w v : List Byte) (l : w.length = 40) (h : Config.keyUnwrap k w = some v) :
    ∃ (s : State) (p k v : List Byte), s.takes 0 ∧ byteAt p 0 = 2 ∧ byteAt p 1 = 1 ∧ p.length = 44 ∧ fieldAt p 2 2 = 40 ∧
      s.sec.exportKey = some k ∧ Config.keyUnwrap k (p.drop 4) = some v ∧ s.lifecycle ≤ 3 :=
  ⟨State.reset.modSec fun c => { c with exportKey := some k }, [2, 1, 40, 0] ++ w, k, v,
    ⟨test_reset_takes_always.served, test_reset_takes_always.life, test_reset_takes_always.mode, rfl⟩, rfl, rfl, by simp [l], rfl, rfl,
    by simpa using h, (show State.reset.lifecycle ≤ 3 by decide +kernel)⟩

/-- KEY_INSTALL of a transport key that unwraps, whichever keys the free functions accept. -/
theorem witness_SecurityRequestsComplete_10 (k w v : List Byte) (l : w.length = 40) (h : Config.keyUnwrap k w = some v) :
    ∃ (s : State) (p k v : List Byte), s.takes 0 ∧ byteAt p 0 = 3 ∧ byteAt p 1 = 1 ∧ p.length = 44 ∧ fieldAt p 2 2 = 40 ∧
      s.sec.transportKey = some k ∧ Config.keyUnwrap k (p.drop 4) = some v ∧ s.lifecycle ≤ 3 :=
  ⟨State.reset.modSec fun c => { c with transportKey := some k }, [3, 1, 40, 0] ++ w, k, v,
    ⟨test_reset_takes_always.served, test_reset_takes_always.life, test_reset_takes_always.mode, rfl⟩, rfl, rfl, by simp [l], rfl, rfl,
    by simpa using h, (show State.reset.lifecycle ≤ 3 by decide +kernel)⟩

theorem test_staged (c : List Byte) : (State.reset.put SEC_STATE.lifecycle 1).sec.certStage ++ ([0, 0, 0, 0] ++ c : List Byte).drop 4 = c := rfl

/-- CERT_INSTALL of a whole certificate of the position key, whichever certificates the free functions accept. -/
theorem witness_SecurityRequestsComplete_13 (c : List Byte) (one : 1 ≤ c.length) (l : c.length ≤ 1000)
    (d : derLength c = some c.length) (h : Config.certKey c = some Config.positionPublic) :
    ∃ (s : State) (p : List Byte), s.takes 0 ∧ 5 ≤ p.length ∧ p.length ≤ 1004 ∧ (s.lifecycle = 1 ∨ s.lifecycle = 3) ∧
      fieldAt p 0 4 = s.sec.certStage.length ∧
      derLength (s.sec.certStage ++ p.drop 4) = some (s.sec.certStage ++ p.drop 4).length ∧
      Config.certKey (s.sec.certStage ++ p.drop 4) = some Config.positionPublic :=
  ⟨State.reset.put SEC_STATE.lifecycle 1, [0, 0, 0, 0] ++ c, by constructor <;> decide +kernel, by simp; omega, by simp; omega,
    Or.inl (by decide +kernel), rfl, by rw [test_staged]; exact d, by rw [test_staged]; exact h⟩

/-! ### Witnesses of the statements that are not lists of commands -/

theorem witness_RefusedGranaryAccess_refused : ∃ (s : State) (id a addr : Nat) (x : Option Nat), Memory.wf s = true ∧
    s.granGrant id a x.isSome = none := ⟨State.reset, 0x20, 0, 0x4000000, none, by decide +kernel, by decide +kernel⟩
theorem witness_RefusedGranaryAccess_granted : ∃ (s : State) (id a : Nat) (x : Option Nat) (bay w v : Nat), Memory.wf s = true ∧
    x = some v ∧ s.granGrant id a true = some (bay, w) :=
  ⟨State.reset, 0x01, 131071, some 1, 0, 131071, 1, by decide +kernel, rfl, by decide +kernel⟩
theorem witness_DspRegisterFrames : ∃ (s : State) (core : Fin 16), DspPlain s core :=
  ⟨State.reset.put CLK_STATUS.locked 1, 11, by constructor <;> decide +kernel⟩
theorem witness_DspMovesStoreAtTheirAddresses : ∃ (s : State) (core : Fin 16) (mv : Moves), DspReady s core mv false ∧
    Memory.wf s = true ∧ storesWord (moveOf mv true) = true :=
  ⟨State.reset.put CLK_STATUS.locked 1, 11, ⟨0x23, 0x42⟩,
    ⟨by constructor <;> decide +kernel, Or.inr ⟨by decide +kernel, by decide +kernel⟩,
      Or.inr ⟨by decide +kernel, by decide +kernel⟩, by decide⟩, by decide +kernel, by decide⟩
theorem witness_EventRecords_room : ∃ (s : State) (e : Event), Memory.wf s = true ∧ carrierOf e.code = .vector0 ∧
    s.is SEC_STATE.frozen = false ∧ (s.get HL_EVT_PROD.prod + 65536 - s.get HL_EVT_CONS.cons) % 65536 ≠ 64 :=
  ⟨State.reset.put HL_EVT_PROD.prod 63, ⟨0x0483, []⟩, by decide +kernel, by decide +kernel, by decide +kernel, by decide +kernel⟩
theorem witness_EventRecords_full : ∃ (s : State) (e : Event), Memory.wf s = true ∧ carrierOf e.code = .vector0 ∧
    (s.get HL_EVT_PROD.prod + 65536 - s.get HL_EVT_CONS.cons) % 65536 = 64 :=
  ⟨State.reset.put HL_EVT_PROD.prod 64, ⟨0x0483, []⟩, by decide +kernel, by decide +kernel, by decide +kernel⟩
theorem witness_EventRecords_numbers : ∃ code number k j : Nat, code < 2 ^ 16 ∧ number < 2 ^ 32 ∧ k = 65 ∧ j < 8 :=
  ⟨65535, 4294967295, 65, 7, by decide, by decide, rfl, by decide⟩
theorem witness_LinIdentifierAndChecksum : ∃ (s : State) (n id : Nat) (f : LinFrame), Memory.wf s = true ∧ n < 8 ∧ id < 64 ∧
    ((s.linPidSeen n (linPid id)).uart n).lin = some f :=
  ⟨State.reset.put (UART_LIN_TAB.entry3 7 15) 0x3D, 7, 63, ⟨.subscribe, linPid 63, 8, true, [], 0x2DC7, 0, 0⟩, by decide +kernel, by decide, by decide, by decide +kernel⟩
theorem witness_GroupWordsInterleave_granted : ∃ (s : State) (id a k w j : Nat) (write : Bool), bit a 25 = true ∧ bits a 21 4 = k ∧
    bits a 0 21 = w ∧ s.get (GRP_CFG.enable k) = 1 ∧ w < 2 ^ (s.get (GRP_CFG.size k) + 1) * 131072 ∧ s.memberSlot k id = some j ∧
    write = true ∧ bit (s.get (GRP_MEMBERS.write_en k)) j = true :=
  ⟨((State.reset.put (GRP_CFG.enable 15) 1).put (GRP_MEMBERS.member3 15) 0x1C).put (GRP_MEMBERS.write_en 15) 8, 0x1C,
    33554432 + 15 * 2097152 + 262143, 15, 262143, 3, true, by decide +kernel, by decide +kernel, by decide +kernel,
    by decide +kernel, by decide +kernel, by decide +kernel, rfl, by decide +kernel⟩
theorem witness_GroupWordsInterleave_refused : ∃ (s : State) (a k w : Nat), bit a 25 = true ∧ bits a 21 4 = k ∧ bits a 0 21 = w ∧
    s.get (GRP_CFG.enable k) = 0 :=
  ⟨State.reset, 33554432, 0, 0, by decide +kernel, by decide +kernel, by decide +kernel, by decide +kernel⟩
theorem witness_GroupWordsInterleave_beyond : ∃ (s : State) (a k w : Nat), bit a 25 = true ∧ bits a 21 4 = k ∧ bits a 0 21 = w ∧
    s.get (GRP_CFG.enable k) = 1 ∧ 2 ^ (s.get (GRP_CFG.size k) + 1) * 131072 ≤ w :=
  ⟨State.reset.put (GRP_CFG.enable 0) 1, 33554432 + 262144, 0, 262144, by decide +kernel, by decide +kernel, by decide +kernel,
    by decide +kernel, by decide +kernel⟩
theorem witness_ModeEnvelopeOfRequests_moving : ∃ (s : State) (k : Kind), Memory.wf s = true ∧ s.lifecycle ≠ 4 ∧
    s.pwr.move.isSome = true ∧ 4 < k.mode :=
  ⟨State.reset.modPwr fun p => { p with move := some ⟨6, 0, none⟩ }, ⟨.A, 0x0202, 5⟩, by decide +kernel, by decide +kernel, rfl,
    by decide⟩
theorem witness_ModeEnvelopeOfRequests_inside : ∃ (s : State) (k : Kind), Memory.wf s = true ∧ s.lifecycle ≠ 4 ∧ k.mode ≤ s.mode ∧
    (s.pwr.move = none ∨ k.mode ≤ 4) :=
  ⟨State.reset, ⟨.A, 0x0202, 5⟩, by decide +kernel, by decide +kernel, by decide +kernel, Or.inl rfl⟩
theorem witness_ModeEnvelopeOfRequests_refused : ∃ (s : State) (k : Kind), Memory.wf s = true ∧ s.lifecycle ≠ 4 ∧ s.mode < k.mode ∧
    (s.pwr.move = none ∨ k.mode ≤ 4) ∧ s.get PWR_CFG.auto_promote = 0 :=
  ⟨State.reset.put PWR_CFG.auto_promote 0, ⟨.A, 0x0202, 6⟩, by decide +kernel, by decide +kernel, by decide +kernel, Or.inl rfl,
    by decide +kernel⟩
theorem witness_ModeEnvelopeOfRequests_pfail : ∃ (s : State) (k : Kind), Memory.wf s = true ∧ s.lifecycle ≠ 4 ∧ s.mode < k.mode ∧
    (s.pwr.move = none ∨ k.mode ≤ 4) ∧ s.get PWR_CFG.auto_promote = 1 ∧ s.get PWR_STATUS.pfail = 1 :=
  ⟨(State.reset.put PWR_CFG.auto_promote 1).put PWR_STATUS.pfail 1, ⟨.A, 0x0202, 6⟩, by decide +kernel, by decide +kernel,
    by decide +kernel, Or.inl rfl, by decide +kernel, by decide +kernel⟩
theorem witness_ModeEnvelopeOfRequests_raised : ∃ (s : State) (k : Kind), Memory.wf s = true ∧ s.lifecycle ≠ 4 ∧ s.mode < k.mode ∧
    (s.pwr.move = none ∨ k.mode ≤ 4) ∧ s.get PWR_CFG.auto_promote = 1 ∧ s.get PWR_STATUS.pfail = 0 :=
  ⟨(State.reset.put PWR_CFG.auto_promote 1).put PWR_STATUS.pfail 0, ⟨.A, 0x0202, 7⟩, by decide +kernel, by decide +kernel,
    by decide +kernel, Or.inl rfl, by decide +kernel, by decide +kernel⟩
theorem witness_StepTakesFrontCommand : ∃ (s t : State) (c : Instr) (rest : List Instr), s.pending = c :: rest ∧ t.pending = [] :=
  ⟨{ State.reset with pending := [.idcode] }, State.reset, .idcode, [], rfl, rfl⟩
theorem witness_MemoriesStayCanonical : ∃ s t : State, step s = .next t ∧ Memory.wf s = true :=
  ⟨State.reset, State.reset.idle, rfl, by decide +kernel⟩
theorem witness_FusesAndBoundsAreKept : ∃ s t : State, step s = .next t ∧ s.sec.marketFuse = true ∧ s.sec.vendorOff = true ∧
    s.fifosHold ∧ s.logHolds :=
  ⟨State.reset.modSec fun c => { c with marketFuse := true, vendorOff := true }, _, rfl, rfl, rfl,
    by intro n hn; interval_cases n <;> decide +kernel, Nat.zero_le _⟩
theorem witness_HeldDomainStandsStill : ∃ (c d : Instr) (s : State), clockRootCommand c = false ∧ alwaysOnCommand c = false ∧
    s.mainLive = false ∧ clockRootCommand d = true ∧ s.pwr.inReset = true :=
  ⟨.flushRx 7, .gatesOpen, State.reset.modPwr fun p => { p with inReset := true }, by decide, by decide, by decide +kernel, by decide,
    rfl⟩
theorem witness_RetiredDeviceRefusesRequests : ∃ (c : Instr) (r : Req) (s : State), operationalRequest c = some r ∧
    s.served = true ∧ s.lifecycle = 4 :=
  ⟨.laneSet ⟨65535, 4294967295⟩ [], ⟨65535, 4294967295⟩, State.reset.put SEC_STATE.lifecycle 4, rfl, by decide +kernel,
    by decide +kernel⟩

/-! ### Witnesses of the completion statements -/

/-! Witnesses of CrossbarAndPairCommandsComplete. -/

theorem witness_CrossbarAndPairCommandsComplete_0 : ∃ (s : State),
      (s.mainLive = true) :=
  by
    refine ⟨State.reset, ?_⟩
    decide +kernel

theorem witness_CrossbarAndPairCommandsComplete_2 : ∃ (s : State) (pair : Fin 2),
      (s.mainLive = true) ∧
      (s.pairState pair = .running) ∧
      (s.pairState (1 - pair) = .running) :=
  by refine ⟨State.reset, 1, ?_, ?_, ?_⟩ <;> decide +kernel

theorem witness_CrossbarAndPairCommandsComplete_3 : ∃ (s : State) (k : Nat),
      (s.mainLive = true) ∧
      (s.heldPair = some k) ∧
      (s.pairState k = .retesting) :=
  by refine ⟨(State.reset.modStw fun x => { x with pair0 := .retesting }), 0, ?_, ?_, ?_⟩ <;> decide +kernel

/-! Witnesses of LockSequenceCompletes. -/

theorem witness_LockSequenceCompletes_0 : ∃ (s : State),
      (s.pwr.powered = true) ∧
      (s.pwr.inReset = false) ∧
      (s.clk.phase = .calibrating) :=
  by refine ⟨(((State.reset.modPwr fun x => { x with powered := true }).modPwr fun x => { x with inReset := false }).modClk fun x => { x with phase := .calibrating }), ?_, ?_, ?_⟩ <;> decide +kernel

theorem witness_LockSequenceCompletes_1 : ∃ (s : State),
      (s.pwr.powered = true) ∧
      (s.pwr.inReset = false) ∧
      (s.clk.phase = .acquiring) ∧
      (s.clk.missing = false) :=
  by refine ⟨((((State.reset.modPwr fun x => { x with powered := true }).modPwr fun x => { x with inReset := false }).modClk fun x => { x with phase := .acquiring }).modClk fun x => { x with missing := false }), ?_, ?_, ?_, ?_⟩ <;> decide +kernel

theorem witness_LockSequenceCompletes_2 : ∃ (s : State),
      (s.pwr.powered = true) ∧
      (s.pwr.inReset = false) ∧
      (s.clk.phase = .counting) ∧
      (s.is CLK_STATUS.coasting = false) :=
  by refine ⟨((((State.reset.modPwr fun x => { x with powered := true }).modPwr fun x => { x with inReset := false }).modClk fun x => { x with phase := .counting }).put CLK_STATUS.coasting 0), ?_, ?_, ?_, ?_⟩ <;> decide +kernel

theorem witness_LockSequenceCompletes_3 : ∃ (s : State),
      (s.pwr.powered = true) ∧
      (s.pwr.inReset = false) ∧
      (s.clk.phase = .aligning) :=
  by refine ⟨(((State.reset.modPwr fun x => { x with powered := true }).modPwr fun x => { x with inReset := false }).modClk fun x => { x with phase := .aligning }), ?_, ?_, ?_⟩ <;> decide +kernel

theorem witness_LockSequenceCompletes_4 : ∃ (s : State),
      (s.pwr.powered = true) ∧
      (s.pwr.inReset = false) ∧
      (s.clk.phase = .waitGates) ∧
      (s.frozen = false) :=
  by refine ⟨(((State.reset.modPwr fun x => { x with powered := true }).modPwr fun x => { x with inReset := false }).modClk fun x => { x with phase := .waitGates }), ?_, ?_, ?_, ?_⟩ <;> decide +kernel

theorem witness_LockSequenceCompletes_5 : ∃ (s : State),
      (s.pwr.powered = true) ∧
      (s.pwr.inReset = false) ∧
      (s.clk.phase = .waitSync) :=
  by refine ⟨(((State.reset.modPwr fun x => { x with powered := true }).modPwr fun x => { x with inReset := false }).modClk fun x => { x with phase := .waitSync }), ?_, ?_, ?_⟩ <;> decide +kernel

/-! Witnesses of ReferenceEventsComplete. -/

theorem witness_ReferenceEventsComplete_0 : ∃ (s : State),
      (s.pwr.powered = true) ∧
      (s.pwr.inReset = false) :=
  by refine ⟨((State.reset.modPwr fun x => { x with powered := true }).modPwr fun x => { x with inReset := false }), ?_, ?_⟩ <;> decide +kernel

theorem witness_ReferenceEventsComplete_1 : ∃ (s : State),
      (s.pwr.powered = true) ∧
      (s.pwr.inReset = false) ∧
      (s.clk.missing = false) ∧
      (s.lockHeld = true) ∧
      (((((s.flag CLK_EVENT.ref_missing).put CLK_STATUS.ref_present 0).put CLK_SAFE_MEAS.valid 0).modClk fun c =>
      { c with missing := true, coast := ((s.get CLK_CTRL.coast_periods)), inTol := 0 }).lockHeld = true) :=
  by refine ⟨((((State.reset.modPwr fun x => { x with powered := true }).modPwr fun x => { x with inReset := false }).modClk fun x => { x with missing := false }).modClk fun x => { x with phase := .locked }), ?_, ?_, ?_, ?_, ?_⟩ <;> decide +kernel

theorem witness_ReferenceEventsComplete_2 : ∃ (s : State),
      (s.pwr.powered = true) ∧
      (s.pwr.inReset = false) ∧
      (s.clk.missing = true) :=
  by refine ⟨(((State.reset.modPwr fun x => { x with powered := true }).modPwr fun x => { x with inReset := false }).modClk fun x => { x with missing := true }), ?_, ?_, ?_⟩ <;> decide +kernel

theorem witness_ReferenceEventsComplete_4 : ∃ (s : State),
      (s.pwr.powered = true) ∧
      (s.pwr.inReset = false) ∧
      (s.lockHeld = true) ∧
      (s.clk.missing = false) :=
  by refine ⟨((((State.reset.modPwr fun x => { x with powered := true }).modPwr fun x => { x with inReset := false }).modClk fun x => { x with missing := false }).modClk fun x => { x with phase := .locked }), ?_, ?_, ?_, ?_⟩ <;> decide +kernel

theorem witness_ReferenceEventsComplete_5 : ∃ (s : State),
      (s.pwr.powered = true) ∧
      (s.pwr.inReset = false) ∧
      (s.clk.missing = false) ∧
      (s.is CLK_STATUS.walking = true) :=
  by refine ⟨((((State.reset.modPwr fun x => { x with powered := true }).modPwr fun x => { x with inReset := false }).modClk fun x => { x with missing := false }).put CLK_STATUS.walking 1), ?_, ?_, ?_, ?_⟩ <;> decide +kernel

theorem witness_ReferenceEventsComplete_6 : ∃ (s : State) (error : BitVec 16) (remaining : BitVec 16),
      (s.pwr.powered = true) ∧
      (s.pwr.inReset = false) ∧
      (s.clk.missing = false) ∧
      (((s.edgeCount error.toInt).edgeB error.toInt).lockHeld = true) ∧
      (520 < mag (s.walkLeft remaining + error.toInt)) :=
  by refine ⟨((((State.reset.modPwr fun x => { x with powered := true }).modPwr fun x => { x with inReset := false }).modClk fun x => { x with missing := false }).modClk fun x => { x with phase := .locked }), 521, 0, ?_, ?_, ?_, ?_, ?_⟩ <;> decide +kernel

/-! Witnesses of SyncAndMarkerCommandsComplete. -/

theorem witness_SyncAndMarkerCommandsComplete_0 : ∃ (s : State),
      (s.pwr.powered = true) ∧
      (s.pwr.inReset = false) ∧
      (s.locked = true) ∧
      (s.clk.sync = none) :=
  by refine ⟨(((State.reset.modPwr fun x => { x with powered := true }).modPwr fun x => { x with inReset := false }).put CLK_STATUS.locked 1), ?_, ?_, ?_, ?_⟩ <;> decide +kernel

theorem witness_SyncAndMarkerCommandsComplete_1 : ∃ (s : State),
      (s.pwr.powered = true) ∧
      (s.pwr.inReset = false) ∧
      (s.locked = false) :=
  by refine ⟨((State.reset.modPwr fun x => { x with powered := true }).modPwr fun x => { x with inReset := false }), ?_, ?_, ?_⟩ <;> decide +kernel

theorem witness_SyncAndMarkerCommandsComplete_2 : ∃ (s : State),
      (s.pwr.powered = true) ∧
      (s.pwr.inReset = false) ∧
      (s.clk.phase = .waitSync) ∧
      (s.is CLK_SYNC_CFG.lane_sync_en = false) :=
  by refine ⟨((((State.reset.modPwr fun x => { x with powered := true }).modPwr fun x => { x with inReset := false }).modClk fun x => { x with phase := .waitSync }).put CLK_SYNC_CFG.lane_sync_en 0), ?_, ?_, ?_, ?_⟩ <;> decide +kernel

theorem witness_SyncAndMarkerCommandsComplete_3 : ∃ (s : State) (n : Nat),
      (s.pwr.powered = true) ∧
      (s.pwr.inReset = false) ∧
      (s.clk.sync = some n) ∧
      (s.locked = true) ∧
      (s.frozen = false) ∧
      ((s.passMarkers n).clk.sync = some 0) :=
  by refine ⟨((((State.reset.modPwr fun x => { x with powered := true }).modPwr fun x => { x with inReset := false }).modClk fun x => { x with sync := some 0 }).put CLK_STATUS.locked 1), 0, ?_, ?_, ?_, ?_, ?_, ?_⟩ <;> decide +kernel

theorem witness_SyncAndMarkerCommandsComplete_4 : ∃ (s : State),
      (s.pwr.powered = true) ∧
      (s.pwr.inReset = false) ∧
      (s.is CLK_STATUS.ref_present = true) ∧
      (s.frozen = false) :=
  by refine ⟨(((State.reset.modPwr fun x => { x with powered := true }).modPwr fun x => { x with inReset := false }).put CLK_STATUS.ref_present 1), ?_, ?_, ?_, ?_⟩ <;> decide +kernel

/-! Witnesses of RadioClockCommandsComplete. -/

theorem witness_RadioClockCommandsComplete_0 : ∃ (s : State),
      (s.mainLive = true) ∧
      (s.clk.bPhase = .off) :=
  by refine ⟨(State.reset.modClk fun x => { x with bPhase := .off }), ?_, ?_⟩ <;> decide +kernel

theorem witness_RadioClockCommandsComplete_2 : ∃ (s : State),
      (s.mainLive = true) ∧
      (s.clk.bPhase = .acquiring) ∧
      (s.is CLK_STATUS.ref_present = true) ∧
      (s.frozen = false) :=
  by refine ⟨((State.reset.modClk fun x => { x with bPhase := .acquiring }).put CLK_STATUS.ref_present 1), ?_, ?_, ?_, ?_⟩ <;> decide +kernel

theorem witness_RadioClockCommandsComplete_3 : ∃ (s : State),
      (s.mainLive = true) ∧
      (s.clk.bPhase = .counting) :=
  by refine ⟨(State.reset.modClk fun x => { x with bPhase := .counting }), ?_, ?_⟩ <;> decide +kernel

/-! Witnesses of GranaryRepairCommandsComplete. -/

theorem witness_GranaryRepairCommandsComplete_0 : ∃ (s : State),
      (s.mainLive = true) ∧
      (s.is GRAN_STATUS.init_done = false) :=
  by refine ⟨(State.reset.put GRAN_STATUS.init_done 0), ?_, ?_⟩ <;> decide +kernel

theorem witness_GranaryRepairCommandsComplete_1 : ∃ (s : State) (bay : Fin 64) (word : Fin 131072) (p : Nat × Nat) (r : EccRead),
      (s.mainLive = true) ∧
      (s.gran.rewrites.contains (bay.val, word.val) = true) ∧
      (p = s.wordPlace bay word) ∧
      (r = granLoad (s.granRaw p.1 p.2) word) :=
  ⟨State.reset.modGran fun g => { g with rewrites := [(63, 131071)] }, 63, 131071, _, _, by decide +kernel, by decide +kernel, rfl, rfl⟩

theorem witness_GranaryRepairCommandsComplete_2 : ∃ (s : State) (word : Fin 131072) (r : Repair),
      (s.mainLive = true) ∧
      (firstThat (fun (r : Repair) => r.word == word.val) s.gran.repairs = some r) :=
  by refine ⟨(State.reset.modGran fun g => { g with repairs := [⟨131071, 1, true, true⟩] }), 131071, ⟨131071, 1, true, true⟩, ?_, ?_⟩ <;> decide +kernel

/-! Witnesses of BayHandoverCommandsComplete. -/

theorem witness_BayHandoverCommandsComplete_0 : ∃ (s : State) (bay : Fin 64),
      (s.mainLive = true) ∧
      (s.is (BAY_OWNER.in_group bay) = false) ∧
      (s.is (BAY_OWNER.busy bay) = false) ∧
      (bay ≠ 60) ∧
      (bay ≠ 61) ∧
      (bay ≠ 63) ∧
      (s.get (BAY_OWNER.next_id bay) ∉ [0x0D, 0x3E, 0x3F]) :=
  by refine ⟨((State.reset.put (BAY_OWNER.in_group 62) 0).put (BAY_OWNER.busy 62) 0), 62, ?_, ?_, ?_, ?_, ?_, ?_, ?_⟩ <;> decide +kernel

theorem witness_BayHandoverCommandsComplete_1 : ∃ (s : State) (bay : Fin 64) (clear : Bool) (owner : Nat),
      (s.mainLive = true) ∧
      (vget .none s.gran.handover bay = .waiting clear owner) ∧
      (s.auditHolds bay = false) :=
  by refine ⟨(State.reset.modGran fun x => { x with handover := vmod (fun _ => .waiting true 0) x.handover 63 }), 63, true, 0, ?_, ?_, ?_⟩ <;> decide +kernel

theorem witness_BayHandoverCommandsComplete_2 : ∃ (s : State) (bay : Fin 64),
      (s.mainLive = true) ∧
      (s.handoverRuns bay = true) ∧
      (s.frozen = false) :=
  by refine ⟨(State.reset.modGran fun g => { g with handover := vmod (fun _ => .running true 8) g.handover 63 }), 63, ?_, ?_, ?_⟩ <;> decide +kernel

theorem witness_BayHandoverCommandsComplete_3 : ∃ (s : State) (bay : Fin 64) (clear : Bool) (owner : Nat),
      (s.mainLive = true) ∧
      (vget .none s.gran.handover bay = .running clear owner) :=
  by refine ⟨(State.reset.modGran fun x => { x with handover := vmod (fun _ => .running true 0) x.handover 63 }), 63, true, 0, ?_, ?_⟩ <;> decide +kernel

theorem witness_BayHandoverCommandsComplete_4 : ∃ (s : State) (bay : Fin 64),
      (s.mainLive = true) ∧
      (vget false s.gran.deferred bay = true) ∧
      (s.is (BAY_OWNER.busy bay) = false) :=
  by refine ⟨((State.reset.modGran fun x => { x with deferred := vmod (fun _ => true) x.deferred 63 }).put (BAY_OWNER.busy 63) 0), 63, ?_, ?_, ?_⟩ <;> decide +kernel

/-! Witnesses of GroupCommandsComplete. -/

theorem witness_GroupCommandsComplete_0 : ∃ (s : State) (group : Fin 16),
      (s.mainLive = true) ∧
      (s.is (GRP_CFG.enable group) = false) :=
  by refine ⟨(State.reset.put (GRP_CFG.enable 15) 0), 15, ?_, ?_⟩ <;> decide +kernel

theorem witness_GroupCommandsComplete_2 : ∃ (s : State) (group : Fin 16),
      (s.mainLive = true) ∧
      (s.is (GRP_CFG.enable group) = true) :=
  by refine ⟨(State.reset.put (GRP_CFG.enable 15) 1), 15, ?_, ?_⟩ <;> decide +kernel

theorem witness_GroupCommandsComplete_3 : ∃ (s : State) (group : Fin 16) (bays : List Nat),
      (s.mainLive = true) ∧
      (vget [] s.gran.leaving group = bays) ∧
      (bays.any s.auditHolds = false) :=
  by refine ⟨(State.reset.modGran fun x => { x with leaving := vmod (fun _ => [58, 59]) x.leaving 15 }), 15, [58, 59], ?_, ?_, ?_⟩ <;> decide +kernel

/-! Witnesses of AuditCommandsComplete. -/

theorem witness_AuditCommandsComplete_0 : ∃ (s : State),
      (s.mainLive = true) ∧
      (s.is AUD_CFG.enable = true) ∧
      (s.is AUD_STATUS.active = false) ∧
      (s.is GRAN_STATUS.init_done = true) :=
  by refine ⟨(((State.reset.put AUD_CFG.enable 1).put AUD_STATUS.active 0).put GRAN_STATUS.init_done 1), ?_, ?_, ?_, ?_⟩ <;> decide +kernel

theorem witness_AuditCommandsComplete_1 : ∃ (s : State) (b : Borrow),
      (s.mainLive = true) ∧
      (s.gran.audit.borrow = some b) ∧
      (s.get (BAY_STATUS.phase b.bay) = 1) :=
  by refine ⟨((State.reset.modGran fun g => { g with audit := { g.audit with borrow := some ⟨62, 31⟩ } }).put (BAY_STATUS.phase 62) 1), ⟨62, 31⟩, ?_, ?_, ?_⟩ <;> decide +kernel

theorem witness_AuditCommandsComplete_2 : ∃ (s : State) (b : Borrow),
      (s.mainLive = true) ∧
      (s.gran.audit.borrow = some b) ∧
      (s.get (BAY_STATUS.phase b.bay) = 2) :=
  by refine ⟨((State.reset.modGran fun g => { g with audit := { g.audit with borrow := some ⟨62, 31⟩ } }).put (BAY_STATUS.phase 62) 2), ⟨62, 31⟩, ?_, ?_, ?_⟩ <;> decide +kernel

theorem witness_AuditCommandsComplete_3 : ∃ (s : State) (b : Borrow),
      (s.mainLive = true) ∧
      (s.gran.audit.borrow = some b) ∧
      (s.get (BAY_STATUS.phase b.bay) ≠ 2) ∧
      (s.gran.audit.stopped = true) :=
  by refine ⟨((State.reset.modGran fun g => { g with audit := { g.audit with borrow := some ⟨62, 31⟩, stopped := true } }).put (BAY_STATUS.phase 62) 3), ⟨62, 31⟩, ?_, ?_, ?_, ?_⟩ <;> decide +kernel

theorem witness_AuditCommandsComplete_4 : ∃ (s : State) (b : Borrow),
      (s.mainLive = true) ∧
      (s.gran.audit.borrow = some b) ∧
      (s.get (BAY_STATUS.phase b.bay) = 3) ∧
      (b.bay ≠ 63) :=
  by refine ⟨((State.reset.modGran fun g => { g with audit := { g.audit with borrow := some ⟨62, 31⟩ } }).put (BAY_STATUS.phase 62) 3), ⟨62, 31⟩, ?_, ?_, ?_, ?_⟩ <;> decide +kernel

/-! Witnesses of FrontEndCommandsComplete. -/

theorem witness_FrontEndCommandsComplete_0 : ∃ (s : State),
      (s.mainLive = true) ∧
      ((s.flag FE_CTRL.gnss_en).is FE_CTRL.gnss_en = true) ∧
      (s.fe.chain = .off) ∧
      ((s.flag FE_CTRL.gnss_en).locked = true) ∧
      ((s.flag FE_CTRL.gnss_en).mode ≠ 4) :=
  by refine ⟨((State.reset.modFe fun x => { x with chain := .off }).put CLK_STATUS.locked 1), ?_, ?_, ?_, ?_, ?_⟩ <;> decide +kernel

theorem witness_FrontEndCommandsComplete_1 : ∃ (s : State),
      (s.mainLive = true) ∧
      (s.is FE_CAL_STATUS.fg_running = false) :=
  by refine ⟨(State.reset.put FE_CAL_STATUS.fg_running 0), ?_, ?_⟩ <;> decide +kernel

theorem witness_FrontEndCommandsComplete_2 : ∃ (s : State),
      (s.mainLive = true) ∧
      (s.is FE_CAL_STATUS.fg_running = true) :=
  by refine ⟨(State.reset.put FE_CAL_STATUS.fg_running 1), ?_, ?_⟩ <;> decide +kernel

theorem witness_FrontEndCommandsComplete_3 : ∃ (s : State),
      (s.mainLive = true) ∧
      (s.fe.chain = .starting) ∧
      (s.locked = true) ∧
      (s.is FE_CAL_STATUS.coef_valid = true) ∧
      (s.is FE_CAL_STATUS.fg_running = false) :=
  by refine ⟨((((State.reset.modFe fun x => { x with chain := .starting }).put CLK_STATUS.locked 1).put FE_CAL_STATUS.coef_valid 1).put FE_CAL_STATUS.fg_running 0), ?_, ?_, ?_, ?_, ?_⟩ <;> decide +kernel

theorem witness_FrontEndCommandsComplete_5 : ∃ (s : State),
      (s.mainLive = true) ∧
      (s.fe.chain = .released) ∧
      (s.locked = true) ∧
      (((((((s.toCycle ((s.fe.agcFrom + 65536) / 8)).modFe (fun f => { f with agcFrom := f.agcFrom + 65536 })).put FE_AGC_STATUS.last_rms (min ((s.toCycle ((s.fe.agcFrom + 65536) / 8)).agcWindow).rms 1023)).put FE_AGC_STATUS.last_clips (min ((s.toCycle ((s.fe.agcFrom + 65536) / 8)).agcWindow).clips 0x3FFF)).put
      FE_AGC_STATUS.window_valid (b2n ((s.toCycle ((s.fe.agcFrom + 65536) / 8)).agcWindow).valid)).overloadWindow ((s.toCycle ((s.fe.agcFrom + 65536) / 8)).agcWindow).clips).fe.acq = none) :=
  by refine ⟨((State.reset.modFe fun x => { x with chain := .released }).put CLK_STATUS.locked 1), ?_, ?_, ?_, ?_⟩ <;> decide +kernel

theorem witness_FrontEndCommandsComplete_6 : ∃ (s : State) (current : Fin 401),
      (s.mainLive = true) ∧
      (s.biasOn = true) ∧
      (s.fe.shortOpen = false) ∧
      ((s.put FE_ANT_STATUS.current current).get FE_ANT_CFG.open_ma ≤ current.val) ∧
      (current.val ≤ 4 * (s.put FE_ANT_STATUS.current current).get FE_ANT_CFG.short_ma) :=
  by refine ⟨((((State.reset.modFe fun x => { x with shortOpen := false }).put FE_CTRL.gnss_en 1).put FE_CTRL.bias_en 1).put FE_ANT_CFG.short_ma 100), 400, ?_, ?_, ?_, ?_, ?_⟩ <;> decide +kernel

theorem witness_FrontEndCommandsComplete_7 : ∃ (s : State),
      (s.mainLive = true) ∧
      (s.fe.shortOpen = true) :=
  by refine ⟨(State.reset.modFe fun x => { x with shortOpen := true }), ?_, ?_⟩ <;> decide +kernel

theorem witness_FrontEndCommandsComplete_8 : ∃ (s : State),
      (s.mainLive = true) ∧
      (s.bgLive = true) ∧
      (s.toMarker.bgLive = true) ∧
      ((∀ c, s.toMarker.fe.bgAt = some c → c + 450000 ≤ s.toMarker.clk.cycle)) :=
  by refine ⟨(((State.reset.put FE_CAL_CTRL.bg_en 1).put CLK_STATUS.locked 1).modFe fun f => { f with chain := .released }), ?_, ?_, ?_, ?_⟩ <;> decide +kernel

/-! Witnesses of BlankingCommandsComplete. -/

theorem witness_BlankingCommandsComplete_1 : ∃ (s : State) (cycle : Fin 375),
      (s.mainLive = true) ∧
      ((s.toCycle (s.clk.cycle + cycle)).blankLive = true) ∧
      ((s.toCycle (s.clk.cycle + cycle)).fe.blank = .active) :=
  by refine ⟨(((State.reset.put FE_CTRL.blank_en 1).put CLK_STATUS.locked 1).modFe fun f => { f with blank := .active }), 374, ?_, ?_, ?_⟩ <;> decide +kernel

theorem witness_BlankingCommandsComplete_2 : ∃ (s : State),
      (s.mainLive = true) ∧
      (s.fe.blank = .post) :=
  by refine ⟨((((State.reset.modFe fun x => { x with blank := .post }).put FE_CTRL.blank_en 1).put CLK_STATUS.locked 1).modFe fun f => { f with blank := .post }), ?_, ?_⟩ <;> decide +kernel

theorem witness_BlankingCommandsComplete_3 : ∃ (s : State),
      (s.mainLive = true) ∧
      (s.fe.blank = .active) ∧
      ((s.toCycle s.blankLimit).fe.blank = .active) :=
  by refine ⟨(State.reset.modFe fun x => { x with blank := .active }), ?_, ?_, ?_⟩ <;> decide +kernel

/-! Witnesses of LaneCommandsComplete. -/

theorem witness_LaneCommandsComplete_0 : ∃ (s : State) (lane : Fin 12),
      (s.mainLive = true) ∧
      (s.is (LANE_CTRL.enable lane) = false) :=
  by refine ⟨(State.reset.put (LANE_CTRL.enable 11) 0), 11, ?_, ?_⟩ <;> decide +kernel

theorem witness_LaneCommandsComplete_1 : ∃ (s : State) (lane : Fin 12),
      (s.mainLive = true) ∧
      (s.is (LANE_STATUS.running lane) = true) :=
  by refine ⟨(State.reset.put (LANE_STATUS.running 11) 1), 11, ?_, ?_⟩ <;> decide +kernel

theorem witness_LaneCommandsComplete_2 : ∃ (s : State) (lane : Fin 12),
      (s.mainLive = true) ∧
      (s.is (LANE_STATUS.start_pending lane) = true) ∧
      (s.locked = true) ∧
      ((s.passMarkers ((s.lane lane).startIn.getD 0)).is (LANE_STATUS.start_pending lane) = true) :=
  by refine ⟨((State.reset.put (LANE_STATUS.start_pending 11) 1).put CLK_STATUS.locked 1), 11, ?_, ?_, ?_, ?_⟩ <;> decide +kernel

theorem witness_LaneCommandsComplete_6 : ∃ (s : State) (lane : Fin 12) (f : Fade),
      (s.mainLive = true) ∧
      ((s.lane lane).fade = some f) ∧
      (f.done = none) ∧
      (s.is (LANE_STATUS.running lane) = true) ∧
      (s.locked = true) :=
  by refine ⟨(((State.reset.put (LANE_STATUS.running 11) 1).put CLK_STATUS.locked 1).modLane 11 fun l => { l with fade := some ⟨256, 0, none⟩ }), 11, ⟨256, 0, none⟩, ?_, ?_, ?_, ?_, ?_⟩ <;> decide +kernel

theorem witness_LaneCommandsComplete_7 : ∃ (s : State) (lane : Fin 12) (k : Nat) (f : Fade),
      (s.mainLive = true) ∧
      (s.is (LANE_STATUS.running lane) = true) ∧
      (s.locked = true) ∧
      (s.fadeLast lane = some k) ∧
      (((((s.toLeft lane k).flag (LANE_EVENT.fade_done lane)).modLane lane (fun x => { x with ends := x.ends.drop 1 })).lane lane).fade = some f) :=
  by refine ⟨(((State.reset.put (LANE_STATUS.running 11) 1).put CLK_STATUS.locked 1).modLane 11 fun l => { l with ends := [5], fade := some ⟨256, 0, none⟩ }), 11, 5, ⟨256, 0, none⟩, ?_, ?_, ?_, ?_, ?_⟩ <;> decide +kernel

theorem witness_LaneCommandsComplete_8 : ∃ (s : State) (lane : Fin 12) (bank : Fin 2),
      (s.mainLive = true) ∧
      (s.filterInUse lane (0x20 + bank) = true) :=
  by refine ⟨(State.reset.put (LANE_FIR_STATUS.current 11) 0x21), 11, 1, ?_, ?_⟩ <;> decide +kernel

theorem witness_LaneCommandsComplete_9 : ∃ (s : State) (lane : Fin 12) (bank : Fin 2),
      (s.mainLive = true) ∧
      (s.filterInUse lane (0x20 + bank) = false) :=
  by refine ⟨State.reset, 11, 1, ?_, ?_⟩ <;> decide +kernel

/-! Witnesses of NotchCommandsComplete. -/

theorem witness_NotchCommandsComplete_0 : ∃ (s : State) (lane : Fin 12) (b : List (BitVec 16 × BitVec 16)),
      (s.mainLive = true) ∧
      (s.is (LANE_STATUS.running lane) = true) ∧
      (s.locked = true) ∧
      (((if (s.lane lane).win.ready.isSome then s
      else s.toFormed lane ((s.lane lane).path.formed + (4095 - (s.lane lane).win.block.length))).lane lane).win.ready = some b) :=
  by refine ⟨(((State.reset.put (LANE_STATUS.running 11) 1).put CLK_STATUS.locked 1).modLane 11 fun l => { l with win := { l.win with ready := some [] } }), 11, [], ?_, ?_, ?_, ?_⟩ <;> decide +kernel

theorem witness_NotchCommandsComplete_1 : ∃ (s : State) (lane : Fin 12) (notch : Fin 4) (n : Nat),
      (s.mainLive = true) ∧
      ((s.notch lane notch).wait = some n) ∧
      (s.is (LANE_STATUS.running lane) = true) ∧
      (s.locked = true) :=
  by refine ⟨(((State.reset.put (LANE_STATUS.running 11) 1).put CLK_STATUS.locked 1).modLane 11 fun l => { l with win := { l.win with notches := vmod (fun x => { x with wait := some 7 }) l.win.notches 3 } }), 11, 3, 7, ?_, ?_, ?_, ?_⟩ <;> decide +kernel

theorem witness_NotchCommandsComplete_2 : ∃ (s : State) (lane : Fin 12) (notch : Fin 4),
      (s.mainLive = true) ∧
      (s.get (LANE_NOTCH.mode lane notch) = 1) ∧
      (s.is (LANE_NOTCH.engaged lane notch) = true) ∧
      (s.locked = true) ∧
      (s.get (LANE_WIN_CFG.release lane) * 3600000 ≤ (s.notch lane notch).low * s.laneD lane) :=
  by refine ⟨((((State.reset.put (LANE_NOTCH.mode 11 3) 1).put (LANE_NOTCH.engaged 11 3) 1).put CLK_STATUS.locked 1).modLane 11 fun l => { l with win := { l.win with notches := vmod (fun x => { x with low := 1000000000000 }) l.win.notches 3 } }), 11, 3, ?_, ?_, ?_, ?_, ?_⟩ <;> decide +kernel

/-! Witnesses of ThresherCommandsComplete. -/

theorem witness_ThresherCommandsComplete_1 : ∃ (s : State) (p : ThrPass),
      (s.mainLive = true) ∧
      (s.thr.running = some p) :=
  by refine ⟨(State.reset.modThr fun x => { x with running := some samplePass }), samplePass, ?_, ?_⟩ <;> decide +kernel

theorem witness_ThresherCommandsComplete_5 : ∃ (s : State) (p : ThrPass) (time : Time) (t : State),
      (s.mainLive = true) ∧
      (s.thr.running = some p) ∧
      (p.phase = .waitStart) ∧
      (s.locked = true) ∧
      (s.onFab = true) ∧
      (s.roundTime p = some (time, t)) :=
  by refine ⟨(((State.reset.put CLK_STATUS.locked 1).put TIME_STATUS.tick_src 0).modThr fun x => { x with running := some { samplePass with offline := true } }), { samplePass with offline := true }, 0, ((State.reset.put CLK_STATUS.locked 1).put TIME_STATUS.tick_src 0).modThr fun x => { x with running := some { samplePass with offline := true } }, ?_, ?_, ?_, ?_, ?_, ?_⟩ <;> decide +kernel

theorem witness_ThresherCommandsComplete_6 : ∃ (s : State) (p : ThrPass) (q : ThrPass),
      (s.mainLive = true) ∧
      (s.roundRuns = some p) ∧
      ((s.blockDrain p).roundRuns = some q) ∧
      ((q.jobs.all fun j => j.round != q.round || j.ended.isSome) = false) :=
  by refine ⟨(State.reset.modThr fun x => { x with running := some { samplePass with phase := .running, offline := true, jobs := [{ slot := 0, lane := 0, signal := 1, sat := 1, mode := 0, w := 64, step := 0, startCell := 0, startFrac := 0, cells := 1, centre := 0, n := 0, tiles := 1, round := 0, base := 0 }] } }), { samplePass with phase := .running, offline := true, jobs := [{ slot := 0, lane := 0, signal := 1, sat := 1, mode := 0, w := 64, step := 0, startCell := 0, startFrac := 0, cells := 1, centre := 0, n := 0, tiles := 1, round := 0, base := 0 }] }, { samplePass with phase := .running, offline := true, jobs := [{ slot := 0, lane := 0, signal := 1, sat := 1, mode := 0, w := 64, step := 0, startCell := 0, startFrac := 0, cells := 1, centre := 0, n := 0, tiles := 1, round := 0, base := 0 }] }, ?_, ?_, ?_, ?_⟩ <;> decide +kernel

theorem witness_ThresherCommandsComplete_7 : ∃ (s : State) (p : ThrPass) (t : State),
      (s.mainLive = true) ∧
      (s.thr.running = some p) ∧
      (p.phase = .running) ∧
      (((p.jobs.filter (fun j => j.round == p.round)).all fun j => j.ended.isSome) = true) ∧
      (t = ((((s.flag THR_EVENT.round_done).put THR_ROUND_INFO.round p.round).put THR_ROUND_INFO.group
      (b2n (p.dual && p.round % 2 == 1))).put THR_ROUND_INFO.tiles ((p.jobs.filter (fun j => j.round == p.round)).foldl (fun a j => a + j.tiles) 0)).modThr (fun t => { t with
        held := vmod (fun _ => true) t.held (p.group p.round)
        toSearch := (p.jobs.filter (fun j => j.round == p.round)), group := p.group p.round, tR := p.tR, k := p.k
        results := if p.round == 0 then [] else t.results })) :=
  by refine ⟨(State.reset.modThr fun x => { x with running := some { samplePass with phase := .running } }), { samplePass with phase := .running }, _, ?_, ?_, ?_, ?_, rfl⟩ <;> decide +kernel

theorem witness_ThresherCommandsComplete_8 : ∃ (s : State) (t : State),
      (s.mainLive = true) ∧
      (t = (s.searchRound s.thr.toSearch).modThr (fun t => { t with toSearch := [] })) ∧
      (t.snap.fixFor = none) :=
  by refine ⟨State.reset, _, ?_, rfl, ?_⟩ <;> decide +kernel

/-! Witnesses of ChannelCommandsComplete. -/

theorem witness_ChannelCommandsComplete_1 : ∃ (s : State) (channel : Fin 512),
      (s.mainLive = true) ∧
      (s.chanState channel = 1) ∧
      (s.locked = true) ∧
      (s.is SHF_CTRL.enable = true) :=
  by refine ⟨(((State.reset.put (SHF_CH_STATUS.state 511) 1).put CLK_STATUS.locked 1).put SHF_CTRL.enable 1), 511, ?_, ?_, ?_, ?_⟩ <;> decide +kernel

theorem witness_ChannelCommandsComplete_3 : ∃ (s : State) (channel : Fin 512) (n : Nat),
      (s.mainLive = true) ∧
      (s.chanState channel = 2) ∧
      (s.sheavesRun = true) ∧
      (s.pairOdd channel = false) ∧
      ((State.toBlock channel 4 s).blockReady channel = true) ∧
      ((State.toBlock channel 4 s).sheavesRun = true) ∧
      ((State.toBlock channel 4 s).sweepsDue (channel / 8) = n + 1) ∧
      ((State.toBlock channel 4 s).sweepNext (channel / 8) = some channel.val) :=
  by refine ⟨(((((State.reset.put (SHF_CH_STATUS.state 511) 2).put CLK_STATUS.locked 1).put SHF_CTRL.enable 1)).modLane 0 fun l => { l with path := { l.path with out := List.replicate 4096 0 } }), 511, 0, ?_, ?_, ?_, ?_, ?_, ?_, ?_, ?_⟩ <;> decide +kernel

theorem witness_ChannelCommandsComplete_4 : ∃ (s : State) (core : Nat) (w : List Nat) (rest : List (Nat × List Nat)),
      (s.mainLive = true) ∧
      (s.shf.net = (core, w) :: rest) ∧
      (s.locked = true) :=
  by refine ⟨(((State.reset.modShf fun x => { x with net := (0, [511]) :: [] }).put CLK_STATUS.locked 1).modShf fun h => { h with net := [(0, [511])] }), 0, [511], [], ?_, ?_, ?_⟩ <;> decide +kernel

theorem witness_ChannelCommandsComplete_5 : ∃ (s : State) (channel : Fin 512),
      (s.mainLive = true) ∧
      (s.chanState channel = 2) ∧
      (s.pairOdd channel = false) ∧
      (s.sheavesRun = true) :=
  by refine ⟨((((State.reset.put (SHF_CH_STATUS.state 511) 2).put CLK_STATUS.locked 1).put SHF_CTRL.enable 1)), 511, ?_, ?_, ?_, ?_⟩ <;> decide +kernel

theorem witness_ChannelCommandsComplete_6 : ∃ (s : State) (channel : Fin 512),
      (s.mainLive = true) ∧
      (s.chanState channel = 2) ∧
      (s.sheavesRun = true) ∧
      (s.pairOdd channel = false) :=
  by refine ⟨((((State.reset.put (SHF_CH_STATUS.state 511) 2).put CLK_STATUS.locked 1).put SHF_CTRL.enable 1)), 511, ?_, ?_, ?_, ?_⟩ <;> decide +kernel

theorem witness_ChannelCommandsComplete_7 : ∃ (s : State) (channel : Fin 512),
      (s.mainLive = true) ∧
      (s.chanState channel = 2) ∧
      (s.pairOdd channel = false) ∧
      (s.sheavesRun = true) ∧
      ((s.chan channel).pair = false) :=
  by refine ⟨((((State.reset.put (SHF_CH_STATUS.state 511) 2).put CLK_STATUS.locked 1).put SHF_CTRL.enable 1)), 511, ?_, ?_, ?_, ?_, ?_⟩ <;> decide +kernel

theorem witness_ChannelCommandsComplete_10 : ∃ (s : State) (channel : Fin 512),
      (s.mainLive = true) ∧
      (s.chanState channel = 2) ∧
      ((s.lockOf channel).lock = 5) ∧
      ((s.advanceTo ((s.lockOf channel).since + second)).chanState channel = 2) ∧
      (((s.advanceTo ((s.lockOf channel).since + second)).lockOf channel).lock = 5) :=
  by refine ⟨(((State.reset.put (SHF_CH_STATUS.state 511) 2).put (SHF_CH_STATUS.state 511) 2).setLock 511 { lock := 5 }), 511, ?_, ?_, ?_, ?_, ?_⟩ <;> decide +kernel

/-! Witnesses of DspArithmeticCompletes. -/

theorem witness_DspArithmeticCompletes_0 : ∃ (s : State) (core : Fin 16) (mv : Moves),
      (DspReady s core mv false) :=
  by refine ⟨(State.reset.put CLK_STATUS.locked 1), 11, ⟨0x23, 0x42⟩, ⟨by constructor <;> decide +kernel, Or.inr ⟨by decide +kernel, by decide +kernel⟩, Or.inr ⟨by decide +kernel, by decide +kernel⟩, by decide +kernel⟩⟩

/-! Witnesses of DspMultipliesComplete. -/

theorem witness_DspMultipliesComplete_0 : ∃ (s : State) (core : Fin 16) (third : Bool) (mv : Moves),
      (DspReady s core mv third) :=
  by refine ⟨(State.reset.put CLK_STATUS.locked 1), 11, true, ⟨0x23, 0x42⟩, ⟨by constructor <;> decide +kernel, Or.inr ⟨by decide +kernel, by decide +kernel⟩, Or.inr ⟨by decide +kernel, by decide +kernel⟩, by decide +kernel⟩⟩

/-! Witnesses of DspSearchesAndTransfersComplete. -/

theorem witness_DspSearchesAndTransfersComplete_6 : ∃ (s : State) (core : Fin 16) (dst : Fin 128) (src : Fin 128) (mv : Moves),
      (DspReady s core mv false) ∧
      (dspCodeOk dst = true) ∧
      (dspCodeOk src = true) :=
  by refine ⟨(State.reset.put CLK_STATUS.locked 1), 11, 0, 1, ⟨0x23, 0x42⟩, ⟨by constructor <;> decide +kernel, Or.inr ⟨by decide +kernel, by decide +kernel⟩, Or.inr ⟨by decide +kernel, by decide +kernel⟩, by decide +kernel⟩, ?_, ?_⟩ <;> decide +kernel

theorem witness_DspSearchesAndTransfersComplete_10 : ∃ (s : State) (core : Fin 16) (mv : Moves),
      (DspReady s core mv false) ∧
      ((s.core core).writes = []) :=
  by
    refine ⟨(State.reset.put CLK_STATUS.locked 1), 11, ⟨0x23, 0x42⟩, ⟨by constructor <;> decide +kernel, Or.inr ⟨by decide +kernel, by decide +kernel⟩, Or.inr ⟨by decide +kernel, by decide +kernel⟩, by decide +kernel⟩, ?_⟩
    decide +kernel

theorem witness_DspSearchesAndTransfersComplete_11 : ∃ (s : State) (core : Fin 16) (dst : Fin 128),
      (DspReady s core noMoves false) ∧
      (dspCodeOk dst = true) :=
  by
    refine ⟨(State.reset.put CLK_STATUS.locked 1), 11, 0, ⟨by constructor <;> decide +kernel, Or.inl rfl, Or.inl rfl, by decide +kernel⟩, ?_⟩
    decide +kernel

/-! Witnesses of DspControlCompletes. -/

theorem witness_DspControlCompletes_0 : ∃ (s : State) (core : Fin 16),
      (DspPlain s core) :=
  by refine ⟨(State.reset.put CLK_STATUS.locked 1), 11, by constructor <;> decide +kernel⟩

theorem witness_DspControlCompletes_1 : ∃ (s : State) (core : Fin 16),
      (DspPlain s core) ∧
      (bit (s.core core).file.sr.toNat 8 = true) :=
  by
    refine ⟨((State.reset.put CLK_STATUS.locked 1).modCore 11 fun c => { c with file := { c.file with sr := 0x1FF } }), 11, by constructor <;> decide +kernel, ?_⟩
    decide +kernel

theorem witness_DspControlCompletes_2 : ∃ (s : State) (core : Fin 16),
      (DspPlain s core) ∧
      (bit (s.core core).file.sr.toNat 8 = false) :=
  by
    refine ⟨(State.reset.put CLK_STATUS.locked 1), 11, by constructor <;> decide +kernel, ?_⟩
    decide +kernel

theorem witness_DspControlCompletes_3 : ∃ (s : State) (core : Fin 16) (cc : Fin 16),
      (DspPlain s core) ∧
      (cc ≤ 0xB) ∧
      (dspCond cc (s.core core).file.sr.toNat = true) :=
  by refine ⟨(State.reset.put CLK_STATUS.locked 1), 11, 0, by constructor <;> decide +kernel, ?_, ?_⟩ <;> decide +kernel

theorem witness_DspControlCompletes_4 : ∃ (s : State) (core : Fin 16) (cc : Fin 16),
      (DspPlain s core) ∧
      (cc ≤ 0xB) ∧
      (dspCond cc (s.core core).file.sr.toNat = false) :=
  by refine ⟨(State.reset.put CLK_STATUS.locked 1), 11, 1, by constructor <;> decide +kernel, ?_, ?_⟩ <;> decide +kernel

theorem witness_DspControlCompletes_7 : ∃ (s : State) (core : Fin 16) (cc : Fin 16),
      (DspPlain s core) ∧
      (cc ≤ 0xB) ∧
      (dspCond cc (s.core core).file.sr.toNat = true) ∧
      ((s.core core).stack.length < 16) :=
  by refine ⟨(State.reset.put CLK_STATUS.locked 1), 11, 0, by constructor <;> decide +kernel, ?_, ?_, ?_⟩ <;> decide +kernel

theorem witness_DspControlCompletes_9 : ∃ (s : State) (core : Fin 16) (cc : Fin 16),
      (DspPlain s core) ∧
      (cc ≤ 0xB) ∧
      (dspCond cc (s.core core).file.sr.toNat = true) ∧
      ((s.core core).stack ≠ []) :=
  by refine ⟨((State.reset.put CLK_STATUS.locked 1).modCore 11 fun c => { c with stack := [1] }), 11, 0, by constructor <;> decide +kernel, ?_, ?_, ?_⟩ <;> decide +kernel

theorem witness_DspControlCompletes_12 : ∃ (s : State) (core : Fin 16) (n : Fin 65536) (last : Fin 16384),
      (DspPlain s core) ∧
      (n ≠ 0) ∧
      ((s.core core).pc < last) :=
  by refine ⟨(State.reset.put CLK_STATUS.locked 1), 11, 65535, 16383, by constructor <;> decide +kernel, ?_, ?_⟩ <;> decide +kernel

theorem witness_DspControlCompletes_13 : ∃ (s : State) (core : Fin 16) (src : Fin 128) (last : Fin 16384),
      (DspPlain s core) ∧
      (dspCodeOk src = true) ∧
      ((s.core core).pc < last) ∧
      (s.dspCode core noMoves src ≠ 0) :=
  by refine ⟨((State.reset.put CLK_STATUS.locked 1).modCore 11 fun c => { c with file := { c.file with d := vmod (fun _ => 1) c.file.d 1 } }), 11, 1, 16383, by constructor <;> decide +kernel, ?_, ?_, ?_⟩ <;> decide +kernel

theorem witness_DspControlCompletes_14 : ∃ (s : State) (core : Fin 16) (src : Fin 128) (last : Fin 16384),
      (DspPlain s core) ∧
      (dspCodeOk src = true) ∧
      ((s.core core).pc < last) ∧
      (s.dspCode core noMoves src = 0) :=
  by refine ⟨(State.reset.put CLK_STATUS.locked 1), 11, 1, 16383, by constructor <;> decide +kernel, ?_, ?_, ?_⟩ <;> decide +kernel

theorem witness_DspControlCompletes_16 : ∃ (s : State) (core : Fin 16) (src : Fin 128),
      (DspPlain s core) ∧
      (dspCodeOk src = true) :=
  by
    refine ⟨(State.reset.put CLK_STATUS.locked 1), 11, 1, by constructor <;> decide +kernel, ?_⟩
    decide +kernel

/-! Witnesses of CoreInterfaceCommandsComplete. -/

theorem witness_CoreInterfaceCommandsComplete_0 : ∃ (s : State) (core : Fin 16) (w : Nat) (t : Nat) (fl : DspFlight),
      (s.mainLive = true) ∧
      (s.coreClock = true) ∧
      ((s.core core).stall = some (.read w t, fl)) :=
  by refine ⟨((((State.reset.put CLK_STATUS.locked 1).modCore 15 fun x => { x with stall := some (.read 0 0, ⟨0, 0, 0, 0, 0, 0, 0, none, none, none⟩) }).modCore 15 fun c => { c with stall := some (.read 0 0, ⟨0, 0, 0, 0, 0, 0, 0, none, none, none⟩) }).put CLK_STATUS.locked 1), 15, 0, 0, ⟨0, 0, 0, 0, 0, 0, 0, none, none, none⟩, ?_, ?_, ?_⟩ <;> decide +kernel

theorem witness_CoreInterfaceCommandsComplete_1 : ∃ (s : State) (core : Fin 16),
      (s.mainLive = true) ∧
      (((s.writeCompletes core).core core).stall = none) :=
  by refine ⟨State.reset, 15, ?_, ?_⟩ <;> decide +kernel

theorem witness_CoreInterfaceCommandsComplete_2 : ∃ (s : State) (core : Fin 16) (fl : DspFlight),
      (s.mainLive = true) ∧
      ((s.writeCompletes core).coreClock = true) ∧
      (((s.writeCompletes core).core core).stall = some (.fifthWrite, fl)) :=
  by refine ⟨((State.reset.put CLK_STATUS.locked 1).modCore 15 fun c => { c with stall := some (.fifthWrite, ⟨0, 0, 0, 0, 0, 0, 0, none, none, none⟩) }), 15, ⟨0, 0, 0, 0, 0, 0, 0, none, none, none⟩, ?_, ?_, ?_⟩ <;> decide +kernel

theorem witness_CoreInterfaceCommandsComplete_3 : ∃ (s : State) (core : Fin 16) (fl : DspFlight),
      (s.mainLive = true) ∧
      ((s.writeCompletes core).coreClock = true) ∧
      (((s.writeCompletes core).core core).stall = some (.fence, fl) ∨
    ((s.writeCompletes core).core core).stall = some (.readBehind, fl)) ∧
      (((s.writeCompletes core).core core).writes = []) :=
  by refine ⟨((State.reset.put CLK_STATUS.locked 1).modCore 15 fun c => { c with stall := some (.fence, ⟨0, 0, 0, 0, 0, 0, 0, none, none, none⟩) }), 15, ⟨0, 0, 0, 0, 0, 0, 0, none, none, none⟩, ?_, ?_, ?_, ?_⟩ <;> decide +kernel

theorem witness_CoreInterfaceCommandsComplete_4 : ∃ (s : State) (core : Fin 16) (v : Nat),
      (s.mainLive = true) ∧
      (s.coreClock = true) ∧
      ((s.core core).running = true) ∧
      ((s.core core).pend = []) ∧
      ((s.core core).held = false) ∧
      ((s.core core).stopping = false) ∧
      (s.dueVector core = some v) :=
  by refine ⟨((State.reset.put CLK_STATUS.locked 1).modCore 11 fun c => { c with raised := vmod (fun _ => some ⟨0, 0, 0⟩) c.raised 1 }), 11, 1, ?_, ?_, ?_, ?_, ?_, ?_, ?_⟩ <;> decide +kernel

theorem witness_CoreInterfaceCommandsComplete_5 : ∃ (s : State) (core : Fin 16),
      (s.mainLive = true) ∧
      (s.coreClock = true) ∧
      ((s.core core).running = true) ∧
      (s.get (WDG_CTRL.period_us core) ≠ 0) :=
  by refine ⟨((((State.reset.put CLK_STATUS.locked 1).modCore 11 fun x => { x with running := true }).put CLK_STATUS.locked 1).put (WDG_CTRL.period_us 11) 1), 11, ?_, ?_, ?_, ?_⟩ <;> decide +kernel

theorem witness_CoreInterfaceCommandsComplete_6 : ∃ (s : State),
      (s.mainLive = true) ∧
      (s.coreClock = true) :=
  by refine ⟨(State.reset.put CLK_STATUS.locked 1), ?_, ?_⟩ <;> decide +kernel

theorem witness_CoreInterfaceCommandsComplete_8 : ∃ (s : State) (core : Fin 12) (oldest : List Nat) (rest : List (List Nat)),
      (s.mainLive = true) ∧
      (s.coreClock = true) ∧
      ((s.core core).dumps = oldest :: rest) :=
  by refine ⟨(((State.reset.put CLK_STATUS.locked 1).modCore 11 fun x => { x with dumps := ([1, 2]) :: [] }).modCore 11 fun c => { c with dumps := [[1, 2]] }), 11, [1, 2], [], ?_, ?_, ?_⟩ <;> decide +kernel

theorem witness_CoreInterfaceCommandsComplete_11 : ∃ (s : State) (core : Fin 16),
      (s.mainLive = true) ∧
      (isOpenCore core = true) ∧
      (s.coreClock = true) :=
  by refine ⟨(State.reset.put CLK_STATUS.locked 1), 15, ?_, ?_, ?_⟩ <;> decide +kernel

/-! Witnesses of KernelRequestsComplete. -/

theorem witness_KernelRequestsComplete_0 : ∃ (s : State) (p : List Byte) (bay : Nat),
      (s.takes 5) ∧
      (5 ≤ p.length) ∧
      (p.length ≤ 1004) ∧
      (isOpenCore (byteAt p 0) = true) ∧
      (s.sec.kernelKey ≠ none) ∧
      ((s.kernel (byteAt p 0)).state = .empty) ∧
      (s.stagingBay = some bay) ∧
      (fieldAt p 1 3 = 0) ∧
      (24 ≤ (p.drop 4).length) :=
  by refine ⟨((State.reset.modKernel 15 fun x => { x with state := .empty }).modSec fun c => { c with kernelKey := some [1] }), (payload 28 [(0, 15)]), 62, ?_, ?_, ?_, ?_, ?_, ?_, ?_, ?_, ?_⟩ <;> first | decide +kernel | (constructor <;> decide +kernel)

theorem witness_KernelRequestsComplete_1 : ∃ (s : State) (p : List Byte) (l : KernelLoad),
      (s.takes 5) ∧
      (5 ≤ p.length) ∧
      (p.length ≤ 1004) ∧
      (isOpenCore (byteAt p 0) = true) ∧
      (s.sec.kernelKey ≠ none) ∧
      ((s.kernel (byteAt p 0)).state = .loading) ∧
      ((s.kernel (byteAt p 0)).load = some l) ∧
      (l.checking = none) ∧
      (fieldAt p 1 3 ≠ 0) ∧
      (fieldAt p 1 3 = l.bytes.length) :=
  by refine ⟨((((State.reset.modKernel 15 fun x => { x with state := .loading }).modKernel 15 fun x => { x with load := some ⟨62, [0], 128, none⟩ }).modSec fun c => { c with kernelKey := some [1] }).modKernel 15 fun k => { k with state := .loading, load := some ⟨62, [0], 128, none⟩ }), (payload 8 [(0, 15), (1, 1)]), ⟨62, [0], 128, none⟩, ?_, ?_, ?_, ?_, ?_, ?_, ?_, ?_, ?_, ?_⟩ <;> first | decide +kernel | (constructor <;> decide +kernel)

theorem witness_KernelRequestsComplete_2 : ∃ (s : State) (p : List Byte),
      (s.takes 5) ∧
      (p.length = 4) ∧
      (isOpenCore (byteAt p 0) = true) ∧
      (fieldAt p 1 3 = 0) ∧
      ((s.kernel (byteAt p 0)).state = .loaded ∨ (s.kernel (byteAt p 0)).state = .stopped ∨ (s.kernel (byteAt p 0)).state = .faulted) :=
  by refine ⟨(State.reset.modKernel 15 fun x => { x with state := .loaded }), (payload 4 [(0, 15)]), ?_, ?_, ?_, ?_, ?_⟩ <;> first | decide +kernel | (constructor <;> decide +kernel)

theorem witness_KernelRequestsComplete_3 : ∃ (s : State) (p : List Byte),
      (s.takes 5) ∧
      (p.length = 4) ∧
      (isOpenCore (byteAt p 0) = true) ∧
      (fieldAt p 1 3 = 0) ∧
      ((s.kernel (byteAt p 0)).state = .running) :=
  by refine ⟨(State.reset.modKernel 15 fun x => { x with state := .running }), (payload 4 [(0, 15)]), ?_, ?_, ?_, ?_, ?_⟩ <;> first | decide +kernel | (constructor <;> decide +kernel)

theorem witness_KernelRequestsComplete_4 : ∃ (s : State) (core : Fin 4),
      (s.mainLive = true) ∧
      (((s.kernel (12 + core)).stops ≠ [] ∨ (s.kernel (12 + core)).unloading = true)) ∧
      (s.frozen = false) ∧
      (¬ ((s.core (12 + core)).running = true ∧ (s.core (12 + core)).held = true)) ∧
      ((s.core (12 + core)).writes = []) :=
  by refine ⟨((State.reset.modCore (12 + 3) fun x => { x with writes := [] }).modKernel 15 fun k => { k with stops := [sampleReq] }), 3, ?_, ?_, ?_, ?_, ?_⟩ <;> decide +kernel

theorem witness_KernelRequestsComplete_5 : ∃ (s : State) (p : List Byte),
      (s.takes 0) ∧
      (p.length = 4) ∧
      (isOpenCore (byteAt p 0) = true) ∧
      (fieldAt p 1 3 = 0) ∧
      ((s.kernel (byteAt p 0)).state = .running) :=
  by refine ⟨(State.reset.modKernel 15 fun x => { x with state := .running }), (payload 4 [(0, 15)]), ?_, ?_, ?_, ?_, ?_⟩ <;> first | decide +kernel | (constructor <;> decide +kernel)

theorem witness_KernelRequestsComplete_6 : ∃ (s : State) (p : List Byte),
      (s.takes 0) ∧
      (p.length = 4) ∧
      (isOpenCore (byteAt p 0) = true) ∧
      (fieldAt p 1 3 = 0) ∧
      ((s.kernel (byteAt p 0)).state = .loaded ∨ (s.kernel (byteAt p 0)).state = .stopped ∨ (s.kernel (byteAt p 0)).state = .faulted) :=
  by refine ⟨(State.reset.modKernel 15 fun x => { x with state := .loaded }), (payload 4 [(0, 15)]), ?_, ?_, ?_, ?_, ?_⟩ <;> first | decide +kernel | (constructor <;> decide +kernel)

theorem witness_KernelRequestsComplete_7 : ∃ (s : State) (p : List Byte),
      (s.takes 0) ∧
      (p.length = 0) :=
  by refine ⟨State.reset, (payload 0 []), ?_, ?_⟩ <;> first | decide +kernel | (constructor <;> decide +kernel)

theorem witness_KernelRequestsComplete_8 : ∃ (s : State) (p : List Byte),
      (s.takes 5) ∧
      (p.length = 4) ∧
      (isOpenCore (byteAt p 0) = true) ∧
      (byteAt p 1 < 12) ∧
      (byteAt p 2 < 8) ∧
      (byteAt p 3 = 1) ∧
      (s.kernelLoaded (byteAt p 0) = true) :=
  by refine ⟨(State.reset.modKernel 15 fun k => { k with state := .loaded }), (payload 4 [(0, 15), (1, 11), (2, 7), (3, 1)]), ?_, ?_, ?_, ?_, ?_, ?_, ?_⟩ <;> first | decide +kernel | (constructor <;> decide +kernel)

theorem witness_KernelRequestsComplete_9 : ∃ (s : State) (p : List Byte),
      (s.takes 5) ∧
      (p.length = 4) ∧
      (isOpenCore (byteAt p 0) = true) ∧
      (byteAt p 1 < 12) ∧
      (byteAt p 2 < 8) ∧
      (byteAt p 3 = 0) ∧
      (s.kernelLoaded (byteAt p 0) = true) ∧
      ((s.kernel (byteAt p 0)).wantFeed = true) ∧
      (s.is (FEED_CFG.granted (byteAt p 0)) = false) :=
  by refine ⟨(((State.reset.modKernel 15 fun x => { x with wantFeed := true }).put (FEED_CFG.granted 15) 0).modKernel 15 fun k => { k with state := .loaded, wantFeed := true }), (payload 4 [(0, 15), (1, 11), (2, 7)]), ?_, ?_, ?_, ?_, ?_, ?_, ?_, ?_, ?_⟩ <;> first | decide +kernel | (constructor <;> decide +kernel)

theorem witness_KernelRequestsComplete_10 : ∃ (s : State) (p : List Byte),
      (s.takes 5) ∧
      (p.length = 8) ∧
      (isOpenCore (byteAt p 0) = true) ∧
      (fieldAt p 1 3 = 0) ∧
      (fieldAt p 4 4 < 0x100000) ∧
      ((s.kernel (byteAt p 0)).state = .running) :=
  by refine ⟨(State.reset.modKernel 15 fun x => { x with state := .running }), (payload 8 [(0, 15)]), ?_, ?_, ?_, ?_, ?_, ?_⟩ <;> first | decide +kernel | (constructor <;> decide +kernel)

theorem witness_KernelRequestsComplete_11 : ∃ (s : State) (p : List Byte),
      (s.takes 5) ∧
      (p.length = 4) ∧
      (isOpenCore (byteAt p 0) = true) ∧
      (byteAt p 1 < 24) ∧
      (byteAt p 2 < 2) ∧
      (fieldAt p 3 1 = 0) ∧
      ((s.kernel (byteAt p 0)).state ≠ .empty) ∧
      ((s.kernel (byteAt p 0)).state ≠ .loading) :=
  by refine ⟨(State.reset.modKernel 15 fun k => { k with state := .stopped }), (payload 4 [(0, 15), (1, 23), (2, 1)]), ?_, ?_, ?_, ?_, ?_, ?_, ?_, ?_⟩ <;> first | decide +kernel | (constructor <;> decide +kernel)

theorem witness_KernelRequestsComplete_13 : ∃ (s : State) (core : Fin 4) (w : BitVec 23),
      (s.mainLive = true) ∧
      (s.is (FEED_CFG.granted (12 + core)) = true) ∧
      (s.is (FEED_STATUS.lane_stopped (12 + core)) = false) ∧
      (s.locked = true) ∧
      (s.is (LANE_STATUS.running (s.get (FEED_CFG.lane (12 + core)))) = true) ∧
      ((s.toLeft (s.get (FEED_CFG.lane (12 + core))) (s.core (12 + core)).feedNext).busWord (s.get (FEED_CFG.lane (12 + core))) ((s.toLeft (s.get (FEED_CFG.lane (12 + core))) (s.core (12 + core)).feedNext).core (12 + core)).feedNext = some w) :=
  by refine ⟨((((State.reset.put (FEED_CFG.granted 15) 1).put (LANE_STATUS.running 0) 1).put CLK_STATUS.locked 1).modLane 0 fun l => { l with path := { l.path with out := [0] } }), 3, 0, ?_, ?_, ?_, ?_, ?_, ?_⟩ <;> decide +kernel

/-! Witnesses of SnapshotCommandsComplete. -/

theorem witness_SnapshotCommandsComplete_0 : ∃ (s : State) (p : List Byte),
      (s.takes 5) ∧
      (p.length = 20) ∧
      (1 ≤ byteAt p 0) ∧
      (byteAt p 0 ≤ 12) ∧
      (byteAt p 1 < 2) ∧
      (2 ≤ byteAt p 2) ∧
      (byteAt p 2 ≤ 64) ∧
      (byteAt p 3 < 24 ∨ byteAt p 3 = 0xFF) ∧
      (fieldAt p 5 3 = 0) ∧
      (((armLanes p).all fun l => decide (l < 12)) = true) ∧
      (s.snap.capture = none) ∧
      (((armLanes p).all fun l => s.is (LANE_STATUS.running l)) = true) ∧
      (s.gleanerBays (byteAt p 4) (divUp (s.captureWords (armLanes p) (byteAt p 1) (byteAt p 2)) 131072) = true) :=
  by refine ⟨(((State.reset.put (BAY_OWNER.owner_id 63) 9).put (LANE_STATUS.running 0) 1).modLane 0 fun l => { l with cfg := some ⟨0, 15, 0, 0, 60, 0⟩ }), (payload 20 [(0, 1), (1, 1), (2, 2), (3, 0xFF), (4, 63)]), ?_, ?_, ?_, ?_, ?_, ?_, ?_, ?_, ?_, ?_, ?_, ?_, ?_⟩ <;> first | decide +kernel | (constructor <;> decide +kernel)

theorem witness_SnapshotCommandsComplete_1 : ∃ (s : State) (c : Capture) (time : Time) (t : State),
      (s.mainLive = true) ∧
      (s.snap.capture = some c) ∧
      (c.run = none) ∧
      (s.frozen = false) ∧
      (s.locked = true) ∧
      (s.onFab = true) ∧
      (s.captureAt c = some (time, t)) :=
  by refine ⟨(((State.reset.put CLK_STATUS.locked 1).put TIME_STATUS.tick_src 0).modSnap fun x => { x with capture := some { sampleCapture with trigger := 0, fired := some 7 } }), { sampleCapture with trigger := 0, fired := some 7 }, 7, (((State.reset.put CLK_STATUS.locked 1).put TIME_STATUS.tick_src 0).modSnap fun x => { x with capture := some { sampleCapture with trigger := 0, fired := some 7 } }), ?_, ?_, ?_, ?_, ?_, ?_, ?_⟩ <;> decide +kernel

theorem witness_SnapshotCommandsComplete_2 : ∃ (s : State) (c : Capture) (r : CaptureRun),
      (s.mainLive = true) ∧
      (s.snap.capture = some c) ∧
      (c.run = some r) :=
  by refine ⟨((State.reset.modSnap fun x => { x with capture := some { sampleCapture with run := some sampleRun } }).modSnap fun x => { x with capture := some { sampleCapture with run := some sampleRun } }), { sampleCapture with run := some sampleRun }, sampleRun, ?_, ?_, ?_⟩ <;> decide +kernel

theorem witness_SnapshotCommandsComplete_3 : ∃ (s : State) (c : SnapMove),
      (s.mainLive = true) ∧
      (s.snap.commit = some c) ∧
      (pagesUsed (if (s.compact c.firstBay).2.snap.policy = 0 then (s.compact c.firstBay).2.dropOldest (pagesOf (markHeld (s.compact c.firstBay).1)) ((s.compact c.firstBay).2.snap.nv.filter fun x => x.id != c.id).length
      ((s.compact c.firstBay).2.snap.nv.filter fun x => x.id != c.id) else ((s.compact c.firstBay).2.snap.nv.filter fun x => x.id != c.id, 0)).1 + pagesOf (markHeld (s.compact c.firstBay).1) ≤ 1024) :=
  by refine ⟨((State.reset.modSnap fun x => { x with commit := some ⟨1, 62, none⟩ }).modSnap fun x => { x with commit := some ⟨1, 62, none⟩ }), ⟨1, 62, none⟩, ?_, ?_, ?_⟩ <;> decide +kernel

theorem witness_SnapshotCommandsComplete_4 : ∃ (s : State) (m : SnapMove) (x : NvSnap),
      (s.mainLive = true) ∧
      (s.snap.load = some m) ∧
      (s.nvSnap m.id = some x) :=
  by refine ⟨((State.reset.modSnap fun x => { x with load := some ⟨1, 62, none⟩ }).modSnap fun x => { x with load := some ⟨1, 62, none⟩, nv := [⟨1, []⟩] }), ⟨1, 62, none⟩, ⟨1, []⟩, ?_, ?_, ?_⟩ <;> decide +kernel

theorem witness_SnapshotCommandsComplete_5 : ∃ (s : State) (p : List Byte),
      (s.takes 0) ∧
      (p.length = 0) :=
  by refine ⟨State.reset, (payload 0 []), ?_, ?_⟩ <;> first | decide +kernel | (constructor <;> decide +kernel)

theorem witness_SnapshotCommandsComplete_6 : ∃ (s : State) (p : List Byte),
      (s.takes 0) ∧
      (p.length = 4) ∧
      (s.holdsSnap (fieldAt p 0 4) = true) :=
  by refine ⟨(State.reset.modSnap fun x => { x with nv := [⟨1, []⟩] }), (payload 4 [(0, 1)]), ?_, ?_, ?_⟩ <;> first | decide +kernel | (constructor <;> decide +kernel)

theorem witness_SnapshotCommandsComplete_8 : ∃ (s : State) (p : List Byte) (x : NvSnap),
      (s.takes 5) ∧
      (p.length = 8) ∧
      (byteAt p 4 < 64) ∧
      (fieldAt p 5 3 = 0) ∧
      (s.nvSnap (fieldAt p 0 4) = some x) ∧
      (s.moving = false) ∧
      (s.captureRun = none) ∧
      (s.gleanerBays (byteAt p 4) (divUp (2128 + headerWords x.bytes) bayWords) = true) :=
  by refine ⟨((State.reset.put (BAY_OWNER.owner_id 63) 9).modSnap fun x => { x with nv := [⟨1, []⟩] }), (payload 8 [(0, 1), (4, 63)]), ⟨1, []⟩, ?_, ?_, ?_, ?_, ?_, ?_, ?_, ?_⟩ <;> first | decide +kernel | (constructor <;> decide +kernel)

theorem witness_SnapshotCommandsComplete_9 : ∃ (s : State) (p : List Byte) (b : BaySnap),
      (s.takes 5) ∧
      (p.length = 4) ∧
      (s.baySnap (fieldAt p 0 4) = some b) ∧
      ((s.headerAt b.firstBay).2.nav.orbit = true) ∧
      (fieldAt (s.headerAt b.firstBay).1 40 4 ≤ 2000000000) ∧
      ((s.headerAt b.firstBay).2.thr.queued = none) ∧
      ((s.headerAt b.firstBay).2.snap.fixFor = none) :=
  by refine ⟨(((State.reset.put (BAY_OWNER.owner_id 63) 9).modSnap fun x => { x with inBays := [⟨1, 63, 1⟩] }).modNav fun x => { x with orbit := true }), (payload 4 [(0, 1)]), ⟨1, 63, 1⟩, ?_, ?_, ?_, ?_, ?_, ?_, ?_⟩ <;> first | decide +kernel | (constructor <;> decide +kernel)

theorem witness_SnapshotCommandsComplete_10 : ∃ (s : State) (p : List Byte),
      (s.takes 4) ∧
      (p.length = 20) ∧
      (byteAt p 0 < 8) ∧
      (byteAt p 1 = 1) ∧
      (1 ≤ byteAt p 2) ∧
      (byteAt p 2 ≤ 14) ∧
      (byteAt p 3 < 2) ∧
      (2 ≤ byteAt p 4) ∧
      (byteAt p 4 ≤ 64) ∧
      (fieldAt p 5 3 = 0) ∧
      (60 ≤ fieldAt p 8 4) ∧
      (fieldAt p 8 4 ≤ 86400) :=
  by refine ⟨State.reset, (payload 20 [(0, 7), (1, 1), (2, 1), (3, 1), (4, 2), (8, 60)]), ?_, ?_, ?_, ?_, ?_, ?_, ?_, ?_, ?_, ?_, ?_, ?_⟩ <;> first | decide +kernel | (constructor <;> decide +kernel)

theorem witness_SnapshotCommandsComplete_11 : ∃ (s : State) (p : List Byte),
      (s.takes 4) ∧
      (p.length = 20) ∧
      (byteAt p 0 < 8) ∧
      (byteAt p 1 = 0) ∧
      (fieldAt p 5 3 = 0) :=
  by refine ⟨State.reset, (payload 20 [(0, 7), (1, 0)]), ?_, ?_, ?_, ?_, ?_⟩ <;> first | decide +kernel | (constructor <;> decide +kernel)

theorem witness_SnapshotCommandsComplete_12 : ∃ (s : State) (p : List Byte),
      (s.takes 0) ∧
      (p.length = 4) ∧
      (byteAt p 0 < 2) ∧
      (fieldAt p 1 3 = 0) :=
  by refine ⟨State.reset, (payload 4 [(0, 1)]), ?_, ?_, ?_, ?_⟩ <;> first | decide +kernel | (constructor <;> decide +kernel)

theorem witness_SnapshotCommandsComplete_13 : ∃ (s : State) (p : List Byte) (b : BaySnap),
      (s.takes 0) ∧
      (p.length = 4) ∧
      (s.sec.exportKey ≠ none) ∧
      (s.baySnap (fieldAt p 0 4) = some b) ∧
      (s.snap.load = none) :=
  by refine ⟨(((State.reset.put (BAY_OWNER.owner_id 63) 9).modSnap fun x => { x with inBays := [⟨1, 63, 1⟩] }).modSec fun x => { x with exportKey := some [1] }), (payload 4 [(0, 1)]), ⟨1, 63, 1⟩, ?_, ?_, ?_, ?_, ?_⟩ <;> first | decide +kernel | (constructor <;> decide +kernel)

theorem witness_SnapshotCommandsComplete_14 : ∃ (s : State) (p : List Byte),
      (s.takes 0) ∧
      (p.length = 4) ∧
      (s.holdsSnap (fieldAt p 0 4) = true) ∧
      (s.exporting (fieldAt p 0 4) = false) ∧
      (s.moving = false) :=
  by refine ⟨(State.reset.modSnap fun x => { x with nv := [⟨1, []⟩] }), (payload 4 [(0, 1)]), ?_, ?_, ?_, ?_, ?_⟩ <;> first | decide +kernel | (constructor <;> decide +kernel)

theorem witness_SnapshotCommandsComplete_15 : ∃ (s : State) (p : List Byte) (b : BaySnap),
      (s.takes 5) ∧
      (p.length = 4) ∧
      (s.baySnap (fieldAt p 0 4) = some b) ∧
      ((s.headerAt b.firstBay).2.moving = false) ∧
      (((s.headerAt b.firstBay).2.snap.policy = 1 → pagesUsed (s.snap.nv.filter fun x => x.id != fieldAt p 0 4) + divUp (compactLength (s.headerAt b.firstBay).1) 4096 ≤ 1024)) :=
  by refine ⟨((State.reset.put (BAY_OWNER.owner_id 63) 9).modSnap fun x => { x with inBays := [⟨1, 63, 1⟩] }), (payload 4 [(0, 1)]), ⟨1, 63, 1⟩, ?_, ?_, ?_, ?_, ?_⟩ <;> first | decide +kernel | (constructor <;> decide +kernel)

/-! Fix types and detectors (R311, R316, R324). -/

def sampleNav (start : Bool) : State := State.reset.modNav fun n => { n with corrEn := 15, rtkTime := some 0, rtkStart := start }
def sampleFix : NavSolution := { sampleSolution with bands := 2, rtk := true, ssr := true, sbas := true, fixed := true, hUnc := some 100 }
theorem test_rtk_restarts_at_float : (sampleNav true).fixType sampleFix (30 * second) = 6 := by decide +kernel
theorem test_old_rtk_falls_to_sbas : (sampleNav false).fixType sampleFix (30 * second + 1) = 3 := by decide +kernel
theorem test_power_needs_3_db : (⟨0, 40, 3000, 1⟩ : PowerSample).suspect ⟨1, 28, 6599, 2⟩ = false := by decide

/-! Witnesses of NavigationCommandsComplete. -/

theorem witness_NavigationCommandsComplete_0 : ∃ (s : State),
      (s.mainLive = true) ∧
      (5 ≤ s.mode) ∧
      (s.frozen = false) :=
  by refine ⟨((State.reset.put SEC_STATE.lifecycle 2).modNav fun n => { n with period := 1 }), ?_, ?_, ?_⟩ <;> decide +kernel

theorem witness_NavigationCommandsComplete_1 : ∃ (s : State) (detector : Fin 8),
      (s.mainLive = true) ∧
      (bit s.nav.detMask detector = true) :=
  by refine ⟨(State.reset.modNav fun x => { x with detMask := 128 }), 7, ?_, ?_⟩ <;> decide +kernel

theorem witness_NavigationCommandsComplete_2 : ∃ (s : State) (entry : Fin 8),
      (s.pwr.asleep = true) ∧
      (s.pwr.powered = false) ∧
      (s.mode = 3) ∧
      ((vget {} s.snap.schedule entry).enable = true) :=
  by refine ⟨(((((((State.reset.modPwr fun x => { x with asleep := true }).modPwr fun x => { x with powered := false }).put PWR_STATUS.mode 3).modPwr fun p => { p with asleep := true, powered := false }).put PWR_STATUS.mode 3)).modSnap fun x => { x with schedule := vmod (fun e => { e with enable := true }) x.schedule 7 }), 7, ?_, ?_, ?_, ?_⟩ <;> decide +kernel

theorem witness_NavigationCommandsComplete_3 : ∃ (s : State),
      (s.mainLive = true) ∧
      (s.pwr.capWake = true) ∧
      (s.captureRun = none) ∧
      (s.captureDue = false) ∧
      (s.snap.commit = none) ∧
      (s.pwr.bootAfter = false) :=
  by refine ⟨((State.reset.modPwr fun x => { x with capWake := true }).modPwr fun x => { x with bootAfter := false }), ?_, ?_, ?_, ?_, ?_, ?_⟩ <;> decide +kernel

theorem witness_NavigationCommandsComplete_4 : ∃ (s : State) (p : List Byte) (fs : List (Nat × List Byte)),
      (s.takes 5) ∧
      (1 ≤ p.length) ∧
      (rtcmFrames p.length p = .frames fs) :=
  by refine ⟨State.reset, [0xD3, 0, 0, 0x47, 0xEA, 0x4B], [(0, [])], ?_, ?_, ?_⟩ <;> first | decide +kernel | (constructor <;> decide +kernel)

theorem witness_NavigationCommandsComplete_5 : ∃ (s : State) (p : List Byte) (fs : List (Nat × List Byte)),
      (s.takes 5) ∧
      (1 ≤ p.length) ∧
      (rtcmFrames p.length p = .frames fs) :=
  by refine ⟨State.reset, [0xD3, 0, 0, 0x47, 0xEA, 0x4B], [(0, [])], ?_, ?_, ?_⟩ <;> first | decide +kernel | (constructor <;> decide +kernel)

/-! Witnesses of LocalClockCommandsComplete. -/

theorem witness_LocalClockCommandsComplete_2 : ∃ (s : State),
      (s.mainLive = true) ∧
      (s.is TIME_STATUS.slewing = true) ∧
      (s.onFab = true) ∧
      (s.net.parts = 0) :=
  by refine ⟨(((State.reset.put TIME_STATUS.slewing 1).put TIME_STATUS.tick_src 0).modNet fun x => { x with parts := 0 }), ?_, ?_, ?_, ?_⟩ <;> decide +kernel

theorem witness_LocalClockCommandsComplete_5 : ∃ (s : State) (p : StepArmed),
      (s.mainLive = true) ∧
      (s.ltu.step = some p) ∧
      (s.onFab = true) ∧
      (s.frozen = false) :=
  by refine ⟨((State.reset.put TIME_STATUS.tick_src 0).modLtu fun u => { u with step := some ⟨0, 1, 0⟩ }), ⟨0, 1, 0⟩, ?_, ?_, ?_, ?_⟩ <;> decide +kernel

theorem witness_LocalClockCommandsComplete_6 : ∃ (s : State) (solution : TimeSolution),
      (s.mainLive = true) ∧
      (s.onFab = true) ∧
      (s.frozen = false) ∧
      (solution.utc = none) :=
  by refine ⟨(State.reset.put TIME_STATUS.tick_src 0), ⟨100, 9, 0, none⟩, ?_, ?_, ?_, ?_⟩ <;> decide +kernel

theorem witness_LocalClockCommandsComplete_7 : ∃ (s : State),
      (s.mainLive = true) ∧
      (s.ltu.gnss = true) :=
  by refine ⟨(State.reset.modLtu fun x => { x with gnss := true }), ?_, ?_⟩ <;> decide +kernel

theorem witness_LocalClockCommandsComplete_8 : ∃ (s : State),
      (s.mainLive = true) ∧
      (s.nav.detMask = 0) ∧
      (s.is TIME_STATUS.spoof_hold = true) :=
  by refine ⟨((State.reset.modNav fun x => { x with detMask := 0 }).put TIME_STATUS.spoof_hold 1), ?_, ?_, ?_⟩ <;> decide +kernel

theorem witness_LocalClockCommandsComplete_9 : ∃ (s : State) (leap : Nat),
      (s.mainLive = true) ∧
      (s.get TIME_UTC.leap = leap) ∧
      (leap ≠ 0) :=
  by refine ⟨((State.reset.put TIME_UTC.leap 3).put TIME_UTC.leap 3), 3, ?_, ?_, ?_⟩ <;> decide +kernel

theorem witness_LocalClockCommandsComplete_10 : ∃ (s : State),
      (s.mainLive = true) ∧
      (s.frozen = false) ∧
      (s.get TIME_STATUS.tick_src ≠ 2) :=
  by refine ⟨(State.reset.put TIME_STATUS.tick_src 0), ?_, ?_, ?_⟩ <;> decide +kernel

theorem witness_LocalClockCommandsComplete_11 : ∃ (s : State),
      (s.mainLive = true) ∧
      (s.frozen = false) ∧
      (s.get TIME_STATUS.tick_src = 2) :=
  by refine ⟨(State.reset.put TIME_STATUS.tick_src 2), ?_, ?_, ?_⟩ <;> decide +kernel

theorem witness_LocalClockCommandsComplete_12 : ∃ (s : State),
      (s.mainLive = true) ∧
      (s.is CLK_STATUS.locked = true) :=
  by refine ⟨(State.reset.put CLK_STATUS.locked 1), ?_, ?_⟩ <;> decide +kernel

theorem witness_LocalClockCommandsComplete_13 : ∃ (s : State),
      (s.mainLive = true) ∧
      (s.get TIME_STATUS.tick_src = 2) ∧
      (s.is CLK_STATUS.ref_present = true) :=
  by refine ⟨((State.reset.put TIME_STATUS.tick_src 2).put CLK_STATUS.ref_present 1), ?_, ?_, ?_⟩ <;> decide +kernel

/-! Witnesses of TriggerAndCaptureCommandsComplete. -/

theorem witness_TriggerAndCaptureCommandsComplete_0 : ∃ (s : State) (trigger : Fin 32),
      (s.mainLive = true) ∧
      (s.is (TRIG_CFG.en trigger) = false) :=
  by refine ⟨(State.reset.put (TRIG_CFG.en 31) 0), 31, ?_, ?_⟩ <;> decide +kernel

theorem witness_TriggerAndCaptureCommandsComplete_1 : ∃ (s : State) (j : Fin 32),
      (s.mainLive = true) ∧
      (s.is (TRIG_CFG.en j) = true) ∧
      (s.frozen = false) ∧
      ((s.trigger j).late = false) ∧
      (s.onFab = true) ∧
      ((s.trigger j).per = 0) ∧
      (((s.advanceTo (s.trigTime j)).trigger j).per = 0) :=
  by refine ⟨((State.reset.put (TRIG_CFG.en 31) 1).put TIME_STATUS.tick_src 0), 31, ?_, ?_, ?_, ?_, ?_, ?_, ?_⟩ <;> decide +kernel

theorem witness_TriggerAndCaptureCommandsComplete_2 : ∃ (s : State) (j : Fin 32),
      (s.mainLive = true) ∧
      (s.is (TRIG_CFG.en j) = true) ∧
      (s.frozen = false) ∧
      ((s.trigger j).late = false) ∧
      (s.onFab = true) ∧
      (((s.advanceTo (s.trigTime j)).trigger j).per ≠ 0) :=
  by refine ⟨(((((State.reset.put (TRIG_CFG.en 31) 1).put TIME_STATUS.tick_src 0).put (TRIG_CFG.en 31) 1).put TIME_STATUS.tick_src 0).modTrig 31 fun x => { x with per := 2000 }), 31, ?_, ?_, ?_, ?_, ?_, ?_⟩ <;> decide +kernel

theorem witness_TriggerAndCaptureCommandsComplete_3 : ∃ (s : State) (j : Fin 32),
      (s.mainLive = true) ∧
      ((s.trigger j).active = true) :=
  by refine ⟨(State.reset.modTrig 31 fun x => { x with active := true }), 31, ?_, ?_⟩ <;> decide +kernel

theorem witness_TriggerAndCaptureCommandsComplete_4 : ∃ (s : State) (i : Fin 16) (rising : Bool),
      (s.mainLive = true) ∧
      (s.is (CAP_CFG.en i) = true) ∧
      (s.frozen = false) ∧
      (s.get (CAP_CFG.src i) < 0x15) ∧
      (s.capSelects i rising = true) :=
  by refine ⟨(State.reset.put (CAP_CFG.en 15) 1), 15, true, ?_, ?_, ?_, ?_, ?_⟩ <;> decide +kernel

theorem witness_TriggerAndCaptureCommandsComplete_7 : ∃ (s : State) (k : Fin 4),
      (s.mainLive = true) ∧
      (s.is (TP_CFG.en k) = true) ∧
      (s.frozen = false) :=
  by refine ⟨(State.reset.put (TP_CFG.en 3) 1), 3, ?_, ?_, ?_⟩ <;> decide +kernel

theorem witness_TriggerAndCaptureCommandsComplete_8 : ∃ (s : State) (k : Fin 4) (r : TpRecord) (l : List TpRecord),
      (s.mainLive = true) ∧
      ((s.pulse k).shown = r :: l) ∧
      ((s.pulse k).high = false) ∧
      (s.onFab = true) :=
  by refine ⟨((State.reset.put TIME_STATUS.tick_src 0).modPulse 3 fun x => { x with shown := [⟨0, 0, 0, 0, 0, 0, 0⟩], high := false }), 3, ⟨0, 0, 0, 0, 0, 0, 0⟩, [], ?_, ?_, ?_, ?_⟩ <;> decide +kernel

theorem witness_TriggerAndCaptureCommandsComplete_9 : ∃ (s : State) (k : Fin 4) (r : TpRecord) (l : List TpRecord),
      (s.mainLive = true) ∧
      ((s.pulse k).shown = r :: l) ∧
      ((s.pulse k).high = true) ∧
      (s.onFab = true) :=
  by refine ⟨((State.reset.put TIME_STATUS.tick_src 0).modPulse 3 fun x => { x with shown := [⟨0, 0, 0, 0, 0, 0, 0⟩], high := true }), 3, ⟨0, 0, 0, 0, 0, 0, 0⟩, [], ?_, ?_, ?_, ?_⟩ <;> decide +kernel

/-! Witnesses of RtcAlarmFires. -/

theorem witness_RtcAlarmFires_0 : ∃ (s : State) (rtc : BitVec 48),
      ((if s.pwr.aon then s.rtcTo rtc.toNat else s).is TIME_RTC_ALARM_HI.en = true) ∧
      (s.get TIME_RTC_ALARM_LO.alarm_lo + s.get TIME_RTC_ALARM_HI.alarm_hi * 2 ^ 32 ≤ (if s.pwr.aon then s.rtcTo rtc.toNat else s).rtcCount) :=
  by refine ⟨(State.reset.put TIME_RTC_ALARM_HI.en 1), 1, ?_, ?_⟩ <;> decide +kernel

/-! Witnesses of TimeRequestsComplete. -/

theorem witness_TimeRequestsComplete_0 : ∃ (s : State) (p : List Byte),
      (s.takes 0) ∧
      (p.length = 0) :=
  by refine ⟨State.reset, (payload 0 []), ?_, ?_⟩ <;> first | decide +kernel | (constructor <;> decide +kernel)

theorem witness_TimeRequestsComplete_1 : ∃ (s : State) (p : List Byte),
      (s.takes 0) ∧
      (p.length = 12) ∧
      (byteAt p 5 < 4) ∧
      (fieldAt p 10 2 = 0) :=
  by refine ⟨State.reset, (payload 12 [(5, 3)]), ?_, ?_, ?_, ?_⟩ <;> first | decide +kernel | (constructor <;> decide +kernel)

theorem witness_TimeRequestsComplete_2 : ∃ (s : State) (p : List Byte),
      (s.takes 0) ∧
      (p.length = 8) ∧
      (byteAt p 2 < 3) ∧
      (fieldAt p 3 1 = 0) ∧
      ((byteAt p 2 = 0 ∨ (fieldAt p 4 2 ≤ 8191 ∧ s.utcMonth (sfieldAt p 0 2) ≤ fieldAt p 4 2))) ∧
      (fieldAt p 6 2 = 0) :=
  by refine ⟨State.reset, (payload 8 [(2, 2)]), ?_, ?_, ?_, ?_, ?_, ?_⟩ <;> first | decide +kernel | (constructor <;> decide +kernel)

theorem witness_TimeRequestsComplete_3 : ∃ (s : State) (p : List Byte),
      (s.takes 4) ∧
      (p.length = 28) ∧
      (byteAt p 0 < 24) ∧
      (byteAt p 1 < 32) ∧
      (fieldAt p 12 4 < 1000000000) ∧
      (okPeriod (fieldAt p 20 8) = true) ∧
      (s.trigServes (byteAt p 0) = false) :=
  by refine ⟨State.reset, (payload 28 [(0, 23), (1, 31)]), ?_, ?_, ?_, ?_, ?_, ?_, ?_⟩ <;> first | decide +kernel | (constructor <;> decide +kernel)

theorem witness_TimeRequestsComplete_4 : ∃ (s : State) (p : List Byte),
      (s.takes 4) ∧
      (p.length = 4) ∧
      (byteAt p 0 < 24) ∧
      (fieldAt p 1 3 = 0) ∧
      (s.trigServes (byteAt p 0) = false) :=
  by refine ⟨State.reset, (payload 4 [(0, 23)]), ?_, ?_, ?_, ?_, ?_⟩ <;> first | decide +kernel | (constructor <;> decide +kernel)

theorem witness_TimeRequestsComplete_5 : ∃ (s : State) (p : List Byte),
      (s.takes 4) ∧
      (p.length = 36) ∧
      (byteAt p 0 < 16) ∧
      (byteAt p 1 < 0x15) ∧
      (byteAt p 2 < 4) ∧
      (byteAt p 3 < 16) ∧
      (fieldAt p 12 4 < 1000000000) ∧
      (fieldAt p 28 4 < 1000000000) :=
  by refine ⟨State.reset, (payload 36 [(0, 15), (1, 20), (2, 3), (3, 15)]), ?_, ?_, ?_, ?_, ?_, ?_, ?_, ?_⟩ <;> first | decide +kernel | (constructor <;> decide +kernel)

theorem witness_TimeRequestsComplete_6 : ∃ (s : State) (p : List Byte),
      (s.takes 4) ∧
      (p.length = 4) ∧
      (byteAt p 0 < 16) ∧
      (fieldAt p 1 3 = 0) :=
  by refine ⟨State.reset, (payload 4 [(0, 15)]), ?_, ?_, ?_, ?_⟩ <;> first | decide +kernel | (constructor <;> decide +kernel)

theorem witness_TimeRequestsComplete_7 : ∃ (s : State) (p : List Byte),
      (s.takes 4) ∧
      (p.length = 36) ∧
      (byteAt p 0 < 4) ∧
      (byteAt p 1 < 128) ∧
      (fieldAt p 2 2 = 0) ∧
      (fieldAt p 17 3 = 0) :=
  by refine ⟨State.reset, (payload 36 [(0, 3), (1, 127)]), ?_, ?_, ?_, ?_, ?_, ?_⟩ <;> first | decide +kernel | (constructor <;> decide +kernel)

/-! Witnesses of NetworkPortCommandsComplete. -/

theorem witness_NetworkPortCommandsComplete_0 : ∃ (s : State),
      (s.mainLive = true) ∧
      (s.netRuns = true) :=
  by refine ⟨(((State.reset.put NET_CTRL.enable 1).put NET_STATUS.link 1).put CLK_STATUS.locked 1), ?_, ?_⟩ <;> decide +kernel

theorem witness_NetworkPortCommandsComplete_1 : ∃ (s : State) (mbit : Fin 3),
      (s.mainLive = true) ∧
      (mbit ≠ 0) ∧
      (s.mode ≠ 4) ∧
      (s.is NET_STATUS.link = false) :=
  by refine ⟨(State.reset.put NET_STATUS.link 0), 2, ?_, ?_, ?_, ?_⟩ <;> decide +kernel

theorem witness_NetworkPortCommandsComplete_2 : ∃ (s : State),
      (s.mainLive = true) ∧
      (s.mode ≠ 4) ∧
      (s.is NET_STATUS.link = true) :=
  by refine ⟨(State.reset.put NET_STATUS.link 1), ?_, ?_, ?_⟩ <;> decide +kernel

theorem witness_NetworkPortCommandsComplete_4 : ∃ (s : State) (msg : Announce) (k : Nat),
      (s.mainLive = true) ∧
      (s.netRuns = true) ∧
      (msg.domain.toNat = s.netDomain) ∧
      (firstThat (fun k => match vget none s.net.masters k with
      | some m => m.identity == msg.identity.toNat && m.port == msg.port.toNat
      | none => false) (List.range 8) = none) ∧
      (firstThat (fun k => (vget none s.net.masters k).isNone) (List.range 8) = some k) :=
  by refine ⟨((((((State.reset.put NET_CTRL.enable 1).put NET_STATUS.link 1).put TIME_STATUS.tick_src 0).put NET_STATUS.port_state 9).put NET_CTRL.profile 0).modNet fun n => { n with sel := none }), ⟨1, 1, 0, 6, 0, 0, 0, 0, 1, 0, 37, true, false, false⟩, 0, ?_, ?_, ?_, ?_, ?_⟩ <;> decide +kernel

theorem witness_NetworkPortCommandsComplete_5 : ∃ (s : State) (msg : Announce),
      (s.mainLive = true) ∧
      (s.netRuns = true) ∧
      (msg.domain.toNat = s.netDomain) ∧
      (firstThat (fun k => match vget none s.net.masters k with
      | some m => m.identity == msg.identity.toNat && m.port == msg.port.toNat
      | none => false) (List.range 8) = none) ∧
      (firstThat (fun k => (vget none s.net.masters k).isNone) (List.range 8) = none) :=
  by refine ⟨((((((State.reset.put NET_CTRL.enable 1).put NET_STATUS.link 1).put TIME_STATUS.tick_src 0).put NET_STATUS.port_state 9).put NET_CTRL.profile 0).modNet fun n => { n with masters := Vector.replicate 8 (some { sampleMaster with identity := 2 }) }), ⟨1, 1, 0, 6, 0, 0, 0, 0, 1, 0, 37, true, false, false⟩, ?_, ?_, ?_, ?_, ?_⟩ <;> decide +kernel

theorem witness_NetworkPortCommandsComplete_6 : ∃ (s : State) (entry : Fin 8) (m : Master),
      (s.mainLive = true) ∧
      (s.netRuns = true) ∧
      (vget none s.net.masters entry = some m) :=
  by refine ⟨((((((State.reset.put NET_CTRL.enable 1).put NET_STATUS.link 1).put TIME_STATUS.tick_src 0).put NET_STATUS.port_state 9).put NET_CTRL.profile 0).modNet fun n => { n with masters := vmod (fun _ => some sampleMaster) n.masters 7, sel := some 7 }), 7, sampleMaster, ?_, ?_, ?_⟩ <;> decide +kernel

theorem witness_NetworkPortCommandsComplete_7 : ∃ (s : State) (msg : EventMsg),
      (s.mainLive = true) ∧
      (s.netRuns = true) ∧
      (msg.domain.toNat = s.netDomain) ∧
      (s.fromMaster msg.identity.toNat = true) ∧
      (s.onFab = true) :=
  by refine ⟨((((((State.reset.put NET_CTRL.enable 1).put NET_STATUS.link 1).put TIME_STATUS.tick_src 0).put NET_STATUS.port_state 9).put NET_CTRL.profile 0).modNet fun n => { n with masters := vmod (fun _ => some sampleMaster) n.masters 7, sel := some 7 }), ⟨1, 0, 0, 0, 0, false, 0⟩, ?_, ?_, ?_, ?_, ?_⟩ <;> decide +kernel

theorem witness_NetworkPortCommandsComplete_8 : ∃ (s : State) (msg : GeneralMsg) (t2 : Nat) (x : Int),
      (s.mainLive = true) ∧
      (s.netRuns = true) ∧
      (msg.domain.toNat = s.netDomain) ∧
      (s.net.sync = some (msg.identity.toNat, msg.seq.toNat, t2, x)) ∧
      (s.fromMaster msg.identity.toNat = true) :=
  by refine ⟨((((((State.reset.put NET_CTRL.enable 1).put NET_STATUS.link 1).put TIME_STATUS.tick_src 0).put NET_STATUS.port_state 9).put NET_CTRL.profile 0).modNet fun n => { n with masters := vmod (fun _ => some sampleMaster) n.masters 7, sel := some 7, sync := some (1, 0, 0, 0) }), ⟨1, 0, 0, 0, 0⟩, 0, 0, ?_, ?_, ?_, ?_, ?_⟩ <;> decide +kernel

theorem witness_NetworkPortCommandsComplete_9 : ∃ (s : State) (msg : EventMsg),
      (s.mainLive = true) ∧
      (s.netRuns = true) ∧
      (msg.domain.toNat = s.netDomain) ∧
      (s.isMaster = true) ∧
      (s.gptp = false) ∧
      (s.onFab = true) :=
  by refine ⟨((((((State.reset.put NET_CTRL.enable 1).put NET_STATUS.link 1).put TIME_STATUS.tick_src 0).put NET_STATUS.port_state 6).put NET_CTRL.profile 0).modNet fun n => { n with sel := none }), ⟨1, 0, 0, 0, 0, false, 0⟩, ?_, ?_, ?_, ?_, ?_, ?_⟩ <;> decide +kernel

theorem witness_NetworkPortCommandsComplete_10 : ∃ (s : State) (msg : GeneralMsg) (t3 : Nat),
      (s.mainLive = true) ∧
      (s.netRuns = true) ∧
      (msg.domain.toNat = s.netDomain) ∧
      (s.net.delayReq = some t3) ∧
      (s.fromMaster msg.identity.toNat = true) ∧
      ((msg.seq.toNat + 1) % 65536 = s.net.seqReq) ∧
      (s.gptp = false) :=
  by refine ⟨((((((State.reset.put NET_CTRL.enable 1).put NET_STATUS.link 1).put TIME_STATUS.tick_src 0).put NET_STATUS.port_state 9).put NET_CTRL.profile 0).modNet fun n => { n with masters := vmod (fun _ => some sampleMaster) n.masters 7, sel := some 7, delayReq := some 0, seqReq := 1 }), ⟨1, 0, 0, 0, 0⟩, 0, ?_, ?_, ?_, ?_, ?_, ?_, ?_⟩ <;> decide +kernel

theorem witness_NetworkPortCommandsComplete_11 : ∃ (s : State) (msg : EventMsg),
      (s.mainLive = true) ∧
      (s.netSends = true) ∧
      (s.gptp = true) ∧
      (msg.domain.toNat = s.netDomain) :=
  by refine ⟨((((((State.reset.put NET_CTRL.enable 1).put NET_STATUS.link 1).put TIME_STATUS.tick_src 0).put NET_STATUS.port_state 6).put NET_CTRL.profile 1).modNet fun n => { n with sel := none }), ⟨1, 0, 0, 0, 0, false, 0⟩, ?_, ?_, ?_, ?_⟩ <;> decide +kernel

theorem witness_NetworkPortCommandsComplete_12 : ∃ (s : State) (msg : EventMsg) (t1 : Nat),
      (s.mainLive = true) ∧
      (s.netRuns = true) ∧
      (msg.domain.toNat = s.netDomain) ∧
      (s.gptp = true) ∧
      (s.net.pdReq = some t1) ∧
      (s.onFab = true) ∧
      ((msg.seq.toNat + 1) % 65536 = s.net.seqPd) :=
  by refine ⟨((((((State.reset.put NET_CTRL.enable 1).put NET_STATUS.link 1).put TIME_STATUS.tick_src 0).put NET_STATUS.port_state 9).put NET_CTRL.profile 1).modNet fun n => { n with pdReq := some 0, seqPd := 1 }), ⟨1, 0, 0, 0, 0, false, 0⟩, 0, ?_, ?_, ?_, ?_, ?_, ?_, ?_⟩ <;> decide +kernel

theorem witness_NetworkPortCommandsComplete_13 : ∃ (s : State) (msg : GeneralMsg) (t1 : Nat) (t2 : Int) (t4 : Int),
      (s.mainLive = true) ∧
      (s.netRuns = true) ∧
      (msg.domain.toNat = s.netDomain) ∧
      (s.gptp = true) ∧
      (s.net.pdReq = some t1) ∧
      (s.net.pdResp = some (t2, t4)) ∧
      ((msg.seq.toNat + 1) % 65536 = s.net.seqPd) :=
  by refine ⟨((((((State.reset.put NET_CTRL.enable 1).put NET_STATUS.link 1).put TIME_STATUS.tick_src 0).put NET_STATUS.port_state 9).put NET_CTRL.profile 1).modNet fun n => { n with pdReq := some 0, pdResp := some (0, 0), seqPd := 1 }), ⟨1, 0, 0, 0, 0⟩, 0, 0, 0, ?_, ?_, ?_, ?_, ?_, ?_, ?_⟩ <;> decide +kernel

theorem witness_NetworkPortCommandsComplete_14 : ∃ (s : State),
      (s.mainLive = true) ∧
      (s.netSends = true) ∧
      (s.isMaster = true) :=
  by refine ⟨((((((State.reset.put NET_CTRL.enable 1).put NET_STATUS.link 1).put TIME_STATUS.tick_src 0).put NET_STATUS.port_state 6).put NET_CTRL.profile 0).modNet fun n => { n with sel := none }), ?_, ?_, ?_⟩ <;> decide +kernel

theorem witness_NetworkPortCommandsComplete_15 : ∃ (s : State),
      (s.mainLive = true) ∧
      (s.netSends = true) ∧
      (s.isMaster = true) :=
  by refine ⟨((((((State.reset.put NET_CTRL.enable 1).put NET_STATUS.link 1).put TIME_STATUS.tick_src 0).put NET_STATUS.port_state 6).put NET_CTRL.profile 0).modNet fun n => { n with sel := none }), ?_, ?_, ?_⟩ <;> decide +kernel

theorem witness_NetworkPortCommandsComplete_16 : ∃ (s : State),
      (s.mainLive = true) ∧
      (s.netSends = true) ∧
      (s.isSlave = true) ∧
      (s.gptp = false) :=
  by refine ⟨((((((State.reset.put NET_CTRL.enable 1).put NET_STATUS.link 1).put TIME_STATUS.tick_src 0).put NET_STATUS.port_state 9).put NET_CTRL.profile 0).modNet fun n => { n with sel := none }), ?_, ?_, ?_, ?_⟩ <;> decide +kernel

theorem witness_NetworkPortCommandsComplete_17 : ∃ (s : State),
      (s.mainLive = true) ∧
      (s.netSends = true) ∧
      (s.gptp = true) :=
  by refine ⟨(((((State.reset.put NET_CTRL.enable 1).put NET_STATUS.link 1).put CLK_STATUS.locked 1).put TIME_STATUS.tick_src 0).put NET_CTRL.profile 1), ?_, ?_, ?_⟩ <;> decide +kernel

theorem witness_NetworkPortCommandsComplete_18 : ∃ (s : State),
      (s.mainLive = true) ∧
      (s.is NET_STATUS.qualified = true) ∧
      (s.netRuns = true) :=
  by refine ⟨((((State.reset.put NET_STATUS.qualified 1).put NET_CTRL.enable 1).put NET_STATUS.link 1).put CLK_STATUS.locked 1), ?_, ?_, ?_⟩ <;> decide +kernel

theorem witness_NetworkPortCommandsComplete_19 : ∃ (s : State),
      (s.mainLive = true) ∧
      ((if s.net.parts ≠ 0 ∧ s.onFab = true then s.passMarkers s.partMarkers else s).net.parts ≠ 0) ∧
      (mag ((if s.net.parts ≠ 0 ∧ s.onFab = true then s.passMarkers s.partMarkers else s).getInt TIME_SLEW.offset) < 4194304 * 256) :=
  by refine ⟨(State.reset.modNet fun n => { n with parts := 1 }), ?_, ?_, ?_⟩ <;> decide +kernel

/-! Witnesses of NetworkRequestsComplete. -/

theorem witness_NetworkRequestsComplete_0 : ∃ (s : State) (p : List Byte),
      (s.takes 5) ∧
      (p.length = 16) ∧
      (byteAt p 0 < 128) ∧
      (byteAt p 0 / 2 % 4 < 3) ∧
      (byteAt p 1 < 128) ∧
      (-5 ≤ sfieldAt p 2 1) ∧
      (sfieldAt p 2 1 ≤ 1) ∧
      (byteAt p 3 ≤ 4) ∧
      (-5 ≤ sfieldAt p 4 1) ∧
      (sfieldAt p 4 1 ≤ 5) ∧
      (2 ≤ byteAt p 5) ∧
      (byteAt p 5 ≤ 10) ∧
      (2 ≤ byteAt p 6) ∧
      (byteAt p 6 ≤ 15) ∧
      (fieldAt p 9 1 = 0) :=
  by refine ⟨State.reset, (payload 16 [(0, 4), (1, 127), (2, 1), (3, 4), (4, 5), (5, 10), (6, 15), (10, 1)]), ?_, ?_, ?_, ?_, ?_, ?_, ?_, ?_, ?_, ?_, ?_, ?_, ?_, ?_, ?_⟩ <;> first | decide +kernel | (constructor <;> decide +kernel)

theorem witness_NetworkRequestsComplete_1 : ∃ (s : State) (p : List Byte),
      (s.takes 0) ∧
      (p.length = 8) :=
  by refine ⟨State.reset, (payload 8 []), ?_, ?_⟩ <;> first | decide +kernel | (constructor <;> decide +kernel)

theorem witness_NetworkRequestsComplete_2 : ∃ (s : State) (p : List Byte),
      (s.takes 0) ∧
      (p.length = 8) ∧
      (byteAt p 4 < 4) ∧
      (fieldAt p 5 3 = 0) ∧
      ((bit (byteAt p 4) 0 = true → s.is NET_STATUS.meas_valid = true)) :=
  by refine ⟨(State.reset.put NET_STATUS.meas_valid 1), (payload 8 [(4, 3)]), ?_, ?_, ?_, ?_, ?_⟩ <;> first | decide +kernel | (constructor <;> decide +kernel)

theorem witness_NetworkRequestsComplete_3 : ∃ (s : State) (p : List Byte),
      (s.takes 5) ∧
      (p.length = 0) :=
  by refine ⟨State.reset, (payload 0 []), ?_, ?_⟩ <;> first | decide +kernel | (constructor <;> decide +kernel)

theorem witness_NetworkRequestsComplete_4 : ∃ (s : State) (p : List Byte),
      (s.takes 0) ∧
      (p.length = 0) :=
  by refine ⟨State.reset, (payload 0 []), ?_, ?_⟩ <;> first | decide +kernel | (constructor <;> decide +kernel)

/-! Witnesses of RadioCommandsComplete. -/

theorem witness_RadioCommandsComplete_0 : ∃ (s : State) (ch : Nat),
      (s.mainLive = true) ∧
      (s.nextChannel = some ch) ∧
      (s.radioOn = true) ∧
      (s.uwb.live = none) ∧
      (s.radioState < 3) :=
  by refine ⟨((State.reset.put UWB_CTRL.enable 1).modUwb fun u => { u with acts := [sampleAct] }), 5, ?_, ?_, ?_, ?_, ?_⟩ <;> decide +kernel

theorem witness_RadioCommandsComplete_1 : ∃ (s : State) (temp : BitVec 8),
      (s.mainLive = true) ∧
      (s.frozen = false) ∧
      (s.calibrated s.radioChannel = true) ∧
      (s.is UWB_STATUS.cal_due = false) ∧
      (s.get UWB_CTRL.cal_temp ≤ mag (temp.toInt - vget 0 s.uwb.calTemp (chanIdx s.radioChannel))) :=
  by refine ⟨((State.reset.put UWB_STATUS.cal_due 0).put UWB_STATUS.cal_ch5 1), 127, ?_, ?_, ?_, ?_, ?_⟩ <;> decide +kernel

theorem witness_RadioCommandsComplete_2 : ∃ (s : State) (ch : Nat),
      (s.mainLive = true) ∧
      (s.radioOn = true) ∧
      (s.uwb.live = none) ∧
      (s.radioState < 3) ∧
      (s.uwb.calAsk = some ch) :=
  by refine ⟨(((State.reset.modUwb fun x => { x with calAsk := some 9 }).put UWB_CTRL.enable 1).modUwb fun u => { u with calAsk := some 9 }), 9, ?_, ?_, ?_, ?_, ?_⟩ <;> decide +kernel

theorem witness_RadioCommandsComplete_3 : ∃ (s : State),
      (s.mainLive = true) ∧
      (s.radioOn = true) ∧
      (s.uwb.live = none) ∧
      (s.radioState < 3) ∧
      (s.uwb.calAsk = none) ∧
      (s.is UWB_STATUS.cal_due = true) ∧
      (s.radioState ≠ 0) ∧
      ((s.uwb.acts.any fun a => decide (s.commitOf a < s.ltu.now + 150 * microsecond)) = false) :=
  by refine ⟨(((((State.reset.put UWB_STATUS.cal_due 1).put UWB_CTRL.enable 1).modUwb fun u => { u with calAsk := none }).put UWB_STATUS.cal_due 1).put UWB_STATUS.state 1), ?_, ?_, ?_, ?_, ?_, ?_, ?_, ?_⟩ <;> decide +kernel

theorem witness_RadioCommandsComplete_4 : ∃ (s : State) (temp : BitVec 8) (c : RadioCal) (u : State),
      (s.mainLive = true) ∧
      (s.uwb.cal = some c) ∧
      (u = ((((s.flag (if c.channel = 9 then UWB_STATUS.cal_ch9 else UWB_STATUS.cal_ch5)).flag CLKB_STATUS.cal_done).put UWB_STATUS.cal_due 0).flag UWB_EVENT.cal_done).modUwb (fun u => { u with
      cal := none, calReqs := [], calTemp := vmod (fun _ => temp.toInt) u.calTemp (chanIdx c.channel) })) :=
  by refine ⟨(((State.reset.modUwb fun x => { x with cal := some ⟨9, 1⟩ }).put UWB_CTRL.enable 1).modUwb fun u => { u with cal := some ⟨9, 1⟩ }), 0, ⟨9, 1⟩, _, ?_, ?_, rfl⟩ <;> decide +kernel

theorem witness_RadioCommandsComplete_5 : ∃ (s : State) (a : RadioAct),
      (s.mainLive = true) ∧
      (s.nextAct = some a) ∧
      (s.uwb.live = none) ∧
      (s.frozen = false) ∧
      (a.time.isSome = true) ∧
      (a.slot = none) ∧
      (((s.advanceTo (s.commitOf a)).modUwb (fun u => { u with acts := u.acts.erase a })).commitBar a = none) :=
  by refine ⟨(((((((State.reset.put UWB_CTRL.enable 1).put CLK_STATUS.locked 1).put TIME_STATUS.tick_src 0).put CLKB_STATUS.locked 1).put CLKB_STATUS.active_channel 0).put UWB_STATUS.state 2).modUwb fun u => { u with acts := [sampleAct2] }), sampleAct2, ?_, ?_, ?_, ?_, ?_, ?_, ?_⟩ <;> decide +kernel

theorem witness_RadioCommandsComplete_6 : ∃ (s : State) (l : RadioLive),
      (s.mainLive = true) ∧
      (s.uwb.live = some l) ∧
      (l.act.tx = true) ∧
      (l.act.slot = none) :=
  by refine ⟨(((State.reset.modUwb fun x => { x with live := some sampleLive }).put UWB_CTRL.enable 1).modUwb fun u => { u with live := some sampleLive }), sampleLive, ?_, ?_, ?_, ?_⟩ <;> decide +kernel

theorem witness_RadioCommandsComplete_8 : ∃ (s : State) (l : RadioLive) (c : Time),
      (s.mainLive = true) ∧
      (s.uwb.live = some l) ∧
      (l.act.tx = false) ∧
      (l.act.close = some c) ∧
      (l.act.listen = false) ∧
      (l.act.slot = none) :=
  by refine ⟨(((State.reset.modUwb fun x => { x with live := some { sampleLive with act := { sampleAct with tx := false, close := some 1000 } } }).put UWB_CTRL.enable 1).modUwb fun u => { u with live := some { sampleLive with act := { sampleAct with tx := false, close := some 1000 } } }), { sampleLive with act := { sampleAct with tx := false, close := some 1000 } }, 1000, ?_, ?_, ?_, ?_, ?_, ?_⟩ <;> decide +kernel

theorem witness_RadioCommandsComplete_9 : ∃ (s : State) (a : RadioAct) (f : RadioFrame) (rest : List (RadioAct × RadioFrame)),
      (s.mainLive = true) ∧
      (s.uwb.heard = (a, f) :: rest) ∧
      (a.phy.stsCfg = 0) ∧
      (a.listen = false) ∧
      (a.slot = none) :=
  by refine ⟨(((State.reset.modUwb fun x => { x with heard := (sampleAct, ⟨⟨0, 0, 0⟩, true, false, 0, []⟩) :: [] }).put UWB_CTRL.enable 1).modUwb fun u => { u with heard := [(sampleAct, ⟨⟨0, 0, 0⟩, true, false, 0, []⟩)] }), sampleAct, ⟨⟨0, 0, 0⟩, true, false, 0, []⟩, [], ?_, ?_, ?_, ?_, ?_⟩ <;> decide +kernel

theorem witness_RadioCommandsComplete_10 : ∃ (s : State) (handle : Fin 16) (x : Session) (r : Round),
      (s.mainLive = true) ∧
      (s.session handle = some x) ∧
      (x.round = some r) ∧
      (s.roundBusy handle = false) ∧
      (s.frozen = false) ∧
      ((r.status ≠ 0 ∨ x.remoteSrc = true ∨ r.remote.isSome = true ∨ x.deletion.isSome = true)) :=
  by refine ⟨((State.reset.put UWB_CTRL.enable 1).modUwb fun u => { u with sessions := [{ sampleSession with handle := 15, round := some { r := 0, status := 1 } }] }), 15, { sampleSession with handle := 15, round := some { r := 0, status := 1 } }, { r := 0, status := 1 }, ?_, ?_, ?_, ?_, ?_, ?_⟩ <;> decide +kernel

theorem witness_RadioCommandsComplete_11 : ∃ (s : State) (handle : Fin 16) (x : Session) (r : Round) (rest : List Round),
      (s.mainLive = true) ∧
      (s.session handle = some x) ∧
      (x.waiting = r :: rest) :=
  by refine ⟨((State.reset.put UWB_CTRL.enable 1).modUwb fun u => { u with sessions := [{ sampleSession with handle := 15, waiting := [{ r := 0 }] }] }), 15, { sampleSession with handle := 15, waiting := [{ r := 0 }] }, { r := 0 }, [], ?_, ?_, ?_⟩ <;> decide +kernel

theorem witness_RadioCommandsComplete_12 : ∃ (s : State) (l : Listen) (t : State),
      (s.mainLive = true) ∧
      (s.uwb.listen = some l) ∧
      (s.radioOn = true) ∧
      (s.mode = 4) ∧
      (s.uwb.live = none) ∧
      (s.radioState ≠ 5) ∧
      (s.radioClock = true) ∧
      (s.bLockedOn (chanIdx l.channel) = true) ∧
      (t = (match s.uwb.nextWindow with
      | some t => s.advanceTo (gridFrom t (l.period * 1000 * microsecond) s.ltu.now)
      | none => s)) :=
  by refine ⟨((((((((State.reset.modUwb fun x => { x with listen := some ⟨5, 9, 0, 1000, 1000000, [], []⟩ }).put PWR_STATUS.mode 4).put UWB_CTRL.enable 1).modUwb fun u => { u with listen := some ⟨5, 9, 0, 1000, 1000000, [], []⟩ }).put PWR_STATUS.mode 4).put CLK_STATUS.locked 1).put TIME_STATUS.tick_src 0).put CLKB_STATUS.locked 1), ⟨5, 9, 0, 1000, 1000000, [], []⟩, _, ?_, ?_, ?_, ?_, ?_, ?_, ?_, ?_, rfl⟩ <;> decide +kernel

theorem witness_RadioCommandsComplete_13 : ∃ (s : State) (a : RadioAct),
      (s.mainLive = true) ∧
      (s.nextAct = some a) ∧
      (s.is UWB_COEX_CFG.en = true) ∧
      (s.frozen = false) :=
  by refine ⟨((((State.reset.put UWB_COEX_CFG.en 1).put UWB_CTRL.enable 1).modUwb fun u => { u with acts := [sampleAct] }).put UWB_COEX_CFG.en 1), sampleAct, ?_, ?_, ?_, ?_⟩ <;> decide +kernel

theorem witness_RadioCommandsComplete_14 : ∃ (s : State) (level : Bool),
      (s.mainLive = true) ∧
      (((s.modUwb fun u => { u with gntPin := level }).showGnt).uwb.live = none) :=
  by refine ⟨State.reset, true, ?_, ?_⟩ <;> decide +kernel

/-! Witnesses of RadioRequestsComplete. -/

theorem witness_RadioRequestsComplete_0 : ∃ (s : State) (p : List Byte),
      (s.takes 4) ∧
      (p.length = 8) ∧
      (byteAt p 0 ≤ 1) ∧
      (fieldAt p 5 3 = 0) :=
  by refine ⟨State.reset, (payload 8 [(0, 1)]), ?_, ?_, ?_, ?_⟩ <;> first | decide +kernel | (constructor <;> decide +kernel)

theorem witness_RadioRequestsComplete_1 : ∃ (s : State) (p : List Byte),
      (s.takes 5) ∧
      (p.length = 4) ∧
      (among (byteAt p 0) [5, 9] = true) ∧
      (fieldAt p 1 3 = 0) :=
  by refine ⟨State.reset, (payload 4 [(0, 9)]), ?_, ?_, ?_, ?_⟩ <;> first | decide +kernel | (constructor <;> decide +kernel)

theorem witness_RadioRequestsComplete_2 : ∃ (s : State) (p : List Byte),
      (s.takes 5) ∧
      (8 ≤ p.length) ∧
      (byteAt p 0 ≤ 3) ∧
      (fieldAt p 1 1 = 0) ∧
      (fieldAt p 2 2 ≤ 998) ∧
      (fieldAt p 4 2 + (p.length - 8) ≤ fieldAt p 2 2) ∧
      (fieldAt p 6 2 = 0) :=
  by refine ⟨State.reset, (payload 8 [(0, 3)]), ?_, ?_, ?_, ?_, ?_, ?_, ?_⟩ <;> first | decide +kernel | (constructor <;> decide +kernel)

theorem witness_RadioRequestsComplete_3 : ∃ (s : State) (p : List Byte),
      (s.takes 5) ∧
      (44 ≤ p.length) ∧
      (p.length = (if bit (byteAt p 23) 1 then 44 else 44 + fieldAt p 40 2)) ∧
      (okPhy p 8 = none) ∧
      (s.okSession p (phyAt p 8).stsCfg = none) ∧
      (okRet p 22 = none) ∧
      (bit (byteAt p 23) 0 = true) ∧
      (((phyAt p 8).fits (fieldAt p 40 2) && (!bit (byteAt p 23) 1 || decide (fieldAt p 40 2 ≤ (vget [] s.uwb.buffers (bits (byteAt p 23) 2 2)).length)) && (bit (byteAt p 23) 1 || decide (fieldAt p 40 2 ≤ 960))) = true) ∧
      (fieldAt p 42 2 = 0) ∧
      (s.barred (phyAt p 8).channel = false) :=
  by refine ⟨((State.reset.put SEC_STATE.lifecycle 1).modUwb fun u => { u with store := vmod (fun _ => sampleStore) u.store 0 }), (payload 44 [(0, 0xFF), (1, 0xFF), (2, 0xFF), (3, 0xFF), (8, 5), (10, 9), (12, 64), (15, 2), (23, 1)]), ?_, ?_, ?_, ?_, ?_, ?_, ?_, ?_, ?_, ?_⟩ <;> first | decide +kernel | (constructor <;> decide +kernel)

theorem witness_RadioRequestsComplete_4 : ∃ (s : State) (p : List Byte),
      (s.takes 5) ∧
      (44 ≤ p.length) ∧
      (p.length = (if bit (byteAt p 23) 1 then 44 else 44 + fieldAt p 40 2)) ∧
      (okPhy p 8 = none) ∧
      (s.okSession p (phyAt p 8).stsCfg = none) ∧
      (okRet p 22 = none) ∧
      (bit (byteAt p 23) 0 = false) ∧
      (fieldAt p 32 4 < 1000000000) ∧
      (((phyAt p 8).fits (fieldAt p 40 2) && (!bit (byteAt p 23) 1 || decide (fieldAt p 40 2 ≤ (vget [] s.uwb.buffers (bits (byteAt p 23) 2 2)).length)) && (bit (byteAt p 23) 1 || decide (fieldAt p 40 2 ≤ 960))) = true) ∧
      (fieldAt p 42 2 = 0) ∧
      (s.barred (phyAt p 8).channel = false) :=
  by refine ⟨((State.reset.put SEC_STATE.lifecycle 1).modUwb fun u => { u with store := vmod (fun _ => sampleStore) u.store 0 }), (payload 44 [(0, 0xFF), (1, 0xFF), (2, 0xFF), (3, 0xFF), (8, 5), (10, 9), (12, 64), (15, 2)]), ?_, ?_, ?_, ?_, ?_, ?_, ?_, ?_, ?_, ?_, ?_⟩ <;> first | decide +kernel | (constructor <;> decide +kernel)

theorem witness_RadioRequestsComplete_5 : ∃ (s : State) (p : List Byte),
      (s.takes 5) ∧
      (p.length = 56) ∧
      (okPhy p 8 = none) ∧
      (s.okSession p (phyAt p 8).stsCfg = none) ∧
      (okRet p 20 = none) ∧
      (fieldAt p 22 2 = 0) ∧
      (bit (byteAt p 21) 0 = false) ∧
      (fieldAt p 32 4 < 1000000000) ∧
      (fieldAt p 48 4 < 1000000000) ∧
      (timeAt p 24 < timeAt p 40) :=
  by refine ⟨State.reset, (payload 56 [(0, 0xFF), (1, 0xFF), (2, 0xFF), (3, 0xFF), (8, 5), (10, 9), (12, 64), (15, 2), (40, 1)]), ?_, ?_, ?_, ?_, ?_, ?_, ?_, ?_, ?_, ?_⟩ <;> first | decide +kernel | (constructor <;> decide +kernel)

theorem witness_RadioRequestsComplete_6 : ∃ (s : State) (p : List Byte),
      (s.takes 5) ∧
      (p.length = 4) :=
  by refine ⟨State.reset, (payload 4 []), ?_, ?_⟩ <;> first | decide +kernel | (constructor <;> decide +kernel)

theorem witness_RadioRequestsComplete_8 : ∃ (s : State) (p : List Byte) (x : Session),
      (s.takes 5) ∧
      (p.length = 24) ∧
      (fieldAt p 4 4 = 0) ∧
      (fieldAt p 16 4 < 1000000000) ∧
      (s.sessionById (fieldAt p 0 4) = some x) ∧
      (x.state ≠ .active) :=
  by refine ⟨((State.reset.put UWB_CTRL.enable 1).modUwb fun u => { u with sessions := [{ sampleSession with state := .configured }] }), (payload 24 [(0, 1)]), { sampleSession with state := .configured }, ?_, ?_, ?_, ?_, ?_, ?_⟩ <;> first | decide +kernel | (constructor <;> decide +kernel)

theorem witness_RadioRequestsComplete_9 : ∃ (s : State) (p : List Byte) (x : Session),
      (s.takes 5) ∧
      (p.length = 4) ∧
      (s.sessionById (fieldAt p 0 4) = some x) ∧
      (x.state = .active) ∧
      (x.begun = true) :=
  by refine ⟨((State.reset.put UWB_CTRL.enable 1).modUwb fun u => { u with sessions := [{ sampleSession with state := .active, round := some { r := 0, psdus := some [] } }] }), (payload 4 [(0, 1)]), { sampleSession with state := .active, round := some { r := 0, psdus := some [] } }, ?_, ?_, ?_, ?_, ?_⟩ <;> first | decide +kernel | (constructor <;> decide +kernel)

theorem witness_RadioRequestsComplete_10 : ∃ (s : State) (p : List Byte) (x : Session),
      (s.takes 5) ∧
      (p.length = 4) ∧
      (s.sessionById (fieldAt p 0 4) = some x) ∧
      (x.state = .active) ∧
      (x.begun = false) :=
  by refine ⟨((State.reset.put UWB_CTRL.enable 1).modUwb fun u => { u with sessions := [{ sampleSession with state := .active, t0 := 1000 }] }), (payload 4 [(0, 1)]), { sampleSession with state := .active, t0 := 1000 }, ?_, ?_, ?_, ?_, ?_⟩ <;> first | decide +kernel | (constructor <;> decide +kernel)

theorem witness_RadioRequestsComplete_11 : ∃ (s : State) (p : List Byte) (x : Session),
      (s.takes 0) ∧
      (p.length = 4) ∧
      (s.sessionById (fieldAt p 0 4) = some x) :=
  by refine ⟨((State.reset.put UWB_CTRL.enable 1).modUwb fun u => { u with sessions := [{ sampleSession with state := .active }] }), (payload 4 [(0, 1)]), { sampleSession with state := .active }, ?_, ?_, ?_⟩ <;> first | decide +kernel | (constructor <;> decide +kernel)

theorem witness_RadioRequestsComplete_12 : ∃ (s : State) (p : List Byte) (x : Session),
      (s.takes 5) ∧
      (8 ≤ p.length) ∧
      (p.length = 8 + fieldAt p 6 2) ∧
      (fieldAt p 5 1 = 0) ∧
      (s.sessionById (fieldAt p 0 4) = some x) ∧
      ((x.slots.any fun y => y.1 == byteAt p 4 && y.2) = true) ∧
      (x.phy.fits (fieldAt p 6 2) = true) :=
  by refine ⟨((State.reset.put UWB_CTRL.enable 1).modUwb fun u => { u with sessions := [{ sampleSession with state := .active, method := 1 }] }), (payload 9 [(0, 1), (6, 1)]), { sampleSession with state := .active, method := 1 }, ?_, ?_, ?_, ?_, ?_, ?_, ?_⟩ <;> first | decide +kernel | (constructor <;> decide +kernel)

theorem witness_RadioRequestsComplete_13 : ∃ (s : State) (p : List Byte) (x : Session) (w : Round),
      (s.takes 5) ∧
      (p.length = 16) ∧
      (s.sessionById (fieldAt p 0 4) = some x) ∧
      (firstThat (fun y => y.r == fieldAt p 4 4) x.waiting = some w) ∧
      (s.ltu.now ≤ w.deadline) :=
  by refine ⟨((State.reset.put UWB_CTRL.enable 1).modUwb fun u => { u with sessions := [{ sampleSession with waiting := [{ r := 0 }] }] }), (payload 16 [(0, 1)]), { sampleSession with waiting := [{ r := 0 }] }, { r := 0 }, ?_, ?_, ?_, ?_, ?_⟩ <;> first | decide +kernel | (constructor <;> decide +kernel)

theorem witness_RadioRequestsComplete_14 : ∃ (s : State) (p : List Byte),
      (s.takes 0) ∧
      (p.length = 32) ∧
      (fieldAt p 0 4 = 0x47525957) ∧
      (fieldAt p 4 2 = 1) ∧
      (fieldAt p 6 2 ≤ 3) ∧
      (s.sec.marketFuse = false ∧ s.lifecycle ≠ 2 ∨ s.sec.marketFuse = true ∧ (∃ c, s.regStore = some c ∧ tighter c p = true)) :=
  by refine ⟨State.reset, (payload 32 [(0, 0x57), (1, 0x59), (2, 0x52), (3, 0x47), (4, 1), (6, 3)]), ?_, ?_, ?_, ?_, ?_, ?_⟩ <;> first | decide +kernel | (constructor <;> decide +kernel)

theorem witness_RadioRequestsComplete_15 : ∃ (s : State) (p : List Byte) (c : List Byte),
      (s.takes 0) ∧
      (p.length = 0) ∧
      (s.regStore = some c) :=
  by refine ⟨(State.reset.modUwb fun u => { u with store := vmod (fun _ => sampleStore) u.store 0 }), [], sampleStore, ?_, ?_, ?_⟩ <;> first | decide +kernel | (constructor <;> decide +kernel)

theorem witness_RadioRequestsComplete_16 : ∃ (s : State) (p : List Byte),
      (s.takes 0) ∧
      (p.length = 12) ∧
      (among (byteAt p 0) [5, 9] = true) ∧
      (fieldAt p 1 3 = 0) ∧
      (s.lifecycle ≠ 2) :=
  by refine ⟨State.reset, (payload 12 [(0, 9)]), ?_, ?_, ?_, ?_, ?_⟩ <;> first | decide +kernel | (constructor <;> decide +kernel)

theorem witness_RadioRequestsComplete_17 : ∃ (s : State) (p : List Byte),
      (s.takes 4) ∧
      (p.length = 24) ∧
      (among (byteAt p 0) [5, 9] = true) ∧
      (9 ≤ byteAt p 1) ∧
      (byteAt p 1 ≤ 32) ∧
      (among (byteAt p 2) [0, 3] = true) ∧
      (fieldAt p 3 1 = 0) ∧
      (2 ≤ fieldAt p 4 2) ∧
      (fieldAt p 4 2 ≤ 100) ∧
      (20 ≤ fieldAt p 6 2) ∧
      (fieldAt p 6 2 ≤ 2000) :=
  by refine ⟨State.reset, (payload 24 [(0, 9), (1, 9), (2, 3), (4, 2), (6, 20)]), ?_, ?_, ?_, ?_, ?_, ?_, ?_, ?_, ?_, ?_, ?_⟩ <;> first | decide +kernel | (constructor <;> decide +kernel)

/-! Witnesses of SerialPortCommandsComplete. -/

theorem witness_SerialPortCommandsComplete_0 : ∃ (s : State) (uart : Fin 8) (samples : BitVec 12) (nd : Nat) (np : Nat) (ns : Nat),
      (s.mainLive = true) ∧
      (s.perClock uart = true) ∧
      (s.is (UART_CTRL.rx_en uart) = true) ∧
      (s.is (UART_STATUS.stuck uart) = false) ∧
      (s.is (UART_BRK_RX.isOpen uart) = false) ∧
      (s.charShape uart = (nd, np, ns)) ∧
      (samples.toNat % 2 = 0) ∧
      (bits samples.toNat 0 (1 + nd + np + ns) ≠ 0) ∧
      ((s.modUart uart fun u => { u with divRx := s.charDivisor uart u }).cardMode uart = false) ∧
      ((s.modUart uart fun u => { u with divRx := s.charDivisor uart u }).linMode uart = false) :=
  by refine ⟨(((((State.reset.put (UART_CTRL.rx_en 7) 1).put (UART_STATUS.stuck 7) 0).put (UART_BRK_RX.isOpen 7) 0).put (UART_CTRL.rx_en 7) 1).put (UART_STATUS.engine_stopped 7) 0), 7, 2, 8, 0, 1, ?_, ?_, ?_, ?_, ?_, ?_, ?_, ?_, ?_, ?_⟩ <;> decide +kernel

theorem witness_SerialPortCommandsComplete_1 : ∃ (s : State) (uart : Fin 8) (samples : BitVec 12),
      (s.mainLive = true) ∧
      (s.perClock uart = true) ∧
      (s.is (UART_CTRL.rx_en uart) = true) ∧
      (s.is (UART_STATUS.stuck uart) = false) ∧
      (s.is (UART_BRK_RX.isOpen uart) = false) ∧
      (samples.toNat % 2 = 0) ∧
      (s.cardMode uart = true) :=
  by refine ⟨(((State.reset.put (UART_CTRL.rx_en 7) 1).put (UART_STATUS.engine_stopped 7) 0).put (UART_CTRL.mode 7) 1), 7, 0, ?_, ?_, ?_, ?_, ?_, ?_, ?_⟩ <;> decide +kernel

theorem witness_SerialPortCommandsComplete_2 : ∃ (s : State) (uart : Fin 8) (len : Nat),
      (s.mainLive = true) ∧
      (s.is (UART_BRK_RX.isOpen uart) = true) ∧
      (s.is (UART_STATUS.stuck uart) = false) ∧
      (s.perClock uart = true) ∧
      (((s.breakOver uart len).linMode uart = false ∨ 176 ≤ len)) :=
  by refine ⟨((((State.reset.put (UART_BRK_RX.isOpen 7) 1).put (UART_STATUS.stuck 7) 0).put (UART_STATUS.engine_stopped 7) 0).put (UART_BRK_RX.isOpen 7) 1), 7, 0, ?_, ?_, ?_, ?_, ?_⟩ <;> decide +kernel

theorem witness_SerialPortCommandsComplete_3 : ∃ (s : State) (uart : Fin 8) (len : Nat),
      (s.mainLive = true) ∧
      (s.is (UART_BRK_RX.isOpen uart) = true) ∧
      (s.is (UART_STATUS.stuck uart) = false) ∧
      (s.perClock uart = true) ∧
      (len < 176) ∧
      ((s.breakOver uart len).linMode uart = true) ∧
      (((s.breakOver uart len).uart uart).lin.isSome = true) :=
  by refine ⟨((((State.reset.put (UART_STATUS.engine_stopped 7) 0).put (UART_BRK_RX.isOpen 7) 1).put (UART_CTRL.mode 7) 2).modUart 7 fun u => { u with lin := some {} }), 7, 175, ?_, ?_, ?_, ?_, ?_, ?_, ?_⟩ <;> decide +kernel

theorem witness_SerialPortCommandsComplete_4 : ∃ (s : State) (uart : Fin 8),
      (s.mainLive = true) ∧
      (s.is (UART_STATUS.stuck uart) = false) ∧
      (s.is (UART_CTRL.rx_en uart) = true) ∧
      (s.perClock uart = true) ∧
      ((s.uart uart).lin = none) ∧
      (((((s.flag (UART_STATUS.stuck uart)).flag (UART_BRK_RX.isOpen uart)).uartEvent uart (UART_EVENT.stuck uart)).uart uart).lin = none) :=
  by refine ⟨(((((State.reset.put (UART_STATUS.stuck 7) 0).put (UART_CTRL.rx_en 7) 1).modUart 7 fun x => { x with lin := none }).put (UART_CTRL.rx_en 7) 1).put (UART_STATUS.engine_stopped 7) 0), 7, ?_, ?_, ?_, ?_, ?_, ?_⟩ <;> decide +kernel

theorem witness_SerialPortCommandsComplete_5 : ∃ (s : State) (uart : Fin 8),
      (s.mainLive = true) ∧
      (s.is (UART_STATUS.stuck uart) = true) :=
  by refine ⟨(State.reset.put (UART_STATUS.stuck 7) 1), 7, ?_, ?_⟩ <;> decide +kernel

theorem witness_SerialPortCommandsComplete_6 : ∃ (s : State) (uart : Fin 8),
      (s.mainLive = true) ∧
      (s.perClock uart = true) ∧
      ((s.uart uart).shift = none) ∧
      ((((s.put (UART_STATUS.cts uart) 1).breakBegin uart).uart uart).shift = none) ∧
      (((s.put (UART_STATUS.cts uart) 1).breakBegin uart).is (UART_BRK_TX.busy uart) = false) ∧
      (((s.put (UART_STATUS.cts uart) 1).breakBegin uart).txFree uart = true) :=
  by refine ⟨(((State.reset.modUart 7 fun x => { x with shift := none }).put (UART_STATUS.engine_stopped 7) 0).put (UART_CTRL.tx_en 7) 1), 7, ?_, ?_, ?_, ?_, ?_, ?_⟩ <;> decide +kernel

theorem witness_SerialPortCommandsComplete_7 : ∃ (s : State) (uart : Fin 8) (low : Bool) (b : Nat),
      (s.mainLive = true) ∧
      (s.perClock uart = true) ∧
      ((s.uart uart).shift.isSome = true) ∧
      (((s.advanceTo (s.txStop uart)).uart uart).shift = some b) ∧
      ((s.advanceTo (s.txStop uart)).perClock uart = true) ∧
      ((((((s.advanceTo (s.txStop uart)).put (UART_STATUS.cts uart) 0).txEnd uart b low)).breakBegin uart).txFree uart = false) ∧
      (((((((s.advanceTo (s.txStop uart)).put (UART_STATUS.cts uart) 0).txEnd uart b low)).breakBegin uart).uart uart).tx ≠ []) :=
  by refine ⟨((State.reset.put (UART_STATUS.engine_stopped 7) 0).modUart 7 fun u => { u with shift := some 1, tx := [2] }), 7, false, 1, ?_, ?_, ?_, ?_, ?_, ?_, ?_⟩ <;> decide +kernel

theorem witness_SerialPortCommandsComplete_8 : ∃ (s : State) (uart : Fin 8) (e : RxEntry) (rest : List RxEntry),
      (s.mainLive = true) ∧
      ((s.uart uart).rx = e :: rest) :=
  by refine ⟨((State.reset.modUart 7 fun x => { x with rx := { data := 0x55 } :: [] }).modUart 7 fun u => { u with rx := [{ data := 0x55 }] }), 7, { data := 0x55 }, [], ?_, ?_⟩ <;> decide +kernel

theorem witness_SerialPortCommandsComplete_9 : ∃ (s : State) (uart : Fin 8),
      (s.mainLive = true) ∧
      ((s.uart uart).rx = []) :=
  by refine ⟨(State.reset.modUart 7 fun x => { x with rx := [] }), 7, ?_, ?_⟩ <;> decide +kernel

theorem witness_SerialPortCommandsComplete_10 : ∃ (s : State) (uart : Fin 8),
      (s.mainLive = true) ∧
      ((s.uart uart).tx.length < 64) :=
  by refine ⟨State.reset, 7, ?_, ?_⟩ <;> decide +kernel

theorem witness_SerialPortCommandsComplete_14 : ∃ (s : State) (uart : Fin 8),
      (s.mainLive = true) ∧
      (s.is (UART_BRK_TX.busy uart) = false) :=
  by refine ⟨(State.reset.put (UART_BRK_TX.busy 7) 0), 7, ?_, ?_⟩ <;> decide +kernel

theorem witness_SerialPortCommandsComplete_15 : ∃ (s : State) (uart : Fin 8) (u : UartState),
      (s.mainLive = true) ∧
      (s.uart uart = u) ∧
      (u.brk = true) ∧
      (s.perClock uart = true) :=
  by refine ⟨((State.reset.put (UART_STATUS.engine_stopped 7) 0).modUart 7 fun _ => { brk := true }), 7, { brk := true }, ?_, ?_, ?_, ?_⟩ <;> decide +kernel

theorem witness_SerialPortCommandsComplete_16 : ∃ (s : State) (uart : Fin 8),
      (s.mainLive = true) ∧
      (s.linMode uart = true) ∧
      (s.is (UART_LIN_CFG.master uart) = true) ∧
      ((s.uart uart).lin = none) :=
  by refine ⟨((((State.reset.put (UART_LIN_CFG.master 7) 1).modUart 7 fun x => { x with lin := none }).put (UART_CTRL.mode 7) 2).put (UART_LIN_CFG.master 7) 1), 7, ?_, ?_, ?_, ?_⟩ <;> decide +kernel

theorem witness_SerialPortCommandsComplete_17 : ∃ (s : State) (uart : Fin 8),
      (s.mainLive = true) ∧
      (s.linMode uart = true) ∧
      (s.is (UART_LIN_CFG.master uart) = false) ∧
      (s.perClock uart = true) ∧
      (s.is (UART_CTRL.rx_en uart) = true) :=
  by refine ⟨(((((State.reset.put (UART_LIN_CFG.master 7) 0).put (UART_CTRL.rx_en 7) 1).put (UART_CTRL.rx_en 7) 1).put (UART_STATUS.engine_stopped 7) 0).put (UART_CTRL.mode 7) 2), 7, ?_, ?_, ?_, ?_, ?_⟩ <;> decide +kernel

theorem witness_SerialPortCommandsComplete_18 : ∃ (s : State) (uart : Fin 8) (f : LinFrame),
      (s.mainLive = true) ∧
      ((s.uart uart).lin = some f) ∧
      (f.phase = .header) ∧
      (s.is (UART_LIN_CFG.master uart) = false) :=
  by refine ⟨(((State.reset.modUart 7 fun x => { x with lin := some {} }).put (UART_LIN_CFG.master 7) 0).modUart 7 fun u => { u with lin := some {} }), 7, {}, ?_, ?_, ?_, ?_⟩ <;> decide +kernel

theorem witness_SerialPortCommandsComplete_19 : ∃ (s : State) (uart : Fin 8) (f : LinFrame),
      (s.mainLive = true) ∧
      ((s.uart uart).lin = some f) ∧
      (f.phase = .publish) ∧
      (f.bytes = []) ∧
      (f.len ≤ ((s.advanceTo (f.pidAt + s.bitTime (s.get (UART_LIN_CFG.resp_space uart) * f.div))).uart uart).tx.length) :=
  by refine ⟨((State.reset.modUart 7 fun x => { x with lin := some { phase := .publish, len := 1 } }).modUart 7 fun u => { u with lin := some { phase := .publish, len := 1 }, tx := [1] }), 7, { phase := .publish, len := 1 }, ?_, ?_, ?_, ?_, ?_⟩ <;> decide +kernel

theorem witness_SerialPortCommandsComplete_20 : ∃ (s : State) (uart : Fin 8) (f : LinFrame),
      (s.mainLive = true) ∧
      ((s.uart uart).lin = some f) ∧
      (f.phase = .publish) ∧
      (f.bytes = []) ∧
      (((s.advanceTo (f.pidAt + s.bitTime (s.get (UART_LIN_CFG.resp_space uart) * f.div))).uart uart).tx.length < f.len) :=
  by refine ⟨(State.reset.modUart 7 fun u => { u with lin := some { phase := .publish, len := 1 } }), 7, { phase := .publish, len := 1 }, ?_, ?_, ?_, ?_, ?_⟩ <;> decide +kernel

theorem witness_SerialPortCommandsComplete_21 : ∃ (s : State) (uart : Fin 8) (f : LinFrame),
      (s.mainLive = true) ∧
      ((s.uart uart).lin = some f) :=
  by refine ⟨((State.reset.modUart 7 fun x => { x with lin := some {} }).modUart 7 fun u => { u with lin := some {} }), 7, {}, ?_, ?_⟩ <;> decide +kernel

/-! Witnesses of CheckUnitCommandsComplete. -/

theorem witness_CheckUnitCommandsComplete_0 : ∃ (s : State) (unit : Fin 16),
      (s.mainLive = true) ∧
      (s.get (CVU_CFG.port unit) < 8) :=
  by refine ⟨State.reset, 15, ?_, ?_⟩ <;> decide +kernel

theorem witness_CheckUnitCommandsComplete_1 : ∃ (s : State) (unit : Fin 16),
      (s.mainLive = true) ∧
      ((s.cvu unit).fed = []) ∧
      ((s.cvu unit).check = []) :=
  by refine ⟨((State.reset.modCvu 15 fun x => { x with fed := [] }).modCvu 15 fun x => { x with check := [] }), 15, ?_, ?_, ?_⟩ <;> decide +kernel

theorem witness_CheckUnitCommandsComplete_2 : ∃ (s : State) (unit : Fin 16),
      (s.mainLive = true) ∧
      (s.is (CVU_STATUS.armed unit) = true) ∧
      ((s.cvu unit).fed ≠ []) :=
  by refine ⟨(((State.reset.put (CVU_STATUS.armed 15) 1).put (CVU_STATUS.armed 15) 1).modCvu 15 fun u => { u with fed := [{ data := 1 }] }), 15, ?_, ?_, ?_⟩ <;> decide +kernel

theorem witness_CheckUnitCommandsComplete_4 : ∃ (s : State) (unit : Fin 16),
      (s.mainLive = true) ∧
      ((s.cvu unit).ready = true) ∧
      (s.locked = true) :=
  by refine ⟨(((State.reset.modCvu 15 fun x => { x with ready := true }).put CLK_STATUS.locked 1).modCvu 15 fun u => { u with ready := true }), 15, ?_, ?_, ?_⟩ <;> decide +kernel

/-! Witnesses of SupplyAndWakeEventsComplete. -/

theorem witness_SupplyAndWakeEventsComplete_0 : ∃ (s : State),
      (s.pwr.aon = true) ∧
      (s.is PWR_STATUS.on_vbak = false) ∧
      (s.pwr.powered = true) :=
  by refine ⟨(((State.reset.modPwr fun x => { x with aon := true }).put PWR_STATUS.on_vbak 0).modPwr fun x => { x with powered := true }), ?_, ?_, ?_⟩ <;> decide +kernel

theorem witness_SupplyAndWakeEventsComplete_1 : ∃ (s : State),
      (s.pwr.aon = true) ∧
      (s.is PWR_STATUS.on_vbak = true) :=
  by refine ⟨((State.reset.modPwr fun x => { x with aon := true }).put PWR_STATUS.on_vbak 1), ?_, ?_⟩ <;> decide +kernel

theorem witness_SupplyAndWakeEventsComplete_2 : ∃ (s : State),
      (s.pwr.aon = true) :=
  by
    refine ⟨(State.reset.modPwr fun x => { x with aon := true }), ?_⟩
    decide +kernel

theorem witness_SupplyAndWakeEventsComplete_3 : ∃ (s : State),
      (s.pwr.aon = false) :=
  by
    refine ⟨(State.reset.modPwr fun x => { x with aon := false }), ?_⟩
    decide +kernel

theorem witness_SupplyAndWakeEventsComplete_5 : ∃ (s : State),
      (s.pwr.aon = true) ∧
      (s.pwr.powered = false) ∧
      (s.pwr.asleep = false) :=
  by refine ⟨(((State.reset.modPwr fun x => { x with aon := true }).modPwr fun x => { x with powered := false }).modPwr fun x => { x with asleep := false }), ?_, ?_, ?_⟩ <;> decide +kernel

theorem witness_SupplyAndWakeEventsComplete_6 : ∃ (s : State),
      (s.pwr.powered = true) :=
  by
    refine ⟨(State.reset.modPwr fun x => { x with powered := true }), ?_⟩
    decide +kernel

theorem witness_SupplyAndWakeEventsComplete_7 : ∃ (s : State),
      (s.pwr.powered = true) ∧
      (s.pwr.inReset = true) :=
  by refine ⟨((State.reset.modPwr fun x => { x with powered := true }).modPwr fun x => { x with inReset := true }), ?_, ?_⟩ <;> decide +kernel

theorem witness_SupplyAndWakeEventsComplete_8 : ∃ (s : State),
      (s.frozen = true) :=
  by
    refine ⟨(State.reset.put SEC_STATE.frozen 1), ?_⟩
    decide +kernel

theorem witness_SupplyAndWakeEventsComplete_9 : ∃ (s : State),
      (s.is PWR_CFG.wake_host = true) :=
  by
    refine ⟨(State.reset.put PWR_CFG.wake_host 1), ?_⟩
    decide +kernel

theorem witness_SupplyAndWakeEventsComplete_10 : ∃ (s : State) (uart : Fin 8),
      (s.pwr.asleep = true) ∧
      (s.pwr.powered = false) ∧
      (s.is ⟨PWR_UART_WAKE, 4 * uart.val, 1⟩ = true) ∧
      (bit (s.get PWR_WAKE.wake_masked) uart = false) :=
  by refine ⟨((State.reset.modPwr fun p => { p with asleep := true, powered := false }).put ⟨PWR_UART_WAKE, 28, 1⟩ 1), 7, ?_, ?_, ?_, ?_⟩ <;> decide +kernel

theorem witness_SupplyAndWakeEventsComplete_11 : ∃ (s : State) (uart : Fin 8),
      (bit (s.get PWR_WAKE.wake_masked) uart = true) :=
  by
    refine ⟨(State.reset.put PWR_WAKE.wake_masked 0x80), 7, ?_⟩
    decide +kernel

/-! Witnesses of StartAndModeChangesComplete. -/

theorem witness_StartAndModeChangesComplete_0 : ∃ (s : State) (strap : Bool) (hostSel : Bool) (rtc : BitVec 48),
      (s.pwr.aon = true) ∧
      (s.pwr.powered = true) ∧
      (s.pwr.inReset = true) ∧
      ((({ ((((((((s.mainClear.setRtc rtc.toNat).flag PWR_STATUS.rails_ok).modPwr fun p => { p with inReset := false, sysRst := false }).strapAt strap).put HL_ID.spi (b2n hostSel)).modHost fun h => { h with spi := hostSel }).put HL_STATUS.lifecycle ((((((s.mainClear.setRtc rtc.toNat).flag PWR_STATUS.rails_ok).modPwr fun p => { p with inReset := false, sysRst := false }).strapAt strap).put HL_ID.spi (b2n hostSel)).modHost fun h => { h with spi := hostSel }).lifecycle).put NET_ASYM.correction ((((((s.mainClear.setRtc rtc.toNat).flag PWR_STATUS.rails_ok).modPwr fun p => { p with inReset := false, sysRst := false }).strapAt strap).put HL_ID.spi (b2n hostSel)).modHost fun h => { h with spi := hostSel }).net.asymNv) with fw := { ((((((((s.mainClear.setRtc rtc.toNat).flag PWR_STATUS.rails_ok).modPwr fun p => { p with inReset := false, sysRst := false }).strapAt strap).put HL_ID.spi (b2n hostSel)).modHost fun h => { h with spi := hostSel }).put HL_STATUS.lifecycle ((((((s.mainClear.setRtc rtc.toNat).flag PWR_STATUS.rails_ok).modPwr fun p => { p with inReset := false, sysRst := false }).strapAt strap).put HL_ID.spi (b2n hostSel)).modHost fun h => { h with spi := hostSel }).lifecycle).put NET_ASYM.correction ((((((s.mainClear.setRtc rtc.toNat).flag PWR_STATUS.rails_ok).modPwr fun p => { p with inReset := false, sysRst := false }).strapAt strap).put HL_ID.spi (b2n hostSel)).modHost fun h => { h with spi := hostSel }).net.asymNv).fw with slot := ((((((((s.mainClear.setRtc rtc.toNat).flag PWR_STATUS.rails_ok).modPwr fun p => { p with inReset := false, sysRst := false }).strapAt strap).put HL_ID.spi (b2n hostSel)).modHost fun h => { h with spi := hostSel }).put HL_STATUS.lifecycle ((((((s.mainClear.setRtc rtc.toNat).flag PWR_STATUS.rails_ok).modPwr fun p => { p with inReset := false, sysRst := false }).strapAt strap).put HL_ID.spi (b2n hostSel)).modHost fun h => { h with spi := hostSel }).lifecycle).put NET_ASYM.correction ((((((s.mainClear.setRtc rtc.toNat).flag PWR_STATUS.rails_ok).modPwr fun p => { p with inReset := false, sysRst := false }).strapAt strap).put HL_ID.spi (b2n hostSel)).modHost fun h => { h with spi := hostSel }).net.asymNv).fw.next } }.showStore.showGnt).reloadTime ({ ((((((((s.mainClear.setRtc rtc.toNat).flag PWR_STATUS.rails_ok).modPwr fun p => { p with inReset := false, sysRst := false }).strapAt strap).put HL_ID.spi (b2n hostSel)).modHost fun h => { h with spi := hostSel }).put HL_STATUS.lifecycle ((((((s.mainClear.setRtc rtc.toNat).flag PWR_STATUS.rails_ok).modPwr fun p => { p with inReset := false, sysRst := false }).strapAt strap).put HL_ID.spi (b2n hostSel)).modHost fun h => { h with spi := hostSel }).lifecycle).put NET_ASYM.correction ((((((s.mainClear.setRtc rtc.toNat).flag PWR_STATUS.rails_ok).modPwr fun p => { p with inReset := false, sysRst := false }).strapAt strap).put HL_ID.spi (b2n hostSel)).modHost fun h => { h with spi := hostSel }).net.asymNv) with fw := { ((((((((s.mainClear.setRtc rtc.toNat).flag PWR_STATUS.rails_ok).modPwr fun p => { p with inReset := false, sysRst := false }).strapAt strap).put HL_ID.spi (b2n hostSel)).modHost fun h => { h with spi := hostSel }).put HL_STATUS.lifecycle ((((((s.mainClear.setRtc rtc.toNat).flag PWR_STATUS.rails_ok).modPwr fun p => { p with inReset := false, sysRst := false }).strapAt strap).put HL_ID.spi (b2n hostSel)).modHost fun h => { h with spi := hostSel }).lifecycle).put NET_ASYM.correction ((((((s.mainClear.setRtc rtc.toNat).flag PWR_STATUS.rails_ok).modPwr fun p => { p with inReset := false, sysRst := false }).strapAt strap).put HL_ID.spi (b2n hostSel)).modHost fun h => { h with spi := hostSel }).net.asymNv).fw with slot := ((((((((s.mainClear.setRtc rtc.toNat).flag PWR_STATUS.rails_ok).modPwr fun p => { p with inReset := false, sysRst := false }).strapAt strap).put HL_ID.spi (b2n hostSel)).modHost fun h => { h with spi := hostSel }).put HL_STATUS.lifecycle ((((((s.mainClear.setRtc rtc.toNat).flag PWR_STATUS.rails_ok).modPwr fun p => { p with inReset := false, sysRst := false }).strapAt strap).put HL_ID.spi (b2n hostSel)).modHost fun h => { h with spi := hostSel }).lifecycle).put NET_ASYM.correction ((((((s.mainClear.setRtc rtc.toNat).flag PWR_STATUS.rails_ok).modPwr fun p => { p with inReset := false, sysRst := false }).strapAt strap).put HL_ID.spi (b2n hostSel)).modHost fun h => { h with spi := hostSel }).net.asymNv).fw.next } }.showStore.showGnt).pwr.orderly).pwr.capWake = false) :=
  by refine ⟨((((State.reset.modPwr fun x => { x with aon := true }).modPwr fun x => { x with powered := true }).modPwr fun x => { x with inReset := true }).modPwr fun p => { p with inReset := true }), false, true, 1, ?_, ?_, ?_, ?_⟩ <;> decide +kernel

theorem witness_StartAndModeChangesComplete_1 : ∃ (s : State) (previous : Nat) (cause : Nat),
      (s.pwr.boot = some (previous, cause)) ∧
      (s.pwr.inReset = false) ∧
      (s.pwr.powered = true) ∧
      (s.frozen = false) ∧
      (cause ≠ 2) :=
  by refine ⟨(((State.reset.modPwr fun x => { x with boot := some (0, 5) }).modPwr fun x => { x with inReset := false }).modPwr fun x => { x with powered := true }), 0, 5, ?_, ?_, ?_, ?_, ?_⟩ <;> decide +kernel

theorem witness_StartAndModeChangesComplete_2 : ∃ (s : State) (v : ModeMove),
      (s.mainLive = true) ∧
      (s.pwr.move = some v) ∧
      (4 ≤ v.goal) :=
  by refine ⟨((State.reset.modPwr fun x => { x with move := some ⟨6, 0, none⟩ }).modPwr fun p => { p with move := some ⟨6, 0, none⟩ }), ⟨6, 0, none⟩, ?_, ?_, ?_⟩ <;> decide +kernel

theorem witness_StartAndModeChangesComplete_3 : ∃ (s : State) (v : ModeMove),
      (s.mainLive = true) ∧
      (s.pwr.move = some v) ∧
      (v.goal < 4) :=
  by refine ⟨((State.reset.modPwr fun x => { x with move := some ⟨3, 0, none⟩ }).modPwr fun p => { p with move := some ⟨3, 0, none⟩ }), ⟨3, 0, none⟩, ?_, ?_, ?_⟩ <;> decide +kernel

/-! Witnesses of SystemRequestsComplete. -/

theorem witness_SystemRequestsComplete_0 : ∃ (s : State) (p : List Byte),
      (s.takes 0) ∧
      (p.length = 4) :=
  by refine ⟨State.reset, (payload 4 []), ?_, ?_⟩ <;> first | decide +kernel | (constructor <;> decide +kernel)

theorem witness_SystemRequestsComplete_1 : ∃ (s : State) (p : List Byte),
      (s.takes 0) ∧
      (p.length = 0) :=
  by refine ⟨State.reset, (payload 0 []), ?_, ?_⟩ <;> first | decide +kernel | (constructor <;> decide +kernel)

theorem witness_SystemRequestsComplete_2 : ∃ (s : State) (p : List Byte),
      (s.takes 0) ∧
      (p.length = 4) ∧
      (2 ≤ byteAt p 0) ∧
      (byteAt p 0 ≤ 7) ∧
      (fieldAt p 1 3 = 0) ∧
      (s.powerFailing = false) ∧
      (s.pwr.slot = none) ∧
      (s.host.deferred = []) :=
  by refine ⟨State.reset, (payload 4 [(0, 2)]), ?_, ?_, ?_, ?_, ?_, ?_, ?_, ?_⟩ <;> first | decide +kernel | (constructor <;> decide +kernel)

theorem witness_SystemRequestsComplete_3 : ∃ (s : State) (p : List Byte),
      (s.takes 0) ∧
      (p.length = 4) ∧
      (byteAt p 0 < 2) ∧
      (4 ≤ byteAt p 1) ∧
      (byteAt p 1 ≤ 7) ∧
      (byteAt p 2 < 4) ∧
      (fieldAt p 3 1 = 0) :=
  by refine ⟨State.reset, (payload 4 [(0, 1), (1, 4), (2, 3)]), ?_, ?_, ?_, ?_, ?_, ?_, ?_⟩ <;> first | decide +kernel | (constructor <;> decide +kernel)

theorem witness_SystemRequestsComplete_4 : ∃ (s : State) (p : List Byte),
      (s.takes 0) ∧
      (p.length = 8) ∧
      (byteAt p 6 < 2) ∧
      (fieldAt p 7 1 = 0) :=
  by refine ⟨State.reset, (payload 8 [(6, 1)]), ?_, ?_, ?_, ?_⟩ <;> first | decide +kernel | (constructor <;> decide +kernel)

theorem witness_SystemRequestsComplete_5 : ∃ (s : State) (p : List Byte),
      (s.takes 0) ∧
      (5 ≤ p.length) ∧
      (p.length ≤ 1004) ∧
      (fieldAt p 0 4 = s.fw.stage.length) ∧
      (s.fw.stage.length + (p.length - 4) ≤ 0x100000) :=
  by refine ⟨State.reset, (payload 5 []), ?_, ?_, ?_, ?_, ?_⟩ <;> first | decide +kernel | (constructor <;> decide +kernel)

theorem witness_SystemRequestsComplete_6 : ∃ (s : State) (p : List Byte),
      (s.takes 0) ∧
      (p.length = 4) ∧
      (s.fw.commit = none) ∧
      (fieldAt p 0 4 = s.fw.stage.length) :=
  by refine ⟨State.reset, (payload 4 []), ?_, ?_, ?_, ?_⟩ <;> first | decide +kernel | (constructor <;> decide +kernel)

theorem witness_SystemRequestsComplete_8 : ∃ (s : State) (q : OpenReq),
      (s.mainLive = true) ∧
      (s.sec.provision = some q) :=
  by refine ⟨((State.reset.modSec fun x => { x with provision := some sampleReq }).modSec fun c => { c with provision := some sampleReq }), sampleReq, ?_, ?_⟩ <;> decide +kernel

/-! Witnesses of MonitorEventsComplete. -/

theorem witness_MonitorEventsComplete_0 : ∃ (s : State),
      (s.pwr.aon = true) :=
  by
    refine ⟨(State.reset.modPwr fun x => { x with aon := true }), ?_⟩
    decide +kernel

theorem witness_MonitorEventsComplete_1 : ∃ (s : State),
      (s.pwr.aon = true) ∧
      (s.is SEC_PRES.pressed = true) :=
  by refine ⟨((State.reset.modPwr fun x => { x with aon := true }).put SEC_PRES.pressed 1), ?_, ?_⟩ <;> decide +kernel

theorem witness_MonitorEventsComplete_3 : ∃ (s : State) (rtc : BitVec 48),
      (s.pwr.aon = true) ∧
      (s.is SEC_SEAL_CFG.en = true) ∧
      (s.sec.aonLost = false) ∧
      (rtc.toNat % 3277 = 0) :=
  by refine ⟨((State.reset.modPwr fun x => { x with aon := true }).put SEC_SEAL_CFG.en 1), 0, ?_, ?_, ?_, ?_⟩ <;> decide +kernel

theorem witness_MonitorEventsComplete_4 : ∃ (s : State) (rtc : BitVec 48),
      (s.pwr.aon = true) ∧
      ((s.rtcTo rtc.toNat).lockoutEnd ≠ 0) ∧
      ((s.rtcTo rtc.toNat).lockoutEnd ≤ rtc.toNat) ∧
      ((s.rtcTo rtc.toNat).pwr.powered = true) ∧
      ((s.rtcTo rtc.toNat).pwr.inReset = false) :=
  by refine ⟨((State.reset.modPwr fun x => { x with aon := true }).put SEC_LOCKOUT_LO.end_lo 1), 1, ?_, ?_, ?_, ?_, ?_⟩ <;> decide +kernel

theorem witness_MonitorEventsComplete_6 : ∃ (s : State),
      (s.pwr.aon = true) ∧
      (s.lifecycle = 3) :=
  by refine ⟨((State.reset.modPwr fun x => { x with aon := true }).put SEC_STATE.lifecycle 3), ?_, ?_⟩ <;> decide +kernel

theorem witness_MonitorEventsComplete_7 : ∃ (s : State),
      (s.pwr.aon = true) ∧
      (s.mainLive = true) :=
  by refine ⟨(State.reset.modPwr fun x => { x with aon := true }), ?_, ?_⟩ <;> decide +kernel

theorem witness_MonitorEventsComplete_8 : ∃ (s : State) (a : AuthRun) (rest : List AuthRun),
      (s.pwr.aon = true) ∧
      (s.pwr.powered = true) ∧
      (s.pwr.inReset = false) ∧
      (s.sec.auths = a :: rest) :=
  by refine ⟨(State.reset.modSec fun c => { c with auths := [⟨none, true, [], []⟩] }), ⟨none, true, [], []⟩, [], ?_, ?_, ?_, ?_⟩ <;> decide +kernel

theorem witness_MonitorEventsComplete_9 : ∃ (s : State),
      (s.pwr.aon = true) ∧
      (s.mainLive = true) ∧
      (4 ≤ s.mode) ∧
      (s.mode ≤ 7) ∧
      ((s.lifecycle ≠ 2 ∧ s.lifecycle ≠ 3 ∨ s.is SEC_DBG_CFG.freeze_field = true)) :=
  by refine ⟨(State.reset.modPwr fun x => { x with aon := true }), ?_, ?_, ?_, ?_, ?_⟩ <;> decide +kernel

theorem witness_MonitorEventsComplete_10 : ∃ (s : State) (n : BitVec 48) (rtc : BitVec 48),
      (s.pwr.aon = true) ∧
      (s.pwr.powered = true) ∧
      (s.pwr.inReset = false) ∧
      (s.frozen = true) ∧
      (s.clk.phase = .locked) ∧
      (s.host.lossAtThaw = none) ∧
      (((((((((((s.put SEC_STATE.frozen 0).put PWR_STATUS.mode s.sec.before).flag SEC_EVENT.thaw).thawClock n.toNat rtc.toNat).passedTriggers s.ltu.now ((((s.put SEC_STATE.frozen 0).put PWR_STATUS.mode s.sec.before).flag SEC_EVENT.thaw).thawClock n.toNat rtc.toNat).ltu.now).tpThaw s.ltu.now ((((s.put SEC_STATE.frozen 0).put PWR_STATUS.mode s.sec.before).flag SEC_EVENT.thaw).thawClock n.toNat rtc.toNat).ltu.now).discontinuity 2).gatesOpen.showGnt).thawRadio).modeEvent s.sec.before 8 3).host.lossAtThaw = none) :=
  by refine ⟨(((((((State.reset.modPwr fun x => { x with aon := true }).modPwr fun x => { x with powered := true }).modPwr fun x => { x with inReset := false }).put SEC_STATE.frozen 1).modClk fun x => { x with phase := .locked }).modClk fun c => { c with phase := .locked }).put SEC_STATE.frozen 1), 0, 0, ?_, ?_, ?_, ?_, ?_, ?_, ?_⟩ <;> decide +kernel

/-! Witnesses of DebugPortCommandsComplete. -/

theorem witness_DebugPortCommandsComplete_0 : ∃ (s : State),
      (s.pwr.powered = true) :=
  by
    refine ⟨(State.reset.modPwr fun x => { x with powered := true }), ?_⟩
    decide +kernel

theorem witness_DebugPortCommandsComplete_3 : ∃ (s : State),
      (s.pwr.powered = true) ∧
      (tapAllows 0x03 s.lifecycle s.debugOpen s.frozen = true) :=
  by refine ⟨(State.reset.modPwr fun x => { x with powered := true }), ?_, ?_⟩ <;> decide +kernel

theorem witness_DebugPortCommandsComplete_4 : ∃ (s : State),
      (s.pwr.powered = true) ∧
      (tapAllows 0x04 s.lifecycle s.debugOpen s.frozen = true) :=
  by refine ⟨(State.reset.modPwr fun x => { x with powered := true }), ?_, ?_⟩ <;> decide +kernel

theorem witness_DebugPortCommandsComplete_5 : ∃ (s : State),
      (s.pwr.powered = true) ∧
      (tapAllows 0x05 s.lifecycle s.debugOpen s.frozen = true) :=
  by refine ⟨(State.reset.modPwr fun x => { x with powered := true }), ?_, ?_⟩ <;> decide +kernel

theorem witness_DebugPortCommandsComplete_8 : ∃ (s : State),
      (s.pwr.powered = true) ∧
      (s.sec.tap.ir = 0x10) ∧
      (s.lifecycle ≠ 2) ∧
      (s.lifecycle ≠ 3) ∧
      (s.present = true) ∧
      (s.debugOpen = false) :=
  by refine ⟨((((State.reset.modPwr fun x => { x with powered := true }).put SEC_PRES.window 1).modSec fun c => { c with tap := { c.tap with ir := 0x10 }, vendorOff := false }).put SEC_PRES.window 1), ?_, ?_, ?_, ?_, ?_, ?_⟩ <;> decide +kernel

theorem witness_DebugPortCommandsComplete_9 : ∃ (s : State),
      (s.pwr.powered = true) ∧
      (s.sec.tap.ir = 0x10) :=
  by refine ⟨((State.reset.modPwr fun x => { x with powered := true }).modSec fun c => { c with tap := { c.tap with ir := 0x10 }, vendorOff := false }), ?_, ?_⟩ <;> decide +kernel

theorem witness_DebugPortCommandsComplete_10 : ∃ (s : State),
      (s.pwr.powered = true) ∧
      (s.sec.tap.ir = 0x10) ∧
      (s.lifecycle = 2) ∧
      (s.sec.vendorOff = false) ∧
      (s.lockoutEnd = 0) ∧
      (s.is SEC_STATE.trng_ok = true) :=
  by refine ⟨(((((((State.reset.modPwr fun x => { x with powered := true }).put SEC_STATE.lifecycle 2).put SEC_STATE.trng_ok 1).modSec fun c => { c with tap := { c.tap with ir := 0x10 }, vendorOff := false }).put SEC_STATE.lifecycle 2).put SEC_PRES.window 1).put SEC_STATE.trng_ok 1), ?_, ?_, ?_, ?_, ?_, ?_⟩ <;> decide +kernel

theorem witness_DebugPortCommandsComplete_11 : ∃ (s : State),
      (s.pwr.powered = true) ∧
      (s.sec.tap.ir = 0x10) ∧
      (s.lifecycle = 2) ∧
      (s.lockoutEnd = 0) ∧
      (s.present = true) ∧
      (s.sec.password ≠ none) :=
  by refine ⟨((((((State.reset.modPwr fun x => { x with powered := true }).put SEC_STATE.lifecycle 2).put SEC_PRES.window 1).modSec fun c => { c with tap := { c.tap with ir := 0x10 }, password := some ([], 0) }).put SEC_STATE.lifecycle 2).put SEC_PRES.window 1), ?_, ?_, ?_, ?_, ?_, ?_⟩ <;> decide +kernel

theorem witness_DebugPortCommandsComplete_12 : ∃ (s : State) (n : List Byte),
      (s.pwr.powered = true) ∧
      (s.sec.tap.ir = 0x10) ∧
      (s.lifecycle = 2) ∧
      (s.lockoutEnd = 0) ∧
      (s.present = true) ∧
      (s.sec.nonce = some n) :=
  by refine ⟨(((((((State.reset.modPwr fun x => { x with powered := true }).put SEC_STATE.lifecycle 2).put SEC_PRES.window 1).modSec fun x => { x with nonce := some [1] }).modSec fun c => { c with tap := { c.tap with ir := 0x10 }, nonce := some [1] }).put SEC_STATE.lifecycle 2).put SEC_PRES.window 1), [1], ?_, ?_, ?_, ?_, ?_, ?_⟩ <;> decide +kernel

theorem witness_DebugPortCommandsComplete_13 : ∃ (s : State) (block : BitVec 8) (offset : BitVec 24) (t : State),
      (s.pwr.powered = true) ∧
      (s.debugOpen = true) ∧
      (s.frozen = false) ∧
      (t = s.modTap (fun t => { t with ir := 0x11 })) ∧
      (isBlock block.toNat = true) ∧
      (t.maskedReg (block.toNat * 0x1000000 + offset.toNat) = false) :=
  by refine ⟨(((State.reset.modPwr fun x => { x with powered := true }).put SEC_STATE.debug 1).put SEC_STATE.debug 1), 15, 0, _, ?_, ?_, ?_, rfl, ?_, ?_⟩ <;> decide +kernel

theorem witness_DebugPortCommandsComplete_15 : ∃ (s : State) (command : BitVec 64) (t : State),
      (s.pwr.powered = true) ∧
      (s.debugOpen = true) ∧
      (s.frozen = true) ∧
      (t = (s.modTap fun t => { t with ir := 0x12 }).flag SEC_FREEZE_STATUS.readout) ∧
      (command.toNat % 256 ≠ 0) :=
  by refine ⟨(((((State.reset.modPwr fun x => { x with powered := true }).put SEC_STATE.debug 1).put SEC_STATE.frozen 1).put SEC_STATE.debug 1).put SEC_STATE.frozen 1), 1, _, ?_, ?_, ?_, rfl, ?_⟩ <;> decide +kernel

theorem witness_DebugPortCommandsComplete_16 : ∃ (s : State) (command : BitVec 64) (t : State) (g : FrzRange),
      (s.pwr.powered = true) ∧
      (s.debugOpen = true) ∧
      (s.frozen = true) ∧
      (t = (s.modTap fun t => { t with ir := 0x12 }).flag SEC_FREEZE_STATUS.readout) ∧
      (command.toNat % 256 = 0) ∧
      (t.sec.tap.range = g) ∧
      (g.left ≠ 0) ∧
      (g.region ≠ 5) :=
  by refine ⟨((((((State.reset.modPwr fun x => { x with powered := true }).put SEC_STATE.debug 1).put SEC_STATE.frozen 1).put SEC_STATE.debug 1).put SEC_STATE.frozen 1).modSec fun c => { c with tap := { c.tap with range := { region := 1, left := 1 } } }), 0, _, { region := 1, left := 1 }, ?_, ?_, ?_, rfl, ?_, ?_, ?_, ?_⟩ <;> decide +kernel

/-! Witnesses of HostLinkEventsComplete. -/

theorem witness_HostLinkEventsComplete_ringInit : ∃ (s : State),
      (s.mainLive = true) ∧
      (s.host.spi = true ∨ s.host.linkUp = true) :=
  by refine ⟨State.reset.modHost fun h => { h with linkUp := true }, ?_, ?_⟩ <;> decide +kernel

theorem witness_HostLinkEventsComplete_0 : ∃ (s : State),
      (s.mainLive = true) ∧
      (s.frozen = false) ∧
      (s.host.spi = false) ∧
      (s.host.perst = false) ∧
      (s.host.linkUp = true) ∧
      (s.host.memEn = true) ∧
      (s.is HL_STATUS.ready = true) :=
  by refine ⟨(((State.reset.modHost fun x => { x with linkUp := true }).modHost fun x => { x with memEn := true }).put HL_STATUS.ready 1), ?_, ?_, ?_, ?_, ?_, ?_, ?_⟩ <;> decide +kernel

theorem witness_HostLinkEventsComplete_1 : ∃ (s : State) (speed : Fin 4),
      (s.mainLive = true) ∧
      (s.host.spi = false) ∧
      (speed.val ≠ 0) :=
  by refine ⟨State.reset, 3, ?_, ?_, ?_⟩ <;> decide +kernel

theorem witness_HostLinkEventsComplete_2 : ∃ (s : State),
      (s.mainLive = true) ∧
      (s.frozen = false) ∧
      (s.host.spi = false) ∧
      (s.host.linkUp = true) :=
  by refine ⟨(State.reset.modHost fun x => { x with linkUp := true }), ?_, ?_, ?_, ?_⟩ <;> decide +kernel

theorem witness_HostLinkEventsComplete_3 : ∃ (s : State),
      (s.mainLive = true) ∧
      (s.host.spi = true) ∧
      (s.host.linkUp = true) ∧
      (s.get HL_RING_CTRL.spi_timeout ≠ 0) :=
  by refine ⟨((((State.reset.modHost fun x => { x with spi := true }).modHost fun x => { x with linkUp := true }).modHost fun h => { h with spi := true, linkUp := true }).put HL_RING_CTRL.spi_timeout 1), ?_, ?_, ?_, ?_⟩ <;> decide +kernel

theorem witness_HostLinkEventsComplete_7 : ∃ (s : State),
      (s.mainLive = true) ∧
      (s.host.initRun = true) :=
  by refine ⟨(State.reset.modHost fun x => { x with initRun := true }), ?_, ?_⟩ <;> decide +kernel

theorem witness_HostLinkEventsComplete_8 : ∃ (s : State) (value : BitVec 16),
      (s.mainLive = true) ∧
      ((value.toNat + 65536 - s.get HL_EVT_CONS.cons) % 65536 ≤ (s.get HL_EVT_PROD.prod + 65536 - s.get HL_EVT_CONS.cons) % 65536) :=
  by refine ⟨State.reset, 0, ?_, ?_⟩ <;> decide +kernel

theorem witness_HostLinkEventsComplete_9 : ∃ (s : State) (value : BitVec 16),
      (s.mainLive = true) ∧
      ((s.get HL_EVT_PROD.prod + 65536 - s.get HL_EVT_CONS.cons) % 65536 < (value.toNat + 65536 - s.get HL_EVT_CONS.cons) % 65536) :=
  by refine ⟨State.reset, 1, ?_, ?_⟩ <;> decide +kernel

theorem witness_HostLinkEventsComplete_12 : ∃ (s : State) (cls : Fin 3),
      (s.mainLive = true) ∧
      (vget false s.host.modRun cls = true) ∧
      (vget false (s.advanceTo (vget 0 s.host.modAt cls + s.get HL_IRQ_MOD.interval_us * microsecond)).host.modPend cls = true) :=
  by refine ⟨(State.reset.modHost fun h => { h with modRun := vmod (fun _ => true) h.modRun 2, modPend := vmod (fun _ => true) h.modPend 2 }), 2, ?_, ?_, ?_⟩ <;> decide +kernel

theorem witness_HostLinkEventsComplete_13 : ∃ (s : State) (cls : Fin 3),
      (s.mainLive = true) ∧
      (vget false s.host.modRun cls = true) ∧
      (vget false (s.advanceTo (vget 0 s.host.modAt cls + s.get HL_IRQ_MOD.interval_us * microsecond)).host.modPend cls = false) :=
  by refine ⟨(State.reset.modHost fun x => { x with modRun := vmod (fun _ => true) x.modRun 2 }), 2, ?_, ?_, ?_⟩ <;> decide +kernel

theorem witness_HostLinkEventsComplete_14 : ∃ (s : State),
      (s.mainLive = true) ∧
      (s.host.spi = true) ∧
      (s.frozen = false) :=
  by refine ⟨(State.reset.modHost fun x => { x with spi := true }), ?_, ?_, ?_⟩ <;> decide +kernel

theorem witness_HostLinkEventsComplete_16 : ∃ (s : State) (key : BitVec 8),
      (s.mainLive = true) ∧
      (key ≠ 0xA5) :=
  by refine ⟨State.reset, 0, ?_, ?_⟩ <;> decide +kernel

/-! Witnesses of GnssRequestsComplete. -/

theorem witness_GnssRequestsComplete_0 : ∃ (s : State) (p : List Byte),
      (s.takes 5) ∧
      (p.length = 4) ∧
      (byteAt p 0 < 12) ∧
      (byteAt p 1 = 0) ∧
      (fieldAt p 2 2 = 0) :=
  by refine ⟨State.reset, (payload 4 [(0, 11), (1, 0)]), ?_, ?_, ?_, ?_, ?_⟩ <;> first | decide +kernel | (constructor <;> decide +kernel)

theorem witness_GnssRequestsComplete_1 : ∃ (s : State) (p : List Byte) (x : Preset),
      (s.takes (if byteAt p 1 != 0 && decide (3 ≤ (s.lanesUsed.filter (· != byteAt p 0)).length) then 6 else 5)) ∧
      (p.length = 4) ∧
      (byteAt p 0 < 12) ∧
      (byteAt p 1 ≤ 14) ∧
      (fieldAt p 2 2 = 0) ∧
      (presetOf (byteAt p 1) = some x) ∧
      (aggregateOk (x.a * x.b :: ((s.lanesUsed.filter (· != byteAt p 0)).filterMap fun k => if s.is (LANE_STATUS.running k) then (s.lane k).cfg.map DecCfg.d else some (s.decFields k).d)) = true) :=
  by refine ⟨State.reset, (payload 4 [(0, 11), (1, 14)]), ⟨1271080, 9, 10, 24⟩, ?_, ?_, ?_, ?_, ?_, ?_, ?_⟩ <;> first | decide +kernel | (constructor <;> decide +kernel)

theorem witness_GnssRequestsComplete_3 : ∃ (s : State) (p : List Byte),
      (s.takes 5) ∧
      (p.length = 4) ∧
      (sigTracked (byteAt p 0) = true) ∧
      (fieldAt p 2 2 = 0) :=
  by refine ⟨State.reset, (payload 4 [(0, 0x18)]), ?_, ?_, ?_, ?_⟩ <;> first | decide +kernel | (constructor <;> decide +kernel)

theorem witness_GnssRequestsComplete_4 : ∃ (s : State) (p : List Byte),
      (s.takes 0) ∧
      (p.length = 28) ∧
      (byteAt p 0 < 2) ∧
      (fieldAt p 1 1 = 0) ∧
      ((∀ i < 24, byteAt p (4 + i) ≤ 7)) :=
  by refine ⟨State.reset, (payload 28 [(0, 1)]), ?_, ?_, ?_, ?_, ?_⟩ <;> first | decide +kernel | (constructor <;> decide +kernel)

theorem witness_GnssRequestsComplete_5 : ∃ (s : State) (p : List Byte),
      (s.takes 5) ∧
      (p.length = 16) ∧
      (okReportPeriod (fieldAt p 0 4) = true) ∧
      (5 ≤ byteAt p 12) ∧
      (byteAt p 12 ≤ 9) ∧
      (byteAt p 13 < 16) ∧
      (byteAt p 14 < 2) ∧
      (fieldAt p 15 1 = 0) ∧
      ((s.is STW_STATUS.single_pair = false ∨ fieldAt p 0 4 = 0 ∨ 100 ≤ fieldAt p 0 4)) :=
  by refine ⟨State.reset, (payload 16 [(12, 5), (13, 15), (14, 1)]), ?_, ?_, ?_, ?_, ?_, ?_, ?_, ?_, ?_⟩ <;> first | decide +kernel | (constructor <;> decide +kernel)

theorem witness_GnssRequestsComplete_6 : ∃ (s : State) (p : List Byte),
      (s.takes 5) ∧
      (p.length = 32) ∧
      (okLat (sfieldAt p 0 8) = true) ∧
      (okLon (sfieldAt p 8 8) = true) :=
  by refine ⟨State.reset, (payload 32 []), ?_, ?_, ?_, ?_⟩ <;> first | decide +kernel | (constructor <;> decide +kernel)

theorem witness_GnssRequestsComplete_8 : ∃ (s : State) (p : List Byte),
      (s.takes 5) ∧
      (p.length = 32) ∧
      (okLat (sfieldAt p 0 8) = true) ∧
      (okLon (sfieldAt p 8 8) = true) ∧
      (byteAt p 28 < 2) ∧
      (fieldAt p 29 3 = 0) :=
  by refine ⟨State.reset, (payload 32 [(28, 1)]), ?_, ?_, ?_, ?_, ?_, ?_⟩ <;> first | decide +kernel | (constructor <;> decide +kernel)

theorem witness_GnssRequestsComplete_9 : ∃ (s : State) (p : List Byte) (d : NavData),
      (s.takes 5) ∧
      (p.length = 4) ∧
      (byteAt p 0 < 7) ∧
      (byteAt p 2 < 3) ∧
      (fieldAt p 3 1 = 0) ∧
      (firstThat (fun x => x.system == byteAt p 0 && x.sat == byteAt p 1 && x.kind == byteAt p 2) s.nav.data = some d) :=
  by refine ⟨(State.reset.modNav fun n => { n with data := [⟨6, 0, 2, 0, 0, []⟩] }), (payload 4 [(0, 6), (2, 2)]), ⟨6, 0, 2, 0, 0, []⟩, ?_, ?_, ?_, ?_, ?_, ?_⟩ <;> first | decide +kernel | (constructor <;> decide +kernel)

theorem witness_GnssRequestsComplete_10 : ∃ (s : State) (p : List Byte),
      (s.takes 5) ∧
      (p.length = 0) :=
  by refine ⟨State.reset, (payload 0 []), ?_, ?_⟩ <;> first | decide +kernel | (constructor <;> decide +kernel)

/-! Witnesses of OwnershipRequestsComplete. -/

theorem witness_OwnershipRequestsComplete_0 : ∃ (s : State) (p : List Byte),
      (s.takes 4) ∧
      (p.length = 4) ∧
      (byteAt p 0 = 0) ∧
      (byteAt p 1 < 8) ∧
      (byteAt p 2 = 0x20) :=
  by refine ⟨State.reset, (payload 4 [(0, 0), (1, 7), (2, 32)]), ?_, ?_, ?_, ?_, ?_⟩ <;> first | decide +kernel | (constructor <;> decide +kernel)

theorem witness_OwnershipRequestsComplete_1 : ∃ (s : State) (p : List Byte),
      (s.takes 4) ∧
      (p.length = 4) ∧
      (byteAt p 0 = 1) ∧
      (byteAt p 1 < 16) ∧
      (byteAt p 2 = 0x20) :=
  by refine ⟨State.reset, (payload 4 [(0, 1), (1, 15), (2, 32)]), ?_, ?_, ?_, ?_, ?_⟩ <;> first | decide +kernel | (constructor <;> decide +kernel)

theorem witness_OwnershipRequestsComplete_2 : ∃ (s : State) (p : List Byte),
      (s.takes (if byteAt p 1 ≤ 55 then 5 else 4)) ∧
      (p.length = 4) ∧
      (byteAt p 0 = 2) ∧
      (byteAt p 1 < 64) ∧
      (byteAt p 1 ≠ 60) ∧
      (byteAt p 1 ≠ 61) ∧
      (byteAt p 1 ≠ 63) ∧
      (outsideOwner (byteAt p 2) = true) ∧
      ((s.get (BAY_OWNER.owner_id (byteAt p 1)) ≠ byteAt p 2 ∨ s.is (BAY_OWNER.busy (byteAt p 1)) = true)) ∧
      (s.bayOwned (byteAt p 1) (byteAt p 2) = false) ∧
      ((ownerCore (byteAt p 2)).bind (s.coreRefuses · (byteAt p 1)) = none) :=
  by refine ⟨State.reset, (payload 4 [(0, 2), (1, 55), (2, 0x20)]), ?_, ?_, ?_, ?_, ?_, ?_, ?_, ?_, ?_, ?_, ?_⟩ <;> first | decide +kernel | (constructor <;> decide +kernel)

theorem witness_OwnershipRequestsComplete_3 : ∃ (s : State) (p : List Byte),
      (s.takes 0) ∧
      (p.length = 4) ∧
      (byteAt p 0 = 0) ∧
      (byteAt p 1 < 8) ∧
      (fieldAt p 2 2 = 0) ∧
      (s.get (UART_OWNER.owner (byteAt p 1)) = 0x20) :=
  by refine ⟨(State.reset.put (UART_OWNER.owner 7) 0x20), (payload 4 [(0, 0), (1, 7)]), ?_, ?_, ?_, ?_, ?_, ?_⟩ <;> first | decide +kernel | (constructor <;> decide +kernel)

theorem witness_OwnershipRequestsComplete_4 : ∃ (s : State) (p : List Byte),
      (s.takes 0) ∧
      (p.length = 4) ∧
      (byteAt p 0 = 1) ∧
      (byteAt p 1 < 16) ∧
      (fieldAt p 2 2 = 0) ∧
      (s.get (CVU_OWNER.owner (byteAt p 1)) = 0x20) :=
  by refine ⟨(State.reset.put (CVU_OWNER.owner 15) 0x20), (payload 4 [(0, 1), (1, 15)]), ?_, ?_, ?_, ?_, ?_, ?_⟩ <;> first | decide +kernel | (constructor <;> decide +kernel)

theorem witness_OwnershipRequestsComplete_5 : ∃ (s : State) (p : List Byte),
      (s.takes 0) ∧
      (p.length = 4) ∧
      (byteAt p 0 = 2) ∧
      (byteAt p 1 < 64) ∧
      (fieldAt p 2 2 = 0) ∧
      (s.bayOut (byteAt p 1) = true) :=
  by refine ⟨(State.reset.put (BAY_OWNER.owner_id 63) 0x1C), (payload 4 [(0, 2), (1, 63)]), ?_, ?_, ?_, ?_, ?_, ?_⟩ <;> first | decide +kernel | (constructor <;> decide +kernel)

theorem witness_OwnershipRequestsComplete_6 : ∃ (s : State) (p : List Byte),
      (s.takes 0) ∧
      (p.length = 0) :=
  by refine ⟨State.reset, (payload 0 []), ?_, ?_⟩ <;> first | decide +kernel | (constructor <;> decide +kernel)

/-! Witnesses of SecurityRequestsComplete. -/

theorem witness_SecurityRequestsComplete_0 : ∃ (s : State) (p : List Byte),
      (s.takes 0) ∧
      (p.length = 0) ∧
      (s.lifecycle ≤ 3) :=
  by refine ⟨State.reset, (payload 0 []), ?_, ?_, ?_⟩ <;> first | decide +kernel | (constructor <;> decide +kernel)

theorem witness_SecurityRequestsComplete_1 : ∃ (s : State) (p : List Byte),
      (s.takes 0) ∧
      (p.length = 4) ∧
      (byteAt p 0 = 2) ∧
      (fieldAt p 1 3 = 0) ∧
      (s.lifecycle = 3) :=
  by refine ⟨(State.reset.put SEC_STATE.lifecycle 3), (payload 4 [(0, 2)]), ?_, ?_, ?_, ?_, ?_⟩ <;> first | decide +kernel | (constructor <;> decide +kernel)

theorem witness_SecurityRequestsComplete_2 : ∃ (s : State) (p : List Byte),
      (s.takes 0) ∧
      (p.length = 4) ∧
      (byteAt p 0 = 1) ∧
      (fieldAt p 1 3 = 0) ∧
      (s.lifecycle = 0) ∧
      (s.present = true) ∧
      (s.sec.provision = none) ∧
      (s.is SEC_STATE.trng_ok = true) :=
  by refine ⟨(((State.reset.put SEC_STATE.lifecycle 0).put SEC_PRES.window 1).put SEC_STATE.trng_ok 1), (payload 4 [(0, 1)]), ?_, ?_, ?_, ?_, ?_, ?_, ?_, ?_⟩ <;> first | decide +kernel | (constructor <;> decide +kernel)

theorem witness_SecurityRequestsComplete_3 : ∃ (s : State) (p : List Byte),
      (s.takes 0) ∧
      (p.length = 4) ∧
      (byteAt p 0 = 2) ∧
      (fieldAt p 1 3 = 0) ∧
      (s.lifecycle = 1) ∧
      (s.present = true) ∧
      (s.sec.provision = none) :=
  by refine ⟨((State.reset.put SEC_STATE.lifecycle 1).put SEC_PRES.window 1), (payload 4 [(0, 2)]), ?_, ?_, ?_, ?_, ?_, ?_, ?_⟩ <;> first | decide +kernel | (constructor <;> decide +kernel)

theorem witness_SecurityRequestsComplete_4 : ∃ (s : State) (p : List Byte),
      (s.takes 0) ∧
      (p.length = 4) ∧
      (byteAt p 0 = 4) ∧
      (fieldAt p 1 3 = 0) ∧
      ((s.lifecycle = 0 ∨ s.lifecycle = 1 ∨ s.lifecycle = 3)) ∧
      (s.present = true) ∧
      (s.sec.provision = none) :=
  by refine ⟨((State.reset.put SEC_STATE.lifecycle 0).put SEC_PRES.window 1), (payload 4 [(0, 4)]), ?_, ?_, ?_, ?_, ?_, ?_, ?_⟩ <;> first | decide +kernel | (constructor <;> decide +kernel)

theorem witness_SecurityRequestsComplete_5 : ∃ (s : State) (p : List Byte),
      (s.takes 0) ∧
      (byteAt p 0 = 1) ∧
      (byteAt p 1 = 0) ∧
      (p.length = 68) ∧
      (fieldAt p 2 2 = 64) ∧
      ((s.lifecycle = 0 ∨ s.lifecycle = 1 ∨ s.lifecycle = 3 ∧ s.present = true)) :=
  by refine ⟨(State.reset.put SEC_STATE.lifecycle 0), (payload 68 [(0, 1), (1, 0), (2, 64)]), ?_, ?_, ?_, ?_, ?_, ?_⟩ <;> first | decide +kernel | (constructor <;> decide +kernel)

theorem witness_SecurityRequestsComplete_6 : ∃ (s : State) (p : List Byte),
      (s.takes 0) ∧
      (byteAt p 0 = 5) ∧
      (byteAt p 1 = 0) ∧
      (p.length = 20) ∧
      (fieldAt p 2 2 = 16) ∧
      ((s.lifecycle = 0 ∨ s.lifecycle = 1 ∨ s.lifecycle = 3 ∧ s.present = true)) ∧
      (s.is SEC_STATE.trng_ok = true) :=
  by refine ⟨((State.reset.put SEC_STATE.lifecycle 0).put SEC_STATE.trng_ok 1), (payload 20 [(0, 5), (1, 0), (2, 16)]), ?_, ?_, ?_, ?_, ?_, ?_, ?_⟩ <;> first | decide +kernel | (constructor <;> decide +kernel)

theorem witness_SecurityRequestsComplete_7 : ∃ (s : State) (p : List Byte),
      (s.takes 0) ∧
      (byteAt p 0 = 2) ∧
      (byteAt p 1 = 0) ∧
      (p.length = 36) ∧
      (fieldAt p 2 2 = 32) ∧
      ((s.lifecycle = 0 ∨ s.lifecycle = 1)) :=
  by refine ⟨(State.reset.put SEC_STATE.lifecycle 0), (payload 36 [(0, 2), (1, 0), (2, 32)]), ?_, ?_, ?_, ?_, ?_, ?_⟩ <;> first | decide +kernel | (constructor <;> decide +kernel)

theorem witness_SecurityRequestsComplete_9 : ∃ (s : State) (p : List Byte),
      (s.takes 0) ∧
      (byteAt p 0 = 3) ∧
      (byteAt p 1 = 0) ∧
      (p.length = 36) ∧
      (fieldAt p 2 2 = 32) ∧
      ((s.lifecycle = 0 ∨ s.lifecycle = 1)) :=
  by refine ⟨(State.reset.put SEC_STATE.lifecycle 0), (payload 36 [(0, 3), (1, 0), (2, 32)]), ?_, ?_, ?_, ?_, ?_, ?_⟩ <;> first | decide +kernel | (constructor <;> decide +kernel)

theorem witness_SecurityRequestsComplete_11 : ∃ (s : State) (p : List Byte),
      (s.takes 0) ∧
      (byteAt p 0 = 4) ∧
      (byteAt p 1 = 0) ∧
      (byteAt p 5 < 2) ∧
      (p.length = 4 + (if byteAt p 5 = 0 then 67 else 101)) ∧
      (fieldAt p 2 2 = (if byteAt p 5 = 0 then 67 else 101)) ∧
      ((s.lifecycle = 0 ∨ s.lifecycle = 1 ∨ s.lifecycle = 3)) :=
  by refine ⟨(State.reset.put SEC_STATE.lifecycle 0), (payload 71 [(0, 4), (2, 67)]), ?_, ?_, ?_, ?_, ?_, ?_, ?_⟩ <;> first | decide +kernel | (constructor <;> decide +kernel)

theorem witness_SecurityRequestsComplete_12 : ∃ (s : State) (p : List Byte) (c : List Byte),
      (s.takes 0) ∧
      (p.length = 4) ∧
      (byteAt p 0 < 4) ∧
      (fieldAt p 1 3 = 0) ∧
      (s.certOf (byteAt p 0) = some c) :=
  by refine ⟨(State.reset.modSec fun c => { c with statement := some [1] }), (payload 4 [(0, 3)]), [1], ?_, ?_, ?_, ?_, ?_⟩ <;> first | decide +kernel | (constructor <;> decide +kernel)

theorem witness_SecurityRequestsComplete_14 : ∃ (s : State) (p : List Byte) (n : Nat),
      (s.takes 0) ∧
      (5 ≤ p.length) ∧
      (p.length ≤ 1004) ∧
      ((s.lifecycle = 1 ∨ s.lifecycle = 3)) ∧
      (fieldAt p 0 4 = s.sec.certStage.length) ∧
      (derLength (s.sec.certStage ++ p.drop 4) = some n) ∧
      ((s.sec.certStage ++ p.drop 4).length < n) :=
  by refine ⟨((State.reset.put SEC_STATE.lifecycle 1).put SEC_STATE.lifecycle 1), (payload 8 [(4, 0x30), (5, 0x7F)]), 129, ?_, ?_, ?_, ?_, ?_, ?_, ?_⟩ <;> first | decide +kernel | (constructor <;> decide +kernel)

theorem witness_SecurityRequestsComplete_15 : ∃ (s : State) (p : List Byte),
      (s.takes 0) ∧
      (p.length = 4) ∧
      ((s.lifecycle = 1 ∨ s.lifecycle = 2 ∨ s.lifecycle = 3)) ∧
      (s.sec.secMin < fieldAt p 0 4) :=
  by refine ⟨((State.reset.put SEC_STATE.lifecycle 1).put SEC_STATE.lifecycle 1), (payload 4 [(0, 1)]), ?_, ?_, ?_, ?_⟩ <;> first | decide +kernel | (constructor <;> decide +kernel)

theorem witness_SecurityRequestsComplete_16 : ∃ (s : State) (p : List Byte),
      (s.takes 0) ∧
      (p.length = 0) ∧
      (s.lifecycle = 2) ∧
      (s.sec.vendorOff = false) ∧
      (s.lockoutEnd = 0) ∧
      (s.is SEC_STATE.trng_ok = true) :=
  by refine ⟨((State.reset.put SEC_STATE.lifecycle 2).put SEC_STATE.trng_ok 1), (payload 0 []), ?_, ?_, ?_, ?_, ?_, ?_⟩ <;> first | decide +kernel | (constructor <;> decide +kernel)

theorem witness_SecurityRequestsComplete_17 : ∃ (s : State) (p : List Byte) (n : List Byte),
      (s.takes 0) ∧
      (p.length = 68) ∧
      (s.lifecycle = 2) ∧
      (s.lockoutEnd = 0) ∧
      (s.present = true) ∧
      (s.sec.nonce = some n) :=
  by refine ⟨((((((State.reset.put SEC_STATE.lifecycle 2).put SEC_PRES.window 1).modSec fun x => { x with nonce := some [1] }).put SEC_STATE.lifecycle 2).put SEC_PRES.window 1).modSec fun c => { c with nonce := some [1] }), (payload 68 []), [1], ?_, ?_, ?_, ?_, ?_, ?_⟩ <;> first | decide +kernel | (constructor <;> decide +kernel)

theorem witness_SecurityRequestsComplete_18 : ∃ (s : State) (p : List Byte),
      (s.takes 0) ∧
      (p.length = 16) ∧
      (s.lifecycle = 2) ∧
      (s.lockoutEnd = 0) ∧
      (s.present = true) ∧
      (s.sec.password ≠ none) :=
  by refine ⟨(((((State.reset.put SEC_STATE.lifecycle 2).put SEC_PRES.window 1).put SEC_STATE.lifecycle 2).put SEC_PRES.window 1).modSec fun c => { c with password := some ([], 0) }), (payload 16 []), ?_, ?_, ?_, ?_, ?_, ?_⟩ <;> first | decide +kernel | (constructor <;> decide +kernel)

theorem witness_SecurityRequestsComplete_19 : ∃ (s : State) (p : List Byte),
      (s.takes 0) ∧
      (p.length = 4) ∧
      (byteAt p 0 = 0) ∧
      (byteAt p 1 < 2) ∧
      (byteAt p 2 < 2) ∧
      (fieldAt p 3 1 = 0) ∧
      ((s.lifecycle = 0 ∨ s.lifecycle = 1)) :=
  by refine ⟨(State.reset.put SEC_STATE.lifecycle 0), (payload 4 [(0, 0), (1, 1), (2, 1)]), ?_, ?_, ?_, ?_, ?_, ?_, ?_⟩ <;> first | decide +kernel | (constructor <;> decide +kernel)

theorem witness_SecurityRequestsComplete_20 : ∃ (s : State) (p : List Byte),
      (s.takes 0) ∧
      (p.length = 4) ∧
      (byteAt p 0 = 1) ∧
      (fieldAt p 3 1 = 0) ∧
      ((s.lifecycle = 1 ∨ s.lifecycle = 3)) ∧
      (s.present = true) :=
  by refine ⟨((State.reset.put SEC_STATE.lifecycle 1).put SEC_PRES.window 1), (payload 4 [(0, 1)]), ?_, ?_, ?_, ?_, ?_, ?_⟩ <;> first | decide +kernel | (constructor <;> decide +kernel)

theorem witness_SecurityRequestsComplete_21 : ∃ (s : State) (p : List Byte),
      (s.takes 0) ∧
      (p.length = 0) ∧
      (s.lifecycle ≠ 0) ∧
      (s.sec.marketFuse = false) ∧
      (s.regStore ≠ none) :=
  by refine ⟨((State.reset.put SEC_STATE.lifecycle 1).modUwb fun u => { u with store := vmod (fun _ => sampleStore) u.store 0 }), [], ?_, ?_, ?_, ?_, ?_⟩ <;> first | decide +kernel | (constructor <;> decide +kernel)

theorem witness_SecurityRequestsComplete_22 : ∃ (s : State) (p : List Byte),
      (s.takes 0) ∧
      (p.length = 0) ∧
      ((s.lifecycle = 1 ∨ s.lifecycle = 3)) ∧
      (s.present = true) :=
  by refine ⟨((State.reset.put SEC_STATE.lifecycle 1).put SEC_PRES.window 1), (payload 0 []), ?_, ?_, ?_, ?_⟩ <;> first | decide +kernel | (constructor <;> decide +kernel)

theorem witness_SecurityRequestsComplete_23 : ∃ (s : State) (p : List Byte),
      (s.takes 0) ∧
      (p.length = 4) ∧
      (byteAt p 0 = 0) ∧
      (fieldAt p 1 3 = 0) ∧
      (s.lifecycle ≠ 2) ∧
      (s.lifecycle ≠ 3) ∧
      (s.present = true) ∧
      (s.debugOpen = false) :=
  by refine ⟨(State.reset.put SEC_PRES.window 1), (payload 4 [(0, 0)]), ?_, ?_, ?_, ?_, ?_, ?_, ?_, ?_⟩ <;> first | decide +kernel | (constructor <;> decide +kernel)

theorem witness_SecurityRequestsComplete_24 : ∃ (s : State) (p : List Byte),
      (s.takes 0) ∧
      (p.length = 4) ∧
      (byteAt p 0 = 1) ∧
      (fieldAt p 1 3 = 0) :=
  by refine ⟨State.reset, (payload 4 [(0, 1)]), ?_, ?_, ?_, ?_⟩ <;> first | decide +kernel | (constructor <;> decide +kernel)

/-! Witnesses of DiagnosticsRequestsComplete. -/

theorem witness_DiagnosticsRequestsComplete_0 : ∃ (s : State) (p : List Byte),
      (s.takes 0) ∧
      (p.length = 8) ∧
      (1 ≤ byteAt p 0) ∧
      (byteAt p 0 ≤ 0x0C) ∧
      (fieldAt p 1 1 = 0) ∧
      (fieldAt p 2 2 % 4 = 0) ∧
      (fieldAt p 2 2 < blockEnd (byteAt p 0)) ∧
      (1 ≤ fieldAt p 4 2) ∧
      (fieldAt p 4 2 ≤ 128) ∧
      (fieldAt p 2 2 + 4 * fieldAt p 4 2 ≤ blockEnd (byteAt p 0)) ∧
      (fieldAt p 6 2 = 0) :=
  by refine ⟨State.reset, (payload 8 [(0, 1), (4, 1)]), ?_, ?_, ?_, ?_, ?_, ?_, ?_, ?_, ?_, ?_, ?_⟩ <;> first | decide +kernel | (constructor <;> decide +kernel)

theorem witness_DiagnosticsRequestsComplete_1 : ∃ (s : State) (p : List Byte),
      (s.takes 0) ∧
      (p.length = 0) :=
  by refine ⟨State.reset, (payload 0 []), ?_, ?_⟩ <;> first | decide +kernel | (constructor <;> decide +kernel)

theorem witness_DiagnosticsRequestsComplete_4 : ∃ (s : State) (r : Req) (p : List Byte) (k : Nat),
      (s.takes 0) ∧
      (p.length = 0) ∧
      ((s.accept (s.open ⟨.A, 0x0907, 0⟩ r)).heldPair = some k) :=
  by refine ⟨(State.reset.modStw fun w => { w with pair1 := .held }), ⟨0, 0⟩, [], 1, ?_, ?_, ?_⟩ <;> first | decide +kernel | (constructor <;> decide +kernel)

theorem witness_DiagnosticsRequestsComplete_5 : ∃ (s : State) (r : Req) (p : List Byte),
      (s.takes 0) ∧
      (p.length = 0) ∧
      ((s.accept (s.open ⟨.A, 0x0907, 0⟩ r)).heldPair = none) :=
  by refine ⟨State.reset, { seq := 0, tag := 0 }, (payload 0 []), ?_, ?_, ?_⟩ <;> first | decide +kernel | (constructor <;> decide +kernel)

end Sys2Proof.Tests
end

section
/-! PROOFS of the statements on the architecture: held domains, refused granary accesses, the crossbar and the steward pairs, the
host link, delegation and diagnostics. The first parts are rules of wider use: when a guarded command takes effect, what a request
that is taken answers, and what a field reads after an event. -/

namespace Sys2Proof.Machine

variable {s : State}

/-! ### Guards of commands -/

/-- In a live main domain an event of the domain is what its meaning answers; else it is nothing (log entry 32). -/
theorem whileLive_of_live {f : State → Result} {r : Result} (h : s.mainLive = true) (e : f s = r) : whileLive s f = r :=
  (if_pos h).trans e

theorem whileLive_of_held {f : State → Result} (h : s.mainLive = false) : whileLive s f = .next s := by
  simp [whileLive, h]

/-- A domain that is live is powered and out of reset. -/
theorem State.powered_of_mainLive (h : s.mainLive = true) : s.pwr.powered = true ∧ s.pwr.inReset = false := by
  simp only [State.mainLive, Bool.and_eq_true, Bool.not_eq_true'] at h
  exact h.1

theorem whilePowered_of_live {f : State → Result} {r : Result} (h : s.mainLive = true) (e : f s = r) : whilePowered s f = r := by
  obtain ⟨powered, released⟩ := State.powered_of_mainLive h
  simp [whilePowered, powered, released, e]

theorem whilePowered_of_held {f : State → Result} (h : s.pwr.powered = false ∨ s.pwr.inReset = true) :
    whilePowered s f = .next s := by
  rcases h with h | h <;> simp [whilePowered, h]

/-- A held main domain serves no request. -/
theorem State.served_of_held (h : s.mainLive = false) : s.served = false := by
  simp [State.served, h]

/-- A request that the firmware does not serve changes nothing. -/
theorem State.serve_of_not_served (k : Kind) (r : Req) (p : List Byte) (checks : List (Option Answer))
    (run : OpenReq → State → State) (h : s.served = false) : s.serve k r p checks run = s := by
  simp [State.serve, h]

/-- An instruction of a core in a held main domain, whose clock is gated, changes nothing. -/
theorem State.dspIssue_of_held (n w : Nat) (h : s.mainLive = false) : s.dspIssue n w = s := by
  simp [State.dspIssue, State.coreClock, h]

/-! ### Requests that are taken -/

@[simp] theorem firstFault_nil : firstFault [] = none := rfl

@[simp] theorem firstFault_cons_eq_none {x : Option Answer} {l : List (Option Answer)} :
    firstFault (x :: l) = none ↔ x = none ∧ firstFault l = none := by
  cases x <;> simp [firstFault]

@[simp] theorem isLength_eq_none {p : List Byte} {n : Nat} : isLength p n = none ↔ p.length = n := by simp [isLength]
@[simp] theorem okArg_eq_none {offset : Nat} {good : Bool} : okArg offset good = none ↔ good = true := by simp [okArg]
@[simp] theorem isZero_eq_none {p : List Byte} {offset n : Nat} : isZero p offset n = none ↔ fieldAt p offset n = 0 := by
  simp [isZero]

/-- A request that is taken runs at once. -/
theorem State.enter_of_takes {k : Kind} (h : s.takes k.mode) (r : Req) (p : List Byte) (run : OpenReq → State → State) :
    s.enter k r p run = run (s.open k r) s := by
  simp [State.enter, h.life, h.mode, h.still]

/-- A request of class A, B or C that is taken and whose checks pass has its effect. -/
theorem State.serve_of_takes {k : Kind} {checks : List (Option Answer)} (h : s.takes k.mode) (cls : k.cls ≠ .H)
    (ok : firstFault checks = none) (r : Req) (p : List Byte) (run : OpenReq → State → State) :
    s.serve k r p checks run = run (s.open k r) s := by
  simp [State.serve, h.served, ok, State.enter_of_takes h, State.effect, cls]

/-- A command that serves such a request answers the state of its effect. -/
theorem serve_next_of_takes {k : Kind} {r : Req} {p : List Byte} {checks : List (Option Answer)} {run : OpenReq → State → State}
    {t : State} (h : s.takes k.mode) (cls : k.cls ≠ .H) (ok : firstFault checks = none) (effect : run (s.open k r) s = t) :
    Host.Outcome.next (s.serve k r p checks run) = (.next t : Result) :=
  congrArg _ ((State.serve_of_takes h cls ok r p run).trans effect)

/-! ### Fields after puts and reports -/

/-- A counter that is raised holds at its largest value. -/
theorem State.get_bump_same (h : Memory.wf s = true) (f : Field) (fits : f.lo + f.width ≤ 32) :
    (s.bump f).get f = min (s.get f + 1) (2 ^ f.width - 1) := by
  have lt : s.get f < 2 ^ f.width := bits_lt _ _ _
  unfold State.bump State.bumpBy
  rw [State.get_put_same h f _ fits]
  split
  · rw [Nat.mod_eq_of_lt ‹_›]; omega
  · rw [Nat.mod_eq_of_lt (by omega)]; omega

/-- A field outside the registers of reports reads as before the report. -/
theorem ReportsOnly.get {t : State} (o : ReportsOnly s t) (h : Memory.wf s = true) {f : Field} (out : f.addr ∉ reportRegisters) :
    t.get f = s.get f := by
  unfold State.get; rw [o.word h _ out]

/-! ### Held domains -/

/-- A command of the main domain is dropped while that domain is held: it is an event of the domain, a request to its
firmware, or an instruction of one of its cores. -/
theorem exec_of_held {c : Instr} (root : clockRootCommand c = false) (aon : alwaysOnCommand c = false) (h : s.mainLive = false) :
    exec c s = .next s := by
  have request (k r p checks run) : Host.Outcome.next (s.serve k r p checks run) = (.next s : Result) :=
    congrArg _ (State.serve_of_not_served k r p checks run (State.served_of_held h))
  have issue (n w) : Host.Outcome.next (s.dspIssue n w) = (.next s : Result) := congrArg _ (State.dspIssue_of_held n w h)
  cases c with
  | dcoCalDone | freqAcquired | lockWindowEnd | phaseAligned | gatesOpen | relock | refMissing | coastExpiry | refReturn
  | phaseWalk | walkDone | refJump | syncInEdge | syncWaitExpiry | laneSyncCmd | syncLanded | authVerifyDone | thaw | hostTlp
  | spiTransaction | alignmentMarker =>
    cases root
  | scheduleWake | rtcAlarm | gntChange | uartWake | toVbak | toVsys | vbakLow | aonPowerLoss | aonPowerUp | mainPowerStart
  | mainResetRelease | railFault | extReset | earlyPfail | frozenPfail | hostWake | bootDone | presPress | presRelease
  | presWindowExpiry | sealCheck | lockoutEnd | nonceExpiry | serviceTimeout | tapReset | idcode | samplePreload | extest
  | clamp | highz | auth | authOpen | authClose | tapAuthPassword | tapAuthChallenge | tapAuthResponse | dbgReg | frzRead
  | dbgStatus | bypass | hostLinkLoss | wakeMaskRelease =>
    cases aon
  | ping | getInfo | setMode | powerCfg | wakeAlarm | fwChunk | fwCommit | laneSet | signalAdd | signalDrop | channelPolicy
  | reportCfg | aiding | navAiding | corrections | search | declare | navDataGet | snapArm | snapAbort | snapInfo | snapList
  | snapLoad | snapFix | snapSchedule | snapPolicy | snapExport | snapDelete | snapCommit | timeGet | timeCfg | utcSet
  | trigArm | trigCancel | capCfg | capRead | tpCfg | netCfg | netLat | netAsym | netRealign | netInfo | uwbCfg | uwbCal
  | uwbPsdu | uwbTx | uwbRx | uwbStop | sessionStart | sessionStop | sessionDelete | sessionPsdu | remoteIntervals | regWrite
  | regReadRegulatory | antDelay | listenCfg | delegate | returnBlock | owners | secGet | lifecycle | keyInstall | certRead
  | certInstall | secMin | authChallenge | authResponse | authPassword | sealReq | marketLock | vendorDebugOff | debug
  | regRead | signalStatus | acqSummary | counters | eventLog | countersClear | pairRetest | kernelLoad | kernelStart
  | kernelStop | kernelUnload | kernelStatus | kernelFeed | kernelDoorbell | kernelTrig =>
    exact request _ _ _ _ _
  | sessionCreate r p => exact if_pos (by simp [State.served_of_held h])
  | nop | br | call | ret | reti | brr | loop | loopr | rpt | rptr | rot | halt | mv | mov | ldi | add | sub | adds | subs
  | and | or | xor | not | neg | abs | cmp | addi | asl | asr | lsr | nrm | mul | mac | nmac | mulm | macm | macu | clr
  | aadd | asub | amov | aneg | aabs | ashl | ashr | ext | dep | acmp | cmul | cmac | cmacc | cnmac | cpk | cunp | cadd
  | csub | cconj | smax | smin | smaxd | smind | sinit | clrf | ei | di | fence =>
    exact issue _ _
  | _ => apply whileLive_of_held h

/-- A command that the clock root or the host interface takes through a freeze is dropped without power and in reset. -/
theorem exec_clockRoot_of_held {c : Instr} (root : clockRootCommand c = true)
    (h : s.pwr.powered = false ∨ s.pwr.inReset = true) : exec c s = .next s := by
  cases c with
  | dcoCalDone | freqAcquired | lockWindowEnd | phaseAligned | gatesOpen | relock | refMissing | coastExpiry | refReturn
  | phaseWalk | walkDone | refJump | syncInEdge | syncWaitExpiry | laneSyncCmd | syncLanded | authVerifyDone | thaw | hostTlp
  | spiTransaction | alignmentMarker =>
    apply whilePowered_of_held h
  | _ => cases root

/-- Settles O59: each command passes one of three gates, and all are shut while the main domain is held. -/
theorem heldDomainStandsStill : Obligations.HeldDomainStandsStill := fun _ _ =>
  ⟨exec_of_held, exec_clockRoot_of_held⟩

/-! ### Refused granary accesses -/

/-- The registers in which a refused access is counted and recorded (R46), before it is reported. -/
def State.recordRefusal (s : State) (id addr : Nat) : State :=
  (((s.bump FAB_VIOL_COUNT.count).flag FAB_STATUS.violation_seen).put FAB_STATUS.last_viol_id id).put FAB_VIOL_ADDR.address addr

theorem State.recordRefusal_wf (id addr : Nat) (h : Memory.wf s = true) : Memory.wf (s.recordRefusal id addr) = true :=
  State.put_wf _ _ (State.put_wf _ _ (State.flag_wf _ (State.bump_wf _ h)))

/-- After the record of a refused access only reports follow. -/
theorem State.refuse_reportsOnly (s : State) (id addr : Nat) : ReportsOnly (s.recordRefusal id addr) (s.refuse id addr) := by
  have e := emit_reportsOnly (s.recordRefusal id addr) (evDelegViolation id addr)
  unfold State.refuse
  dsimp only
  split
  · exact e.trans (cause_reportsOnly _ 8 29)
  · exact e

/-- What a refused access leaves behind (R46): the granary as it was, and the access in the registers of the fabric. -/
theorem State.refuse_recorded (id addr : Nat) (h : Memory.wf s = true) :
    (s.refuse id addr).gran.words = s.gran.words ∧
    (s.refuse id addr).get FAB_STATUS.last_viol_id = id % 64 ∧
    (s.refuse id addr).get FAB_STATUS.violation_seen = 1 ∧
    (s.refuse id addr).get FAB_VIOL_ADDR.address = addr % 2 ^ 32 ∧
    (s.refuse id addr).get FAB_VIOL_COUNT.count = min (s.get FAB_VIOL_COUNT.count + 1) (2 ^ 32 - 1) := by
  have o := State.refuse_reportsOnly s id addr
  have hc : Memory.wf (s.bump FAB_VIOL_COUNT.count) = true := State.bump_wf _ h
  have hf := State.flag_wf FAB_STATUS.violation_seen hc
  have hi := State.put_wf FAB_STATUS.last_viol_id id hf
  have kept (f : Field) (out : f.addr ∉ reportRegisters) : (s.refuse id addr).get f = (s.recordRefusal id addr).get f :=
    o.get (State.recordRefusal_wf id addr h) out
  refine ⟨by rw [o.gran]; rfl, ?_, ?_, ?_, ?_⟩
  · rw [kept _ (by decide), State.recordRefusal, State.get_put_other hi _ _ _ (by decide) (by decide),
      State.get_put_same hf _ _ (by decide)]
    rfl
  · rw [kept _ (by decide), State.recordRefusal, State.get_put_other hi _ _ _ (by decide) (by decide),
      State.get_put_other hf _ _ _ (by decide) (by decide), State.flag, State.get_put_same hc _ _ (by decide)]
    rfl
  · rw [kept _ (by decide), State.recordRefusal, State.get_put_same hi _ _ (by decide)]
    rfl
  · rw [kept _ (by decide), State.recordRefusal, State.get_put_other hi _ _ _ (by decide) (by decide),
      State.get_put_other hf _ _ _ (by decide) (by decide), State.flag,
      State.get_put_other hc _ _ _ (by decide) (by decide), State.get_bump_same h _ (by decide)]
    rfl

theorem State.granAccess_of_refused {id a : Nat} {x : Option Nat} (addr : Nat) (refused : s.granGrant id a x.isSome = none) :
    s.granAccess id a addr x = (2 ^ 40 - 1, false, true, s.refuse id addr) := by
  simp [State.granAccess, refused]

theorem State.granAccess_of_granted_write {id a bay w : Nat} (addr v : Nat) (grant : s.granGrant id a true = some (bay, w)) :
    s.granAccess id a addr (some v) = (0, false, false, s.granWriteAt bay w v) := by
  simp [State.granAccess, grant]

/-- Settles O2: an access that nothing grants ends in the record of its refusal, a granted write in the write. -/
theorem refusedGranaryAccess : Obligations.RefusedGranaryAccess := by
  intro s id a addr x wf
  refine ⟨fun refused => ⟨_, State.granAccess_of_refused addr refused, State.refuse_recorded id addr wf⟩, ?_⟩
  rintro bay w v rfl grant
  exact State.granAccess_of_granted_write addr v grant

/-! ### The crossbar and the steward pairs -/

/-- A running pair is declared hung while the other runs (R38, R39): it is held, and the other takes over. -/
theorem State.pairHung_of_running {pair : Fin 2} (cause : Nat) (hung : s.pairState pair = .running)
    (other : s.pairState (1 - pair) = .running) :
    s.pairHung pair cause = ((((((((s.setPair pair .held).modStw fun w =>
      { w with controlOn := 1 - pair.val, navOn := 1 - pair.val }).put (pairOk pair) 0).flag STW_STATUS.single_pair).flag
      HL_STATUS.single_pair).put STW_STATUS.last_cause cause).takeOverBurst (if pair = 0 then 3 else 1) pair).journalReplay.bump
      STW_STATUS.failover_count).emit (evPairFailover pair cause) := by
  have initiator : ∀ k : Fin 2, (if k.val == 0 then 3 else 1) = if k = 0 then 3 else 1 := by decide
  unfold State.pairHung
  rw [if_neg (by simp [hung]), if_neg (by simp [other]), initiator]

/-- The end of a retest (R42): the pair runs again or stays held, and every request that waits for the result has it. -/
theorem execPairRetestDone_of_retesting {k : Nat} (pass : Bool) (live : s.mainLive = true) (held : s.heldPair = some k)
    (test : s.pairState k = .retesting) :
    execPairRetestDone pass s = .next (s.stw.retests.foldl (fun s q => s.answer q (ansOk (le 4 (if pass then 0 else 1))))
      (if pass
        then ((s.setPair k .running).modStw fun w => { w with retests := [] }).flag (pairOk k)
        else (s.setPair k .held).modStw fun w => { w with retests := [] })) := by
  apply whileLive_of_live live
  cases pass <;> simp [held, test, State.each]

/-- Settles O1: each command of these families in a live domain, a pair's end by the rule for a pair that runs beside another. -/
theorem crossbarAndPairCommandsComplete : Obligations.CrossbarAndPairCommandsComplete := by
  intro s live
  refine ⟨fun elapsed reqs => ?_, ?_, ?_, fun k pass held test => execPairRetestDone_of_retesting pass live held test⟩
  · apply whileLive_of_live live rfl
  · apply whileLive_of_live live rfl
  · rintro pair memory cause u t hung other rfl rfl
    constructor
    · rintro rfl
      apply whileLive_of_live live
      rw [State.pairHung_of_running _ hung other]
    · rintro rfl
      apply whileLive_of_live live
      rw [State.pairHung_of_running _ hung other]

/-! ### The host link -/

/-- The loss of a live PCI Express link in a live domain (R554). -/
theorem execHostLinkLoss_of_live (cause : Fin 5) (live : s.mainLive = true) (thawed : s.frozen = false) (spi : s.host.spi = false)
    (link : s.host.linkUp = true) : execHostLinkLoss cause s = .next (s.linkLoss (cause.val + 1)) := by
  unfold execHostLinkLoss
  rw [if_neg (by simp [thawed])]
  apply whileLive_of_live live
  simp [spi, link]

/-- Settles O42: in a live domain each event takes the branch of its meaning that its conditions name. -/
theorem hostLinkEventsComplete : Obligations.HostLinkEventsComplete := by
  intro s live
  refine ⟨?tlp, ?linkUp, ?linkLoss, ?spiTimeout, ?doorbell, ?release, ?ringInit, ?ringInitDone, ?consumed, ?overrun, ?time,
    ?unmask, ?signalled, ?quiet, ?spi, ?reset, ?noReset, ?register⟩
  case tlp =>
    intro t clash thawed spi perst link mem ready
    apply whilePowered_of_live live
    cases t <;> simp [spi, perst, link, thawed, State.hostRequest, mem, ready]
  case linkUp =>
    intro speed x2 spi trained
    apply whileLive_of_live live
    simp [spi, trained]
  case linkLoss => exact fun cause thawed spi link => execHostLinkLoss_of_live cause live thawed spi link
  case spiTimeout =>
    intro spi link limit
    apply whileLive_of_live live
    simp [spi, link, limit]
  case doorbell => exact fun _ _ _ => by apply whileLive_of_live live rfl
  case release => exact fun _ => by apply whileLive_of_live live rfl
  case ringInit =>
    intro on
    apply whileLive_of_live live
    simp [on]
  case ringInitDone =>
    rintro t run rfl
    apply whileLive_of_live live
    simp [run]
  case consumed =>
    intro value fits
    apply whileLive_of_live live
    simp [State.evtCons, fits]
  case overrun =>
    intro value past
    apply whileLive_of_live live
    simp [State.evtCons, Nat.not_le.mpr past]
  case time => apply whileLive_of_live live rfl
  case unmask => exact fun _ => by apply whileLive_of_live live rfl
  case signalled =>
    rintro cls u t run rfl pend rfl
    apply whileLive_of_live live
    simp [run, pend]
  case quiet =>
    rintro cls u run rfl pend
    apply whileLive_of_live live
    simp [run, pend]
  case spi =>
    intro mosi clash spi thawed
    apply whilePowered_of_live live
    simp [spi, thawed]
  case reset => exact fun _ => by apply whileLive_of_live live rfl
  case noReset =>
    intro key rtc wrong
    apply whileLive_of_live live
    have ne : key.toNat ≠ 0xA5 := fun e => wrong (BitVec.eq_of_toNat_eq e)
    simp [State.devReset, ne]
  case register => exact fun _ _ => by apply whileLive_of_live live rfl

/-! ### Delegation -/

/-- Settles O44: each request is taken and its checks pass, and its effect is the one of its kind of block. -/
theorem ownershipRequestsComplete : Obligations.OwnershipRequestsComplete := by
  intro s
  refine ⟨?uart, ?cvu, ?bay, ?uartHome, ?cvuHome, ?bayHome, ?owners⟩
  case uart =>
    intro r p takes length kind index host
    unfold exec execDelegate
    simp only [kind]
    apply serve_next_of_takes takes (by simp)
    · simp [length, index, host, outsideOwner]
    · rfl
  case cvu =>
    intro r p takes length kind index host
    unfold exec execDelegate
    simp only [kind]
    apply serve_next_of_takes takes (by simp)
    · simp [length, index, host, outsideOwner]
    · rfl
  case bay =>
    intro r p takes length kind index n60 n61 n63 outside _ unowned room
    unfold exec execDelegate
    simp only [kind, BEq.rfl, Bool.true_and, decide_eq_true_eq]
    apply serve_next_of_takes takes (by simp)
    · simp [length, index, n60, n61, n63, outside]
    · simp [unowned, room]
  case uartHome =>
    intro r p takes length kind index pad host
    unfold exec execReturnBlock
    simp only [kind]
    apply serve_next_of_takes takes (by simp)
    · simp [length, index, pad]
    · simp [host]
  case cvuHome =>
    intro r p takes length kind index pad host
    unfold exec execReturnBlock
    simp only [kind]
    apply serve_next_of_takes takes (by simp)
    · simp [length, index, pad]
    · simp [host]
  case bayHome =>
    intro r p takes length kind index pad out
    unfold exec execReturnBlock
    simp only [kind]
    apply serve_next_of_takes takes (by simp)
    · simp [length, index, pad]
    · simp [out]
  case owners =>
    intro r p takes length
    apply serve_next_of_takes takes (by simp) (by simp [length]) rfl

/-! ### Diagnostics -/

/-- Settles O46: each request is taken and its checks pass. -/
theorem diagnosticsRequestsComplete : Obligations.DiagnosticsRequestsComplete := by
  intro s
  refine ⟨?read, ?counters, ?log, ?clear, ?retest, ?noPair⟩
  case read =>
    intro r p takes length low high reserved aligned start positive most fits pad
    apply serve_next_of_takes takes (by simp)
    · simp [length, low, high, reserved, aligned, start, positive, most, fits, pad]
    · rfl
  case counters =>
    intro r p takes length
    apply serve_next_of_takes takes (by simp) (by simp [length]) rfl
  case log =>
    intro r p takes length
    apply serve_next_of_takes takes (by simp) (by simp [length]) rfl
  case clear =>
    intro r p takes length
    apply serve_next_of_takes takes (by simp) (by simp [length]) rfl
  case retest =>
    intro r p k takes length held
    apply serve_next_of_takes takes (by simp) (by simp [length])
    simp [held]
  case noPair =>
    intro r p takes length idle
    apply serve_next_of_takes takes (by simp) (by simp [length])
    simp [idle]

end Sys2Proof.Machine
end

section
/-! PROOFS of the statements on the clock root: the lock sequence of ADPLL-A, the events of its reference, lane syncs and the
alignment marker, and ADPLL-B. Each command is taken in the phase of the lock sequence in which it has its effect. -/

namespace Sys2Proof.Machine

variable {s : State}

/-! ### Guards and phases of the clock root -/

/-- The clock root runs wherever the main domain is powered and out of reset, frozen or not (R76, R528). -/
theorem whilePowered_of_powered {f : State → Result} {r : Result} (powered : s.pwr.powered = true)
    (released : s.pwr.inReset = false) (e : f s = r) : whilePowered s f = r := by
  simp [whilePowered, powered, released, e]

@[simp] theorem State.when_true (f : State → State) : s.when true f = f s := rfl
@[simp] theorem State.when_false (f : State → State) : s.when false f = s := rfl

/-- A count that is out of tolerance fails the test of its window (R61, R83). -/
theorem decide_within_eq_false {low high count : Nat} (h : ¬ (low ≤ count ∧ count ≤ high)) :
    (decide (low ≤ count) && decide (count ≤ high)) = false := by
  rwa [← Bool.decide_and, decide_eq_false_iff_not]

/-- The ceiling of the DCO (R55) concerns registers alone. -/
@[simp] theorem State.ceiling_clk (demand : BitVec 16) : (s.ceiling demand).clk = s.clk := by
  unfold State.ceiling
  split <;> simp

/-- While lock is held, no window of the lock sequence is counted. -/
theorem State.phase_ne_counting_of_lockHeld (held : s.lockHeld = true) : s.clk.phase ≠ .counting := by
  intro counting
  simp [State.lockHeld, counting] at held

/-! ### The lock sequence of ADPLL-A -/

/-- What the end of a window shows (R55, R61, R74): its count, the safe clock's count, and the ceiling. -/
def State.showWindow (s : State) (count : BitVec 15) (safe : BitVec 12) (demand : BitVec 16) : State :=
  ((((s.put CLK_WINDOW.last_count count.toNat).put CLK_WINDOW.last_in_tol
    (b2n (decide (23997 ≤ count.toNat) && decide (count.toNat ≤ 24003)))).put CLK_SAFE_MEAS.count safe.toNat).flag
    CLK_SAFE_MEAS.valid).ceiling demand

/-- A window that ends while windows are counted (R61, R62) breaks the run of good windows, begins it, or completes it. -/
theorem execLockWindowEnd_of_counting (count : BitVec 15) (safe : BitVec 12) (ticks : Fin 12) (demand : BitVec 16)
    (powered : s.pwr.powered = true) (released : s.pwr.inReset = false) (counting : s.clk.phase = .counting)
    (tracks : s.is CLK_STATUS.coasting = false) :
    execLockWindowEnd count safe ticks demand s =
      if 23997 ≤ count.toNat ∧ count.toNat ≤ 24003 then
        if s.clk.inTol = 0 then .next ((s.showWindow count safe demand).modClk fun c => { c with inTol := 1 })
        else .next (s.showWindow count safe demand).declareLock
      else .next ((s.showWindow count safe demand).modClk fun c => { c with inTol := 0 }) := by
  apply whilePowered_of_powered powered released
  by_cases good : 23997 ≤ count.toNat ∧ count.toNat ≤ 24003
  · by_cases first : s.clk.inTol = 0 <;> simp [State.showWindow, counting, tracks, good, first]
  · simp [State.showWindow, counting, tracks, good, decide_within_eq_false good]

/-- Settles O3: each command in its phase of the lock sequence. -/
theorem lockSequenceCompletes : Obligations.LockSequenceCompletes := by
  intro s powered released
  refine ⟨?calibrated, ?acquired, ?window, ?aligned, ?gates, ?expired⟩
  case calibrated =>
    intro phase
    apply whilePowered_of_powered powered released
    simp [phase, State.clkPhase]
  case acquired =>
    intro demand phase present
    apply whilePowered_of_powered powered released
    simp [phase, present]
  case window =>
    rintro count safe ticks demand phase tracks t rfl
    have ends := execLockWindowEnd_of_counting count safe ticks demand powered released phase tracks
    exact ⟨fun bad => ends.trans (if_neg bad), fun good first => ends.trans ((if_pos good).trans (if_pos first)),
      fun good second => ends.trans ((if_pos good).trans (if_neg second))⟩
  case aligned =>
    intro phase
    refine ⟨fun runs => ?_, fun stopped src => ?_, fun stopped src => ?_⟩
    · apply whilePowered_of_powered powered released
      simp [phase, runs]
    · apply whilePowered_of_powered powered released
      simp [phase, stopped, src]
    · apply whilePowered_of_powered powered released
      simp [phase, stopped, src, State.placeMarker, b2n]
  case gates =>
    intro phase thawed
    apply whilePowered_of_powered powered released
    simp [phase, thawed]
  case expired =>
    intro phase
    apply whilePowered_of_powered powered released
    simp [phase, State.placeMarker, b2n]

/-! ### Events of the reference -/

/-- Settles O4: each event takes the branch of its meaning that its conditions name. -/
theorem referenceEventsComplete : Obligations.ReferenceEventsComplete := by
  intro s powered released
  refine ⟨?relock, ?missing, ?expiry, ?edge, ?walk, ?walkDone, ?jump⟩
  case relock =>
    intro ticks
    apply whilePowered_of_powered powered released rfl
  case missing =>
    intro t present _ held ht
    apply whilePowered_of_powered powered released
    have tracks := State.phase_ne_counting_of_lockHeld held
    simp [present, ← ht, tracks, held]
  case expiry =>
    rintro ticks t missing rfl
    apply whilePowered_of_powered powered released
    cases held : s.breakContinuity.bLost.lockHeld <;> simp [missing, held]
  case edge =>
    intro error demand ticks t ht missing
    apply whilePowered_of_powered powered released
    cases coasts : t.is CLK_STATUS.coasting <;> simp [missing, coasts, ← ht]
  case walk =>
    intro error remaining demand ticks held present
    apply whilePowered_of_powered powered released
    simp [held, present]
  case walkDone =>
    intro present _
    apply whilePowered_of_powered powered released
    simp [present]
  case jump =>
    rintro error remaining ticks t rfl present held beyond
    apply whilePowered_of_powered powered released
    simp [present, held, Nat.not_le.mpr beyond]

/-! ### Lane syncs and the alignment marker -/

/-- A request while no sync is pending (R78): the sync lands on the first marker at least 8 REFCLK periods later. -/
theorem State.requestSync_of_locked (edge : Nat) (locked : s.locked = true) (idle : s.clk.sync = none) :
    s.requestSync edge = s.modClk fun c => { c with sync := some (if edge ≤ 24 then 1 else 2) } := by
  simp [State.requestSync, locked, idle]

/-- A request that the device refuses (R79) is shown and counted, and nothing waits for a marker. -/
theorem State.requestSync_of_unlocked (edge : Nat) (unlocked : s.locked = false) :
    s.requestSync edge = (s.flag CLK_EVENT.sync_ignored).bump CLK_SYNC_COUNT.ignored := by
  simp [State.requestSync, unlocked, State.syncIgnored]

/-- Settles O5: a request while no sync is pending, its landing, and the markers on either side of the lock. -/
theorem syncAndMarkerCommandsComplete : Obligations.SyncAndMarkerCommandsComplete := by
  intro s powered released
  refine ⟨?request, ?ignored, ?placed, ?landed, ?marker⟩
  case request =>
    rintro edge t locked idle rfl
    refine ⟨?_, fun phase lanes => ?_⟩
    · apply whilePowered_of_powered powered released
      rw [State.requestSync_of_locked _ locked idle]
    · apply whilePowered_of_powered powered released
      simp [State.requestSync_of_locked _ locked idle, phase, lanes]
  case ignored =>
    intro edge unlocked
    apply whilePowered_of_powered powered released
    rw [State.requestSync_of_unlocked _ unlocked]
  case placed =>
    intro edge phase lanes
    apply whilePowered_of_powered powered released
    simp [phase, lanes, State.placeMarker, b2n]
  case landed =>
    rintro n t pending locked thawed rfl due
    apply whilePowered_of_powered powered released
    simp [thawed, locked, pending, due, State.syncLand]
  case marker =>
    intro present thawed
    refine ⟨fun locked fab => ?_, fun unlocked => ?_⟩
    · apply whilePowered_of_powered powered released
      simp [present, thawed, locked, fab]
    · apply whilePowered_of_powered powered released
      simp [present, unlocked]

/-! ### ADPLL-B -/

/-- A demand beyond the ceiling of ADPLL-B's DCO (R81) concerns registers alone. -/
@[simp] theorem State.bCeiling_clk (beyond : Prop) [Decidable beyond] :
    (if beyond then s.flag CLK_EVENT.ceiling_hit else s).clk = s.clk := by
  split <;> simp

/-- A window of ADPLL-B that ends while its windows are counted (R83) breaks the run of good windows, begins it, or completes it. -/
theorem execBLockWindowEnd_of_counting (count : BitVec 12) (demand : BitVec 16) (live : s.mainLive = true)
    (counting : s.clk.bPhase = .counting) {u : State}
    (held : u = if 25000 < demand.toInt then s.flag CLK_EVENT.ceiling_hit else s) :
    execBLockWindowEnd count demand s =
      if 3327 ≤ count.toNat ∧ count.toNat ≤ 3329 then
        if s.clk.bInTol = 0 then .next ((u.put CLKB_STATUS.last_count count.toNat).modClk fun c => { c with bInTol := 1 })
        else .next (((((u.put CLKB_STATUS.last_count count.toNat).flag CLKB_STATUS.locked).put CLKB_STATUS.active_channel
          (u.get CLKB_CTRL.channel)).flag CLK_EVENT.b_lock).modClk fun c => { c with
          bPhase := .locked, bInTol := 0, bSeed := u.get CLKB_DITHER.seed, bLfsr := u.get CLKB_DITHER.seed,
          bModState := 0 }).radioLocked
      else .next ((u.put CLKB_STATUS.last_count count.toNat).modClk fun c => { c with bInTol := 0 }) := by
  have clk : u.clk = s.clk := held ▸ State.bCeiling_clk _
  have ceiling : s.when (ClkBPhase.counting != .off && decide (25000 < demand.toInt)) (·.flag CLK_EVENT.ceiling_hit) = u := by
    simp [State.when, held]
  apply whileLive_of_live live
  by_cases good : 3327 ≤ count.toNat ∧ count.toNat ≤ 3329
  · by_cases first : s.clk.bInTol = 0 <;> simp [ceiling, clk, counting, good, first]
  · simp [ceiling, clk, counting, good, decide_within_eq_false good]

/-- Settles O6: ADPLL-B is started from rest, retuned, and brought to its windows and through them. -/
theorem radioClockCommandsComplete : Obligations.RadioClockCommandsComplete := by
  intro s live
  refine ⟨?enable, ?channel, ?acquired, ?window⟩
  case enable =>
    intro phase
    apply whileLive_of_live live
    simp [phase]
  case channel =>
    intro channel
    apply whileLive_of_live live
    cases s.is CLKB_CTRL.enable <;> rfl
  case acquired =>
    intro demand phase present thawed
    apply whileLive_of_live live
    simp [phase, present, thawed, State.when]
  case window =>
    rintro count demand u t phase hu rfl
    have ends := execBLockWindowEnd_of_counting count demand live phase hu
    exact ⟨fun bad => ends.trans (if_neg bad), fun good first => ends.trans ((if_pos good).trans (if_pos first)),
      fun good second => ends.trans ((if_pos good).trans (if_neg second))⟩

end Sys2Proof.Machine
end

section
/-! PROOFS of the statements on the granary: the words of a group, initialisation and repairs, hand-overs of bays, groups and
the background audit. -/

namespace Sys2Proof.Machine

variable {s : State}

/-! ### Words of a group -/

/-- An address with bit 25 set names a word of a group (R88). -/
theorem granAddr_of_group {a : Nat} (group : bit a 25 = true) : granAddr a = .group (bits a 21 4) (bits a 0 21) :=
  if_pos group

/-- A member whose own slot may write is among those that may (R98). -/
theorem State.memberWrites_of_slot {k id j : Nat} (slot : s.memberSlot k id = some j)
    (enabled : bit (s.get (GRP_MEMBERS.write_en k)) j = true) : s.memberWrites k id = true := by
  unfold State.memberSlot at slot
  split_ifs at slot
  all_goals
    obtain rfl := Option.some.inj slot
    simp_all [State.memberWrites]

/-- An access that a group grants a member reaches the words of its bays in turn (R96, R98). -/
theorem State.granGrant_of_member {id a k w j : Nat} {write : Bool} (addr : granAddr a = .group k w)
    (enabled : s.get (GRP_CFG.enable k) = 1) (inside : w < groupSize (s.get (GRP_CFG.size k)) * bayWords)
    (slot : s.memberSlot k id = some j) (writes : write = true → s.memberWrites k id = true) :
    s.granGrant id a write = some (s.get (GRP_CFG.base_bay k) + w % groupSize (s.get (GRP_CFG.size k)),
      w / groupSize (s.get (GRP_CFG.size k))) := by
  simpa [State.granGrant, addr, State.is, enabled, Nat.not_le.mpr inside, slot] using writes

/-- A group that is disabled, and an address beyond a group's words, grant nothing (R96). -/
theorem State.granGrant_outside_group (id : Nat) {a k w : Nat} (write : Bool) (addr : granAddr a = .group k w)
    (outside : s.get (GRP_CFG.enable k) = 0 ∨ groupSize (s.get (GRP_CFG.size k)) * bayWords ≤ w) :
    s.granGrant id a write = none := by
  rcases outside with disabled | beyond
  · simp [State.granGrant, addr, State.is, disabled]
  · simp [State.granGrant, addr, beyond]

/-- Settles O51: a member's access below the group's size is granted, and beyond it, or disabled, nothing is. -/
theorem groupWordsInterleave : Obligations.GroupWordsInterleave := by
  rintro s id a k w write group rfl rfl
  have addr := granAddr_of_group group
  refine ⟨fun j enabled inside slot writes => ?_, fun outside address x => ?_⟩
  · exact State.granGrant_of_member addr enabled inside slot fun w => State.memberWrites_of_slot slot (writes w)
  · exact State.granAccess_of_refused address (State.granGrant_outside_group id x.isSome addr outside)

/-! ### Initialisation and repairs -/

/-- Settles O7: the initialisation ends once, a rewrite and a repair are those that wait, and the counts are cleared. -/
theorem granaryRepairCommandsComplete : Obligations.GranaryRepairCommandsComplete := by
  intro s live
  refine ⟨?init, ?rewrite, ?repair, ?collision, ?counts⟩
  case init =>
    intro starting
    apply whileLive_of_live live
    exact if_neg (by simp [starting])
  case rewrite =>
    rintro bay word p r waits rfl rfl
    apply whileLive_of_live live
    exact if_pos waits
  case repair =>
    rintro word r t waits rfl
    apply whileLive_of_live live
    simp only [waits]
  case collision => apply whileLive_of_live live rfl
  case counts =>
    rintro t rfl
    apply whileLive_of_live live rfl

/-! ### Hand-overs -/

/-- A write of go that no rule ignores begins the hand-over (R92), which waits while the audit holds a segment (R94). -/
theorem State.bayGo_of_allowed {bay : Fin 64} (single : s.is (BAY_OWNER.in_group bay) = false)
    (rests : s.is (BAY_OWNER.busy bay) = false) (n60 : bay ≠ 60) (n61 : bay ≠ 61) (n63 : bay ≠ 63)
    (owner : s.get (BAY_OWNER.next_id bay) ∉ [0x0D, 0x3E, 0x3F]) :
    s.bayGo bay = (s.flag (BAY_OWNER.busy bay)).modGran fun g =>
      { g with handover := vmod (fun _ => (if s.auditHolds bay then Handover.waiting else Handover.running)
        (s.clears bay) (s.get (BAY_OWNER.next_id bay))) g.handover bay } := by
  have m60 : bay.val ≠ 60 := Fin.val_ne_of_ne n60
  have m61 : bay.val ≠ 61 := Fin.val_ne_of_ne n61
  have m63 : bay.val ≠ 63 := Fin.val_ne_of_ne n63
  simp only [List.mem_cons, List.not_mem_nil, or_false, not_or] at owner
  obtain ⟨o1, o2, o3⟩ := owner
  cases holds : s.auditHolds bay <;> simp [State.bayGo, single, rests, m60, m61, m63, o1, o2, o3, holds]

/-- The end of a running hand-over (R92, R93): the bay is clear where it is cleared, its owner is the new one, and a
snapshot in it is held there no longer unless the thresher or the gleaner is that owner. -/
theorem State.handoverEnds_of_running {bay owner : Nat} {clear : Bool} {u : State}
    (runs : vget .none s.gran.handover bay = .running clear owner)
    (hu : u = ((((if clear then s.bayClear bay else s).put (BAY_OWNER.owner_id bay) owner).put
      (BAY_OWNER.busy bay) 0).flag GRAN_EVENT.handover_done).modGran fun g => { g with
        handover := vmod (fun _ => .none) g.handover bay
        rewrites := if clear then g.rewrites.filter (fun x => x.1 != bay) else g.rewrites }) :
    s.handoverEnds bay = if owner = 8 ∨ owner = 9 then u else u.dropSnaps bay 1 := by
  simp only [State.handoverEnds, runs, ← hu, Bool.or_eq_true, beq_iff_eq]

/-- Settles O8: each hand-over in the phase in which its command has its effect. -/
theorem bayHandoverCommandsComplete : Obligations.BayHandoverCommandsComplete := by
  intro s live
  refine ⟨?go, ?start, ?done, ?ends, ?deferred, ?lendable⟩
  case go =>
    intro bay single rests n60 n61 n63 owner
    apply whileLive_of_live live
    rw [State.bayGo_of_allowed single rests n60 n61 n63 owner]
  case start =>
    intro bay clear owner waits released
    apply whileLive_of_live live
    simp [waits, released]
  case done =>
    rintro bay t runs thawed rfl
    apply whileLive_of_live live
    exact if_neg (by simp [runs, thawed])
  case ends =>
    rintro bay clear owner t u runs rfl hu
    exact State.handoverEnds_of_running runs hu
  case deferred =>
    intro bay waits rests
    apply whileLive_of_live live
    exact if_pos (by simp [waits, rests])
  case lendable =>
    rintro bay t rfl
    apply whileLive_of_live live rfl

/-! ### Groups of bays -/

/-- Settles O9: a group is formed where its rules hold and refused on a misaligned base; what was formed changes and is left. -/
theorem groupCommandsComplete : Obligations.GroupCommandsComplete := by
  intro s live
  refine ⟨?enable, ?members, ?disable, ?leave⟩
  case enable =>
    intro group t disabled
    refine ⟨?_, fun misaligned => ?_⟩
    · rintro aligned joins members rfl
      apply whileLive_of_live live
      have forms : s.groupForms group = true := by simp [State.groupForms, aligned, joins, members]
      exact (if_neg (by simp [disabled])).trans (if_pos forms)
    · apply whileLive_of_live live
      have refused : s.groupForms group = false := by simp [State.groupForms, misaligned]
      exact (if_neg (by simp [disabled])).trans (if_neg (by simp [refused]))
  case members => exact fun group value => by apply whileLive_of_live live rfl
  case disable =>
    intro group enabled
    apply whileLive_of_live live
    exact if_pos enabled
  case leave =>
    rintro group bays rfl released
    apply whileLive_of_live live
    exact if_neg (by simp [released])

/-! ### The audit -/

/-- Settles O10: each command in its phase of a visit. -/
theorem auditCommandsComplete : Obligations.AuditCommandsComplete := by
  intro s live
  refine ⟨?start, ?copied, ?tested, ?stopped, ?writtenBack, ?disable⟩
  case start =>
    rintro p t on idle ready rfl rfl
    have visits : ¬ (!s.is AUD_CFG.enable || s.is AUD_STATUS.active || !s.is GRAN_STATUS.init_done) = true := by
      simp [on, idle, ready]
    refine ⟨fun treat => ?_, fun treat => ?_, fun treat => ?_⟩
    all_goals
      apply whileLive_of_live live
      refine (if_neg visits).trans ?_
      simp only [treat]
  case copied =>
    rintro b src dst borrow phase rfl rfl
    apply whileLive_of_live live
    simp [borrow, phase]
  case tested =>
    rintro faulty b t borrow phase rfl
    refine ⟨fun bay => ?_, fun bay => ?_⟩
    · apply whileLive_of_live live
      simp [borrow, phase, bay, State.each]
    · apply whileLive_of_live live
      rw [bay] at phase ⊢
      simp [borrow, phase, bay, State.each]
  case stopped =>
    rintro faulty b t borrow phase stopped rfl
    apply whileLive_of_live live
    simp [borrow, phase, stopped, State.each]
  case writtenBack =>
    rintro b src dst borrow phase bay rfl rfl
    apply whileLive_of_live live
    simp [borrow, phase, bay]
  case disable => apply whileLive_of_live live rfl

end Sys2Proof.Machine
end

section
/-! PROOFS of the statements on the receiver front end: its chain, calibration and gain control, the antenna supervisor, and
the intervals of GNSS_BLANK. -/

namespace Sys2Proof.Machine

variable {s : State}

/-! ### Fields and conditions beside the front end's own state -/

@[simp] theorem State.get_modFe (f : FeState → FeState) (x : Field) : (s.modFe f).get x = s.get x := rfl
@[simp] theorem State.is_modFe (f : FeState → FeState) (x : Field) : (s.modFe f).is x = s.is x := rfl
@[simp] theorem State.blankLive_modFe (f : FeState → FeState) : (s.modFe f).blankLive = s.blankLive := rfl

/-! ### The chain and its calibration -/

/-- A chain that is off starts where its conditions hold (R131, R135), and calibrates first where it has no coefficients. -/
theorem State.startChain_of_ready {t : State} (on : s.is FE_CTRL.gnss_en = true) (off : s.fe.chain = .off)
    (locked : s.locked = true) (mode : s.mode ≠ 4) (ht : t = s.modFe fun f => { f with chain := .starting, commanded := false }) :
    s.startChain = if t.is FE_CAL_STATUS.coef_valid then t else t.flag FE_CAL_STATUS.fg_running := by
  subst ht
  exact if_pos (by simp [on, off, locked, mode])

/-- An update that is due is applied at a marker (R133). -/
theorem State.bgUpdate_of_due (runs : s.bgLive = true) (due : ∀ c, s.fe.bgAt = some c → c + 450000 ≤ s.clk.cycle) :
    s.bgUpdate = ((s.bump FE_CAL_STATUS.updates).modFe fun f => { f with
      coef := nextCoef s.free f.coef, bgAt := some s.clk.cycle }).nextFree.feRecord := by
  cases last : s.fe.bgAt with
  | none => simp [State.bgUpdate, runs, last]
  | some c => simp [State.bgUpdate, runs, last, due c last]

/-! ### Gain windows and the antenna -/

/-- Once the search is over, a window ends with what it measured, and decides a code in automatic mode (R121, R126). -/
theorem State.agcWindowOver_of_settled {w : AgcWindow} {v : State}
    (hv : v = ((((s.modFe fun f => { f with agcFrom := f.agcFrom + 65536 }).put FE_AGC_STATUS.last_rms (min w.rms 1023)).put
      FE_AGC_STATUS.last_clips (min w.clips 0x3FFF)).put FE_AGC_STATUS.window_valid (b2n w.valid)).overloadWindow w.clips)
    (settled : v.fe.acq = none) :
    s.agcWindowOver w = if v.get FE_CTRL.agc_mode = 0 ∧ w.valid = true then v.agcDecide w else v := by
  simp [State.agcWindowOver, ← hv, settled, State.when]

/-- A current between the limits of the supervisor counts towards OK, which the third such measurement in a row, or the first
after the switch has closed again, decides (R130). -/
theorem execAntMeasure_of_normal {current : Fin 401} {t u : State} (live : s.mainLive = true) (bias : s.biasOn = true)
    (closed : s.fe.shortOpen = false) (ht : t = s.put FE_ANT_STATUS.current current)
    (low : t.get FE_ANT_CFG.open_ma ≤ current.val) (high : current.val ≤ 4 * t.get FE_ANT_CFG.short_ma)
    (hu : u = t.modFe fun f => { f with okRun := min (f.okRun + 1) 3, openRun := 0, decide1 := false }) :
    execAntMeasure current s = .next (if s.fe.decide1 ∨ u.fe.okRun = 3 then u.antState 1 else u) := by
  have fe : t.fe = s.fe := by rw [ht, State.put_fe]
  apply whileLive_of_live live
  simp [bias, closed, ← ht, hu, fe, Nat.not_lt.mpr low, Nat.not_lt.mpr high, apply_ite Host.Outcome.next]

/-- Settles O11: each command in the phase of the chain in which it has its effect. -/
theorem frontEndCommandsComplete : Obligations.FrontEndCommandsComplete := by
  intro s live
  refine ⟨?enable, ?calStart, ?calDone, ?release, ?disable, ?window, ?measure, ?retry, ?update⟩
  case enable =>
    rintro u t rfl on off locked mode ht
    apply whileLive_of_live live
    exact congrArg _ (State.startChain_of_ready on off locked mode ht)
  case calStart =>
    intro rests
    apply whileLive_of_live live
    exact if_neg (by simp [rests])
  case calDone =>
    rintro t runs rfl
    apply whileLive_of_live live
    exact if_pos runs
  case release =>
    intro starting locked coefs rests
    apply whileLive_of_live live
    exact if_pos (by simp [starting, locked, coefs, rests])
  case disable => apply whileLive_of_live live rfl
  case window =>
    rintro t u v w released locked ht hw rfl hv settled
    apply whileLive_of_live live
    simp [released, locked, ← ht, ← hw, State.agcWindowOver_of_settled hv settled]
  case measure =>
    rintro current t bias closed ht low high u hu
    exact execAntMeasure_of_normal live bias closed ht low high hu
  case retry =>
    intro opened
    apply whileLive_of_live live
    exact if_pos opened
  case update =>
    rintro t rfl runs runsThere due
    apply whileLive_of_live live
    exact (if_pos runs).trans (congrArg _ (State.bgUpdate_of_due runsThere due))

/-! ### Intervals of GNSS_BLANK -/


/-- While the pin has no effect (R128), or is ignored (R129), the active level is only shown. -/
theorem State.blankLevel_of_ignored {c : Nat} (h : s.blankLive = false ∨ s.fe.blank = .ignoring) :
    s.blankLevel true c = s.modFe fun f => { f with pin := !s.is FE_CTRL.blank_active_low } := by
  rcases h with dead | ignoring
  · simp [State.blankLevel, dead]
  · simp [State.blankLevel, ignoring]

/-- The active level begins an interval, or continues one, while the pin is acted on (R127). -/
theorem State.blankLevel_active {c : Nat} (acts : s.blankLive = true) (heeds : s.fe.blank ≠ .ignoring) :
    s.blankLevel true c = (s.modFe fun f => { f with pin := !s.is FE_CTRL.blank_active_low }).blankBegin c := by
  simp [State.blankLevel, acts, heeds]

/-- The inactive level begins the post-extension while the pin is acted on (R127). -/
theorem State.blankLevel_inactive {c : Nat} (acts : s.blankLive = true) :
    s.blankLevel false c = (s.modFe fun f => { f with pin := s.is FE_CTRL.blank_active_low }).blankRelease c := by
  simp [State.blankLevel, acts]

/-- An interval that overlaps no earlier one is counted (R127, R129). -/
theorem State.blankBegin_apart {c : Nat} (idle : s.fe.blank = .idle)
    (apart : ∀ x l, s.fe.blanks = x :: l → x.2 ≤ c - s.get FE_BLANK_CFG.pre) :
    s.blankBegin c = (s.bump FE_BLANK_COUNT.intervals).modFe fun f =>
      { f with blank := .active, blankEa := c, blankFrom := c - s.get FE_BLANK_CFG.pre } := by
  cases last : s.fe.blanks with
  | nil => simp [State.blankBegin, idle, last]
  | cons x l => simp [State.blankBegin, idle, last, Nat.not_lt.mpr (apart x l last)]

/-- An interval that overlaps the last one continues it (R129). -/
theorem State.blankBegin_overlapping {c a b : Nat} {l : List (Nat × Nat)} (idle : s.fe.blank = .idle)
    (last : s.fe.blanks = (a, b) :: l) (overlaps : c - s.get FE_BLANK_CFG.pre < b) :
    s.blankBegin c = s.modFe fun f =>
      { f with blank := .active, blankEa := c, blankFrom := min a (c - s.get FE_BLANK_CFG.pre), blanks := l } := by
  simp [State.blankBegin, idle, last, overlaps]

/-- An interval that begins within a post-extension goes on (R127). -/
theorem State.blankBegin_in_post {c : Nat} (post : s.fe.blank = .post) (overlaps : c - s.get FE_BLANK_CFG.pre < s.fe.blankEnd) :
    s.blankBegin c = s.modFe fun f => { f with blank := .active } := by
  simp [State.blankBegin, post, overlaps]

/-- An interval in progress goes over into its post-extension, or ends where that is empty (R127). -/
theorem State.blankRelease_of_active {c : Nat} (active : s.fe.blank = .active) :
    s.blankRelease c = if s.get FE_BLANK_CFG.post = 0
      then s.modFe (fun f => { f with blank := .idle, blanks := (f.blankFrom, c) :: f.blanks })
      else s.modFe fun f => { f with blank := .post, blankEnd := c + s.get FE_BLANK_CFG.post } := by
  simp [State.blankRelease, active, State.blankOver]

/-- An interval that has run for its longest time is ended, counted and reported, and the pin is ignored (R129). -/
theorem State.blankCut_of_active (active : s.fe.blank = .active) :
    s.blankCut = ((((s.modFe fun f => { f with blank := .ignoring, blanks := (f.blankFrom, s.blankLimit) :: f.blanks }).bump
      FE_BLANK_COUNT.stuck).flag FE_EVENT.blank_stuck).emit evBlankStuck) := by
  simp [State.blankCut, active, State.blankOver]

/-- Settles O12: each edge of the pin and each end of an interval in its phase of the blanking. -/
theorem blankingCommandsComplete : Obligations.BlankingCommandsComplete := by
  intro s live
  refine ⟨?assert, ?deassert, ?postEnd, ?stuck⟩
  case assert =>
    rintro cycle c t u rfl ht rfl
    have shows {r : State} (e : t.blankLevel true (s.clk.cycle + cycle) = r) : exec (.blankAssert cycle) s = .next r := by
      apply whileLive_of_live live
      rw [← ht, e]
    refine ⟨fun dead => ?_, fun acts ignoring => ?_, fun acts idle apart => ?_, fun acts idle a b l last overlaps => ?_,
      fun acts post overlaps => ?_⟩
    · exact shows (State.blankLevel_of_ignored (.inl dead))
    · exact shows (State.blankLevel_of_ignored (.inr ignoring))
    · exact shows ((State.blankLevel_active acts (by simp [idle])).trans (State.blankBegin_apart idle apart))
    · exact shows ((State.blankLevel_active acts (by simp [idle])).trans (State.blankBegin_overlapping idle last overlaps))
    · exact shows ((State.blankLevel_active acts (by simp [post])).trans (State.blankBegin_in_post post overlaps))
  case deassert =>
    rintro cycle c t u rfl ht rfl acts active
    apply whileLive_of_live live
    rw [← ht]
    exact congrArg _ ((State.blankLevel_inactive acts).trans (State.blankRelease_of_active active))
  case postEnd =>
    rintro t post rfl
    apply whileLive_of_live live
    exact if_pos (by simp [post])
  case stuck =>
    rintro t active rfl still
    apply whileLive_of_live live
    exact (if_pos (by simp [active])).trans (congrArg _ (State.blankCut_of_active still))

end Sys2Proof.Machine
end

section
/-! PROOFS of the statements on the band lanes: a lane's start, oscillator, filters and banks, and its notches. -/

namespace Sys2Proof.Machine

variable {s : State} {l : Nat}

/-! ### Filters and banks -/

/-- A request that names no filter is ignored (R150). -/
theorem State.filterRequest_of_unknown {sel f : Nat} (unknown : 33 < sel) :
    s.filterRequest l sel f = s.flag (LANE_EVENT.sel_ignored l) := by
  simp [State.filterRequest, filterValid, Nat.not_le.mpr unknown]

/-- On a running lane that does not fade, a request for another filter starts a fade of the clamped length (R149, R150). -/
theorem State.filterRequest_of_steady {sel f : Nat} (known : sel ≤ 33) (runs : s.is (LANE_STATUS.running l) = true)
    (steady : s.is (LANE_FIR_STATUS.fading l) = false) (other : s.get (LANE_FIR_STATUS.current l) ≠ sel) :
    s.filterRequest l sel f = (s.fadeTo l sel (clampNat 16 4096 f) false).showLocks l := by
  simp [State.filterRequest, filterValid, fadeLength, known, runs, steady, other]

/-- A requested fade that has formed no word starts with the first word that is formed late enough (R150). -/
theorem State.fadeFirst_of_requested {f : Fade} (requested : f.done = none) :
    s.fadeFirst l f = max (s.lane l).path.formed (ceilDiv (8 * f.ready - 967 - 8 * (s.lane l).origin + 1) (s.laneD l) - 1) := by
  simp [State.fadeFirst, requested]

/-- When the end of a fade is shown, the incoming filter becomes current unless the fade in progress is a later one (R149). -/
theorem State.fadeShown_of_fade {f : Fade} {t : State}
    (ht : t = (s.flag (LANE_EVENT.fade_done l)).modLane l fun x => { x with ends := x.ends.drop 1 })
    (fades : (t.lane l).fade = some f) :
    s.fadeShown l = if f.done = some f.len then ((t.fadeOver l).showGd l).showLocks l else t := by
  simp only [State.fadeShown, ← ht, fades, beq_iff_eq]

/-- A write to a bank in use is discarded and counted (R148). -/
theorem State.bankWrite_of_locked {b : Nat} (locked : s.filterInUse l (0x20 + b) = true) (target : BankTarget) (value : Word) :
    s.bankWrite l b target value = (s.bump (LANE_COUNT.bank_busy l)).flag (LANE_EVENT.bank_busy l) :=
  if_pos locked

/-- A write to a coefficient of a bank that is not in use reaches it (R148). -/
theorem State.bankWrite_coef_of_unlocked {b : Nat} (unlocked : s.filterInUse l (0x20 + b) = false) (t : Fin 128) (value : Word) :
    s.bankWrite l b (.coef t) value = s.put (LANE_COEF.coef l b t.val) value.toNat :=
  if_neg (by simp [unlocked])

/-- A write to the settings of a bank that is not in use clamps the number of taps (R148). -/
theorem State.bankWrite_config_of_unlocked {b : Nat} (unlocked : s.filterInUse l (0x20 + b) = false) (value : Word) :
    s.bankWrite l b .config value = (s.put (LANE_BANK_CFG.taps l b) (clampNat 1 128 (bits value.toNat 0 8))).put
      (LANE_BANK_CFG.gd l b) (bits value.toNat 8 11) :=
  if_neg (by simp [unlocked])

/-- Settles O13: each command of a lane under the guard of its meaning, by the rule of the filter or bank that it moves. -/
theorem laneCommandsComplete : Obligations.LaneCommandsComplete := by
  intro s live lane
  refine ⟨?enable, ?restart, ?start, ?disable, ?oscillator, ?request, ?fadeStart, ?fadeEnd, ?locked, ?unlocked⟩
  case enable =>
    intro off
    apply whileLive_of_live live
    simp [State.laneEnable, off]
  case restart =>
    intro runs
    apply whileLive_of_live live
    simp [State.laneRestart, runs]
  case start =>
    rintro t pending locked rfl still
    apply whileLive_of_live live
    simp [pending, locked, still, State.laneBegin]
  case disable => apply whileLive_of_live live rfl
  case oscillator => exact fun _ => by apply whileLive_of_live live rfl
  case request =>
    refine fun sel fadeLen => ⟨fun unknown => ?_, fun known runs steady other => ?_⟩
    · apply whileLive_of_live live
      rw [State.filterRequest_of_unknown unknown]
    · apply whileLive_of_live live
      rw [State.filterRequest_of_steady known runs steady other]
  case fadeStart =>
    intro f fades requested runs locked
    apply whileLive_of_live live
    simp [fades, requested, runs, locked, State.fadeFirst_of_requested requested]
  case fadeEnd =>
    intro k f t runs locked last ht fades
    apply whileLive_of_live live
    simp [runs, locked, last, State.fadeShown_of_fade ht fades]
  case locked =>
    intro bank target value inUse
    apply whileLive_of_live live
    rw [State.bankWrite_of_locked inUse]
  case unlocked =>
    refine fun bank value free => ⟨fun t => ?_, ?_⟩
    · apply whileLive_of_live live
      rw [State.bankWrite_coef_of_unlocked free]
    · apply whileLive_of_live live
      rw [State.bankWrite_config_of_unlocked free]

/-! ### Notches -/

/-- At the end of a block the notches show their levels, and then the lines above the threshold that no engaged notch
covers are taken in descending power (R153). -/
theorem State.detectBlock_eq {b : List (BitVec 16 × BitVec 16)} {u : State}
    (hu : u = (List.range 4).foldl (fun s j => s.notchLevel l j) s) :
    s.detectBlock l b = ((sortLines ((spectrum b).zipIdx.map fun x => (x.2, x.1))).filter fun x =>
      dbAtLeast x.2 (medianBin (spectrum b)) (u.get (LANE_WIN_CFG.j_thresh l)) && decide (0 < x.2) && u.binClear l x.1).foldl
        (fun s x => s.detectLine l (medianBin (spectrum b)) x.1 x.2)
        (u.modLane l fun x => { x with win := { x.win with ready := none } }) := by
  subst hu
  rfl

/-- An engaged automatic notch that has been low for the release time is idle (R153). -/
theorem State.notchIdle_of_low {j : Nat} (automatic : s.get (LANE_NOTCH.mode l j) = 1)
    (engaged : s.is (LANE_NOTCH.engaged l j) = true)
    (low : s.get (LANE_WIN_CFG.release l) * 3600000 ≤ (s.notch l j).low * s.laneD l) : s.notchIdle l j = true := by
  simp [State.notchIdle, automatic, engaged, low]

/-- Settles O14: a block by the rule of the detector, the events of a notch under the guards of their meanings. -/
theorem notchCommandsComplete : Obligations.NotchCommandsComplete := by
  intro s live lane
  refine ⟨?detect, ?engage, ?release, ?frequency⟩
  case detect =>
    intro t u b runs locked ht ready hu
    apply whileLive_of_live live
    simp [runs, locked, ← ht, ready, State.detectBlock_eq hu]
  case engage =>
    rintro notch n t waits runs locked rfl
    apply whileLive_of_live live
    simp [waits, runs, locked, State.notchEngage]
  case release =>
    intro notch automatic engaged locked low
    apply whileLive_of_live live
    simp [State.notchIdle_of_low automatic engaged low, locked]
  case frequency => exact fun _ _ => by apply whileLive_of_live live rfl

end Sys2Proof.Machine
end

section
/-! PROOFS of the statements on the thresher: its passes, rounds and blocks, and the search of a round's sums. -/

namespace Sys2Proof.Machine

variable {s : State} {p : ThrPass}

/-! ### The running round -/

/-- A round that waits starts at its time, once the clock root is locked and drives the fabric (R182). -/
theorem execRoundStart_of_waiting {time : Time} {t : State} (live : s.mainLive = true) (running : s.thr.running = some p)
    (waits : p.phase = .waitStart) (locked : s.locked = true) (clocked : s.onFab = true)
    (starts : s.roundTime p = some (time, t)) :
    exec .roundStart s = .next ((((((t.put THR_T0_SEC_LO.sec_lo (tSec time)).put THR_T0_SEC_HI.sec_hi (tSec time / 2 ^ 32)).put
      THR_T0_NS.ns (tNs time)).put THR_T0_FRAC.frac (tFrac time)).modThr fun x =>
        { x with running := x.running.map fun p => { p with phase := .running, tR := time, block := 0 } }).showThr.showJobs) := by
  apply whileLive_of_live live
  simp only [running]
  exact (if_neg (by simp [waits, locked, clocked])).trans (by rw [starts])

/-- Once its last word has left, a block ends for a round with a job that has not ended (R169, R184). -/
theorem execBlockEnd_of_unended {q : ThrPass} (live : s.mainLive = true) (runs : s.roundRuns = some p)
    (drained : (s.blockDrain p).roundRuns = some q)
    (unended : (q.jobs.all fun j => j.round != q.round || j.ended.isSome) = false) :
    exec .blockEnd s = .next (((s.blockDrain p).roundBlocks q q.jobs).2.modThr fun x =>
      { x with running := some { q with jobs := ((s.blockDrain p).roundBlocks q q.jobs).1, block := q.block + 1 } }).showJobs := by
  apply whileLive_of_live live
  simp only [runs, drained]
  exact if_neg (by simp [unended])

/-- The marks and registers of a round whose sums are complete (R183, R186), before the cores are told. -/
def State.recordRound (s : State) (p : ThrPass) (mine : List ThrJob) : State :=
  ((((s.flag THR_EVENT.round_done).put THR_ROUND_INFO.round p.round).put THR_ROUND_INFO.group
    (b2n (p.dual && p.round % 2 == 1))).put THR_ROUND_INFO.tiles (mine.foldl (fun a j => a + j.tiles) 0)).modThr fun t => { t with
      held := vmod (fun _ => true) t.held (p.group p.round)
      toSearch := mine, group := p.group p.round, tR := p.tR, k := p.k
      results := if p.round == 0 then [] else t.results }

/-- A round whose jobs have all ended is done: the pass is over after its last round, and waits for the next one else (R183,
R186). -/
theorem execRoundDone_of_ended {mine : List ThrJob} {u : State} (live : s.mainLive = true) (running : s.thr.running = some p)
    (runs : p.phase = .running) (hm : mine = p.jobs.filter fun j => j.round == p.round)
    (ended : (mine.all fun j => j.ended.isSome) = true)
    (hu : u = (List.range 12).foldl (fun s n => s.dspRaise n 7) (s.recordRound p mine)) :
    exec .roundDone s = .next (if p.round + 1 = p.rounds then (u.passOver p).nextPass
      else u.passWaits { p with round := p.round + 1, notBefore := p.inputEnd }) := by
  subst hm
  apply whileLive_of_live live
  simp only [running, runs, ended, hu, State.recordRound, State.each, bne_self_eq_false, Bool.not_true, Bool.or_self,
    Bool.false_eq_true, if_false, beq_iff_eq, apply_ite Host.Outcome.next]

/-- Settles O15: a pass under the guard of each command, a round by the rules of its start, its blocks and its end. -/
theorem thresherCommandsComplete : Obligations.ThresherCommandsComplete := by
  intro s live
  refine ⟨?latch, ?abort, ?disable, ?freeA, ?freeB, ?start, ?block, ?done, ?search⟩
  case latch | disable | freeA | freeB => apply whileLive_of_live live rfl
  case abort =>
    intro p running
    apply whileLive_of_live live
    simp only [running]
  case start =>
    intro p time t running waits locked clocked starts
    exact execRoundStart_of_waiting live running waits locked clocked starts
  case block =>
    rintro p q t runs rfl drained unended
    exact execBlockEnd_of_unended live runs drained unended
  case done =>
    rintro p mine t u running runs hm ended rfl hu
    exact execRoundDone_of_ended live running runs hm ended hu
  case search =>
    rintro t rfl noFix
    apply whileLive_of_live live
    simp only [noFix]

end Sys2Proof.Machine
end

section
/-! PROOFS of the statement on the sheaves: the life of a tracking channel. -/

namespace Sys2Proof.Machine

variable {s : State}

/-! ### Sweeps and updates of a running channel -/

/-- Where a sheaf's next sweep is the channel's, the sweeps up to it are that one (R203). -/
theorem State.sweepTo_of_next {c n : Nat} (next : s.sweepNext (c / 8) = some c) : State.sweepTo c (n + 1) s = s.sweep c := by
  simp [State.sweepTo, next]

/-- A running channel, no odd slot of a pair, sweeps the block that is complete at the instant of the command (R203). -/
theorem execSweepEnd_of_running {channel : Fin 512} {t : State} (live : s.mainLive = true) (running : s.chanState channel = 2)
    (on : s.sheavesRun = true) (even : s.pairOdd channel = false) (ht : t = State.toBlock channel 4 s) :
    execSweepEnd channel s = .next (if t.blockReady channel && t.sheavesRun
      then State.sweepTo channel (t.sweepsDue (channel / 8)) t else t) := by
  subst ht
  apply whileLive_of_live live
  exact if_neg (by simp [running, on, even])

/-- A channel that is no pair acts alone (R214). -/
theorem State.chanDoes_of_single {c : Nat} (f : State → Nat → ShfChan → ShfChan × State) (single : (s.chan c).pair = false) :
    s.chanDoes c f = (f s c (s.chan c)).2.setChan c (f s c (s.chan c)).1 := by
  simp [State.chanDoes, single]

/-- An update that waits applies between two blocks of a running channel, no odd slot of a pair (R227). -/
theorem execLoopUpdateApply_of_running {channel : Fin 512} (live : s.mainLive = true) (running : s.chanState channel = 2)
    (even : s.pairOdd channel = false) (on : s.sheavesRun = true) :
    execLoopUpdateApply channel s = .next (s.chanDoes channel fun s c x => s.blockBegins c x) := by
  apply whileLive_of_live live
  exact if_neg (by simp [running, on, even])

/-- Settles O16: each command of a channel under the guard of its meaning, a sweep and an update by the rule of a channel that
runs. -/
theorem channelCommandsComplete : Obligations.ChannelCommandsComplete := by
  intro s live
  refine ⟨?start, ?run, ?stop, ?sweep, ?update, ?apply, ?sweeps, ?applySingle, ?ram, ?disable, ?lost⟩
  case start => exact fun _ => by apply whileLive_of_live live rfl
  case run =>
    intro channel pending locked enabled
    apply whileLive_of_live live
    exact if_pos (by simp [pending, State.sheavesRun, locked, enabled])
  case stop =>
    rintro channel t rfl
    apply whileLive_of_live live rfl
  case sweep =>
    intro channel n t running on even ht ready still due next
    refine (execSweepEnd_of_running live running on even ht).trans (congrArg _ ?_)
    rw [if_pos (by simp [ready, still]), due, State.sweepTo_of_next next]
    rfl
  case update =>
    intro core w rest c t net locked hc ht
    refine ⟨fun idle => ?_, fun running owner even free => ?_⟩
    · apply whileLive_of_live live
      simp only [net, ← ht, ← hc]
      exact (if_neg (by simp [locked])).trans (if_pos (by simp [idle]))
    · apply whileLive_of_live live
      simp only [net, ← ht, ← hc, free]
      exact (if_neg (by simp [locked])).trans ((if_neg (by simp [running, owner])).trans (if_neg (by simp [even])))
  case apply => exact fun channel running even on => execLoopUpdateApply_of_running live running even on
  case sweeps => exact fun channel t running on even ht => execSweepEnd_of_running live running on even ht
  case applySingle =>
    rintro channel r r' running even on single rfl rfl
    refine (execLoopUpdateApply_of_running live running even on).trans (congrArg _ ?_)
    exact State.chanDoes_of_single _ single
  case ram => exact fun _ _ _ => by apply whileLive_of_live live rfl
  case disable => apply whileLive_of_live live rfl
  case lost =>
    rintro channel t running lock rfl runsThen lockThen
    apply whileLive_of_live live
    simp [running, lock, runsThen, lockThen]

end Sys2Proof.Machine
end

section
/-! PROOFS of the statement on the interfaces of the DSP cores: windows, interrupts, watchdogs, queues and feeds. -/

namespace Sys2Proof.Machine

variable {s : State}

/-! ### Words that a core reads and writes -/

/-- The ninth word of a loop update record sends it (R226). -/
theorem State.updWrite_of_eight {n v : Nat} (eight : (s.core n).updWords.length = 8) :
    s.updWrite n v = (s.modCore n fun c => { c with updWords := [] }).modShf fun x =>
      { x with net := x.net ++ [(n, (s.core n).updWords ++ [v])] } := by
  simp [State.updWrite, eight]

/-- Any other word of a loop update record is kept with those before it (R226). -/
theorem State.updWrite_of_ne_eight {n v : Nat} (other : (s.core n).updWords.length ≠ 8) :
    s.updWrite n v = s.modCore n fun c => { c with updWords := (s.core n).updWords ++ [v] } := by
  simp [State.updWrite, other]

/-- A read of the dump queue takes the next word of the oldest record, which leaves with its word 25 (R225). -/
theorem State.dqRead_of_dumps {n : Nat} {oldest : List Nat} {rest : List (List Nat)} (dumps : (s.core n).dumps = oldest :: rest) :
    (s.dqRead n).2 = (s.modCore n fun c => if c.dumpWord = 25 then { c with dumps := rest, dumpWord := 0 }
      else { c with dumpWord := c.dumpWord + 1 }).showDumps n := by
  simp [State.dqRead, dumps]

/-- A firmware core's notification goes to the steward cores alone (R297). -/
theorem State.notifyWrite_of_firmwareCore {n : Nat} (v : Nat) (firmware : isOpenCore n = false) :
    s.notifyWrite n v = s.modCore n fun c => { c with notified := some v } :=
  if_pos (by simp [firmware])

/-- An open core's notification goes to the host as well, or is counted while the link is lost (R297). -/
theorem State.notifyWrite_of_openCore {n : Nat} (v : Nat) (kernel : isOpenCore n = true) :
    s.notifyWrite n v = if s.host.linkUp
      then (s.modCore n fun c => { c with notified := some v }).emit (evKernelEvent n (s.kernel n).id v)
      else (s.modCore n fun c => { c with notified := some v }).tally 4 1 :=
  if_neg (by simp [kernel])

/-! ### Events of a core -/

/-- A vector that is due is taken by a running core with nothing in its pipeline and its slot free (R284, R285). -/
theorem execInterruptEntry_of_due {core : Fin 16} {v : Nat} (live : s.mainLive = true) (clock : s.coreClock = true)
    (running : (s.core core).running = true) (empty : (s.core core).pend = []) (free : (s.core core).held = false)
    (goes : (s.core core).stopping = false) (due : s.dueVector core = some v) :
    execInterruptEntry core s = .next (s.enterVector core v) := by
  have landed : (s.modCore core fun c => c.commit (c.slot - 1)) = s :=
    State.modCore_id s core.isLt (DspCore.commit_empty empty _)
  apply whileLive_of_live live
  simp [clock, running, landed, free, goes, due]

/-- Settles O23: each access of a core, and each event at it, while its clock runs. -/
theorem coreInterfaceCommandsComplete : Obligations.CoreInterfaceCommandsComplete := by
  intro s live
  refine ⟨?read, ?written, ?slotFree, ?allWritten, ?entry, ?expiry, ?kick, ?doorbell, ?queue, ?update, ?notify, ?feed, ?overrun,
    ?window⟩
  case read =>
    intro core w t fl clock stall
    apply whileLive_of_live live
    simp [clock, stall]
  case written =>
    intro core flows
    apply whileLive_of_live live
    simp [flows]
  case slotFree =>
    intro core fl clock stall
    apply whileLive_of_live live
    simp [clock, stall]
  case allWritten =>
    rintro core fl clock (fence | behind) done
    · apply whileLive_of_live live
      simp [clock, fence, done]
    · apply whileLive_of_live live
      simp [clock, behind, done]
  case entry =>
    intro core v clock running empty free goes due
    exact execInterruptEntry_of_due live clock running empty free goes due
  case expiry =>
    rintro core clock running period t rfl
    apply whileLive_of_live live
    exact if_pos (by simp [clock, running, period])
  case kick =>
    intro core clock
    apply whileLive_of_live live
    exact if_pos clock
  case doorbell => exact fun _ _ => by apply whileLive_of_live live rfl
  case queue =>
    intro core oldest rest clock dumps
    apply whileLive_of_live live
    rw [if_pos clock, State.dqRead_of_dumps dumps]
  case update =>
    refine fun core value clock => ⟨fun eight => ?_, fun other => ?_⟩
    · apply whileLive_of_live live
      rw [if_pos clock, State.updWrite_of_eight eight]
    · apply whileLive_of_live live
      rw [if_pos clock, State.updWrite_of_ne_eight other]
  case notify =>
    rintro core value t clock rfl
    refine ⟨fun firmware => ?_, fun kernel up => ?_, fun kernel down => ?_⟩
    · apply whileLive_of_live live
      rw [if_pos clock, State.notifyWrite_of_firmwareCore _ firmware]
    · apply whileLive_of_live live
      rw [if_pos clock, State.notifyWrite_of_openCore _ kernel, if_pos up]
    · apply whileLive_of_live live
      rw [if_pos clock, State.notifyWrite_of_openCore _ kernel, if_neg (by simp [down])]
  case feed =>
    intro core kernel clock
    apply whileLive_of_live live
    exact if_pos (by simp [kernel, clock])
  case overrun =>
    intro core kernel clock
    apply whileLive_of_live live
    exact if_pos (by simp [kernel, clock])
  case window => exact fun _ _ _ _ => by apply whileLive_of_live live rfl

end Sys2Proof.Machine
end

section
/-! PROOFS of the statement on the requests of the GNSS group. -/

namespace Sys2Proof.Machine

/-! ### Checks of a payload -/

@[simp] theorem hasLength_eq_none {p : List Byte} {n : Nat} : hasLength p n = none ↔ n ≤ p.length := by simp [hasLength]

@[simp] theorem firstThat_eq_none {α : Type} {f : α → Bool} {l : List α} : firstThat f l = none ↔ ∀ x ∈ l, f x = false := by
  induction l with
  | nil => simp [firstThat]
  | cons x l ih => cases h : f x <;> simp [firstThat, h, ih]

/-- Settles O43: each request is taken and its checks pass, a list of levels since none of them is too large. -/
theorem gnssRequestsComplete : Obligations.GnssRequestsComplete := by
  intro s
  refine ⟨?laneStop, ?laneSet, ?add, ?drop, ?policy, ?report, ?aiding, ?search, ?declare, ?data, ?status, ?summary⟩
  case laneStop =>
    intro r p takes length lane stop pad
    unfold exec execLaneSet
    simp only [stop]
    apply serve_next_of_takes takes (by simp)
    · simp [length, lane, pad]
    · rfl
  case laneSet =>
    rintro r p x others t takes length lane preset pad hx rfl room rfl
    apply serve_next_of_takes takes (by simp)
    · simp [length, lane, preset, pad]
    · simp [hx, room]
  case add =>
    intro r p lane c t takes length tracked hl sat template integration flags admitted
    apply serve_next_of_takes takes (by simp)
    · simp [length, tracked, hl, template, integration, flags]
    · simp [hl, sat, admitted]
  case drop =>
    rintro r p cs takes length tracked pad rfl
    apply serve_next_of_takes takes (by simp)
    · simp [length, tracked, pad]
    · rfl
  case policy =>
    rintro r p t takes length preempt pad levels rfl
    have good : firstThat (fun i => decide (7 < byteAt p (4 + i))) (List.range 24) = none := by
      simpa using levels
    apply serve_next_of_takes takes (by simp)
    · simp [length, preempt, pad, good]
    · rfl
  case report =>
    intro r p takes length period low high corrections osnma pad pairs
    apply serve_next_of_takes takes (by simp)
    · simp [length, period, low, high, corrections, osnma, pad]
    · refine if_neg ?_
      rcases pairs with both | off | slow
      · simp [both]
      · simp [off]
      · simp [Nat.not_lt.mpr slow]
  case aiding =>
    intro r p takes length lat lon
    apply serve_next_of_takes takes (by simp)
    · simp [length, lat, lon]
    · rfl
  case search =>
    rintro r p t u takes mode low high one most pad length enabled free fits rfl rfl
    apply serve_next_of_takes takes (by simp)
    · simp [mode, low, high, one, most, pad, length]
    · simp only [enabled, free, Nat.not_lt.mpr fits]
      rfl
  case declare =>
    rintro r p d takes length lat lon clear pad rfl
    apply serve_next_of_takes takes (by simp)
    · simp [length, lat, lon, clear, pad]
    · rfl
  case data =>
    intro r p d takes length system kind pad found
    apply serve_next_of_takes takes (by simp)
    · simp [length, system, kind, pad, found]
    · simp [found]
  case status =>
    intro r p takes length
    apply serve_next_of_takes takes (by simp) (by simp [length]) rfl
  case summary =>
    intro r p takes length
    apply serve_next_of_takes takes (by simp) (by simp [length]) rfl

end Sys2Proof.Machine
end

section
/-! PROOFS of the statements on the instructions of the DSP cores with moves: arithmetic, multiplications, accumulators, complex
words, searches and transfers. A core that is ready for an instruction issues its word with the results of its operation. -/

namespace Sys2Proof.Machine

variable {s : State} {n w : Nat} {mv : Moves} {third b : Bool} {outs : List DspOut}

/-! ### Results of one stage -/

@[simp] theorem oneStage_nil : oneStage [] b := by simp [oneStage]

@[simp] theorem oneStage_cons {o : DspOut} : oneStage (o :: outs) b ↔ o.1 = b ∧ oneStage outs b := by simp [oneStage]

@[simp] theorem oneStage_append {others : List DspOut} : oneStage (outs ++ others) b ↔ oneStage outs b ∧ oneStage others b := by
  simp [oneStage, or_imp, forall_and]

@[simp] theorem oneStage_ite {c : Prop} [Decidable c] {others : List DspOut} :
    oneStage (if c then outs else others) b ↔ if c then oneStage outs b else oneStage others b := by
  split <;> rfl

@[simp] theorem oneStage_sticky (c : Bool) (f : Nat) : oneStage (sticky b c f) b := by
  cases c <;> simp [sticky]

@[simp] theorem oneStage_outE (dd r mask flags : Nat) : oneStage (outE dd r mask flags) false := by simp [outE, setFlags]

@[simp] theorem oneStage_sumOut (dd x y : Nat) (sat : Bool) : oneStage (sumOut dd x y sat) false := by simp [sumOut]
@[simp] theorem oneStage_diffOut (dd x y : Nat) (sat : Bool) : oneStage (diffOut dd x y sat) false := by simp [diffOut]
@[simp] theorem oneStage_logicOut (dd r : Nat) : oneStage (logicOut dd r) false := by simp [logicOut]
@[simp] theorem oneStage_negOut (dd x : Nat) : oneStage (negOut dd x) false := by simp [negOut]
@[simp] theorem oneStage_absOut (dd x : Nat) : oneStage (absOut dd x) false := by simp [absOut]
@[simp] theorem oneStage_cmpOut (x y : Nat) : oneStage (cmpOut x y) false := by simp [cmpOut, setFlags]
@[simp] theorem oneStage_aslOut (dd x k free : Nat) : oneStage (aslOut dd x k free) false := by simp [aslOut]
@[simp] theorem oneStage_asrOut (dd x k free : Nat) : oneStage (asrOut dd x k free) false := by simp [asrOut]
@[simp] theorem oneStage_lsrOut (dd x k free : Nat) : oneStage (lsrOut dd x k free) false := by simp [lsrOut]
@[simp] theorem oneStage_accOut (aa : Nat) (exact : Int) : oneStage (accOut aa exact) true := by simp [accOut, setFlags]
@[simp] theorem oneStage_pairOut (aa : Nat) (e o : Int) : oneStage (pairOut aa e o) true := by simp [pairOut, setFlags]
@[simp] theorem oneStage_packOut (dd : Nat) (i q : Int) : oneStage (packOut dd i q) false := by simp [packOut, setFlags]
@[simp] theorem oneStage_extOut (dd a k : Nat) : oneStage (extOut dd a k) true := by simp [extOut, setFlags]
@[simp] theorem oneStage_cpkOut (dd ae ao k : Nat) : oneStage (cpkOut dd ae ao k) true := by simp [cpkOut, setFlags]
@[simp] theorem oneStage_acmpOut (x y : Nat) : oneStage (acmpOut x y) true := by simp [acmpOut, setFlags]
@[simp] theorem oneStage_searchOut (least u : Bool) (mx cand index : Nat) : oneStage (searchOut least u mx cand index) true := by
  simp [searchOut, setFlags]

@[simp] theorem oneStage_searchX (least u : Bool) (mx ea : Nat) (cand : Option Nat) :
    oneStage (searchX least u mx cand ea) true := by
  cases cand <;> simp [searchX, setFlags]

/-! ### The operation of a word -/

/-- The results of a word's operation where nothing is in the pipeline: it reads the register file. -/
def State.resultsOf (s : State) (n w : Nat) (mv : Moves) : List DspOut :=
  dspResults (s.core n) (s.core n).slot w (s.core n).file.mapping s.freeVal (s.loadedX n w mv) (s.moveEa n mv.x.toNat)

/-- With nothing in its pipeline, a core shows its register file to every stage. -/
theorem DspPlain.view (p : DspPlain s n) (t : Nat) : (s.core n).view t = (s.core n).file := by
  simp [DspCore.view, p.pend, landUpTo]

/-- The pointers that an instruction post-modifies are seen by no operation but mov (R261). -/
theorem State.dspOuts_eq (p : DspPlain s n) (op : dspOp w ≠ 0x041) : s.dspOuts n w mv third = s.resultsOf n w mv := by
  have bank : (s.started n mv third).bank = (s.core n).bank := rfl
  simp only [State.dspOuts, State.resultsOf, dspResults, State.started_d, State.started_acc, State.started_mx, p.view, bank,
    beq_false_of_ne op, Bool.false_eq_true, if_false]

/-- An operation that reads no register of an interrupt's bank, waits for no write and takes no free value. -/
abbrev silentOp (op : Nat) : Prop :=
  0x040 ≤ op ∧ op < 1024 ∧ op ≠ 0x041 ∧ op ≠ 0x042 ∧ op ≠ 0x1C3 ∧ (op < 0x08C ∨ 0x08E < op)

theorem readsBank_of_ne_mov (op : dspOp w ≠ 0x041) : readsBank w = false := by simp [readsBank, op]

theorem shiftByZero_of_other (other : dspOp w < 0x08C ∨ 0x08E < dspOp w) : shiftByZero w = false := by
  simp only [shiftByZero, Bool.and_eq_false_iff, decide_eq_false_iff_not]
  omega

/-- A ready core issues a word of such an operation with the operation's results. -/
theorem State.dspIssue_of_results {op : Nat} (r : DspReady s n mv third) (word : DspWord w mv third) (hop : dspOp w = op)
    (silent : silentOp op) (results : s.resultsOf n w mv = outs) (one : oneStage outs b) :
    s.dspIssue n w = s.issued n mv third outs := by
  subst hop
  obtain ⟨low, -, notMov, -, noFence, noShift⟩ := silent
  have outs_eq := (State.dspOuts_eq (mv := mv) (third := third) r.plain notMov).trans results
  rw [State.dspIssue_plain r word (fun fence => absurd fence noFence) (outs_eq ▸ one) (readsBank_of_ne_mov notMov), outs_eq,
    shiftByZero_of_other noShift]
  rfl

/-! ### Words of each format

The fields of a word are its operands, and its operation is its op code's; what is left is the row of R267. Each lemma issue_enc
gives the issue of a word of its format once the results of its operation are known. -/

theorem encT_fields {op dd ds dt : Nat} (hop : op < 1024) (hdd : dd < 16) (hds : ds < 16) (hdt : dt < 16) :
    dspOp (encT op dd ds dt mv) = op ∧ bits (encT op dd ds dt mv) 26 4 = dd ∧ bits (encT op dd ds dt mv) 22 4 = ds ∧
      bits (encT op dd ds dt mv) 18 4 = dt :=
  ⟨encT_op mv hop hdd hds hdt, encT_dd mv hop hdd hds hdt, encT_ds mv hop hdd hds hdt, encT_dt mv hop hdd hds hdt⟩

theorem encI_fields {op dd ds k : Nat} (hop : op < 1024) (hdd : dd < 16) (hds : ds < 16) (hk : k < 64) :
    dspOp (encI op dd ds k mv) = op ∧ bits (encI op dd ds k mv) 26 4 = dd ∧ bits (encI op dd ds k mv) 22 4 = ds ∧
      bits (encI op dd ds k mv) 16 6 = k :=
  ⟨encI_op mv hop hdd hds hk, encI_dd mv hop hdd hds hk, encI_ds mv hop hdd hds hk, encI_k mv hop hdd hds hk⟩

theorem issue_encT {op dd ds dt : Nat} (r : DspReady s n mv false) (results : s.resultsOf n (encT op dd ds dt mv) mv = outs)
    (silent : silentOp op := by decide) (single : dspMultiply op = false := by decide)
    (fits : dd < 16 ∧ ds < 16 ∧ dt < 16 := by simp) (one : oneStage outs false := by simp) :
    (.next (s.dspIssue n (encT op dd ds dt mv)) : Result) = .next (s.issued n mv false outs) := by
  obtain ⟨hdd, hds, hdt⟩ := fits
  have ⟨low, high, notMov, notLdi, _⟩ := silent
  have word := encT_word mv high hdd hds hdt low notLdi notMov single
  rw [State.dspIssue_of_results r word (encT_op mv high hdd hds hdt) silent results one]

/-- The immediate of addi fits its field (R266). -/
@[simp] theorem toNat_lt_64 (imm : BitVec 6) : imm.toNat < 64 := imm.isLt

theorem issue_encI {op dd ds k : Nat} (r : DspReady s n mv false) (results : s.resultsOf n (encI op dd ds k mv) mv = outs)
    (silent : silentOp op := by decide) (single : dspMultiply op = false := by decide)
    (fits : dd < 16 ∧ ds < 16 ∧ k < 64 := by simp) (one : oneStage outs false := by simp) :
    (.next (s.dspIssue n (encI op dd ds k mv)) : Result) = .next (s.issued n mv false outs) := by
  obtain ⟨hdd, hds, hk⟩ := fits
  have ⟨low, high, notMov, notLdi, _⟩ := silent
  have word := encI_word mv high hdd hds hk low notLdi notMov single
  rw [State.dspIssue_of_results r word (encI_op mv high hdd hds hk) silent results one]

/-- A shift takes a free value where it shifts by 0 (log entry 3). -/
theorem issue_shift {op : Nat} {dd ds : Fin 16} {k : Fin 64} (r : DspReady s n mv false) 
    (results : s.resultsOf n (encI op dd ds k mv) mv = outs) (low : 0x08C ≤ op := by decide) (high : op ≤ 0x08E := by decide)
    (one : oneStage outs false := by simp) :
    (.next (s.dspIssue n (encI op dd ds k mv)) : Result) = .next ((if k = 0 then s.nextFree else s).issued n mv false outs) := by
  have single : dspMultiply op = false := by
    simp only [dspMultiply, Bool.or_eq_false_iff, Bool.and_eq_false_iff, decide_eq_false_iff_not]
    omega
  have word := encI_word mv (by omega : op < 1024) dd.isLt ds.isLt k.isLt (by omega) (by omega) (by omega) single
  obtain ⟨hop, -, -, hk⟩ := encI_fields (mv := mv) (by omega : op < 1024) dd.isLt ds.isLt k.isLt
  have notMov : dspOp (encI op dd ds k mv) ≠ 0x041 := by omega
  have outs_eq := (State.dspOuts_eq (mv := mv) (third := false) r.plain notMov).trans results
  have shift : shiftByZero (encI op dd ds k mv) = decide (k = 0) := by
    rw [Bool.eq_iff_iff]
    simp [shiftByZero, hop, hk, low, high]
  rw [State.dspIssue_plain r word (fun fence => by omega) (outs_eq ▸ one) (readsBank_of_ne_mov notMov), outs_eq, shift]
  simp

/-- Settles O17: the results of each row are those of its op code, with the operands that the word's fields name. -/
theorem dspArithmeticCompletes : Obligations.DspArithmeticCompletes := by
  intro s core
  refine ⟨fun _ _ _ _ r => issue_encT r ?_,
    fun _ _ _ _ r => issue_encT r ?_,
    fun _ _ _ _ r => issue_encT r ?_,
    fun _ _ _ _ r => issue_encT r ?_,
    fun _ _ _ _ r => issue_encT r ?_,
    fun _ _ _ _ r => issue_encT r ?_,
    fun _ _ _ _ r => issue_encT r ?_,
    fun _ _ _ r => issue_encT r ?_,
    fun _ _ _ r => issue_encT r ?_,
    fun _ _ _ r => issue_encT r ?_,
    fun _ _ _ r => issue_encT r ?_,
    fun _ _ _ _ r => issue_encI r ?_,
    fun _ _ _ _ r => issue_shift r ?_,
    fun _ _ _ _ r => issue_shift r ?_,
    fun _ _ _ _ r => issue_shift r ?_,
    fun _ _ _ r => issue_encT r ?_⟩ <;>
  simp [State.resultsOf, dspResults, encT_fields, encI_fields, r.plain.view, State.dspReg, State.dspPhys]

theorem encM_fields {op aa ds dt : Nat} (hop : op < 1024) (haa : aa < 4) (hds : ds < 16) (hdt : dt < 16) :
    dspOp (encM op aa ds dt third mv) = op ∧ bits (encM op aa ds dt third mv) 28 2 = aa ∧
      bits (encM op aa ds dt third mv) 24 4 = ds ∧ bits (encM op aa ds dt third mv) 20 4 = dt :=
  ⟨encM_op third mv hop haa hds hdt, encM_aa third mv hop haa hds hdt, encM_ds third mv hop haa hds hdt,
    encM_dt third mv hop haa hds hdt⟩

theorem encA_fields {op aa ab k dd : Nat} (hop : op < 1024) (haa : aa < 4) (hab : ab < 4) (hk : k < 64) (hdd : dd < 16) :
    dspOp (encA op aa ab k dd mv) = op ∧ bits (encA op aa ab k dd mv) 28 2 = aa ∧ bits (encA op aa ab k dd mv) 26 2 = ab ∧
      bits (encA op aa ab k dd mv) 20 6 = k ∧ bits (encA op aa ab k dd mv) 16 4 = dd :=
  ⟨encA_op mv hop haa hab hk hdd, encA_aa mv hop haa hab hk hdd, encA_ab mv hop haa hab hk hdd, encA_k mv hop haa hab hk hdd,
    encA_dd mv hop haa hab hk hdd⟩

theorem issue_encM {op aa ds dt : Nat} (r : DspReady s n mv third) (results : s.resultsOf n (encM op aa ds dt third mv) mv = outs)
    (silent : silentOp op := by decide) (multiply : dspMultiply op = true := by decide)
    (fits : aa < 4 ∧ ds < 16 ∧ dt < 16 := by simp) (one : oneStage outs true := by simp) :
    (.next (s.dspIssue n (encM op aa ds dt third mv)) : Result) = .next (s.issued n mv third outs) := by
  obtain ⟨haa, hds, hdt⟩ := fits
  have ⟨low, high, notMov, notLdi, _⟩ := silent
  have word := encM_word third mv high haa hds hdt low notLdi notMov
  rw [multiply, Bool.true_and] at word
  rw [State.dspIssue_of_results r word (encM_op third mv high haa hds hdt) silent results one]

theorem issue_encA {op aa ab k dd : Nat} (r : DspReady s n mv false) (results : s.resultsOf n (encA op aa ab k dd mv) mv = outs)
    (silent : silentOp op := by decide) (single : dspMultiply op = false := by decide)
    (fits : aa < 4 ∧ ab < 4 ∧ k < 64 ∧ dd < 16 := by simp) (one : oneStage outs true := by simp) :
    (.next (s.dspIssue n (encA op aa ab k dd mv)) : Result) = .next (s.issued n mv false outs) := by
  obtain ⟨haa, hab, hk, hdd⟩ := fits
  have ⟨low, high, notMov, notLdi, _⟩ := silent
  have word := encA_word mv high haa hab hk hdd low notLdi notMov single
  rw [State.dspIssue_of_results r word (encA_op mv high haa hab hk hdd) silent results one]

/-- Settles O18: each multiplication is a word of format M, with the third operand that its bit t asks for. -/
theorem dspMultipliesComplete : Obligations.DspMultipliesComplete := by
  intro s core
  refine ⟨fun _ _ _ _ _ r => issue_encM r ?_, fun _ _ _ _ _ r => issue_encM r ?_, fun _ _ _ _ _ r => issue_encM r ?_,
    fun _ _ _ _ _ r => issue_encM r ?_, fun _ _ _ _ _ r => issue_encM r ?_, fun _ _ _ _ _ r => issue_encM r ?_⟩ <;>
  simp [State.resultsOf, dspResults, encM_fields, r.plain.view, State.dspReg, State.dspAcc]

/-- Settles O19: each accumulator instruction is a word of format A. -/
theorem dspAccumulatorsComplete : Obligations.DspAccumulatorsComplete := by
  intro s core
  refine ⟨fun _ _ r => issue_encA r ?_, fun _ _ _ r => issue_encA r ?_, fun _ _ _ r => issue_encA r ?_,
    fun _ _ _ r => issue_encA r ?_, fun _ _ _ r => issue_encA r ?_, fun _ _ _ r => issue_encA r ?_,
    fun _ _ _ _ r => issue_encA r ?_, fun _ _ _ _ r => issue_encA r ?_, fun _ _ _ _ r => issue_encA r ?_,
    fun _ _ _ _ r => issue_encA r ?_, fun _ _ _ r => issue_encA r ?_⟩ <;>
  simp [State.resultsOf, dspResults, encA_fields, r.plain.view, State.dspReg, State.dspPhys, State.dspAcc]

/-- Settles O20: the complex products are words of format M, cpk is one of format A, and the sums are words of format T. -/
theorem dspComplexWordsComplete : Obligations.DspComplexWordsComplete := by
  intro s core
  refine ⟨fun _ _ _ _ _ r => issue_encM r ?_, fun _ _ _ _ _ r => issue_encM r ?_, fun _ _ _ _ _ r => issue_encM r ?_,
    fun _ _ _ _ _ r => issue_encM r ?_, fun _ _ _ _ r => issue_encA r ?_, fun _ _ _ r => issue_encT r ?_,
    fun _ _ _ _ r => issue_encT r ?_, fun _ _ _ _ r => issue_encT r ?_, fun _ _ _ r => issue_encT r ?_⟩ <;>
  simp [State.resultsOf, dspResults, encM_fields, encA_fields, encT_fields, r.plain.view, State.dspReg, State.dspPhys, State.dspAcc]

/-! ### Searches, flags, fences and transfers -/

theorem encS_fields {op mode ds dt : Nat} {u : Bool} (hop : op < 1024) (hmode : mode < 4) (hds : ds < 16) (hdt : dt < 16) :
    dspOp (encS op mode ds dt u mv) = op ∧ bits (encS op mode ds dt u mv) 28 2 = mode ∧
      bits (encS op mode ds dt u mv) 24 4 = ds ∧ bits (encS op mode ds dt u mv) 20 4 = dt ∧
      bit (encS op mode ds dt u mv) 19 = u :=
  ⟨encS_op u mv hop hmode hds hdt, encS_aa u mv hop hmode hds hdt, encS_ds u mv hop hmode hds hdt, encS_dt u mv hop hmode hds hdt,
    encS_u u mv hop hmode hds hdt⟩

theorem encN_fields {op mask : Nat} (hop : op < 1024) (hmask : mask < 8) :
    dspOp (encN op mask mv) = op ∧ bits (encN op mask mv) 16 3 = mask :=
  ⟨encN_op mv hop hmask, encN_k mv hop hmask⟩

theorem issue_encS {op mode ds dt : Nat} {u : Bool} (r : DspReady s n mv false)
    (results : s.resultsOf n (encS op mode ds dt u mv) mv = outs)
    (silent : silentOp op := by decide) (single : dspMultiply op = false := by decide)
    (fits : mode < 4 ∧ ds < 16 ∧ dt < 16 := by simp) (one : oneStage outs true := by simp) :
    (.next (s.dspIssue n (encS op mode ds dt u mv)) : Result) = .next (s.issued n mv false outs) := by
  obtain ⟨hmode, hds, hdt⟩ := fits
  have ⟨low, high, notMov, notLdi, _⟩ := silent
  have word := encS_word u mv high hmode hds hdt low notLdi notMov single
  rw [State.dspIssue_of_results r word (encS_op u mv high hmode hds hdt) silent results one]

theorem issue_encN {op mask : Nat} (r : DspReady s n mv false) (results : s.resultsOf n (encN op mask mv) mv = outs)
    (silent : silentOp op := by decide) (single : dspMultiply op = false := by decide) (fits : mask < 8 := by simp)
    (one : oneStage outs false := by simp) :
    (.next (s.dspIssue n (encN op mask mv)) : Result) = .next (s.issued n mv false outs) := by
  have ⟨low, high, notMov, notLdi, _⟩ := silent
  have word := encN_word mv high fits low notLdi notMov single
  rw [State.dspIssue_of_results r word (encN_op mv high fits) silent results one]

/-- A search of loaded words sees them extended as its bit u says (R260). -/
theorem State.loadedX_of_search {u : Bool} (hu : bit w 19 = u) : s.loadedX n w mv = s.searchLoad n mv u := by
  subst hu; rfl

/-- The results of smax and smin are a search with the word that the X move loads. -/
theorem State.resultsOf_searchX {u least : Bool} (p : DspPlain s n) (hop : dspOp w = if least then 0x181 else 0x180)
    (hu : bit w 19 = u) :
    s.resultsOf n w mv = searchX least u (s.core n).file.mx.toNat (s.searchLoad n mv u) (s.moveEa n mv.x.toNat) := by
  cases least <;> cases load : s.searchLoad n mv u <;>
    simp [State.resultsOf, dspResults, hop, hu, p.view, State.loadedX_of_search, searchX, load]

/-- fence of a core without outstanding writes has its moves alone (R249). -/
theorem State.dspIssue_fence (r : DspReady s n mv false) (done : (s.core n).writes = []) :
    s.dspIssue n (encN 0x1C3 0 mv) = s.issued n mv false [] := by
  have word := encN_word (op := 0x1C3) mv (by decide) (by decide : 0 < 8) (by decide) (by decide) (by decide) rfl
  have hop : dspOp (encN 0x1C3 0 mv) = 0x1C3 := encN_op mv (by decide) (by decide)
  have notMov : dspOp (encN 0x1C3 0 mv) ≠ 0x041 := by omega
  have results : s.dspOuts n (encN 0x1C3 0 mv) mv false = [] := by
    rw [State.dspOuts_eq r.plain notMov]
    simp [State.resultsOf, dspResults, hop]
  rw [State.dspIssue_plain (b := false) r word (fun _ => done) (by simp [results]) (readsBank_of_ne_mov notMov), results,
    shiftByZero_of_other (by omega)]
  rfl

/-- mov reads the pointers as its own moves leave them, and sr and the loop counters as the fetch behind it leaves them (R262). -/
theorem State.readR_started (p : DspPlain s n) (code : Nat) :
    (s.started n mv false).readR (s.core n).slot (s.core n).file.mapping code = s.dspCode n mv code := by
  have fetch : (s.started n mv false).fetch =
      { s.started n mv false with lcache := false, pc := ((s.started n mv false).pc + 1) % 16384 } :=
    DspCore.fetch_noLevels (by exact p.levels)
  have delay : (s.started n mv false).delay = 0 := p.delay
  have landed : landUpTo ((s.core n).slot + 1) (s.started n mv false).pend (s.started n mv false).file = s.movedFile n mv :=
    State.started_view s n mv false (Nat.le_refl _)
  have sr : (s.movedFile n mv).sr = (s.core n).file.sr := by rw [State.movedFile, pointers_d]
  simp only [DspCore.readR, delay, fetch, beq_self_eq_true, if_true, landed, sr]
  rfl

/-- mov writes what its source reads, and is noted for an interrupt entry that follows it (R261, R262, R286). -/
theorem State.dspIssue_mov {dst src : Fin 128} (r : DspReady s n mv false) (hdst : dspCodeOk dst = true)
    (hsrc : dspCodeOk src = true) :
    s.dspIssue n (encV 0x041 dst src mv) =
      (s.issued n mv false [(false, dspTarget (s.core n).bank (s.core n).file.mapping dst, s.dspCode n mv src)]).modCore n
        fun c => c.noted (encV 0x041 dst src mv) (s.lastOf n (encV 0x041 dst src mv) mv) := by
  have word := encV_word (op := 0x041) mv (by decide) dst.isLt src.isLt (by decide) (by decide) (fun _ => ⟨hdst, hsrc⟩) rfl
  have hop := encV_op (op := 0x041) mv (by decide) dst.isLt src.isLt
  have results : s.dspOuts n (encV 0x041 dst src mv) mv false =
      [(false, dspTarget (s.core n).bank (s.core n).file.mapping dst, s.dspCode n mv src)] := by
    have bank : (s.started n mv false).bank = (s.core n).bank := rfl
    have hd := encV_dst (op := 0x041) mv (by decide) dst.isLt src.isLt
    have hs := encV_src (op := 0x041) mv (by decide) dst.isLt src.isLt
    simp [State.dspOuts, dspResults, hop, bank, State.readR_started r.plain, hd, hs]
  rw [State.dspIssue_ready (b := false) r word (fun fence => by omega) (by simp [results]), results,
    shiftByZero_of_other (by omega)]
  rfl

theorem encL_fields {dst imm : Nat} (hdst : dst < 128) (himm : imm < 2 ^ 20) :
    dspOp (encL 0x042 dst imm) = 0x042 ∧ bits (encL 0x042 dst imm) 23 7 = dst ∧ bits (encL 0x042 dst imm) 0 20 = imm := by
  unfold dspOp bits encL
  omega

/-- ldi makes no moves: its word has an immediate in their place (R266). -/
theorem encL_word {dst imm : Nat} (hdst : dst < 128) (himm : imm < 2 ^ 20) (ok : dspCodeOk dst = true) :
    DspWord (encL 0x042 dst imm) noMoves false := by
  obtain ⟨hop, hd, -⟩ := encL_fields hdst himm
  refine ⟨by omega, ?_, ?_, ?_, ?_⟩ <;> simp [dspCodesOk, dspMove, dspMultiply, hop, hd, ok, noMoves]

/-- ldi of a register that exists writes its immediate there (R241). -/
theorem State.dspIssue_ldi {dst : Fin 128} {imm : Word20} (r : DspReady s n noMoves false) (ok : dspCodeOk dst = true) :
    s.dspIssue n (encL 0x042 dst imm.toNat) =
      s.issued n noMoves false [(false, dspTarget (s.core n).bank (s.core n).file.mapping dst, imm.toNat)] := by
  obtain ⟨hop, hd, hi⟩ := encL_fields dst.isLt imm.isLt
  have notMov : dspOp (encL 0x042 dst imm.toNat) ≠ 0x041 := by omega
  have results : s.dspOuts n (encL 0x042 dst imm.toNat) noMoves false =
      [(false, dspTarget (s.core n).bank (s.core n).file.mapping dst, imm.toNat)] := by
    rw [State.dspOuts_eq r.plain notMov]
    simp [State.resultsOf, dspResults, hop, hd, hi]
  rw [State.dspIssue_plain (b := false) r (encL_word dst.isLt imm.isLt ok) (fun fence => by omega) (by simp [results])
    (readsBank_of_ne_mov notMov), results, shiftByZero_of_other (by omega)]
  rfl

/-- Settles O21: searches, flag instructions and mv issue their words; mov, fence and ldi by their own rules. -/
theorem dspSearchesAndTransfersComplete : Obligations.DspSearchesAndTransfersComplete := by
  intro s core
  refine ⟨?smaxd, ?smind, ?smax, ?smin, ?sinit, ?mv, ?mov, ?clrf, ?ei, ?di, ?fence, ?ldi⟩
  case smax | smin =>
    intro u mv r
    exact issue_encS r (State.resultsOf_searchX r.plain (by simp [encS_fields]) (by simp [encS_fields]))
  case mov => exact fun _ _ _ r hdst hsrc => congrArg Host.Outcome.next (State.dspIssue_mov r hdst hsrc)
  case fence => exact fun _ r done => congrArg Host.Outcome.next (State.dspIssue_fence r done)
  case ldi => exact fun _ _ r ok => congrArg Host.Outcome.next (State.dspIssue_ldi r ok)
  case smaxd | smind =>
    refine fun _ _ _ _ r => issue_encS r ?_
    simp [State.resultsOf, dspResults, encS_fields, r.plain.view, State.dspReg]
  case sinit =>
    refine fun _ _ r => issue_encS r ?_
    simp [State.resultsOf, dspResults, encS_fields]
  case mv | ei | di =>
    refine fun _ r => issue_encN r ?_
    simp [State.resultsOf, dspResults, encN_fields]
  case clrf =>
    refine fun _ _ r => issue_encN r ?_
    simp [State.resultsOf, dspResults, encN_fields]

end Sys2Proof.Machine
end

section
/-! PROOFS of the statement on the control instructions of the DSP cores: branches, calls and returns, loops and repeats, rotations
and halts. Each is taken by the effect of its op code on a core that has fetched it with nothing else under way. -/

namespace Sys2Proof.Machine

variable {s : State} {n w : Nat}

/-! ### A control instruction of a core with nothing else under way -/

/-- A core that has fetched a control instruction and gone on to its next slot. -/
def DspCore.steppedOn (c : DspCore) : DspCore :=
  { c with rep := none, repeating := false, lcache := false, pc := (c.pc + 1) % 16384, slot := c.slot + 1, afterReti := false }

/-- A core with nothing else under way goes on to its next slot, and f has its effect there. -/
theorem State.stepped_eq (p : DspPlain s n) (f : DspCore → DspCore) :
    s.stepped n f = s.modCore n fun _ => f (s.core n).steppedOn := by
  apply State.modCore_congr s p.core
  have plain : s.core n = { s.core n with rep := none, afterReti := false } := by
    have rep := p.rep
    have reti := p.reti
    generalize s.core n = c at rep reti
    cases c
    simp only at rep reti
    simp [rep, reti]
  rw [plain]
  rfl

/-- The state in which a control instruction has its effect: its core has fetched it. -/
def State.fetchedBy (s : State) (n : Nat) : State := s.modCore n fun _ => (s.core n).fetched

theorem DspPlain.core_fetchedBy (p : DspPlain s n) : (s.fetchedBy n).core n = (s.core n).fetched := State.core_modCore s p.core _

theorem State.modCore_fetchedBy (s : State) (n : Nat) (f : DspCore → DspCore) :
    (s.fetchedBy n).modCore n f = s.modCore n fun _ => f (s.core n).fetched := State.modCore_modCore ..

/-- An instruction that is fetched with nothing in the pipeline sees the register file. -/
theorem DspPlain.fetched_view (p : DspPlain s n) (t : Nat) : (s.core n).fetched.view t = (s.core n).file := p.view t

@[simp] theorem DspCore.fetched_file (c : DspCore) : c.fetched.file = c.file := rfl
@[simp] theorem DspCore.fetched_slot (c : DspCore) : c.fetched.slot = c.slot := rfl
@[simp] theorem DspCore.fetched_stack (c : DspCore) : c.fetched.stack = c.stack := rfl

/-- A control instruction that passes its checks leaves the core as its effect does, one slot on. -/
theorem issue_control {c : DspCore} {f : DspCore → DspCore} (p : DspPlain s n) (op : dspOp w < 0x040)
    (legal : (s.core n).fetched.legal w (s.core n).pc false [] = true)
    (effect : (s.fetchedBy n).dspControlEffect n w (s.core n).pc = s.modCore n fun _ => c)
    (next : { c with repeating := false, slot := c.slot + 1, afterReti := false } = f (s.core n).steppedOn)
    (sound : c.doomed = none) : (.next (s.dspIssue n w) : Result) = .next (s.stepped n f) := by
  rw [State.dspIssue_control p op legal, ← State.fetchedBy, effect, State.modCore_modCore, State.stepped_eq p, ← next]
  simp [State.settle, p.core, sound]

theorem encC_fields {op target low : Nat} (hop : op < 1024) (ht : target < 16384) (hl : low < 65536) :
    dspOp (encC op target low) = op ∧ bits (encC op target low) 16 14 = target ∧ bits (encC op target low) 0 16 = low ∧
      bits (encC op target low) 12 4 = low / 2 ^ 12 :=
  ⟨encC_op hop ht hl, encC_target hop ht hl, encC_low hl, encC_cond hl⟩

/-- A word of format C with a register code. -/
theorem encC_source {op target : Nat} (hop : op < 1024) (ht : target < 16384) (src : Fin 128) :
    dspOp (encC op target src) = op ∧ bits (encC op target src) 16 14 = target ∧ bits (encC op target src) 0 7 = src :=
  ⟨encC_op hop ht (by omega), encC_target hop ht (by omega), encC_low7.trans (Nat.mod_eq_of_lt src.isLt)⟩

/-- Outside loops and delay slots the D stage checks codes alone (R275). -/
theorem DspCore.legal_eq (c : DspCore) (pc : Nat) (noLoop : dspOp w ≠ 8 ∧ dspOp w ≠ 9) :
    c.legal w pc false [] = dspCodesOk w := by
  simp [DspCore.legal, noLoop]

/-- A loop or loopr outside loops has a count and an end behind it as well (R275). -/
theorem DspCore.legal_loop (c : DspCore) (pc : Nat) (loop : dspOp w = 8 ∨ dspOp w = 9) (codes : dspCodesOk w = true)
    (count : dspOp w = 8 → bits w 0 16 ≠ 0) (last : pc < bits w 16 14) : c.legal w pc false [] = true := by
  rcases loop with loop | loop <;> simp_all [DspCore.legal, dspBranch, dspControl]

theorem DspCore.legal_loopr {last src : Nat} (c : DspCore) (pc : Nat) (op : dspOp w = 0x009) (hlast : bits w 16 14 = last)
    (source : bits w 0 7 = src) (ok : dspCodeOk src = true) (behind : pc < last) : c.legal w pc false [] = true :=
  DspCore.legal_loop _ _ (.inr op) (by simp [dspCodesOk, op, source, ok]) (by simp [op]) (hlast ▸ behind)

/-! ### Branches -/

theorem DspCore.spoil_eq (c : DspCore) : c.spoil = { c with filling := c.cacheOk && c.filling } := by
  unfold DspCore.spoil
  cases h : c.cacheOk <;> cases c <;> simp_all

theorem DspCore.exitLoops_noLevels {c : DspCore} (outside : c.bankLevels = []) (t k : Nat) : c.exitLoops t k = c := by
  cases k <;> simp [DspCore.exitLoops, outside]

/-- A branch taken outside loops goes to its target after its delay slots (R264, R273, R277). -/
theorem State.branchTo_outside (hn : n < 16) (outside : (s.core n).bankLevels = []) (t : Nat) (leaves : Bool) :
    s.branchTo n t leaves = s.modCore n fun c => { c with after := .jump t, filling := c.cacheOk && c.filling } := by
  apply State.modCore_congr s hn
  have outside' : ({ s.core n with
      filling := (s.core n).cacheOk && (s.core n).filling, after := .jump t } : DspCore).bankLevels = [] := outside
  simp only [DspCore.spoil_eq, DspCore.exitLoops_noLevels outside', ite_self]

/-- A word of a branch, call or return: its op code, target and condition (R264, R266, R290). -/
structure ConditionalWord (w op target : Nat) (cc : Fin 16) : Prop where
  conditional : op ∈ [1, 2, 3, 5]
  op : dspOp w = op
  target : bits w 16 14 = target
  cond : bits w 12 4 = cc

theorem encC_conditional {op target low : Nat} {cc : Fin 16} (hcc : low / 2 ^ 12 = cc)
    (conditional : op ∈ [1, 2, 3, 5] := by decide) (ht : target < 16384 := by simp) :
    ConditionalWord (encC op target low) op target cc := by
  have hop : op < 1024 := by
    simp only [List.mem_cons, List.not_mem_nil, or_false] at conditional
    omega
  obtain ⟨op, target, -, cond⟩ := encC_fields hop ht (low := low) (by omega)
  exact ⟨conditional, op, target, cond.trans hcc⟩

theorem ConditionalWord.op_cases {op target : Nat} {cc : Fin 16} (word : ConditionalWord w op target cc) :
    op = 1 ∨ op = 2 ∨ op = 3 ∨ op = 5 := by simpa using word.conditional

theorem ConditionalWord.control {op target : Nat} {cc : Fin 16} (word : ConditionalWord w op target cc) : dspOp w < 0x040 := by
  have := word.op
  have := word.op_cases
  omega

theorem ConditionalWord.legal {op target : Nat} {cc : Fin 16} (word : ConditionalWord w op target cc) (code : cc ≤ 0xB)
    (c : DspCore) (pc : Nat) : c.legal w pc false [] = true := by
  have cond : bits w 12 4 ≤ 0xB := by rw [word.cond]; exact code
  rw [DspCore.legal_eq _ _ (by have := word.op; have := word.op_cases; omega)]
  rcases word.op_cases with op | op | op | op <;> simp [dspCodesOk, word.op, op, cond]

section
variable {op target : Nat} {cc : Fin 16} (p : DspPlain s n) (word : ConditionalWord w op target cc) (code : cc ≤ 0xB)
include p word code

/-- A branch, call or return whose condition does not hold has its two delay slots (R264). -/
theorem issue_untaken (fails : dspCond cc (s.core n).file.sr.toNat = false) :
    (.next (s.dspIssue n w) : Result) = .next (s.stepped n ({ · with delay := 2, after := .goOn })) := by
  refine issue_control (c := { (s.core n).fetched with delay := 2, after := .goOn }) p word.control (word.legal code _ _) ?_ rfl
    p.doomed
  rcases word.op_cases with op | op | op | op <;>
    simp [State.dspControlEffect, p.core_fetchedBy, p.fetched_view, State.modCore_fetchedBy, word.op, op, word.cond, fails]

/-- One whose condition holds goes on to a target after them, with the stack that it leaves (R264, R290). -/
theorem issue_taken {t : Nat} {f : DspCore → DspCore} (leaves : Bool) (stack : List Nat)
    (effect : (s.fetchedBy n).dspControlEffect n w (s.core n).pc =
      (s.modCore n fun _ => { (s.core n).fetched with delay := 2, after := .goOn, stack := stack }).branchTo n t leaves)
    (next : f (s.core n).steppedOn = { (s.core n).steppedOn.jumping t with stack := stack }) :
    (.next (s.dspIssue n w) : Result) = .next (s.stepped n f) := by
  refine issue_control (c := { (s.core n).fetched.jumping t with stack := stack }) p word.control (word.legal code _ _) ?_ next.symm
    p.doomed
  rw [effect, State.branchTo_outside p.core (by rw [State.core_modCore s p.core]; exact p.levels), State.modCore_modCore]
  rfl

variable (holds : dspCond cc (s.core n).file.sr.toNat = true)
include holds

/-- br goes to its word's target (R264). -/
theorem issue_br_taken (br : op = 1) : (.next (s.dspIssue n w) : Result) = .next (s.stepped n (·.jumping target)) := by
  refine issue_taken p word code true (s.core n).stack ?_ rfl
  simp [State.dspControlEffect, p.core_fetchedBy, p.fetched_view, State.modCore_fetchedBy, word.op, word.cond, word.target, br,
    holds]

/-- brr goes to the low 14 bits of a pointer (R264). -/
theorem issue_brr_taken {k : Nat} (brr : op = 5) (pointer : bits w 0 3 = k) : (.next (s.dspIssue n w) : Result) =
    .next (s.stepped n (·.jumping ((vget 0 (s.core n).file.p k).toNat % 16384))) := by
  subst pointer
  refine issue_taken p word code true (s.core n).stack ?_ rfl
  simp [State.dspControlEffect, p.core_fetchedBy, p.fetched_view, State.modCore_fetchedBy, word.op, word.cond, brr, holds]

/-- call pushes the address behind its delay slots and goes to its target (R290). -/
theorem issue_call_taken (call : op = 2) (room : (s.core n).stack.length < 16) : (.next (s.dspIssue n w) : Result) =
    .next (s.stepped n fun c => { c.jumping target with stack := ((s.core n).pc + 3) % 16384 :: c.stack }) := by
  refine issue_taken p word code false (((s.core n).pc + 3) % 16384 :: (s.core n).stack) ?_ rfl
  simp [State.dspControlEffect, p.core_fetchedBy, p.fetched_view, State.modCore_fetchedBy, State.modCore_modCore,
    word.op, word.cond, word.target, call, holds, Nat.not_le.mpr room]

/-- ret pops the address that it goes to (R290). -/
theorem issue_ret_taken (ret : op = 3) (called : (s.core n).stack ≠ []) : (.next (s.dspIssue n w) : Result) =
    .next (s.stepped n fun c => { c.jumping ((s.core n).stack.headD 0) with stack := c.stack.tail }) := by
  obtain ⟨a, rest, stack⟩ := List.exists_cons_of_ne_nil called
  refine issue_taken p word code false (s.core n).stack.tail ?_ rfl
  simp [State.dspControlEffect, p.core_fetchedBy, p.fetched_view, State.modCore_fetchedBy, State.modCore_modCore,
    word.op, word.cond, ret, holds, stack]

end

/-! ### Loops -/

/-- A loop level starts the same whatever the slot (R269, R270, R276). -/
theorem DspCore.startLevel_fetched (c : DspCore) (first last count : Nat) :
    { c.fetched.startLevel first last count with
      repeating := false, slot := (c.fetched.startLevel first last count).slot + 1, afterReti := false } =
      c.steppedOn.startLevel first last count := by
  unfold DspCore.startLevel
  have handler : c.fetched.inHandler = c.inHandler := rfl
  have handler' : c.steppedOn.inHandler = c.inHandler := rfl
  simp only [handler, handler']
  cases c.inHandler <;> cases (⟨first, last⟩ : DspLevel).fits <;> rfl

theorem DspCore.startLevel_doomed (c : DspCore) (first last count : Nat) : (c.startLevel first last count).doomed = c.doomed := by
  simp only [DspCore.startLevel]
  split <;> split <;> rfl

/-! ### The other control instructions -/

/-- The checks of an op code without a condition, a register or a loop (R275). -/
theorem legal_of_op (op : dspOp w ∈ [0x000, 0x004, 0x00A, 0x00C, 0x00D]) (c : DspCore) (pc : Nat) :
    c.legal w pc false [] = true := by
  simp only [List.mem_cons, List.not_mem_nil, or_false] at op
  rw [DspCore.legal_eq _ _ (by omega)]
  rcases op with op | op | op | op | op <;> simp [dspCodesOk, op]

/-- A count in a register reads as mov reads it of a core without moves (R272, R279). -/
theorem State.readD_fetched (s : State) (n code : Nat) : (s.core n).fetched.readD code = s.dspCode n noMoves code := rfl

section
variable (p : DspPlain s n)
include p

theorem issue_nop (op : dspOp w = 0x000) : (.next (s.dspIssue n w) : Result) = .next (s.stepped n id) := by
  refine issue_control (c := (s.core n).fetched) p (by omega) (legal_of_op (by simp [op]) _ _) ?_ rfl p.doomed
  simp [State.dspControlEffect, State.fetchedBy, op]

/-- rot decrements rrb while sr.rot is 1, one cycle after its fetch (R281). -/
theorem issue_rot (op : dspOp w = 0x00C) (rotates : bit (s.core n).file.sr.toNat 8 = true) : (.next (s.dspIssue n w) : Result) =
    .next (s.stepped n fun c => { c with pend := [⟨c.slot, .rrb, (c.file.rrb.toNat + 7) % 8⟩] }) := by
  refine issue_control (c := { (s.core n).fetched with
      pend := [⟨(s.core n).slot + 1, .rrb, ((s.core n).file.rrb.toNat + 7) % 8⟩] }) p (by omega)
    (legal_of_op (by simp [op]) _ _) ?_ rfl p.doomed
  have pend : (s.core n).fetched.pend = [] := p.pend
  simp [State.dspControlEffect, State.modCore_fetchedBy, op, rotates, DspCore.post, pend, insertWrite]

/-- While sr.rot is 0, rot is a nop (R281). -/
theorem issue_rot_off (op : dspOp w = 0x00C) (fixed : bit (s.core n).file.sr.toNat 8 = false) :
    (.next (s.dspIssue n w) : Result) = .next (s.stepped n id) := by
  refine issue_control (c := (s.core n).fetched) p (by omega) (legal_of_op (by simp [op]) _ _) ?_ rfl p.doomed
  simp [State.dspControlEffect, State.modCore_fetchedBy, op, fixed]

/-- halt has its delay slots before it stops the fetch (R292). -/
theorem issue_halt (op : dspOp w = 0x00D) :
    (.next (s.dspIssue n w) : Result) = .next (s.stepped n ({ · with delay := 2, after := .halt })) := by
  refine issue_control (c := { (s.core n).fetched with delay := 2, after := .halt }) p (by omega)
    (legal_of_op (by simp [op]) _ _) ?_ rfl p.doomed
  simp [State.dspControlEffect, State.modCore_fetchedBy, State.modCore_modCore, op]

/-- reti has its delay slots before its return, and restores sr with it (R287). -/
theorem issue_reti (op : dspOp w = 0x004) : (.next (s.dspIssue n w) : Result) =
    .next (s.stepped n fun c => { c with
      delay := 2, after := .reti (s.get (INT_RET.ret_pc n)), leaveAt := some ((s.core n).slot + 3)
      pend := [⟨(s.core n).slot + 3, .sr srWritable, s.get (INT_SAVED_SR.sr n)⟩] }) := by
  refine issue_control (c := { (s.core n).fetched with
      delay := 2, after := .reti (s.get (INT_RET.ret_pc n)), leaveAt := some ((s.core n).slot + 3)
      pend := [⟨(s.core n).slot + 3, .sr srWritable, s.get (INT_SAVED_SR.sr n)⟩] }) p (by omega)
    (legal_of_op (by simp [op]) _ _) ?_ rfl p.doomed
  have pend : (s.core n).fetched.pend = [] := p.pend
  have get (f : Field) : (s.fetchedBy n).get f = s.get f := rfl
  simp [State.dspControlEffect, State.modCore_fetchedBy, State.modCore_modCore, op, DspCore.post, pend, insertWrite, get]

/-- rpt repeats the next instruction by its word's count (R279). -/
theorem issue_rpt {n1 : Nat} (op : dspOp w = 0x00A) (count : bits w 0 8 = n1) :
    (.next (s.dspIssue n w) : Result) = .next (s.stepped n ({ · with rep := some (n1 + 1, (s.core n).pc) })) := by
  subst count
  refine issue_control (c := { (s.core n).fetched with rep := some (bits w 0 8 + 1, (s.core n).pc) }) p (by omega)
    (legal_of_op (by simp [op]) _ _) ?_ rfl p.doomed
  simp [State.dspControlEffect, State.modCore_fetchedBy, op]

/-- rptr repeats it by a register's count, of 256 at most (R279). -/
theorem issue_rptr {src : Nat} (op : dspOp w = 0x00B) (source : bits w 0 7 = src) (ok : dspCodeOk src = true) :
    (.next (s.dspIssue n w) : Result) =
      .next (s.stepped n ({ · with rep := some (min (s.dspCode n noMoves src) 256, (s.core n).pc) })) := by
  subst source
  refine issue_control (c := { (s.core n).fetched with rep := some (min (s.dspCode n noMoves (bits w 0 7)) 256, (s.core n).pc) }) p
    (by omega) (by rw [DspCore.legal_eq _ _ (by omega)]; simp [dspCodesOk, op, ok]) ?_ rfl p.doomed
  simp [State.dspControlEffect, State.modCore_fetchedBy, op, State.readD_fetched]

section
variable {last : Nat} (hlast : bits w 16 14 = last) (behind : (s.core n).pc < last)
include hlast

/-- A level starts behind its loop or loopr (R269, R272). -/
theorem issue_level {count : Nat} (op : dspOp w = 0x008 ∨ dspOp w = 0x009)
    (legal : (s.core n).fetched.legal w (s.core n).pc false [] = true)
    (effect : (s.fetchedBy n).dspControlEffect n w (s.core n).pc =
      (s.fetchedBy n).modCore n fun c => c.startLevel ((s.core n).pc + 1) (bits w 16 14) count) :
    (.next (s.dspIssue n w) : Result) = .next (s.stepped n (·.startLevel ((s.core n).pc + 1) last count)) := by
  subst hlast
  exact issue_control p (by omega) legal (effect.trans (State.modCore_fetchedBy ..)) (DspCore.startLevel_fetched ..)
    ((DspCore.startLevel_doomed ..).trans p.doomed)

include behind

/-- loop starts a level with its word's count (R269). -/
theorem issue_loop {count : Nat} (op : dspOp w = 0x008) (hcount : bits w 0 16 = count) (positive : count ≠ 0) :
    (.next (s.dspIssue n w) : Result) = .next (s.stepped n (·.startLevel ((s.core n).pc + 1) last count)) := by
  have legal := DspCore.legal_loop (s.core n).fetched _ (.inl op) (by simp [dspCodesOk, op]) (fun _ => hcount ▸ positive)
    (hlast ▸ behind)
  refine issue_level p hlast (.inl op) legal ?_
  simp [State.dspControlEffect, op, hcount]

variable {src : Nat} (op : dspOp w = 0x009) (source : bits w 0 7 = src) (ok : dspCodeOk src = true)
include op source ok

/-- loopr starts a level with a register's count (R272). -/
theorem issue_loopr (positive : s.dspCode n noMoves src ≠ 0) : (.next (s.dspIssue n w) : Result) =
    .next (s.stepped n (·.startLevel ((s.core n).pc + 1) last (s.dspCode n noMoves src))) := by
  refine issue_level p hlast (.inr op) (DspCore.legal_loopr _ _ op hlast source ok behind) ?_
  simp [State.dspControlEffect, p.core_fetchedBy, op, source, State.readD_fetched, positive]

/-- A loopr of count 0 starts no level, and the next instruction is discarded (R272). -/
theorem issue_loopr_zero (zero : s.dspCode n noMoves src = 0) : (.next (s.dspIssue n w) : Result) =
    .next (s.stepped n ({ · with skipTo := some ((last + 1) % 16384) })) := by
  refine issue_control (c := { (s.core n).fetched with skipTo := some ((last + 1) % 16384) }) p (by omega)
    (DspCore.legal_loopr _ _ op hlast source ok behind) ?_ rfl p.doomed
  simp [State.dspControlEffect, p.core_fetchedBy, State.modCore_fetchedBy, op, hlast, source, State.readD_fetched, zero]

end

end

/-- Settles O22: a branch, call or return by its condition, each other control instruction by its op code. -/
theorem dspControlCompletes : Obligations.DspControlCompletes := by
  intro s core
  refine ⟨?nop, ?rot, ?rotOff, ?br, ?brOff, ?brr, ?brrOff, ?call, ?callOff, ?ret, ?retOff, ?reti, ?loop, ?loopr, ?loopr0, ?rpt,
    ?rptr, ?halt⟩
  case brOff | callOff => exact fun cc _ p code fails => issue_untaken p (encC_conditional (by omega)) code fails
  case retOff => exact fun cc p code fails => issue_untaken p (encC_conditional (by omega)) code fails
  case brrOff => exact fun cc k p code fails => issue_untaken p (encC_conditional (by omega)) code fails
  case br => exact fun cc _ p code holds => issue_br_taken p (encC_conditional (by omega)) code holds rfl
  case call => exact fun cc _ p code holds room => issue_call_taken p (encC_conditional (by omega)) code holds rfl room
  case ret => exact fun cc p code holds called => issue_ret_taken p (encC_conditional (by omega)) code holds rfl called
  case brr =>
    exact fun cc k p code holds =>
      issue_brr_taken p (encC_conditional (by omega)) code holds rfl (encC_low3.trans (by omega))
  case nop => exact fun p => issue_nop p rfl
  case rot => exact fun p => issue_rot p rfl
  case rotOff => exact fun p => issue_rot_off p rfl
  case reti => exact fun p => issue_reti p rfl
  case halt => exact fun p => issue_halt p rfl
  case loop =>
    intro n last p count behind
    obtain ⟨op, hlast, hcount, -⟩ := encC_fields (op := 0x008) (by decide) last.isLt n.isLt
    exact issue_loop p hlast behind op hcount (fun zero => count (Fin.ext zero))
  case loopr =>
    intro src last p ok behind count
    obtain ⟨op, hlast, source⟩ := encC_source (op := 0x009) (by decide) last.isLt src
    exact issue_loopr p hlast behind op source ok count
  case loopr0 =>
    intro src last p ok behind zero
    obtain ⟨op, hlast, source⟩ := encC_source (op := 0x009) (by decide) last.isLt src
    exact issue_loopr_zero p hlast behind op source ok zero
  case rpt =>
    exact fun n1 p => issue_rpt p (encC_op (by decide) (by decide) (by omega)) (encC_low8.trans (Nat.mod_eq_of_lt n1.isLt))
  case rptr =>
    intro src p ok
    obtain ⟨op, -, source⟩ := encC_source (op := 0x00B) (target := 0) (by decide) (by decide) src
    exact issue_rptr p op source ok

end Sys2Proof.Machine
end

section
/-! PROOFS of the statements on what the arithmetic and the multiplications of the DSP cores leave unchanged: registers, flags,
other cores and memory, and what the moves of an instruction store. -/

namespace Sys2Proof.Machine

variable {s : State} {n mask : Nat} {mv : Moves} {outs : List DspOut} {target : DspTarget}

/-! ### Flags that a write's mask leaves -/

theorem bit_eq_testBit (v i : Nat) : bit v i = v.testBit i := by
  rw [bit, Nat.testBit_eq_decide_div_mod_eq]
  rfl

/-- Bits outside the mask stay. -/
theorem testBit_maskInto {old mask v i : Nat} (out : mask.testBit i = false) : (maskInto old mask v).testBit i = old.testBit i := by
  induction i generalizing old mask v with
  | zero =>
    have kept : old &&& mask ≤ old := Nat.and_le_left
    have keptBit := Nat.and_mod_two_eq_one (a := old) (b := mask)
    have newBit := Nat.and_mod_two_eq_one (a := v) (b := mask)
    simp only [Nat.testBit_zero, decide_eq_false_iff_not] at out
    simp only [Nat.testBit_zero, maskInto, decide_eq_decide]
    omega
  | succ i ih =>
    have half : maskInto old mask v / 2 = maskInto (old / 2) (mask / 2) (v / 2) := by
      have kept : old &&& mask ≤ old := Nat.and_le_left
      have keptBit := Nat.and_mod_two_eq_one (a := old) (b := mask)
      have newBit := Nat.and_mod_two_eq_one (a := v) (b := mask)
      simp only [maskInto, ← Nat.and_div_two]
      omega
    rw [Nat.testBit_succ] at out ⊢
    rw [Nat.testBit_succ, half, ih out]

/-- A write of the status register leaves the flags outside its mask. -/
theorem bit_write_sr {f : DspFile} {m v i : Nat} (hi : i < 20) (out : bit m i = false) :
    bit (f.write (.sr m) v).sr.toNat i = bit f.sr.toNat i := by
  rw [bit_eq_testBit] at out
  simp only [DspFile.write, bit_eq_testBit, BitVec.toNat_ofNat, Nat.testBit_mod_two_pow, hi, decide_true, Bool.true_and,
    testBit_maskInto out]

/-! ### The registers that results land in -/

/-- Results that land in one register and in flags of a mask. -/
def WritesOnly (target : DspTarget) (mask : Nat) (outs : List DspOut) : Prop :=
  ∀ o ∈ outs, o.2.1 = target ∨ ∃ m, o.2.1 = .sr m ∧ ∀ i < 20, bit mask i = false → bit m i = false

/-- A register file differs from another in one data register or accumulator and in flags of a mask at most. -/
structure FileFrame (target : DspTarget) (mask : Nat) (f g : DspFile) : Prop where
  d : ∀ i, .d i ≠ target → vget 0 g.d i = vget 0 f.d i
  acc : ∀ i, .acc i ≠ target → vget 0 g.acc i = vget 0 f.acc i
  flags : ∀ i < 20, bit mask i = false → bit g.sr.toNat i = bit f.sr.toNat i
  rest : g = { f with d := g.d, acc := g.acc, sr := g.sr }

theorem FileFrame.refl (f : DspFile) : FileFrame target mask f f := ⟨fun _ _ => rfl, fun _ _ => rfl, fun _ _ _ => rfl, rfl⟩

theorem FileFrame.trans {f g h : DspFile} (fg : FileFrame target mask f g) (gh : FileFrame target mask g h) :
    FileFrame target mask f h :=
  ⟨fun i o => (gh.d i o).trans (fg.d i o), fun i o => (gh.acc i o).trans (fg.acc i o),
    fun i hi o => (gh.flags i hi o).trans (fg.flags i hi o), by rw [gh.rest, fg.rest]⟩

theorem FileFrame.write_d (f : DspFile) (i v : Nat) : FileFrame (.d i) mask f (f.write (.d i) v) :=
  ⟨fun _ o => vget_vmod_other _ _ _ (fun e => o (e ▸ rfl)), fun _ _ => rfl, fun _ _ _ => rfl, rfl⟩

theorem FileFrame.write_acc (f : DspFile) (i v : Nat) : FileFrame (.acc i) mask f (f.write (.acc i) v) :=
  ⟨fun _ _ => rfl, fun _ o => vget_vmod_other _ _ _ (fun e => o (e ▸ rfl)), fun _ _ _ => rfl, rfl⟩

theorem FileFrame.write_sr {m : Nat} (f : DspFile) (v : Nat) (within : ∀ i < 20, bit mask i = false → bit m i = false) :
    FileFrame target mask f (f.write (.sr m) v) :=
  ⟨fun _ _ => rfl, fun _ _ => rfl, fun i hi out => bit_write_sr hi (within i hi out), rfl⟩

/-- Results land within their frame, one after the other. -/
theorem FileFrame.of_writes (single : ∀ f v, FileFrame target mask f (f.write target v)) (only : WritesOnly target mask outs)
    (f : DspFile) : FileFrame target mask f (outs.foldl (fun f o => f.write o.2.1 o.2.2) f) := by
  induction outs generalizing f with
  | nil => exact .refl f
  | cons o outs ih =>
    refine .trans (g := f.write o.2.1 o.2.2) ?_ (ih (fun x hx => only x (by simp [hx])) _)
    rcases only o (by simp) with here | ⟨m, flags, within⟩
    · rw [here]; exact single f _
    · rw [flags]; exact .write_sr f _ within

theorem eq_of_vget_eq {α : Type} {k : Nat} {d : α} {v v' : Vector α k} (h : ∀ i, vget d v i = vget d v' i) : v = v' := by
  ext i hi
  simpa [vget, hi] using congrArg id (h i)

theorem FileFrame.rest_d {i : Nat} {f g : DspFile} (frame : FileFrame (.d i) mask f g) : g = { f with d := g.d, sr := g.sr } := by
  have acc : g.acc = f.acc := eq_of_vget_eq fun j => frame.acc j (by simp)
  rw [frame.rest, acc]

theorem FileFrame.rest_acc {i : Nat} {f g : DspFile} (frame : FileFrame (.acc i) mask f g) :
    g = { f with acc := g.acc, sr := g.sr } := by
  have d : g.d = f.d := eq_of_vget_eq fun j => frame.d j (by simp)
  rw [frame.rest, d]

/-! ### Instructions without moves -/

theorem DspPlain.ready (p : DspPlain s n) : DspReady s n noMoves false := ⟨p, .inl rfl, .inl rfl, by simp⟩

/-- Without moves, the results alone are in the pipeline. -/
theorem State.allWrites_noMoves : s.allWrites n noMoves false outs = s.outWrites n outs := by
  simp [State.allWrites, State.movePointers, State.thirdLoad, State.moveLoad, noMoves]

/-- Once they have landed, the results of an instruction without moves are written in their order (R263). -/
theorem State.landed_issued (hn : n < 16) :
    (s.issued n noMoves false outs).landed n = outs.foldl (fun f o => f.write o.2.1 o.2.2) (s.core n).file := by
  have stores : s.moveStores n noMoves = s := rfl
  simp [State.landed, State.issued, stores, hn, State.allWrites_noMoves, State.outWrites, List.foldl_map]

/-- An instruction without moves whose results land in one register and in flags leaves everything else. -/
theorem frame_of_writes {c : Instr} {core : Fin 16} (run : exec c s = .next (s.issued core noMoves false outs))
    (single : ∀ f v, FileFrame target mask f (f.write target v)) (only : WritesOnly target mask outs) :
    ∃ t, exec c s = .next t ∧ t = { s with dsp := t.dsp } ∧ (∀ n < 16, n ≠ core.val → t.core n = s.core n) ∧
      t.dsp.x = s.dsp.x ∧ t.dsp.y = s.dsp.y ∧ t.dsp.prog = s.dsp.prog ∧ t.dsp.kernels = s.dsp.kernels ∧
      FileFrame target mask (s.core core).file (t.landed core) := by
  refine ⟨_, run, rfl, fun n _ other => State.core_modCore_other _ (Ne.symm other) _, rfl, rfl, rfl, rfl, ?_⟩
  rw [State.landed_issued core.isLt]
  exact .of_writes single only _

/-! ### What the results of an operation land in -/

theorem WritesOnly.append {others : List DspOut} (h : WritesOnly target mask outs) (h' : WritesOnly target mask others) :
    WritesOnly target mask (outs ++ others) := fun o ho => (List.mem_append.mp ho).elim (h o) (h' o)

theorem writesOnly_sticky {w b : Bool} {f : Nat} (within : ∀ i < 20, bit mask i = false → bit f i = false) :
    WritesOnly target mask (sticky w b f) := by
  cases b
  · simp [WritesOnly, sticky]
  · simpa [WritesOnly, sticky] using .inr within

/-- A result in a register, and its flags. -/
theorem writesOnly_pair {w : Bool} {r m flags : Nat} (within : ∀ i < 20, bit mask i = false → bit m i = false) :
    WritesOnly target mask [(w, target, r), setFlags w m flags] := by
  simpa [WritesOnly, setFlags] using .inr within

theorem writesOnly_sumOut (dd x y : Nat) (sat : Bool) : WritesOnly (.d dd) (if sat then 79 else 15) (sumOut dd x y sat) := by
  cases sat
  · exact .append (writesOnly_pair (by decide)) (by simp [WritesOnly, sticky])
  · exact .append (writesOnly_pair (by decide)) (writesOnly_sticky (by decide))

theorem writesOnly_diffOut (dd x y : Nat) (sat : Bool) : WritesOnly (.d dd) (if sat then 79 else 15) (diffOut dd x y sat) := by
  cases sat
  · exact .append (writesOnly_pair (by decide)) (by simp [WritesOnly, sticky])
  · exact .append (writesOnly_pair (by decide)) (writesOnly_sticky (by decide))

theorem writesOnly_logicOut (dd r : Nat) : WritesOnly (.d dd) 15 (logicOut dd r) := writesOnly_pair (by decide)

theorem writesOnly_accOut (aa : Nat) (exact : Int) : WritesOnly (.acc aa) 59 (accOut aa exact) :=
  .append (writesOnly_pair (by decide)) (writesOnly_sticky (by decide))

/-- The instructions of two operands and a data register, with the flags that each writes (R267). -/
def arithmeticRows : List ((Fin 16 → Fin 16 → Fin 16 → Fin 16 → Moves → Instr) × Nat) :=
  [(Instr.add, 15), (Instr.sub, 15), (Instr.adds, 79), (Instr.subs, 79), (Instr.and, 15), (Instr.or, 15), (Instr.xor, 15)]

/-- A ready core issues each of them with results that land in its register and its flags. -/
theorem exec_arithmetic {core : Fin 16} (r : DspReady s core mv false) {p : _ × Nat} (hp : p ∈ arithmeticRows)
    (dd ds dt : Fin 16) : ∃ outs, exec (p.1 core dd ds dt mv) s = .next (s.issued core mv false outs) ∧
      WritesOnly (.d (s.dspPhys core dd)) p.2 outs := by
  obtain ⟨add, sub, adds, subs, and, or, xor, -⟩ := dspArithmeticCompletes s core
  simp only [arithmeticRows, List.mem_cons, List.not_mem_nil, or_false] at hp
  rcases hp with rfl | rfl | rfl | rfl | rfl | rfl | rfl
  · exact ⟨_, add dd ds dt mv r, writesOnly_sumOut _ _ _ false⟩
  · exact ⟨_, sub dd ds dt mv r, writesOnly_diffOut _ _ _ false⟩
  · exact ⟨_, adds dd ds dt mv r, writesOnly_sumOut _ _ _ true⟩
  · exact ⟨_, subs dd ds dt mv r, writesOnly_diffOut _ _ _ true⟩
  · exact ⟨_, and dd ds dt mv r, writesOnly_logicOut _ _⟩
  · exact ⟨_, or dd ds dt mv r, writesOnly_logicOut _ _⟩
  · exact ⟨_, xor dd ds dt mv r, writesOnly_logicOut _ _⟩

/-- The multiplications do so with an accumulator. -/
theorem exec_multiply {core : Fin 16} {third : Bool} (r : DspReady s core mv third)
    {f : Fin 16 → Fin 4 → Fin 16 → Fin 16 → Bool → Moves → Instr}
    (hf : f ∈ [Instr.mul, Instr.mac, Instr.nmac, Instr.mulm, Instr.macm, Instr.macu]) (aa : Fin 4) (ds dt : Fin 16) :
    ∃ outs, exec (f core aa ds dt third mv) s = .next (s.issued core mv third outs) ∧ WritesOnly (.acc aa) 59 outs := by
  obtain ⟨mul, mac, nmac, mulm, macm, macu⟩ := dspMultipliesComplete s core
  simp only [List.mem_cons, List.not_mem_nil, or_false] at hf
  rcases hf with rfl | rfl | rfl | rfl | rfl | rfl
  · exact ⟨_, mul aa ds dt third mv r, writesOnly_accOut _ _⟩
  · exact ⟨_, mac aa ds dt third mv r, writesOnly_accOut _ _⟩
  · exact ⟨_, nmac aa ds dt third mv r, writesOnly_accOut _ _⟩
  · exact ⟨_, mulm aa ds dt third mv r, writesOnly_accOut _ _⟩
  · exact ⟨_, macm aa ds dt third mv r, writesOnly_accOut _ _⟩
  · exact ⟨_, macu aa ds dt third mv r, writesOnly_accOut _ _⟩

/-- Settles O47: an instruction without moves changes what its results land in, and that alone. -/
theorem dspRegisterFrames : Obligations.DspRegisterFrames := by
  intro s core plain
  constructor
  · intro p hp dd ds dt
    obtain ⟨outs, run, only⟩ := exec_arithmetic plain.ready hp dd ds dt
    obtain ⟨t, run, state, cores, x, y, prog, kernels, frame⟩ := frame_of_writes run (.write_d · _) only
    exact ⟨t, run, state, cores, x, y, prog, kernels, fun i _ other => frame.d i (by simpa using other), frame.flags,
      frame.rest_d⟩
  · intro f hf aa ds dt
    obtain ⟨outs, run, only⟩ := exec_multiply plain.ready hf aa ds dt
    obtain ⟨t, run, state, cores, x, y, prog, kernels, frame⟩ := frame_of_writes run (.write_acc · _) only
    exact ⟨t, run, state, cores, x, y, prog, kernels, fun i _ other => frame.acc i (by simpa using other), frame.flags,
      frame.rest_acc⟩

/-! ### The words that moves store -/

/-- A store in X or Y memory writes its word and no other of its core's or another core's memory. -/
theorem State.xyRaw_xyPut (wf : Memory.wf s = true) {y y' : Bool} {n' a a' : Nat} (v : Nat) (ha : a < 32768) (ha' : a' < 32768) :
    (s.xyPut y n a v).xyRaw y' n' a' =
      if y' = y ∧ n' = n ∧ a' = a then (BitVec.ofNat 26 (eccStore 20 v)).toNat else s.xyRaw y' n' a' := by
  simp only [Memory.wf, Bool.and_eq_true] at wf
  obtain ⟨⟨⟨-, wfx⟩, wfy⟩, -⟩ := wf
  have place : 32768 * n' + a' = 32768 * n + a ↔ n' = n ∧ a' = a := by omega
  cases y <;> cases y' <;> simp [State.xyRaw, State.xyPut, sparseGet_set, wfx, wfy, place, apply_ite BitVec.toNat]

/-- The word of a move that stores is the only one that changes (R251, R252). -/
theorem State.xyRaw_moveStore_eq (wf : Memory.wf s = true) {y y' : Bool} {m n' a : Nat} (ready : s.moveReady n y m)
    (ha : a < 32768) :
    (s.moveStore n y m).xyRaw y' n' a =
      if y' = y ∧ n' = n ∧ storesWord m = true ∧ a = s.moveEa n m
      then (BitVec.ofNat 26 (eccStore 20 (s.dspReg n (bits m 1 4)))).toNat else s.xyRaw y' n' a := by
  unfold State.moveStore
  by_cases stores : storesWord m = true
  · have hm : m ≠ 0 ∧ bit m 0 = false := by simpa [storesWord] using stores
    rcases ready with none | ⟨ea, -⟩
    · exact absurd none hm.1
    · rw [if_neg (by simp [hm]), State.xyRaw_xyPut wf _ ea ha]
      simp [stores]
  · have hm : (decide (m = 0) || bit m 0) = true := by
      by_cases zero : m = 0 <;> simp_all [storesWord]
    rw [if_pos hm, if_neg (by simp [stores])]

theorem State.moveStore_kept (y : Bool) (m : Nat) : Kept s (s.moveStore n y m) := by
  unfold State.moveStore
  exact kept_ite (.refl s) (xyPut_kept _ _ _ _ (.refl s))

theorem State.xyBits_outside (s : State) (y : Bool) (n a : Nat) (w : BitVec 26) :
    (s.xyBits y n a w).dsp.prog = s.dsp.prog ∧ (s.xyBits y n a w).gran = s.gran ∧ (s.xyBits y n a w).regs = s.regs := by
  cases y <;> exact ⟨rfl, rfl, rfl⟩

/-- A store of a move leaves everything beside its memory. -/
theorem State.moveStore_outside (s : State) (n : Nat) (y : Bool) (m : Nat) :
    (s.moveStore n y m).dsp.prog = s.dsp.prog ∧ (s.moveStore n y m).gran = s.gran ∧ (s.moveStore n y m).regs = s.regs := by
  unfold State.moveStore
  split
  · exact ⟨rfl, rfl, rfl⟩
  · rw [State.xyPut_eq]
    exact State.xyBits_outside ..

/-- The second move of an instruction sees the core as before the first one's store. -/
theorem State.moveStore_reads (y : Bool) (m m' i : Nat) :
    (s.moveStore n y m).moveEa n m' = s.moveEa n m' ∧ (s.moveStore n y m).dspReg n i = s.dspReg n i := by
  simp only [State.moveEa, State.dspReg, State.core_moveStore, and_self]

/-- The moves of an instruction store each in its own memory. -/
theorem State.xyRaw_moveStores (wf : Memory.wf s = true) (x : s.moveReady n false mv.x.toNat) (y : s.moveReady n true mv.y.toNat)
    {y' : Bool} {n' a : Nat} (ha : a < 32768) :
    (s.moveStores n mv).xyRaw y' n' a =
      if n' = n ∧ storesWord (moveOf mv y') = true ∧ a = s.moveEa n (moveOf mv y')
      then (BitVec.ofNat 26 (eccStore 20 (s.dspReg n (bits (moveOf mv y') 1 4)))).toNat else s.xyRaw y' n' a := by
  have ready : (s.moveStore n false mv.x.toNat).moveReady n true mv.y.toNat := by
    simpa only [State.moveReady, (State.moveStore_reads _ _ _ 0).1, State.xyRaw_moveStore] using y
  rw [State.moveStores, State.xyRaw_moveStore_eq ((State.moveStore_kept _ _).wf wf) ready ha, State.xyRaw_moveStore_eq wf x ha,
    (State.moveStore_reads _ _ _ 0).1, (State.moveStore_reads _ _ 0 _).2]
  cases y' <;> simp [moveOf]

/-- Settles O48: the stores of an instruction are those of its moves, each at its own address. -/
theorem dspMovesStoreAtTheirAddresses : Obligations.DspMovesStoreAtTheirAddresses := by
  intro s core mv r wf p hp dd ds dt
  obtain ⟨outs, run, -⟩ := exec_arithmetic r hp dd ds dt
  obtain ⟨progX, granX, regsX⟩ := State.moveStore_outside s core false mv.x.toNat
  obtain ⟨progY, granY, regsY⟩ := State.moveStore_outside (s.moveStore core false mv.x.toNat) core true mv.y.toNat
  refine ⟨_, run, fun _ _ _ ha => State.xyRaw_moveStores wf r.x r.y ha, fun n a => ?_, granY.trans granX, regsY.trans regsX⟩
  exact congrArg (fun prog => (sparseGet progDefault prog (16384 * n + a)).toNat) (progY.trans progX)

end Sys2Proof.Machine
end

section
/-! PROOFS of the statement on the programs of the open DSP cores: kernels and their lane feeds. -/

namespace Sys2Proof.Machine

variable {s : State}

/-! ### Words that a feed takes -/

/-- The feed of a core goes past the word that it takes: its next word is one stride on (R299). -/
def State.feedPast (s : State) (n : Nat) : State :=
  s.modCore n fun c => { c with feedNext := (c.feedNext + 2 ^ s.get (FEED_CFG.q n)) % 2 ^ 40 }

/-- The overload tag of a word that a running feed takes is shown (R299). -/
def State.feedOverload (s : State) (n : Nat) (w : BitVec 23) : State :=
  if bit w.toNat 22 then s.flag (FEED_STATUS.ovl_seen n) else s

/-- What a feed writes to its buffer for a lane word: zero for a word that carries the settle or blank tag (R299). -/
def feedValue (w : BitVec 23) : Word20 := if bit w.toNat 20 || bit w.toNat 21 then 0 else w.setWidth 20

/-- A feed that does not run lets the word pass (R299). -/
theorem State.feedTake_of_idle {n : Nat} (w : BitVec 23) (idle : (s.feedPast n).is (FEED_CFG.run n) = false) :
    s.feedTake n w = s.feedPast n :=
  if_pos (congrArg not idle)

/-- A running feed counts the word as dropped where its buffer is full (R300). -/
theorem State.feedTake_of_full {n : Nat} {w : BitVec 23} (runs : (s.feedPast n).is (FEED_CFG.run n) = true)
    (full : (s.get (FEED_WIDX.widx n) + 1) % 2048 = ((s.feedPast n).feedOverload n w).get (FEED_RIDX.ridx n)) :
    s.feedTake n w = (((s.feedPast n).feedOverload n w).bump (FEED_STATUS.drops n)).flag (FEED_STATUS.overrun n) :=
  (if_neg (ne_true_of_eq_false (congrArg not runs))).trans (if_pos (beq_iff_eq.mpr full))

/-- A running feed stores the word where its buffer has room (R299, R300). -/
theorem State.feedTake_of_room {n : Nat} {w : BitVec 23} (runs : (s.feedPast n).is (FEED_CFG.run n) = true)
    (room : (s.get (FEED_WIDX.widx n) + 1) % 2048 ≠ ((s.feedPast n).feedOverload n w).get (FEED_RIDX.ridx n)) :
    s.feedTake n w = ((((s.feedPast n).feedOverload n w).modCore n fun c => { c with
      feedBuf := sparseSet (fun _ => 0) c.feedBuf (s.get (FEED_WIDX.widx n)) (feedValue w) }).put (FEED_WIDX.widx n)
        ((s.get (FEED_WIDX.widx n) + 1) % 2048)).queueRaise n :=
  (if_neg (ne_true_of_eq_false (congrArg not runs))).trans (if_neg (mt beq_iff_eq.mp room))

/-- A granted feed of a running lane takes the word that leaves on the lane bus (R299). -/
theorem execLaneFeedWord_of_word {core : Fin 4} {l : Nat} {w : BitVec 23} {u : State} (live : s.mainLive = true)
    (lane : l = s.get (FEED_CFG.lane (12 + core))) (granted : s.is (FEED_CFG.granted (12 + core)) = true)
    (goes : s.is (FEED_STATUS.lane_stopped (12 + core)) = false) (lock : s.locked = true)
    (running : s.is (LANE_STATUS.running l) = true) (left : u = s.toLeft l (s.core (12 + core)).feedNext)
    (word : u.busWord l (u.core (12 + core)).feedNext = some w) :
    execLaneFeedWord core s = .next (u.feedTake (12 + core) w) := by
  subst lane left
  apply whileLive_of_live live
  simp [granted, goes, lock, running, word]

/-! ### Kernels -/

@[simp] theorem okCore_eq_none {p : List Byte} : okCore p = none ↔ isOpenCore (byteAt p 0) = true := okArg_eq_none

/-- An image that verifies and is not too old ends its load (R294, R295). -/
theorem execKernelLoadDone_of_verifies {core : Fin 4} {l : KernelLoad} {q : OpenReq} (live : s.mainLive = true)
    (thawed : s.frozen = false) (load : (s.kernel (12 + core)).load = some l) (checking : l.checking = some q)
    (verifies : s.imageVerifies l.bytes = true) (recent : s.sec.secMin ≤ fieldAt l.bytes 12 4) :
    execKernelLoadDone core s = .next ((((s.copyImage (12 + core) l.bytes).modKernel (12 + core) fun k => { k with
      state := .loaded, load := none, id := fieldAt l.bytes 8 4, version := fieldAt l.bytes 12 4, entry := fieldAt l.bytes 22 2
      wdgUs := fieldAt l.bytes 26 2, maxBays := byteAt l.bytes 24, wantFeed := bit (byteAt l.bytes 6) 0 })).answer q
        (ansOk [])) := by
  apply whileLive_of_live live
  simp [load, checking, thawed, verifies, Nat.not_lt.mpr recent]

/-- A core that is asked to stop, runs in no held slot and has no write left is held, and its stops are answered (R297). -/
theorem execKernelStopDone_of_done {core : Fin 4} (live : s.mainLive = true)
    (asked : (s.kernel (12 + core)).stops ≠ [] ∨ (s.kernel (12 + core)).unloading = true) (thawed : s.frozen = false)
    (free : ¬ ((s.core (12 + core)).running = true ∧ (s.core (12 + core)).held = true))
    (written : (s.core (12 + core)).writes = []) {t : State}
    (stopped : t = (s.kernel (12 + core)).stops.foldl (fun s q => s.answer q (ansOk []))
      ((s.holdCore (12 + core)).modKernel (12 + core) fun k =>
        { k with state := if k.state == .running then .stopped else k.state, stops := [] })) :
    execKernelStopDone core s =
      .next (if (s.kernel (12 + core)).unloading then t.unloadCore (12 + core) else t) := by
  subst stopped
  apply whileLive_of_live live
  refine if_neg ?_
  rcases asked with stops | unloading
  · simpa [stops, thawed, written] using free
  · simpa [unloading, thawed, written] using free

/-- Settles O24: each request is taken and its checks pass, its effect by the state of the kernel; the events at the cores are
those of a live domain, a feed's word by whether the feed runs and its buffer has room. -/
theorem kernelRequestsComplete : Obligations.KernelRequestsComplete := by
  intro s
  refine ⟨?load, ?chunk, ?start, ?stop, ?stopDone, ?unloadRunning, ?unload, ?status, ?withdraw, ?feed, ?doorbell, ?trig,
    ?loadDone, ?word⟩
  case load =>
    intro r p bay takes low high kernel key state room start data
    apply serve_next_of_takes takes (by simp)
    · simp [low, high, kernel]
    · simp only [state, room]
      rw [if_neg (by simpa using key), if_neg (by simp [start]), if_neg (Nat.not_lt.mpr data)]
  case chunk =>
    intro r p l takes low high kernel key state load unchecked later next
    apply serve_next_of_takes takes (by simp)
    · simp [low, high, kernel]
    · simp [key, state, load, unchecked, later, ← next]
  case start =>
    rintro r p t takes length kernel pad state rfl
    apply serve_next_of_takes takes (by simp)
    · simp [length, kernel, pad]
    · rcases state with state | state | state <;> simp only [state]
  case stop =>
    intro r p takes length kernel pad state
    apply serve_next_of_takes takes (by simp)
    · simp [length, kernel, pad]
    · simp only [state]
  case stopDone =>
    exact fun _ _ live asked thawed free written stopped =>
      execKernelStopDone_of_done live asked thawed free written stopped
  case unloadRunning =>
    intro r p takes length kernel pad state
    apply serve_next_of_takes takes (by simp)
    · simp [length, kernel, pad]
    · simp only [state]
  case unload =>
    intro r p takes length kernel pad state
    apply serve_next_of_takes takes (by simp)
    · simp [length, kernel, pad]
    · rcases state with state | state | state <;> simp only [state]
  case status =>
    intro r p takes length
    apply serve_next_of_takes takes (by simp) (by simp [length]) rfl
  case withdraw =>
    intro r p takes length kernel lane stride off loaded
    apply serve_next_of_takes takes (by simp)
    · simp [length, kernel, lane, stride, off]
    · simp [loaded, off, State.withdrawFeed]
  case feed =>
    rintro r p u t takes length kernel lane stride on loaded wanted ungranted rfl rfl
    apply serve_next_of_takes takes (by simp)
    · simp [length, kernel, lane, stride, on]
    · simp [loaded, on, wanted, ungranted]
  case doorbell =>
    intro r p takes length kernel pad value state
    apply serve_next_of_takes takes (by simp)
    · simp [length, kernel, pad, value]
    · simp [state, State.doorbell]
  case trig =>
    intro r p takes length kernel trigger on pad present idle
    apply serve_next_of_takes takes (by simp)
    · simp [length, kernel, trigger, on, pad]
    · split
      · exact absurd ‹_› present
      · exact absurd ‹_› idle
      · rfl
  case loadDone =>
    exact fun _ _ _ live thawed load checking verifies recent =>
      execKernelLoadDone_of_verifies live thawed load checking verifies recent
  case word =>
    rintro core n l w y u t x live rfl lane granted goes lock running left word rfl rfl rfl
    have taken : exec (.laneFeedWord core) s = .next (u.feedTake (12 + core) w) :=
      execLaneFeedWord_of_word live lane granted goes lock running left word
    refine ⟨fun idle => ?_, fun runs full => ?_, fun runs room => ?_⟩
    · rw [taken, State.feedTake_of_idle w idle]; rfl
    · rw [taken, State.feedTake_of_full runs full]; rfl
    · rw [taken, State.feedTake_of_room runs room]; rfl

end Sys2Proof.Machine
end

section
/-! PROOFS of the statements on snapshots and positions: captures and the moves of snapshots between the bays, the non-volatile
area and the host; position reports, corrections and the wakes of a schedule. -/

namespace Sys2Proof.Machine

variable {s : State}

/-! ### Captures -/

/-- CAPTURE_START takes effect at t_start (R329): the capture is armed, and its clock has come. -/
theorem execCaptureStart_of_due {c : Capture} {time : Time} {t : State} {run : CaptureRun} (live : s.mainLive = true)
    (armed : s.snap.capture = some c) (waiting : c.run = none) (thawed : s.frozen = false) (locked : s.locked = true)
    (fab : s.onFab = true) (due : s.captureAt c = some (time, t))
    (taken : run = { tStart := time, cycle := t.clk.cycle, gainCode := t.get FE_GAIN.code, tUnc := t.uncNow
                     lanes := c.lanes.map fun l => (t.laneD l, t.get (LANE_NCO_FREQ.inc l)) }) :
    execCaptureStart s = .next (if t.is FE_GAIN.agc_settled
      then (t.modSnap fun n => { n with capture := some { c with run := some run } }).showBgHeld
      else t.captureOver.answerTo c.req (ansAborted 5)) := by
  subst taken
  apply whileLive_of_live live
  cases settled : t.is FE_GAIN.agc_settled <;> simp [armed, waiting, thawed, locked, fab, due, settled]

/-- A snapshot that stands in bays is held (R345). -/
theorem State.holdsSnap_of_baySnap {id : Nat} {b : BaySnap} (h : s.baySnap id = some b) : s.holdsSnap id = true := by
  simp [State.holdsSnap, h]

/-- Settles O25: a capture starts where it is armed and due and ends where it runs, a move of a snapshot ends where one is
under way, and each request is taken and its checks pass. -/
theorem snapshotCommandsComplete : Obligations.SnapshotCommandsComplete := by
  intro s
  refine ⟨?arm, ?start, ?captured, ?committed, ?loaded, ?abort, ?info, ?list, ?load, ?fix, ?schedule, ?unschedule, ?policy,
    ?exported, ?delete, ?commit⟩
  case arm =>
    intro r p takes length low high quant short long trigger pad known idle running room
    apply serve_next_of_takes takes (by simp)
    · simp [length, low, high, quant, short, long, trigger, pad, known]
    · simp [idle, running, room]
  case start =>
    intro c time run t live armed waiting thawed locked fab due taken
    have start := execCaptureStart_of_due live armed waiting thawed locked fab due taken
    exact ⟨fun settled => start.trans (congrArg _ (if_pos settled)),
      fun searching => start.trans (congrArg _ (if_neg (ne_true_of_eq_false searching)))⟩
  case captured =>
    intro c r q u v x bays header live armed runs ended run captured total headed stored
    apply whileLive_of_live live
    simp only [armed, runs, stored, headed, total, captured, run, ended]
  case committed =>
    intro c r bytes kept t live commits read marked left fits stored
    apply whileLive_of_live live
    rw [left, marked, read] at fits
    simp only [commits, stored, left, marked, read, beq_iff_eq, if_pos fits]
  case loaded =>
    intro m x head t live loads stored hd written
    apply whileLive_of_live live
    have kept : (s.modSnap fun n => { n with load := none }).nvSnap m.id = some x := stored
    simp only [loads, kept, hd, written, State.snapStands]
  case abort =>
    intro r p takes length
    apply serve_next_of_takes takes (by simp) (by simp [length]) rfl
  case info =>
    rintro r p h takes length held rfl
    apply serve_next_of_takes takes (by simp) (by simp [length, held]) rfl
  case list =>
    rintro r p l takes length rfl
    apply serve_next_of_takes takes (by simp) (by simp [length]) rfl
  case load =>
    intro r p x takes length bay pad stored still free room
    apply serve_next_of_takes takes (by simp)
    · simp [length, bay, pad, stored]
    · simp [still, free, stored, room]
  case fix =>
    rintro r p b h takes length stands rfl orbit sure free unasked
    apply serve_next_of_takes takes (by simp)
    · simp [length, stands]
    · simp [stands, orbit, Nat.not_lt.mpr sure, free, unasked, State.each]
  case schedule =>
    intro r p takes length entry enable lane most quant short long pad soon late
    apply serve_next_of_takes takes (by simp)
    · simp [length, entry, enable, lane, most, quant, short, long, pad, soon, late]
    · simp [enable]
  case unschedule =>
    intro r p takes length entry disable pad
    apply serve_next_of_takes takes (by simp)
    · simp [length, entry, disable, pad]
    · simp [disable]
  case policy =>
    intro r p takes length known pad
    apply serve_next_of_takes takes (by simp) (by simp [length, known, pad]) rfl
  case exported =>
    rintro r p b k c t takes length key stands unloading rfl rfl rfl
    apply serve_next_of_takes takes (by simp)
    · simp [length]
    · simp [key, stands, State.holdsSnap_of_baySnap stands, unloading]
  case delete =>
    intro r p takes length held inside still
    apply serve_next_of_takes takes (by simp)
    · simp [length, held]
    · simp [inside, still]
  case commit =>
    rintro r p b h takes length stands rfl still room
    apply serve_next_of_takes takes (by simp)
    · simp [length, stands]
    · simp only [stands]
      rw [if_neg (by simp [still]), if_neg (by simpa using room)]

/-! ### Positions -/

/-- A message of RTCM frames takes those of the accepted types and counts the others (R317). -/
theorem State.takeRtcm_of_frames {q : OpenReq} {p : List Byte} {fs : List (Nat × List Byte)}
    (h : rtcmFrames p.length p = .frames fs) (good : Nat → Bool) (use : State → Nat × List Byte → State) :
    s.takeRtcm q p good use = ((fs.filter fun f => good f.1).foldl use
      (s.tally 8 (fs.length - (fs.filter fun f => good f.1).length))).answer q
        (ansOk (le 2 (fs.filter fun f => good f.1).length ++ le 2 0)) := by
  simp only [State.takeRtcm, h, State.each]

/-- A report is sent with the fix type of its epoch, as declared where a declaration holds (R314, R326). -/
theorem State.report_eq (s : State) {t : State} (v : NavSolution) (tov : Time) {fix : Nat}
    (checked : t = ((s.exclusions v).detect v tov).compareDeclared v tov) (type : fix = t.fixType v tov) :
    s.report v tov = ((t.trackFix v tov).sendReport v (match t.nav.declared with
      | some d => declaredBody d (t.solutionBody v tov fix)
      | none => t.solutionBody v tov fix)).modNav fun n => { n with
        lastTov := some tov
        lastFix := if fix == 0 then n.lastFix else some (v.lat, v.lon, v.height) } := by
  subst checked type
  rfl

/-- The RTC edge after a time (R392) is none of the snapshots' matter. -/
theorem State.edgeAfter_modSnap (f : SnapState → SnapState) (t : Time) : (s.modSnap f).edgeAfter t = s.edgeAfter t := rfl

/-- An operation under a test of equality is a choice between states. -/
theorem State.when_beq (a b : Nat) (f : State → State) : s.when (a == b) f = if a = b then f s else s := by
  simp [State.when]

/-- Settles O26: a report is that of its epoch's states in their order, an expiry and a wake pass the guards of their meanings,
and a message of corrections is taken frame by frame. -/
theorem navigationCommandsComplete : Obligations.NavigationCommandsComplete := by
  intro s
  refine ⟨?report, ?expiry, ?wake, ?park, ?corrections, ?aiding⟩
  case report =>
    intro v t live mode thawed
    have serves : ¬ (decide (s.mode < 5) || s.frozen) = true := by simp [mode, thawed]
    refine ⟨fun silent => ?_, fun on signed checked fix type => ?_⟩
    · apply whileLive_of_live live
      refine (if_neg serves).trans (if_pos ?_)
      rcases silent with off | unsigned
      · simp [off]
      · simp [unsigned]
    · have due : ¬ (s.nav.period == 0 || !s.reportsMade) = true := by simp [on, signed]
      apply whileLive_of_live live
      exact (if_neg serves).trans ((if_neg due).trans (congrArg _ (State.report_eq _ v _ checked type)))
  case expiry =>
    rintro detector t live suspects rfl
    apply whileLive_of_live live
    exact (if_neg (by simp [suspects])).trans (congrArg _ (State.when_beq ..))
  case wake =>
    intro entry asleep unpowered parked enabled
    exact if_pos (by simp [asleep, unpowered, parked, enabled])
  case park =>
    intro rtc live wake idle undue stored noBoot
    apply whileLive_of_live live
    simp [wake, idle, undue, stored, noBoot, State.edgeAfter_modSnap]
  case corrections =>
    rintro r p fs mine takes length frames rfl
    apply serve_next_of_takes takes (by simp) (by simp [length]) (State.takeRtcm_of_frames frames _ _)
  case aiding =>
    rintro r p fs mine takes length frames rfl
    apply serve_next_of_takes takes (by simp) (by simp [length]) (State.takeRtcm_of_frames frames _ _)

end Sys2Proof.Machine
end

section
/-! PROOFS of the statements on local time: the clock, its sources and the RTC, triggers, captures and time pulses, and the
requests of the local-time group. -/

namespace Sys2Proof.Machine

variable {s : State}

/-! ### The local clock -/

/-- A time solution without a UTC relation, while the clock ticks from CK_FAB: it is dated; unless a spoofing hold stands it
moves the quality of its source and the choice of a source; and it moves the clock where GNSS is the source then (R362,
R365). -/
theorem execTimeSolution_of_fab {solution : TimeSolution} {t0 t u v : State} {good : Bool} (live : s.mainLive = true)
    (fab : s.onFab = true) (thawed : s.frozen = false) (noUtc : solution.utc = none)
    (hgood : good = (decide (solution.unc ≤ 100) &&
      ((decide (1 ≤ solution.fixType.val) && decide (solution.fixType.val ≤ 7)) || solution.fixType.val == 9)))
    (dated : t0 = s.modLtu fun u => { u with solAt := u.now })
    (chosen : t = (t0.modLtu fun u => { u with
      qual := if good then min 15 (t0.ltu.qual + 1) else 0
      gnss := u.gnss || decide (max 1 (t0.get TIME_SRC_CFG.qual_count) ≤ if good then min 15 (t0.ltu.qual + 1) else 0) }).chooseSource)
    (shown : v = ((t.modLtu fun u => { u with waits := false }).showDegraded).setUnc solution.unc)
    (moved : u = if t0.get TIME_STATUS.source = 0 ∧ v.ltu.reenter = false then v.steer else v.enterSource solution.error) :
    execTimeSolution solution s = .next (if s.is TIME_STATUS.spoof_hold then t0
      else if t.get TIME_STATUS.source ≠ 0 then t else u.hstateSave u.stw.controlOn u.free) := by
  subst moved shown chosen dated hgood
  apply whileLive_of_live live
  refine (if_neg (by simp [fab, thawed])).trans ?_
  have undated : (s.modLtu fun u => { u with solAt := u.now }).is TIME_STATUS.spoof_hold = s.is TIME_STATUS.spoof_hold := rfl
  simp only [noUtc, undated, bne_iff_ne, Bool.and_eq_true, beq_iff_eq, Bool.not_eq_true',
    apply_ite (Host.Outcome.next (σ := State) (φ := Fault) (ρ := Refusal))]

/-- Settles O27: each command of the clock under the guard of its meaning, a solution by the spoofing hold and by the source
that it leaves. -/
theorem localClockCommandsComplete : Obligations.LocalClockCommandsComplete := by
  intro s live
  refine ⟨?now, ?slew, ?slewDone, ?arm, ?cancel, ?step, ?solution, ?loss, ?hold, ?leap, ?relation, ?relationRtc, ?cal,
    ?handover⟩
  case now => apply whileLive_of_live live rfl
  case slew => exact fun _ => by apply whileLive_of_live live rfl
  case slewDone =>
    rintro cap slewing fab still rfl
    apply whileLive_of_live live
    exact if_neg (by simp [slewing, fab, still])
  case arm => apply whileLive_of_live live rfl
  case cancel => apply whileLive_of_live live rfl
  case step =>
    rintro p t u v new armed fab thawed rfl rfl rfl rfl
    apply whileLive_of_live live
    simp only [armed]
    exact if_neg (by simp [fab, thawed])
  case solution =>
    intro solution t0 t u v good fab thawed noUtc hgood dated
    refine ⟨fun held => ?_, fun clear chosen => ⟨fun other => ?_, fun gnss shown moved => ?_⟩⟩
    · exact (execTimeSolution_of_fab live fab thawed noUtc hgood dated rfl rfl rfl).trans (congrArg _ (if_pos held))
    · exact (execTimeSolution_of_fab live fab thawed noUtc hgood dated chosen rfl rfl).trans
        (congrArg _ ((if_neg (ne_true_of_eq_false clear)).trans (if_pos other)))
    · exact (execTimeSolution_of_fab live fab thawed noUtc hgood dated chosen shown moved).trans
        (congrArg _ ((if_neg (ne_true_of_eq_false clear)).trans (if_neg (not_not_intro gnss))))
  case loss =>
    rintro t source rfl
    apply whileLive_of_live live
    exact if_neg (by simp [source])
  case hold =>
    rintro t quiet held rfl
    apply whileLive_of_live live
    exact if_neg (by simp [quiet, held])
  case leap =>
    rintro leap offset t rfl announced rfl rfl
    apply whileLive_of_live live
    refine (if_neg (by simpa using announced)).trans ?_
    simp only [beq_iff_eq]
  case relation =>
    rintro rtc t thawed ticks rfl
    apply whileLive_of_live live
    exact (if_neg (by simp [thawed])).trans (if_neg (by simpa using ticks))
  case relationRtc =>
    intro rtc thawed ticks
    apply whileLive_of_live live
    exact (if_neg (by simp [thawed])).trans (if_pos (by simp [ticks]))
  case cal =>
    intro count locked
    apply whileLive_of_live live
    exact if_pos locked
  case handover =>
    rintro rtc u v t ticks present rfl rfl rfl
    apply whileLive_of_live live
    refine (if_neg (by simp [ticks, present])).trans ?_
    simp only [beq_iff_eq]

/-! ### Triggers, captures and time pulses -/

/-- A trigger that fires in time (R371 to R373): it disarms or takes its next time, and its targets and its output follow. -/
theorem execTriggerFire_of_early {j : Fin 32} {t u : State} (live : s.mainLive = true) (on : s.is (TRIG_CFG.en j) = true)
    (thawed : s.frozen = false) (early : (s.trigger j).late = false) (fab : s.onFab = true)
    (ht : t = s.advanceTo (s.trigTime j))
    (hu : u = ((t.flag (TRIG_CFG.fired j)).modTrig j fun x => { x with late := false }).put (TRIG_T_NS.late j) 0) :
    execTriggerFire j s = .next ((State.fireTargets
      (if (t.trigger j).per = 0 then u.put (TRIG_CFG.en j) 0
        else (u.setTrigTime j (s.trigTime j + (t.trigger j).per * nanosecond)).bumpBy (TRIG_ROUTE.skipped j) 0)
      j (s.trigTime j) false).fireOutput j (s.trigTime j)) := by
  subst hu ht
  have inTime : ((s.trigger j).late || !s.onFab) = false := by simp [early, fab]
  have oneShot (x : Nat) : (x * nanosecond == 0) = true ↔ x = 0 := by simp [nanosecond]
  apply whileLive_of_live live
  refine (if_neg (by simp [on, thawed])).trans ?_
  simp only [inTime, oneShot, b2n, Bool.false_eq_true, if_false]

/-- Settles O28: each command under the guard of its meaning; a trigger fires in time once or as its period says. -/
theorem triggerAndCaptureCommandsComplete : Obligations.TriggerAndCaptureCommandsComplete := by
  intro s live
  refine ⟨?enable, ?fire, ?periodic, ?outEnd, ?edge, ?read, ?clear, ?decision, ?leading, ?trailing, ?wide⟩
  case enable =>
    intro trigger off
    apply whileLive_of_live live
    exact if_neg (by simp [off])
  case fire =>
    rintro j t u on thawed early fab - ht single rfl
    exact (execTriggerFire_of_early live on thawed early fab ht rfl).trans (by rw [if_pos single])
  case periodic =>
    rintro j t u on thawed early fab ht periodic rfl
    exact (execTriggerFire_of_early live on thawed early fab ht rfl).trans (by rw [if_neg periodic])
  case outEnd =>
    rintro j w t active rfl rfl
    apply whileLive_of_live live
    exact if_neg (by simp [active])
  case edge =>
    intro i rising close tick tap on thawed source selects
    refine ⟨?_, ?_⟩
    · rintro rfl
      apply whileLive_of_live live
      exact (if_neg (by simp [on, thawed, source, selects])).trans (if_pos rfl)
    · rintro rfl t rfl
      apply whileLive_of_live live
      exact (if_neg (by simp [on, thawed, source, selects])).trans (if_neg Bool.false_ne_true)
  case read => exact fun _ => by apply whileLive_of_live live rfl
  case clear => exact fun _ => by apply whileLive_of_live live rfl
  case decision =>
    rintro k t on thawed rfl
    apply whileLive_of_live live
    exact if_neg (by simp [on, thawed])
  case leading =>
    rintro k r l u shown low fab rfl
    apply whileLive_of_live live
    simp only [shown]
    exact if_neg (by simp [low, fab])
  case trailing =>
    rintro k r l u t shown high fab rfl rfl
    apply whileLive_of_live live
    simp only [shown]
    exact if_neg (by simp [high, fab])
  case wide => exact fun _ _ => by apply whileLive_of_live live rfl

/-! ### The RTC alarm -/

/-- Settles O29: the alarm is enabled and its count is reached. -/
theorem rtcAlarmFires : Obligations.RtcAlarmFires := by
  rintro s u rtc rfl enabled reached
  exact if_pos (by simpa [enabled] using reached)

/-! ### Requests of the local-time group -/

@[simp] theorem okTime_eq_none {p : List Byte} {offset : Nat} :
    okTime p offset = none ↔ fieldAt p (offset + 8) 4 < 1000000000 := by
  simp [okTime]

/-- A command that serves a request of class H that is taken and whose checks pass commits its effect to the journal. -/
theorem serve_next_of_takes_classH {k : Kind} {r : Req} {p : List Byte} {checks : List (Option Answer)}
    {run : OpenReq → State → State} {t : State} (h : s.takes k.mode) (cls : k.cls = .H) (ok : firstFault checks = none)
    (effect : run (s.open k r) s = t) :
    Host.Outcome.next (s.serve k r p checks run) = (.next (t.commitH (s.open k r).key) : Result) := by
  simp [State.serve, h.served, ok, State.enter_of_takes h, State.effect, cls, effect]

/-- Settles O30: each request is taken and its checks pass; a request of class H is committed with its effect. -/
theorem timeRequestsComplete : Obligations.TimeRequestsComplete := by
  intro s
  refine ⟨?get, ?cfg, ?utc, ?arm, ?cancel, ?capCfg, ?capRead, ?tpCfg⟩
  case get =>
    intro r p takes length
    apply serve_next_of_takes_classH takes rfl (by simp [length]) rfl
  case cfg =>
    rintro r p u v takes length sources pad rfl rfl
    apply serve_next_of_takes takes (by simp)
    · simp [length, sources, pad]
    · rfl
  case utc =>
    intro r p takes length leap low month pad
    apply serve_next_of_takes takes (by simp)
    · simp [length, leap, low, month, pad]
    · rfl
  case arm =>
    rintro r p u v takes length trigger route time period idle rfl rfl
    apply serve_next_of_takes_classH takes rfl
    · simp [length, State.hostTrigger, trigger, route, time, period]
    · exact if_neg (by simp [idle])
  case cancel =>
    intro r p takes length trigger pad idle
    apply serve_next_of_takes_classH takes rfl
    · simp [length, State.hostTrigger, trigger, pad]
    · exact if_neg (by simp [idle])
  case capCfg =>
    rintro r p i u v x takes length channel source edge flags opens closes rfl rfl rfl rfl
    apply serve_next_of_takes takes (by simp)
    · simp [length, channel, source, edge, flags, opens, closes]
    · rfl
  case capRead =>
    rintro r p i takes length channel pad rfl
    apply serve_next_of_takes_classH takes rfl
    · simp [length, channel, pad]
    · rfl
  case tpCfg =>
    rintro r p k f u v takes length pulse flags pad pad' rfl rfl rfl rfl
    apply serve_next_of_takes takes (by simp)
    · simp [length, pulse, flags, pad, pad']
    · rfl

end Sys2Proof.Machine
end

section
/-! PROOFS of what every step keeps: each command answers a next state that keeps what Kept says (its own lemma ends in _runs), so a
step does; the bounds, the canonical memories and the queue are parts of Kept. And what holds of the state after reset. -/

namespace Sys2Proof.Machine

variable {a s : State}

/-- Every command answers a next state that keeps what Kept says: one arm for each, as in exec. -/
theorem exec_runs (c : Instr) (h : Kept a s) : Runs a (exec c s) := match c with
  | .interconnectRequest .. => execInterconnectRequest_runs _ _ h
  | .clearCount => execClearCount_runs h
  | .ceRewrite .. => execCeRewrite_runs _ _ h
  | .mirrorRepair .. => execMirrorRepair_runs _ h
  | .lockstepMismatch .. => execLockstepMismatch_runs _ _ h
  | .heartbeatLost .. => execHeartbeatLost_runs _ h
  | .deferredReturn .. => execDeferredReturn_runs _ h
  | .dcoCalDone => execDcoCalDone_runs h
  | .freqAcquired .. => execFreqAcquired_runs _ h
  | .lockWindowEnd .. => execLockWindowEnd_runs _ _ _ _ h
  | .phaseAligned => execPhaseAligned_runs h
  | .gatesOpen => execGatesOpen_runs h
  | .relock .. => execRelock_runs _ h
  | .refMissing => execRefMissing_runs h
  | .coastExpiry .. => execCoastExpiry_runs _ h
  | .refReturn .. => execRefReturn_runs _ _ _ h
  | .phaseWalk .. => execPhaseWalk_runs _ _ _ _ h
  | .walkDone => execWalkDone_runs h
  | .refJump .. => execRefJump_runs _ _ _ h
  | .syncInEdge .. => execSyncInEdge_runs _ h
  | .syncWaitExpiry => execSyncWaitExpiry_runs h
  | .laneSyncCmd .. => execLaneSyncCmd_runs _ h
  | .syncLanded => execSyncLanded_runs h
  | .clkbEnable => execClkbEnable_runs h
  | .clkbChannelWrite .. => execClkbChannelWrite_runs _ h
  | .bFreqAcquired .. => execBFreqAcquired_runs _ h
  | .bLockWindowEnd .. => execBLockWindowEnd_runs _ _ h
  | .granaryInitDone => execGranaryInitDone_runs h
  | .bayGo .. => execBayGo_runs _ h
  | .handoverStart .. => execHandoverStart_runs _ h
  | .handoverDone .. => execHandoverDone_runs _ h
  | .lendableClear .. => execLendableClear_runs _ h
  | .groupEnable .. => execGroupEnable_runs _ h
  | .groupMembersWrite .. => execGroupMembersWrite_runs _ _ h
  | .groupDisable .. => execGroupDisable_runs _ h
  | .groupLeave .. => execGroupLeave_runs _ h
  | .auditSegmentStart => execAuditSegmentStart_runs h
  | .auditCopyDone => execAuditCopyDone_runs h
  | .auditTestDone .. => execAuditTestDone_runs _ h
  | .auditWritebackDone => execAuditWritebackDone_runs h
  | .auditDisable => execAuditDisable_runs h
  | .clearCounts => execClearCounts_runs h
  | .baleCollClear => execBaleCollClear_runs h
  | .gnssEnable => execGnssEnable_runs h
  | .fgCalStart => execFgCalStart_runs h
  | .fgCalDone => execFgCalDone_runs h
  | .sampleRelease => execSampleRelease_runs h
  | .gnssDisable => execGnssDisable_runs h
  | .agcWindowEnd => execAgcWindowEnd_runs h
  | .blankAssert .. => execBlankAssert_runs _ h
  | .blankDeassert .. => execBlankDeassert_runs _ h
  | .blankPostEnd => execBlankPostEnd_runs h
  | .blankStuck => execBlankStuck_runs h
  | .antMeasure .. => execAntMeasure_runs _ h
  | .antRetry => execAntRetry_runs h
  | .bgCalUpdate => execBgCalUpdate_runs h
  | .laneEnable .. => execLaneEnable_runs _ h
  | .laneRestart .. => execLaneRestart_runs _ h
  | .laneStart .. => execLaneStart_runs _ h
  | .laneDisable .. => execLaneDisable_runs _ h
  | .ncoFreqWrite .. => execNcoFreqWrite_runs _ _ h
  | .filterRequest .. => execFilterRequest_runs _ _ _ h
  | .fadeStart .. => execFadeStart_runs _ h
  | .fadeEnd .. => execFadeEnd_runs _ h
  | .bankWrite .. => execBankWrite_runs _ _ _ _ h
  | .notchDetect .. => execNotchDetect_runs _ h
  | .notchEngage .. => execNotchEngage_runs _ _ h
  | .notchRelease .. => execNotchRelease_runs _ _ h
  | .notchFreqWrite .. => execNotchFreqWrite_runs _ _ _ h
  | .passLatch => execPassLatch_runs h
  | .passAbort => execPassAbort_runs h
  | .thrDisable => execThrDisable_runs h
  | .freeA => execFreeA_runs h
  | .freeB => execFreeB_runs h
  | .roundStart => execRoundStart_runs h
  | .blockEnd => execBlockEnd_runs h
  | .roundDone => execRoundDone_runs h
  | .peakSearchDone => execPeakSearchDone_runs h
  | .channelStart .. => execChannelStart_runs _ h
  | .channelRun .. => execChannelRun_runs _ h
  | .channelStop .. => execChannelStop_runs _ h
  | .sweepEnd .. => execSweepEnd_runs _ h
  | .loopUpdate => execLoopUpdate_runs h
  | .loopUpdateApply .. => execLoopUpdateApply_runs _ h
  | .codeRamWrite .. => execCodeRamWrite_runs _ _ _ h
  | .sheafDisable => execSheafDisable_runs h
  | .lostTimeout .. => execLostTimeout_runs _ h
  | .nop .. => execNop_runs _ h
  | .br .. => execBr_runs _ _ _ h
  | .call .. => execCall_runs _ _ _ h
  | .ret .. => execRet_runs _ _ h
  | .reti .. => execReti_runs _ h
  | .brr .. => execBrr_runs _ _ _ h
  | .loop .. => execLoop_runs _ _ _ h
  | .loopr .. => execLoopr_runs _ _ _ h
  | .rpt .. => execRpt_runs _ _ h
  | .rptr .. => execRptr_runs _ _ h
  | .rot .. => execRot_runs _ h
  | .halt .. => execHalt_runs _ h
  | .mv .. => execMv_runs _ _ h
  | .mov .. => execMov_runs _ _ _ _ h
  | .ldi .. => execLdi_runs _ _ _ h
  | .add .. => execAdd_runs _ _ _ _ _ h
  | .sub .. => execSub_runs _ _ _ _ _ h
  | .adds .. => execAdds_runs _ _ _ _ _ h
  | .subs .. => execSubs_runs _ _ _ _ _ h
  | .and .. => execAnd_runs _ _ _ _ _ h
  | .or .. => execOr_runs _ _ _ _ _ h
  | .xor .. => execXor_runs _ _ _ _ _ h
  | .not .. => execNot_runs _ _ _ _ h
  | .neg .. => execNeg_runs _ _ _ _ h
  | .abs .. => execAbs_runs _ _ _ _ h
  | .cmp .. => execCmp_runs _ _ _ _ h
  | .addi .. => execAddi_runs _ _ _ _ _ h
  | .asl .. => execAsl_runs _ _ _ _ _ h
  | .asr .. => execAsr_runs _ _ _ _ _ h
  | .lsr .. => execLsr_runs _ _ _ _ _ h
  | .nrm .. => execNrm_runs _ _ _ _ h
  | .mul .. => execMul_runs _ _ _ _ _ _ h
  | .mac .. => execMac_runs _ _ _ _ _ _ h
  | .nmac .. => execNmac_runs _ _ _ _ _ _ h
  | .mulm .. => execMulm_runs _ _ _ _ _ _ h
  | .macm .. => execMacm_runs _ _ _ _ _ _ h
  | .macu .. => execMacu_runs _ _ _ _ _ _ h
  | .clr .. => execClr_runs _ _ _ h
  | .aadd .. => execAadd_runs _ _ _ _ h
  | .asub .. => execAsub_runs _ _ _ _ h
  | .amov .. => execAmov_runs _ _ _ _ h
  | .aneg .. => execAneg_runs _ _ _ _ h
  | .aabs .. => execAabs_runs _ _ _ _ h
  | .ashl .. => execAshl_runs _ _ _ _ _ h
  | .ashr .. => execAshr_runs _ _ _ _ _ h
  | .ext .. => execExt_runs _ _ _ _ _ h
  | .dep .. => execDep_runs _ _ _ _ _ h
  | .acmp .. => execAcmp_runs _ _ _ _ h
  | .cmul .. => execCmul_runs _ _ _ _ _ _ h
  | .cmac .. => execCmac_runs _ _ _ _ _ _ h
  | .cmacc .. => execCmacc_runs _ _ _ _ _ _ h
  | .cnmac .. => execCnmac_runs _ _ _ _ _ _ h
  | .cpk .. => execCpk_runs _ _ _ _ _ h
  | .cunp .. => execCunp_runs _ _ _ _ h
  | .cadd .. => execCadd_runs _ _ _ _ _ h
  | .csub .. => execCsub_runs _ _ _ _ _ h
  | .cconj .. => execCconj_runs _ _ _ _ h
  | .smax .. => execSmax_runs _ _ _ h
  | .smin .. => execSmin_runs _ _ _ h
  | .smaxd .. => execSmaxd_runs _ _ _ _ _ h
  | .smind .. => execSmind_runs _ _ _ _ _ h
  | .sinit .. => execSinit_runs _ _ _ h
  | .clrf .. => execClrf_runs _ _ _ h
  | .ei .. => execEi_runs _ _ h
  | .di .. => execDi_runs _ _ h
  | .fence .. => execFence_runs _ _ h
  | .windowReadData .. => execWindowReadData_runs _ h
  | .windowWriteDone .. => execWindowWriteDone_runs _ h
  | .interruptEntry .. => execInterruptEntry_runs _ h
  | .watchdogExpiry .. => execWatchdogExpiry_runs _ h
  | .wdgKick .. => execWdgKick_runs _ h
  | .doorbell .. => execDoorbell_runs _ _ h
  | .dqDataRead .. => execDqDataRead_runs _ h
  | .updDataWrite .. => execUpdDataWrite_runs _ _ h
  | .notify .. => execNotify_runs _ _ h
  | .feedWidxRead .. => execFeedWidxRead_runs _ h
  | .feedOverrunClear .. => execFeedOverrunClear_runs _ h
  | .winCfgWrite .. => execWinCfgWrite_runs _ _ _ _ h
  | .kernelLoadDone .. => execKernelLoadDone_runs _ h
  | .kernelStopDone .. => execKernelStopDone_runs _ h
  | .reportEpoch .. => execReportEpoch_runs _ h
  | .detectorExpiry .. => execDetectorExpiry_runs _ h
  | .captureStart => execCaptureStart_runs h
  | .captureEnd => execCaptureEnd_runs h
  | .snapCommitDone => execSnapCommitDone_runs h
  | .scheduleWake .. => execScheduleWake_runs _ h
  | .parkedReturn .. => execParkedReturn_runs _ h
  | .timeNowRead => execTimeNowRead_runs h
  | .slewWrite .. => execSlewWrite_runs _ h
  | .slewDone => execSlewDone_runs h
  | .stepArm => execStepArm_runs h
  | .stepCancel => execStepCancel_runs h
  | .stepApply => execStepApply_runs h
  | .timeSolution .. => execTimeSolution_runs _ h
  | .gnssLossTimeout => execGnssLossTimeout_runs h
  | .spoofHoldEnd => execSpoofHoldEnd_runs h
  | .leapApply => execLeapApply_runs h
  | .triggerEnable .. => execTriggerEnable_runs _ h
  | .triggerFire .. => execTriggerFire_runs _ h
  | .trigOutEnd .. => execTrigOutEnd_runs _ h
  | .captureEdge .. => execCaptureEdge_runs _ _ _ _ _ h
  | .capResultRead .. => execCapResultRead_runs _ h
  | .capOverrunClear .. => execCapOverrunClear_runs _ h
  | .tpDecision .. => execTpDecision_runs _ h
  | .tpLeadingEdge .. => execTpLeadingEdge_runs _ h
  | .tpTrailingEdge .. => execTpTrailingEdge_runs _ h
  | .timeRelationWrite .. => execTimeRelationWrite_runs _ h
  | .rtcAlarm .. => execRtcAlarm_runs _ h
  | .rtcCalDone .. => execRtcCalDone_runs _ h
  | .rtcHandover .. => execRtcHandover_runs _ h
  | .wideWrite .. => execWideWrite_runs _ _ h
  | .linkChange .. => execLinkChange_runs _ _ _ h
  | .frameRx => execFrameRx_runs h
  | .announceRx .. => execAnnounceRx_runs _ h
  | .syncRx .. => execSyncRx_runs _ h
  | .followUpRx .. => execFollowUpRx_runs _ h
  | .delayReqRx .. => execDelayReqRx_runs _ h
  | .delayRespRx .. => execDelayRespRx_runs _ h
  | .pdelayReqRx .. => execPdelayReqRx_runs _ h
  | .pdelayRespRx .. => execPdelayRespRx_runs _ h
  | .pdelayRespFollowUpRx .. => execPdelayRespFollowUpRx_runs _ h
  | .syncTx .. => execSyncTx_runs _ h
  | .announceTx => execAnnounceTx_runs h
  | .delayReqTx .. => execDelayReqTx_runs _ h
  | .pdelayReqTx .. => execPdelayReqTx_runs _ h
  | .bmca => execBmca_runs h
  | .announceTimeout .. => execAnnounceTimeout_runs _ h
  | .syncTimeout => execSyncTimeout_runs h
  | .slewPart => execSlewPart_runs h
  | .activityCommit .. => execActivityCommit_runs _ _ h
  | .stateRaise => execStateRaise_runs h
  | .txEnd => execTxEnd_runs h
  | .rxFrame .. => execRxFrame_runs _ h
  | .rxWindowClose => execRxWindowClose_runs h
  | .firstPathDone .. => execFirstPathDone_runs _ h
  | .rangingRoundEnd .. => execRangingRoundEnd_runs _ h
  | .roundTimeout .. => execRoundTimeout_runs _ h
  | .tempCalDue .. => execTempCalDue_runs _ h
  | .calStart => execCalStart_runs h
  | .calDone .. => execCalDone_runs _ h
  | .gntChange .. => execGntChange_runs _ h
  | .listenWindow => execListenWindow_runs h
  | .uartRxChar .. => execUartRxChar_runs _ _ h
  | .uartBreakRx .. => execUartBreakRx_runs _ _ h
  | .uartStuck .. => execUartStuck_runs _ h
  | .uartStuckEnd .. => execUartStuckEnd_runs _ _ h
  | .uartTxChar .. => execUartTxChar_runs _ _ _ h
  | .uartDataRead .. => execUartDataRead_runs _ h
  | .uartDataWrite .. => execUartDataWrite_runs _ _ h
  | .uartStatusRead .. => execUartStatusRead_runs _ h
  | .flushRx .. => execFlushRx_runs _ h
  | .flushTx .. => execFlushTx_runs _ h
  | .uartBreakSend .. => execUartBreakSend_runs _ h
  | .uartBreakDone .. => execUartBreakDone_runs _ h
  | .linHeaderSend .. => execLinHeaderSend_runs _ h
  | .linBreakDetect .. => execLinBreakDetect_runs _ _ h
  | .linPid .. => execLinPid_runs _ _ h
  | .linResponseStart .. => execLinResponseStart_runs _ h
  | .linTimeout .. => execLinTimeout_runs _ h
  | .uartWake .. => execUartWake_runs _ h
  | .cvuStart .. => execCvuStart_runs _ h
  | .cvuAbort .. => execCvuAbort_runs _ h
  | .cvuDataWrite .. => execCvuDataWrite_runs _ _ h
  | .cvuDone .. => execCvuDone_runs _ h
  | .toVbak => execToVbak_runs h
  | .toVsys => execToVsys_runs h
  | .vbakLow => execVbakLow_runs h
  | .aonPowerLoss => execAonPowerLoss_runs h
  | .aonPowerUp .. => execAonPowerUp_runs _ h
  | .shutdownStart .. => execShutdownStart_runs _ _ h
  | .mainPowerStart => execMainPowerStart_runs h
  | .mainResetRelease .. => execMainResetRelease_runs _ _ _ h
  | .railFault => execRailFault_runs h
  | .extReset => execExtReset_runs h
  | .earlyPfail .. => execEarlyPfail_runs _ h
  | .frozenPfail => execFrozenPfail_runs h
  | .modeTransitionDone => execModeTransitionDone_runs h
  | .hostWake => execHostWake_runs h
  | .bootDone => execBootDone_runs h
  | .presPress => execPresPress_runs h
  | .presRelease => execPresRelease_runs h
  | .presWindowExpiry => execPresWindowExpiry_runs h
  | .sealCheck .. => execSealCheck_runs _ _ _ _ h
  | .trngFail => execTrngFail_runs h
  | .authVerifyDone => execAuthVerifyDone_runs h
  | .lockoutEnd .. => execLockoutEnd_runs _ h
  | .nonceExpiry => execNonceExpiry_runs h
  | .serviceTimeout => execServiceTimeout_runs h
  | .freeze .. => execFreeze_runs _ h
  | .thaw .. => execThaw_runs _ _ h
  | .tapReset => execTapReset_runs h
  | .idcode => execIdcode_runs h
  | .samplePreload .. => execSamplePreload_runs _ _ h
  | .extest => execExtest_runs h
  | .clamp => execClamp_runs h
  | .highz => execHighz_runs h
  | .auth => execAuth_runs h
  | .authOpen => execAuthOpen_runs h
  | .authClose => execAuthClose_runs h
  | .tapAuthPassword .. => execTapAuthPassword_runs _ h
  | .tapAuthChallenge .. => execTapAuthChallenge_runs _ h
  | .tapAuthResponse .. => execTapAuthResponse_runs _ _ _ h
  | .dbgReg .. => execDbgReg_runs _ _ _ h
  | .frzRead .. => execFrzRead_runs _ h
  | .dbgStatus .. => execDbgStatus_runs _ h
  | .bypass => execBypass_runs h
  | .hostTlp .. => execHostTlp_runs _ _ h
  | .linkUp .. => execLinkUp_runs _ _ h
  | .hostLinkLoss .. => execHostLinkLoss_runs _ h
  | .spiTimeout => execSpiTimeout_runs h
  | .hlDb .. => execHlDb_runs _ _ _ h
  | .ringInit => execRingInit_runs h
  | .ringInitDone => execRingInitDone_runs h
  | .evtConsWrite .. => execEvtConsWrite_runs _ h
  | .hlTime => execHlTime_runs h
  | .msixUnmask .. => execMsixUnmask_runs _ h
  | .irqModExpiry .. => execIrqModExpiry_runs _ h
  | .spiTransaction .. => execSpiTransaction_runs _ _ h
  | .devReset .. => execDevReset_runs _ _ h
  | .responseRelease .. => execResponseRelease_runs _ h
  | .registerWrite .. => execRegisterWrite_runs _ _ h
  | .ping .. => execPing_runs _ _ h
  | .getInfo .. => execGetInfo_runs _ _ h
  | .setMode .. => execSetMode_runs _ _ h
  | .powerCfg .. => execPowerCfg_runs _ _ h
  | .wakeAlarm .. => execWakeAlarm_runs _ _ h
  | .fwChunk .. => execFwChunk_runs _ _ h
  | .fwCommit .. => execFwCommit_runs _ _ h
  | .laneSet .. => execLaneSet_runs _ _ h
  | .signalAdd .. => execSignalAdd_runs _ _ h
  | .signalDrop .. => execSignalDrop_runs _ _ h
  | .channelPolicy .. => execChannelPolicy_runs _ _ h
  | .reportCfg .. => execReportCfg_runs _ _ h
  | .aiding .. => execAiding_runs _ _ h
  | .navAiding .. => execNavAiding_runs _ _ h
  | .corrections .. => execCorrections_runs _ _ h
  | .search .. => execSearch_runs _ _ h
  | .declare .. => execDeclare_runs _ _ h
  | .navDataGet .. => execNavDataGet_runs _ _ h
  | .snapArm .. => execSnapArm_runs _ _ h
  | .snapAbort .. => execSnapAbort_runs _ _ h
  | .snapInfo .. => execSnapInfo_runs _ _ h
  | .snapList .. => execSnapList_runs _ _ h
  | .snapLoad .. => execSnapLoad_runs _ _ h
  | .snapFix .. => execSnapFix_runs _ _ h
  | .snapSchedule .. => execSnapSchedule_runs _ _ h
  | .snapPolicy .. => execSnapPolicy_runs _ _ h
  | .snapExport .. => execSnapExport_runs _ _ h
  | .snapDelete .. => execSnapDelete_runs _ _ h
  | .snapCommit .. => execSnapCommit_runs _ _ h
  | .timeGet .. => execTimeGet_runs _ _ h
  | .timeCfg .. => execTimeCfg_runs _ _ h
  | .utcSet .. => execUtcSet_runs _ _ h
  | .trigArm .. => execTrigArm_runs _ _ h
  | .trigCancel .. => execTrigCancel_runs _ _ h
  | .capCfg .. => execCapCfg_runs _ _ h
  | .capRead .. => execCapRead_runs _ _ h
  | .tpCfg .. => execTpCfg_runs _ _ h
  | .netCfg .. => execNetCfg_runs _ _ h
  | .netLat .. => execNetLat_runs _ _ h
  | .netAsym .. => execNetAsym_runs _ _ h
  | .netRealign .. => execNetRealign_runs _ _ h
  | .netInfo .. => execNetInfo_runs _ _ h
  | .uwbCfg .. => execUwbCfg_runs _ _ h
  | .uwbCal .. => execUwbCal_runs _ _ h
  | .uwbPsdu .. => execUwbPsdu_runs _ _ h
  | .uwbTx .. => execUwbTx_runs _ _ h
  | .uwbRx .. => execUwbRx_runs _ _ h
  | .uwbStop .. => execUwbStop_runs _ _ h
  | .sessionCreate .. => execSessionCreate_runs _ _ h
  | .sessionStart .. => execSessionStart_runs _ _ h
  | .sessionStop .. => execSessionStop_runs _ _ h
  | .sessionDelete .. => execSessionDelete_runs _ _ h
  | .sessionPsdu .. => execSessionPsdu_runs _ _ h
  | .remoteIntervals .. => execRemoteIntervals_runs _ _ h
  | .regWrite .. => execRegWrite_runs _ _ h
  | .regReadRegulatory .. => execRegReadRegulatory_runs _ _ h
  | .antDelay .. => execAntDelay_runs _ _ h
  | .listenCfg .. => execListenCfg_runs _ _ h
  | .delegate .. => execDelegate_runs _ _ h
  | .returnBlock .. => execReturnBlock_runs _ _ h
  | .owners .. => execOwners_runs _ _ h
  | .secGet .. => execSecGet_runs _ _ h
  | .lifecycle .. => execLifecycle_runs _ _ h
  | .keyInstall .. => execKeyInstall_runs _ _ _ h
  | .certRead .. => execCertRead_runs _ _ h
  | .certInstall .. => execCertInstall_runs _ _ h
  | .secMin .. => execSecMin_runs _ _ h
  | .authChallenge .. => execAuthChallenge_runs _ _ _ h
  | .authResponse .. => execAuthResponse_runs _ _ h
  | .authPassword .. => execAuthPassword_runs _ _ h
  | .sealReq .. => execSealReq_runs _ _ h
  | .marketLock .. => execMarketLock_runs _ _ h
  | .vendorDebugOff .. => execVendorDebugOff_runs _ _ h
  | .debug .. => execDebug_runs _ _ h
  | .regRead .. => execRegRead_runs _ _ h
  | .signalStatus .. => execSignalStatus_runs _ _ h
  | .acqSummary .. => execAcqSummary_runs _ _ h
  | .counters .. => execCounters_runs _ _ h
  | .eventLog .. => execEventLog_runs _ _ h
  | .countersClear .. => execCountersClear_runs _ _ h
  | .pairRetest .. => execPairRetest_runs _ _ h
  | .kernelLoad .. => execKernelLoad_runs _ _ h
  | .kernelStart .. => execKernelStart_runs _ _ h
  | .kernelStop .. => execKernelStop_runs _ _ h
  | .kernelUnload .. => execKernelUnload_runs _ _ h
  | .kernelStatus .. => execKernelStatus_runs _ _ h
  | .kernelFeed .. => execKernelFeed_runs _ _ h
  | .kernelDoorbell .. => execKernelDoorbell_runs _ _ h
  | .kernelTrig .. => execKernelTrig_runs _ _ h
  | .alignmentMarker => execAlignmentMarker_runs h
  | .coexReqAssert => execCoexReqAssert_runs h
  | .wakeMaskRelease .. => execWakeMaskRelease_runs _ h
  | .laneFeedWord .. => execLaneFeedWord_runs _ h
  | .fwCommitDone .. => execFwCommitDone_runs _ h
  | .provisionDone .. => execProvisionDone_runs _ h
  | .pairRetestDone .. => execPairRetestDone_runs _ h
  | .snapLoadDone => execSnapLoadDone_runs h

/-- What a step leaves in the queue for the next one. -/
def State.behindFront (s : State) : State := { s with pending := s.pending.tail }

theorem State.behindFront_of_empty (empty : s.pending = []) : s.behindFront = s := by
  cases s
  subst empty
  rfl

theorem State.behindFront_of_front {c : Instr} {rest : List Instr} (front : s.pending = c :: rest) :
    s.behindFront = { s with pending := rest } := by
  rw [State.behindFront, front, List.tail_cons]

/-- A step keeps what Kept says, from the state with the front of the queue taken off. -/
theorem step_runs (s : State) : Runs s.behindFront (step s) := by
  unfold step
  split
  · next empty => rw [State.behindFront_of_empty empty]; exact .next (idle_kept (.refl s))
  · next c rest front => rw [State.behindFront_of_front front]; exact exec_runs c (.refl _)

/-- The next state of a step keeps what Kept says. -/
theorem kept_of_step {t : State} (next : step s = .next t) : Kept s.behindFront t := by
  obtain ⟨u, answer, kept⟩ := step_runs s
  cases next.symm.trans answer
  exact kept

/-- Settles O57: what Kept says of fuses, FIFOs, the log and the free values, none of which lies in the queue. -/
theorem fusesAndBoundsAreKept : Obligations.FusesAndBoundsAreKept := by
  intro s t next
  obtain ⟨-, -, market, vendor, fifos, log, free⟩ := kept_of_step next
  exact ⟨market, vendor, fifos, log, free⟩

/-- Settles O55: every step runs, and what it runs on has the front of the queue taken off. -/
theorem everyStepAnswersANextState : Obligations.EveryStepAnswersANextState := by
  intro s
  obtain ⟨t, answer, kept⟩ := step_runs s
  exact ⟨t, answer, kept.queue⟩

/-- Settles O56: no step spoils a canonical memory. -/
theorem memoriesStayCanonical : Obligations.MemoriesStayCanonical := fun _ _ next => (kept_of_step next).wf

/-- Settles O54: by the two cases of the queue. -/
theorem stepTakesFrontCommand : Obligations.StepTakesFrontCommand := by
  intro s
  constructor
  · intro c rest front
    simp [step, front]
  · intro empty
    simp [step, empty]

/-! ### The state after reset -/

/-- Settles O58: after reset the memories and the log are empty, and so are the FIFOs of every UART. -/
theorem resetIsCanonical : Obligations.ResetIsCanonical := by
  refine ⟨rfl, fun n lt => ?_, Nat.zero_le _, rfl⟩
  have idle : State.reset.uart n = {} := by simp [State.uart, State.reset, vget]
  simp [idle]

/-- Settles O53: each part is a finite list of registers, and what one reads after reset is the value of its table. -/
theorem resetRegisterValues : Obligations.ResetRegisterValues := by
  refine ⟨?fields, ?bays, ?lanes, ?uarts, ?units⟩
  case fields => decide +kernel
  case bays => decide +kernel
  case lanes => decide +kernel
  case uarts => decide +kernel
  case units => decide +kernel

end Sys2Proof.Machine
end

section
/-! PROOFS of the statements on network time: the port with its messages, masters and timeouts, and the requests of the
network-time group. -/

namespace Sys2Proof.Machine

variable {s : State}

/-! ### Messages of the port's domain -/

/-- A port that runs takes a message of its own domain (R395, R400). -/
theorem heard_of_domain {domain : Nat} {silent foreign r : Result} (runs : s.netRuns = true) (own : domain = s.netDomain) :
    (if !s.netRuns then silent else if domain != s.netDomain then foreign else r) = r := by
  simp [runs, own]

/-- The peer delay is measured under IEEE 802.1AS alone (R400, R406). -/
theorem peerHeard_of_domain {domain : Nat} {running : Bool} {silent foreign r : Result} (runs : running = true)
    (gptp : s.gptp = true) (own : domain = s.netDomain) :
    (if !running || !s.gptp then silent else if domain != s.netDomain then foreign else r) = r := by
  simp [runs, gptp, own]

/-- A message that only a master sends (R398, R399). -/
theorem sent_of_master {silent r : Result} (sends : s.netSends = true) (master : s.isMaster = true) :
    (if !s.netSends || !s.isMaster then silent else r) = r := by
  simp [sends, master]

/-- A link that comes up at 100 or 1000 Mbit/s, full duplex, restarts the port with the latencies of its speed (R395,
R397). -/
theorem execLinkChange_up {mbit : Fin 3} (live : s.mainLive = true) (fast : mbit ≠ 0) (on : s.mode ≠ 4)
    (down : s.is NET_STATUS.link = false) : execLinkChange true mbit true s = .next
      (((((s.flag NET_EVENT.link_change).put NET_STATUS.link 1).put NET_STATUS.speed (b2n (mbit.val == 2))).put NET_LAT.tx_lat
        (if b2n (mbit.val == 2) = 1 then s.net.lat1000 else s.net.lat100).1).put NET_LAT.rx_lat
        (if b2n (mbit.val == 2) = 1 then s.net.lat1000 else s.net.lat100).2).netRestart := by
  have link : (mbit.val != 0) = true := bne_iff_ne.mpr (Fin.val_ne_zero_iff.mpr fast)
  apply whileLive_of_live live
  simp [link, on, down, b2n]

theorem execLinkChange_down (mbit : Fin 3) (full : Bool) (live : s.mainLive = true) (on : s.mode ≠ 4)
    (linked : s.is NET_STATUS.link = true) : execLinkChange false mbit full s =
      .next ((s.flag NET_EVENT.link_change).put NET_STATUS.link 0).netRestart := by
  apply whileLive_of_live live
  simp [on, linked, b2n]

/-- Settles O31: each event of the port under the guards of its meaning. -/
theorem networkPortCommandsComplete : Obligations.NetworkPortCommandsComplete := by
  intro s live
  refine ⟨?bmca, ?linkUp, ?linkDown, ?frame, ?newMaster, ?ninthMaster, ?masterExpires, ?sync, ?followUp, ?delayReq,
    ?delayResp, ?pdelayReq, ?pdelayResp, ?pdelayFollowUp, ?syncTx, ?announceTx, ?delayReqTx, ?pdelayReqTx, ?syncTimeout,
    ?slewPart⟩
  case bmca =>
    intro runs
    apply whileLive_of_live live
    exact congrArg _ (if_pos runs)
  case linkUp =>
    rintro mbit t u fast on down rfl rfl
    exact execLinkChange_up live fast on down
  case linkDown => exact fun mbit full on linked => execLinkChange_down mbit full live on linked
  case frame =>
    intro runs
    apply whileLive_of_live live
    exact congrArg _ (if_pos runs)
  case newMaster =>
    intro msg k runs own unknown free
    apply whileLive_of_live live
    refine (heard_of_domain runs own).trans ?_
    extract_lets mine
    rw [show firstThat mine (List.range 8) = none from unknown, free]
  case ninthMaster =>
    intro msg runs own unknown full
    apply whileLive_of_live live
    refine (heard_of_domain runs own).trans ?_
    extract_lets mine
    rw [show firstThat mine (List.range 8) = none from unknown, full]
  case masterExpires =>
    rintro entry m t u runs known rfl rfl
    apply whileLive_of_live live
    simp only [runs, known, State.masterExpires, beq_iff_eq]
  case sync =>
    rintro msg t runs own follows fab rfl
    apply whileLive_of_live live
    refine (heard_of_domain runs own).trans ((if_neg (by simp [follows, fab])).trans ?_)
    simp only [apply_ite (Host.Outcome.next (σ := State) (φ := Fault) (ρ := Refusal))]
  case followUp =>
    rintro msg id seq t2 x runs own waits rfl rfl follows
    apply whileLive_of_live live
    refine (heard_of_domain runs own).trans ?_
    rw [waits]
    exact if_pos (by simp [follows])
  case delayReq =>
    rintro msg t runs own master e2e fab rfl
    apply whileLive_of_live live
    exact (heard_of_domain runs own).trans (if_neg (by simp [master, e2e, fab]))
  case delayResp =>
    intro msg t3 runs own waits follows seq e2e
    apply whileLive_of_live live
    refine (heard_of_domain runs own).trans ?_
    rw [waits]
    exact if_pos (by simp [follows, seq, e2e])
  case pdelayReq =>
    rintro msg t u sends gptp own rfl rfl
    apply whileLive_of_live live
    exact peerHeard_of_domain sends gptp own
  case pdelayResp =>
    rintro msg t1 t runs own gptp waits fab seq rfl
    apply whileLive_of_live live
    refine (peerHeard_of_domain runs gptp own).trans ?_
    rw [waits]
    refine (if_neg (by simp [fab, seq])).trans ?_
    simp only [apply_ite (Host.Outcome.next (σ := State) (φ := Fault) (ρ := Refusal))]
  case pdelayFollowUp =>
    intro msg t1 t2 t4 runs own gptp waits answered seq
    apply whileLive_of_live live
    refine (peerHeard_of_domain runs gptp own).trans ?_
    rw [waits, answered]
    exact if_neg (by simp [seq])
  case syncTx =>
    rintro ball t sends master rfl
    apply whileLive_of_live live
    exact sent_of_master sends master
  case announceTx =>
    rintro t sends master rfl
    apply whileLive_of_live live
    exact sent_of_master sends master
  case delayReqTx =>
    rintro ball t sends slave e2e rfl
    apply whileLive_of_live live
    exact if_neg (by simp [sends, slave, e2e])
  case pdelayReqTx =>
    rintro ball t sends gptp rfl
    apply whileLive_of_live live
    exact if_neg (by simp [sends, gptp])
  case syncTimeout =>
    intro qualified runs
    apply whileLive_of_live live
    exact congrArg _ (if_pos (by simp [qualified, runs]))
  case slewPart =>
    rintro next t ht parts low rfl
    have passed : s.when (s.net.parts != 0 && s.onFab) (fun s => s.passMarkers s.partMarkers) = t := by
      simp [State.when, ht]
    apply whileLive_of_live live
    subst passed
    exact if_neg (by simp [parts, low])

/-! ### Requests -/

/-- Settles O32: each request is taken and its checks pass. -/
theorem networkRequestsComplete : Obligations.NetworkRequestsComplete := by
  intro s
  refine ⟨?cfg, ?lat, ?asym, ?realign, ?info⟩
  case cfg =>
    rintro r p f t u v takes length flags role domain syncLow syncHigh announce delayLow delayHigh announceLow announceHigh timeoutLow
      timeoutHigh pad rfl rfl rfl rfl
    apply serve_next_of_takes takes (by simp)
    · simp [length, flags, role, domain, syncLow, syncHigh, announce, delayLow, delayHigh, announceLow, announceHigh, timeoutLow,
        timeoutHigh, pad]
    · simp only [Bool.and_eq_true, beq_iff_eq]
  case lat =>
    intro r p takes length
    apply serve_next_of_takes takes (by simp) (by simp [length]) rfl
  case asym =>
    rintro r p v t takes length flags pad measured rfl rfl
    apply serve_next_of_takes takes (by simp)
    · simp [length, flags, pad]
    · exact if_neg (by simpa using measured)
  case realign =>
    intro r p takes length
    apply serve_next_of_takes takes (by simp) (by simp [length]) rfl
  case info =>
    rintro r p entry takes length rfl
    apply serve_next_of_takes takes (by simp) (by simp [length]) rfl

end Sys2Proof.Machine
end

section
/-! PROOFS of the statements on the access radio: its states, calibration, activities, rounds and coexistence, and the requests
of the radio group. -/

namespace Sys2Proof.Machine

variable {s : State}

/-! ### Commands of the radio -/

/-- A calibration ends (R418, R420): the channel is calibrated, the radio returns, and every request that waits is answered. -/
theorem execCalDone_of_cal {temp : BitVec 8} {c : RadioCal} {t u : State} (live : s.mainLive = true) (runs : s.uwb.cal = some c)
    (ht : t = (((s.flag (if c.channel = 9 then UWB_STATUS.cal_ch9 else UWB_STATUS.cal_ch5)).flag CLKB_STATUS.cal_done).put
      UWB_STATUS.cal_due 0).flag UWB_EVENT.cal_done)
    (hu : u = t.modUwb fun u => { u with
      cal := none, calReqs := [], calTemp := vmod (fun _ => temp.toInt) u.calTemp (chanIdx c.channel) }) :
    execCalDone temp s = .next (s.uwb.calReqs.foldl (fun s q => s.answer q (ansOk []))
      (if c.back = 2 then (u.put UWB_STATUS.state 1).tune c.channel else u.radioTo c.back)) := by
  subst hu ht
  apply whileLive_of_live live
  simp only [runs, beq_iff_eq]
  rfl

/-- A window that belongs to no listen schedule and to no round ends with LATE and a record of its session and tag alone
(R429, R431). -/
theorem State.windowOver_of_unslotted {l : RadioLive} (own : l.act.listen = false) (slot : l.act.slot = none) :
    s.windowOver l = ((s.radioIdle l.act.ret).radioNote stLate).answerTo l.act.req ⟨stLate, recordOf
      (((s.radioIdle l.act.ret).radioNote stLate).sessionId l.act) l.act.tag stLate (16 * b2n (l.act.phy.stsCfg == 0))
      0 0 0 0 0 0 []⟩ := by
  refine (if_neg (by simp [own])).trans ?_
  cases l.act.session <;> simp only [slot]

/-- An activity outside the rounds whose commit nothing bars is transmitted or received (R426). -/
theorem execActivityCommit_of_free {temp : BitVec 8} {supply : BitVec 16} {a : RadioAct} {t v : State} (live : s.mainLive = true)
    (next : s.nextAct = some a) (idle : s.uwb.live = none) (thawed : s.frozen = false) (timed : a.time.isSome = true)
    (slot : a.slot = none) (ht : t = (s.advanceTo (s.commitOf a)).modUwb fun u => { u with acts := u.acts.erase a })
    (free : t.commitBar a = none) (hv : v = if a.tx then t.transmit a temp.toNat supply.toNat else t.receive a) :
    execActivityCommit temp supply s = .next (if v.uwb.live.isNone then v.coexRelease else v) := by
  subst hv ht
  apply whileLive_of_live live
  rw [next]
  refine (if_neg (by simp [idle, thawed, Option.isNone_eq_false_iff.mpr timed])).trans ?_
  cases a.session <;> simp only [slot, free, State.when]

/-- A frame during a window that belongs to no listen schedule (R429): it lies before the window, beyond its close, or is
heard. -/
theorem execRxFrame_of_window {frame : RadioFrame} {l k : RadioLive} {c x : Time} {t d : State} (live : s.mainLive = true)
    (receives : s.radioState = 4) (thawed : s.frozen = false) (runs : s.uwb.live = some l)
    (ht : t = (s.advanceTo (s.markTime frame.rmarker + l.act.phy.tail frame.psdu.length)).keepImpulse)
    (after : t.uwb.live = some k) (own : k.act.listen = false)
    (hx : x = s.markTime frame.rmarker - t.rxDelay k.act.phy.channel) (close : k.act.close = some c)
    (hd : d = (t.flag UWB_EVENT.out_window).modUwb fun u => { u with outside := u.outside + 1 }) :
    execRxFrame frame s = if x < k.start then .next d
      else if c ≤ x then .next (if x < c + k.act.phy.shr then d.windowOver k else d)
      else .next ((t.modUwb fun u => { u with heard := u.heard ++ [(k.act, frame)] }).radioIdle k.act.ret) := by
  subst hd hx ht
  apply whileLive_of_live live
  refine (if_neg (by simp [receives, thawed])).trans ?_
  simp only [runs, after, close, own, decide_eq_true_eq, Bool.not_false, Bool.true_or, Bool.not_true, Bool.false_eq_true, if_false]

/-- Settles O33: each command of the radio under the guards of its meaning, in the state of the radio that its clause names. -/
theorem radioCommandsComplete : Obligations.RadioCommandsComplete := by
  intro s live
  refine ⟨?raise, ?tempDue, ?calAsked, ?calDue, ?calDone, ?commit, ?txEnd, ?frame, ?windowClose, ?firstPath, ?roundEnd, ?roundTimeout,
    ?listen, ?coex, ?gnt⟩
  case raise =>
    intro ch next on idle low
    apply whileLive_of_live live
    rw [next]
    refine (if_neg (by simp [on, idle, low])).trans ?_
    simp only [apply_ite (Host.Outcome.next (σ := State) (φ := Fault) (ρ := Refusal)), Bool.not_eq_true']
  case tempDue =>
    intro temp thawed calibrated fresh moved
    apply whileLive_of_live live
    exact if_neg (by simp [thawed, calibrated, fresh, moved])
  case calAsked =>
    intro ch on idle low asked
    apply whileLive_of_live live
    refine (if_neg (by simp [on, idle, low])).trans ?_
    rw [asked]
  case calDue =>
    intro on idle low unasked due awake quiet
    apply whileLive_of_live live
    refine (if_neg (by simp [on, idle, low])).trans ?_
    rw [unasked]
    exact (if_neg (by simp [due, awake])).trans (if_pos (by simp [quiet]))
  case calDone => exact fun temp c t u runs ht hu => execCalDone_of_cal live runs ht hu
  case commit =>
    rintro temp supply a t next idle thawed timed slot rfl free v rfl
    exact execActivityCommit_of_free live next idle thawed timed slot rfl free rfl
  case txEnd =>
    rintro l t runs tx slot rfl
    apply whileLive_of_live live
    rw [runs]
    refine (if_neg (by simp [tx])).trans ?_
    cases l.act.session <;> simp only [slot]
  case frame =>
    rintro frame l k c m x t receives thawed runs rfl ht after own hx close
    have window := fun {d} => execRxFrame_of_window (d := d) live receives thawed runs ht after own hx close
    refine ⟨fun opened early => ?_, fun d hd => ⟨fun outside => ?_, fun opened late begun => ?_⟩⟩
    · exact (window rfl).trans ((if_neg (Nat.not_lt.mpr opened)).trans (if_neg (Nat.not_le.mpr early)))
    · refine (window hd).trans ?_
      by_cases before : x < k.start
      · exact if_pos before
      · have past : c + k.act.phy.shr ≤ x := outside.resolve_left before
        rw [if_neg before, if_pos (Nat.le_trans (Nat.le_add_right _ _) past), if_neg (Nat.not_lt.mpr past)]
    · refine (window hd).trans ?_
      rw [if_neg (Nat.not_lt.mpr opened), if_pos late, if_pos begun]
  case windowClose =>
    rintro l c t runs rx close own slot rfl
    apply whileLive_of_live live
    simp only [runs, rx, close, State.windowOver_of_unslotted own slot]
  case firstPath =>
    rintro path a f rest t heard sp0 own slot rfl
    apply whileLive_of_live live
    simp only [heard, own, sp0, Bool.false_eq_true, if_false]
    cases a.session <;> simp only [slot]
    all_goals simp [b2n]
  case roundEnd =>
    intro handle x r session round idle thawed complete
    apply whileLive_of_live live
    simp only [session, round]
    refine (if_neg (by simp [idle, thawed])).trans ?_
    have told : (r.status == 0 && !x.remoteSrc && r.remote.isNone && x.deletion.isNone) = false := by
      simpa [or_iff_not_imp_left] using complete
    simp only [told, Bool.false_eq_true, if_false]
  case roundTimeout =>
    intro handle x r rest session waiting
    apply whileLive_of_live live
    simp only [session, waiting]
  case listen =>
    rintro l t planned on watch idle cal clock locked rfl
    apply whileLive_of_live live
    rw [planned]
    exact if_neg (by simp [on, watch, idle, cal, clock, locked])
  case coex =>
    rintro a high next on thawed rfl
    apply whileLive_of_live live
    rw [next]
    exact if_neg (by simp [on, thawed])
  case gnt =>
    rintro level t rfl idle
    refine (if_neg (by simp [live])).trans ?_
    simp only [idle, Bool.false_and, State.when_false]

/-! ### Requests of the radio group -/

/-- A session is asked for in time, with every parameter in its range and none of the bars of R440. -/
theorem execSessionCreate_of_takes {r : Req} {p : List Byte} (takes : s.takes 5) (args : s.sessionArgs p = none)
    (free : s.sessionBar p = none) : execSessionCreate r p s =
      .next (((s.modUwb fun u => { u with sessions := u.sessions ++ [s.newSession p] }).showSessions).answer
        (s.open ⟨.A, 0x0607, 5⟩ r) (ansOk (le 1 (s.newSession p).handle ++ le 3 0))) := by
  unfold execSessionCreate
  rw [if_neg (by simp [takes.served])]
  simp only [args, free, ite_self]
  exact congrArg _ (State.enter_of_takes (k := ⟨.A, 0x0607, 5⟩) takes r p _)

/-- Settles O34: each request is taken and its checks pass, and the session or store that it speaks of is the one found. -/
theorem radioRequestsComplete : Obligations.RadioRequestsComplete := by
  intro s
  refine ⟨?cfg, ?cal, ?psdu, ?txNow, ?txAt, ?rx, ?stop, ?create, ?start, ?stopBegun, ?stopIdle, ?delete, ?sessionPsdu, ?remote,
    ?write, ?read, ?delay, ?listen⟩
  case cfg =>
    rintro r p c t u takes length enable pad rfl rfl rfl
    apply serve_next_of_takes takes (by simp)
    · simp [length, enable, pad]
    · simp only [Bool.and_eq_true, beq_iff_eq, Option.isNone_iff_eq_none, and_assoc]
  case cal =>
    intro r p takes length channel pad
    apply serve_next_of_takes takes (by simp)
    · simp [length, channel, pad]
    · rfl
  case psdu =>
    intro r p takes length buffer pad total fits pad'
    apply serve_next_of_takes takes (by simp)
    · simp [length, buffer, pad, total, fits, pad']
    · rfl
  case txNow =>
    rintro r p b takes least length phy session ret now rfl fits pad free
    apply serve_next_of_takes takes (by simp)
    · simp [least, ← length, phy, session, ret, now, fits, pad]
    · simp [now, free]
  case txAt =>
    rintro r p b takes least length phy session ret timed time rfl fits pad free
    apply serve_next_of_takes takes (by simp)
    · simp [least, ← length, phy, session, ret, timed, time, fits, pad]
    · simp [timed, free]
  case rx =>
    intro r p takes length phy session ret pad timed opens closes order
    apply serve_next_of_takes takes (by simp)
    · simp [length, phy, session, ret, pad, timed, opens, closes, order]
    · simp [timed]
  case stop =>
    intro r p takes length
    apply serve_next_of_takes takes (by simp) (by simp [length]) rfl
  case create => exact fun r p takes args free => execSessionCreate_of_takes takes args free
  case start =>
    intro r p x takes length pad time known idle
    apply serve_next_of_takes takes (by simp)
    · simp [length, State.okId, known, pad, time]
    · simp [known, idle]
  case stopBegun =>
    intro r p x takes length known active begun
    apply serve_next_of_takes takes (by simp)
    · simp [length, State.okId, known]
    · simp [known, active, begun]
  case stopIdle =>
    intro r p x takes length known active idle
    apply serve_next_of_takes takes (by simp)
    · simp [length, State.okId, known]
    · simp [known, active, idle]
  case delete =>
    rintro r p x t takes length known rfl
    apply serve_next_of_takes takes (by simp)
    · simp [length, State.okId, known]
    · simp only [known]
  case sessionPsdu =>
    intro r p x takes least length pad known slot fits
    apply serve_next_of_takes takes (by simp)
    · simp [least, ← length, State.okId, known, pad]
    · simp only [known, slot, fits]
      rfl
  case remote =>
    intro r p x w takes length known waits early
    apply serve_next_of_takes takes (by simp)
    · simp [length, State.okId, known]
    · simp only [known, waits]
      exact if_neg (Nat.not_lt.mpr early)
  case write =>
    rintro r p t takes length magic version channels allowed rfl
    apply serve_next_of_takes takes (by simp)
    · simp [length, magic, version, channels]
    · rcases allowed with ⟨fuse, life⟩ | ⟨fuse, c, stored, tight⟩
      · exact (if_neg (by simp [fuse])).trans (if_neg (by simp [life, takes.life]))
      · refine (if_pos fuse).trans ?_
        simp only [stored, tight]
        rfl
  case read =>
    intro r p c takes length stored
    apply serve_next_of_takes takes (by simp) (by simp [length])
    simp only [stored]
  case delay =>
    intro r p takes length channel pad life
    apply serve_next_of_takes takes (by simp)
    · simp [length, channel, pad]
    · exact if_neg (by simp [life, takes.life])
  case listen =>
    intro r p takes length channel codeLow codeHigh sts pad windowLow windowHigh periodLow periodHigh
    apply serve_next_of_takes takes (by simp)
    · simp [length, channel, within, codeLow, codeHigh, sts, pad, windowLow, windowHigh, periodLow, periodHigh]
    · rfl

end Sys2Proof.Machine
end

section
/-! PROOFS of the statements on the serial ports and the check-value units: characters, breaks, FIFOs, LIN frames with their
identifiers and checksums, and the units' frames. -/

namespace Sys2Proof.Machine

variable {s : State}

/-! ### Identifiers and checksums of LIN -/

/-- A sum with end-around carry stays a byte (R467). -/
theorem carrySum_le {a : Nat} (byte : a ≤ 255) (l : List Byte) : carrySum a l ≤ 255 := by
  induction l generalizing a with
  | nil => exact byte
  | cons b l ih =>
    have hb : b.toNat < 256 := b.isLt
    apply ih
    dsimp only
    split <;> omega

/-- One more byte enters the sum, and its carry comes around (R467). -/
theorem carrySum_concat (l : List Byte) (b : Byte) : carrySum 0 (l ++ [b]) =
    if 255 < carrySum 0 l + b.toNat then (carrySum 0 l + b.toNat) % 256 + 1 else carrySum 0 l + b.toNat := by
  have byte := carrySum_le (Nat.zero_le 255) l
  have hb : b.toNat < 256 := b.isLt
  have last : carrySum 0 (l ++ [b]) =
      if 255 < carrySum 0 l + b.toNat then carrySum 0 l + b.toNat - 255 else carrySum 0 l + b.toNat :=
    List.foldl_append
  rw [last]
  split <;> omega

theorem State.uart_modUart {n : Nat} (hn : n < 8) (f : UartState → UartState) : (s.modUart n f).uart n = f (s.uart n) :=
  vget_vmod_same _ _ _ hn

/-- The entry of an identifier in UART_LIN_TAB lies apart from what shows the last identifier. -/
theorem State.linEntry_put_lastId (wf : Memory.wf s = true) {n id : Nat} (hid : id < 64) (v : Nat) :
    (s.put (UART_LIN_STATUS.last_id n) v).linEntry n id = s.linEntry n id := by
  have apart : UART_LIN_TAB n (id / 4) ≠ UART_LIN_STATUS n := by
    unfold UART_LIN_TAB UART_LIN_STATUS
    omega
  exact State.get_put_other wf _ _ v (by simp [UART_LIN_STATUS.last_id]) (.inl apart)

/-- A protected identifier is its identifier and two parity bits (R467). -/
theorem linPid_bits : ∀ id < 64, linPid id % 64 = id ∧ linPid id < 256 ∧
    bit (linPid id) 6 = (bit id 0 ^^ bit id 1 ^^ bit id 2 ^^ bit id 4) ∧
    bit (linPid id) 7 = !(bit id 1 ^^ bit id 3 ^^ bit id 4 ^^ bit id 5) := by decide

/-- A frame that begins with an identifier has the form of its entry, and the classic one for 0x3C and 0x3D (R467, R469). -/
theorem State.linPidSeen_enh {n id : Nat} {f : LinFrame} (wf : Memory.wf s = true) (hn : n < 8) (hid : id < 64)
    (frame : ((s.linPidSeen n (linPid id)).uart n).lin = some f) :
    f.enh = (bit (s.linEntry n id) 5 && id != 0x3C && id != 0x3D) := by
  have own : linPid id % 64 = id := (linPid_bits id hid).1
  simp only [State.linPidSeen, own, bne_self_eq_false, Bool.false_eq_true, if_false, State.linEntry_put_lastId wf hid] at frame
  split at frame <;> rw [State.uart_modUart hn] at frame <;> cases frame <;> rfl

/-- Settles O50: the identifiers by their table, the sum byte by byte, and the form of a received frame by its entry. -/
theorem linIdentifierAndChecksum : Obligations.LinIdentifierAndChecksum :=
  ⟨linPid_bits, fun _ _ => ⟨rfl, rfl⟩, fun l b => ⟨rfl, carrySum_concat l b⟩,
    fun _ _ _ wf hn hid _ frame => State.linPidSeen_enh wf hn hid frame⟩

/-! ### Characters -/

/-- A character with its start bit low reaches a card port, which drops it while its own is on the line (R455, R465). -/
theorem execUartRxChar_of_card {uart : Fin 8} {samples : BitVec 12} {v : Nat} {t : State} (live : s.mainLive = true)
    (clock : s.perClock uart = true) (on : s.is (UART_CTRL.rx_en uart) = true) (moves : s.is (UART_STATUS.stuck uart) = false)
    (high : s.is (UART_BRK_RX.isOpen uart) = false) (hv : v = samples.toNat) (start : v % 2 = 0) (card : s.cardMode uart = true)
    (ht : t = s.modUart uart fun u => { u with divRx := s.charDivisor uart u }) : execUartRxChar uart samples s =
      .next (if t.sending uart = true then t else (t.cardHeard uart).cardChar uart (bits v 1 8) (bits v 9 1)) := by
  subst ht hv
  have shape : s.charShape uart = (8, 1, 0) := by simp [State.charShape, card]
  apply whileLive_of_live live
  simp only [shape]
  refine (if_neg (by simp [clock, on, moves, high])).trans ((if_neg (by simp [start])).trans (if_pos card))

/-- A character that is neither a card's nor a LIN frame's and not low throughout enters with its marks (R452, R455). -/
theorem execUartRxChar_of_plain {uart : Fin 8} {samples : BitVec 12} {v nd np ns : Nat} {t : State} (live : s.mainLive = true)
    (clock : s.perClock uart = true) (on : s.is (UART_CTRL.rx_en uart) = true) (moves : s.is (UART_STATUS.stuck uart) = false)
    (high : s.is (UART_BRK_RX.isOpen uart) = false) (hv : v = samples.toNat) (shape : s.charShape uart = (nd, np, ns))
    (start : v % 2 = 0) (data : bits v 0 (1 + nd + np + ns) ≠ 0)
    (ht : t = s.modUart uart fun u => { u with divRx := s.charDivisor uart u }) (noCard : t.cardMode uart = false)
    (noLin : t.linMode uart = false) : execUartRxChar uart samples s = .next (t.rxEntry uart {
      data := bits v 1 nd
      pe := np == 1 && (popCount 8 (bits v 1 nd) + bits v (1 + nd) np) % 2 == (if s.get (UART_CTRL.parity uart) == 1 then 1 else 0)
      fe := bits v (1 + nd + np) ns != 2 ^ ns - 1 }) := by
  subst ht hv
  apply whileLive_of_live live
  simp only [shape]
  refine (if_neg (by simp [clock, on, moves, high])).trans ((if_neg (by simp [start])).trans ?_)
  refine (if_neg (by simp [noCard])).trans ((if_neg (by simp [data])).trans ?_)
  exact congrArg _ (if_neg (by simp [noLin]))

/-- A break that is open ends (R460); below 11 bit times it ends a LIN frame in progress (R468, R470). -/
theorem execUartBreakRx_of_open {uart : Fin 8} {len : Nat} (live : s.mainLive = true) (low : s.is (UART_BRK_RX.isOpen uart) = true)
    (moves : s.is (UART_STATUS.stuck uart) = false) (clock : s.perClock uart = true) : execUartBreakRx uart len s =
      .next ((s.breakOver uart len).when ((s.breakOver uart len).linMode uart && decide (len < 176) &&
        ((s.breakOver uart len).uart uart).lin.isSome) (·.linEnd uart 8)) := by
  apply whileLive_of_live live
  exact if_pos (by simp [low, moves, clock])

/-- A line is found stuck (R462), which ends a LIN frame in progress. -/
theorem execUartStuck_of_moving {uart : Fin 8} {t : State} (live : s.mainLive = true) (moves : s.is (UART_STATUS.stuck uart) = false)
    (on : s.is (UART_CTRL.rx_en uart) = true) (clock : s.perClock uart = true)
    (ht : t = ((s.flag (UART_STATUS.stuck uart)).flag (UART_BRK_RX.isOpen uart)).uartEvent uart (UART_EVENT.stuck uart)) :
    execUartStuck uart s = .next (t.when (t.uart uart).lin.isSome (·.linEnd uart 8)) := by
  subst ht
  apply whileLive_of_live live
  exact if_neg (by simp [moves, on, clock])

@[simp] theorem State.uart_put (f : Field) (v n : Nat) : (s.put f v).uart n = s.uart n := rfl

/-- With the shifter empty and no break that begins, the transmitter takes the next character (R452). -/
theorem State.txChar_of_idle {n c : Nat} {cts : Bool} {t : State} (low : Bool) (hc : b2n cts = c) (idle : (s.uart n).shift = none)
    (ht : t = (s.put (UART_STATUS.cts n) c).breakBegin n) (idle' : (t.uart n).shift = none)
    (noBreak : t.is (UART_BRK_TX.busy n) = false) (free : t.txFree n = true) : s.txChar n cts low = t.txTake n := by
  simp [State.txChar, hc, idle, ← ht, idle', noBreak, free]

/-- The character in the shifter ends, and the transmitter is held with characters left (R452, R458). -/
theorem State.txChar_of_held {n b c : Nat} {cts low : Bool} {t : State} (hc : b2n cts = c) (busy : (s.uart n).shift = some b)
    (ht : t = ((s.put (UART_STATUS.cts n) c).txEnd n b low).breakBegin n) (held : t.txFree n = false)
    (waits : (t.uart n).tx ≠ []) : s.txChar n cts low = t := by
  simp [State.txChar, hc, busy, ← ht, held, List.isEmpty_eq_false_iff.mpr waits]

/-- With the shifter empty the transmitter acts at once. -/
theorem execUartTxChar_of_idle {uart : Fin 8} (cts low : Bool) (live : s.mainLive = true) (idle : (s.uart uart).shift = none)
    (clock : s.perClock uart = true) : execUartTxChar uart cts low s = .next (s.txChar uart cts low) := by
  apply whileLive_of_live live
  simp only [idle, Option.isSome_none, Bool.false_and, State.when_false]
  exact if_pos clock

/-- The clock is brought to the end of the character in the shifter (R452). -/
theorem execUartTxChar_of_busy {uart : Fin 8} {q : State} (cts low : Bool) (live : s.mainLive = true)
    (busy : (s.uart uart).shift.isSome = true) (clock : s.perClock uart = true) (hq : q = s.advanceTo (s.txStop uart))
    (clock' : q.perClock uart = true) : execUartTxChar uart cts low s = .next (q.txChar uart cts low) := by
  apply whileLive_of_live live
  simp only [busy, clock, Bool.and_self, State.when_true, ← hq]
  exact if_pos clock'

/-- Settles O35: what each character, break, FIFO access and LIN frame does once the conditions decide the command's branches; the
longer commands by their own lemmas above. -/
theorem serialPortCommandsComplete : Obligations.SerialPortCommandsComplete := by
  intro s live
  refine ⟨?rxChar, ?rxCard, ?breakRx, ?breakLin, ?stuck, ?stuckEnd, ?txTake, ?txHeld, ?read, ?readEmpty, ?write, ?statusRead, ?flushRx,
    ?flushTx, ?breakSend, ?breakDone, ?linHeader, ?linBreak, ?linPid, ?linResponse, ?linUnderrun, ?linTimeout⟩
  case rxChar =>
    exact fun _ _ _ _ _ _ _ clock on moves high hv shape start data ht noCard noLin =>
      execUartRxChar_of_plain live clock on moves high hv shape start data ht noCard noLin
  case rxCard =>
    exact fun _ _ _ _ clock on moves high hv start card ht =>
      execUartRxChar_of_card live clock on moves high hv start card ht
  case breakRx =>
    rintro uart len t low moves clock rfl short
    have whole : ((s.breakOver uart len).linMode uart && decide (len < 176) && ((s.breakOver uart len).uart uart).lin.isSome) =
        false := by
      rcases short with other | long
      · rw [other, Bool.false_and, Bool.false_and]
      · rw [decide_eq_false (Nat.not_lt.mpr long), Bool.and_false, Bool.false_and]
    refine (execUartBreakRx_of_open live low moves clock).trans ?_
    rw [whole, State.when_false]
  case breakLin =>
    rintro uart len t low moves clock short rfl lin frame
    refine (execUartBreakRx_of_open live low moves clock).trans ?_
    rw [lin, frame, decide_eq_true short, Bool.true_and, Bool.true_and, State.when_true]
  case stuck =>
    intro uart t moves on clock _ ht idle
    refine (execUartStuck_of_moving live moves on clock ht).trans ?_
    rw [idle, Option.isSome_none, State.when_false]
  case stuckEnd =>
    intro uart len stuck
    apply whileLive_of_live live
    exact if_neg (by simp [stuck])
  case txTake =>
    intro uart low t clock idle ht idle' noBreak free
    have whole : s.txChar uart true low = t.txTake uart :=
      State.txChar_of_idle (s := s) (n := uart) (c := 1) (cts := true) (t := t) low rfl idle ht idle' noBreak free
    exact (execUartTxChar_of_idle true low live idle clock).trans (congrArg _ whole)
  case txHeld =>
    intro uart low b q t clock busy hq shift clock' ht held waits
    have whole : q.txChar uart false low = t :=
      State.txChar_of_held (s := q) (n := uart) (c := 0) (cts := false) (t := t) (low := low) rfl shift ht held waits
    exact (execUartTxChar_of_busy false low live busy clock hq clock').trans (congrArg _ whole)
  case read =>
    intro uart e rest front
    apply whileLive_of_live live
    simp only [State.uartRead, front]
  case readEmpty =>
    intro uart empty
    apply whileLive_of_live live
    simp only [State.uartRead, empty]
  case write =>
    rintro uart value t rfl room
    apply whileLive_of_live live
    refine congrArg _ (if_neg ?_)
    simpa [State.uartTouch, State.uart_modUart uart.isLt] using room
  case statusRead => exact fun _ => by apply whileLive_of_live live rfl
  case flushRx => exact fun _ => by apply whileLive_of_live live rfl
  case flushTx => exact fun _ => by apply whileLive_of_live live rfl
  case breakSend =>
    intro uart idle
    apply whileLive_of_live live
    exact congrArg _ (if_neg (by simp [idle]))
  case breakDone =>
    rintro uart u t rfl sent clock rfl
    apply whileLive_of_live live
    exact if_neg (by simp [sent, clock])
  case linHeader =>
    rintro uart pid f lin master idle rfl rfl
    apply whileLive_of_live live
    exact congrArg _ (if_neg (by simp [lin, master, idle]))
  case linBreak =>
    rintro uart departure div f t lin slave clock on rfl rfl rfl
    apply whileLive_of_live live
    exact if_neg (by simp [lin, slave, clock, on])
  case linPid =>
    intro uart pid f frame header slave
    apply whileLive_of_live live
    simp only [frame]
    exact if_pos (by simp [header, slave])
  case linResponse =>
    rintro uart f u data t frame publish fresh rfl rfl enough rfl
    apply whileLive_of_live live
    simp only [frame]
    exact (if_neg (by simp [publish, fresh])).trans (if_neg (Nat.not_lt.mpr enough))
  case linUnderrun =>
    rintro uart f t frame rfl publish fresh short
    apply whileLive_of_live live
    simp only [frame]
    exact (if_neg (by simp [publish, fresh])).trans (if_pos short)
  case linTimeout =>
    rintro uart f t frame rfl
    apply whileLive_of_live live
    simp only [frame]

/-! ### Check-value units -/

/-- Settles O36: a unit bound to no UART starts at once, and an abort shows its event only in a frame. -/
theorem checkUnitCommandsComplete : Obligations.CheckUnitCommandsComplete := by
  intro s live
  refine ⟨?start, ?abortIdle, ?abortFrame, ?data, ?done⟩
  case start =>
    rintro unit u unbound rfl
    have low := Nat.not_le.mpr unbound
    apply whileLive_of_live live
    simp [State.cvuStart, State.cvuRefused, low]
  case abortIdle =>
    intro unit noData noCheck
    apply whileLive_of_live live
    simp [State.cvuAbort, noData, noCheck]
  case abortFrame =>
    intro unit armed data
    apply whileLive_of_live live
    simp [State.cvuAbort, armed, data]
  case data => exact fun _ _ => by apply whileLive_of_live live rfl
  case done =>
    rintro unit u v t ready locked rfl rfl rfl
    apply whileLive_of_live live
    exact if_neg (by simp [ready, locked])

end Sys2Proof.Machine
end

section
/-! PROOFS of the statements on security: the requests of the security group, the monitor with its freeze and thaw, and the debug
port. What an authentication begins with is said once for the two routes by which it comes. -/

namespace Sys2Proof.Machine

variable {s : State}

/-! ### Gates of the monitor -/

/-- A lifecycle state in which a request of the security group is served (R516). -/
theorem State.inLife_of_mem {states : List Nat} (life : s.lifecycle ∈ states) (q : OpenReq) (f : State → State) :
    s.inLife q states f = f s := if_pos (List.contains_iff_mem.mpr life)

/-- Debug opens where no authentication is asked for (R522). -/
theorem State.authOpen_of_present (field : s.lifecycle ≠ 2) (service : s.lifecycle ≠ 3) (present : s.present = true)
    (shut : s.debugOpen = false) : s.authOpen = (ansOk (le 1 1 ++ le 3 0), s.openDebug scopeFull) := by
  simp [State.authOpen, field, service, present, shut]

/-- A challenge in FIELD, where vendor debug is not off and no lockout runs (R523 to R525). -/
theorem State.authChallenge_of_field (nonce : BitVec 256) (field : s.lifecycle = 2) (vendor : s.sec.vendorOff = false)
    (unlocked : s.lockoutEnd = 0) (trng : s.is SEC_STATE.trng_ok = true) : s.authChallenge nonce =
      (ansOk (be 32 nonce.toNat ++ deviceIdBytes),
        (s.flag SEC_AUTH.nonce_valid).modSec fun c => { c with nonce := some (be 32 nonce.toNat) }) := by
  simp [State.authChallenge, field, vendor, unlocked, trng]

/-- The verification of a response begins and spends the nonce (R523). -/
theorem State.authBegin_response {n : List Byte} (req : Option OpenReq) (data : List Byte) (field : s.lifecycle = 2)
    (unlocked : s.lockoutEnd = 0) (present : s.present = true) (nonce : s.sec.nonce = some n) :
    s.authBegin req true data =
      (none, s.dropNonce.modSec fun c => { c with auths := c.auths ++ [⟨req, true, data, n⟩] }) := by
  simp [State.authBegin, field, unlocked, present, nonce]

/-- The verification of a password begins (R523). -/
theorem State.authBegin_password (req : Option OpenReq) (data : List Byte) (field : s.lifecycle = 2) (unlocked : s.lockoutEnd = 0)
    (present : s.present = true) (password : s.sec.password ≠ none) : s.authBegin req false data =
      (none, s.modSec fun c => { c with auths := c.auths ++ [⟨req, false, data, []⟩] }) := by
  simp [State.authBegin, field, unlocked, present, password]

/-! ### Requests of the security group -/

/-- A key that the silo takes in SERVICE only with presence (R509, R519). -/
theorem State.installs_of_life (life : s.lifecycle = 0 ∨ s.lifecycle = 1 ∨ s.lifecycle = 3 ∧ s.present = true) :
    s.lifecycle ∈ [0, 1, 3] ∧ (s.lifecycle = 3 → s.present = true) := by
  rcases life with l | l | ⟨l, present⟩ <;> simp [*]

/-- A key of type 2 or 3 in clear (R509). -/
theorem State.installAes_clear {p : List Byte} (clear : byteAt p 1 = 0) (q : OpenReq) (present : Option (List Byte)) (gen : Nat)
    (put : SecState → List Byte → SecState) :
    s.installAes q p present gen put = (s.modSec fun c => put c (p.drop 4)).answer q (ansGen (gen + 1)) :=
  if_pos (by simp [clear])

/-- A key of type 2 or 3 wrapped under the present one (R509). -/
theorem State.installAes_wrapped {p k v : List Byte} (wrapped : byteAt p 1 = 1) (unwraps : Config.keyUnwrap k (p.drop 4) = some v)
    (q : OpenReq) (gen : Nat) (put : SecState → List Byte → SecState) :
    s.installAes q p (some k) gen put = (s.modSec fun c => put c v).answer q (ansGen (gen + 1)) := by
  simp [State.installAes, wrapped, unwraps]

/-- Settles O45: each request is taken and its checks pass, in a lifecycle state in which the silo serves it. -/
theorem securityRequestsComplete : Obligations.SecurityRequestsComplete := by
  intro s
  refine ⟨?get, ?close, ?provision, ?field, ?retire, ?kernelKey, ?password, ?exportClear, ?exportWrapped, ?transportClear,
    ?transportWrapped, ?osnma, ?certRead, ?certLast, ?certChunk, ?secMin, ?challenge, ?response, ?passwordSent, ?sealSet, ?sealClear,
    ?market, ?vendor, ?debugOpen, ?debugClose⟩
  case get =>
    intro r p takes length life
    apply serve_next_of_takes takes (by simp) (by simp [length])
    exact State.inLife_of_mem (by simp; omega) _ _
  case close =>
    intro r p takes length target pad life
    apply serve_next_of_takes takes (by simp)
    · simp [length, target, pad]
    · exact if_pos (by simp [target, life])
  case provision =>
    intro r p takes length target pad life present idle trng
    apply serve_next_of_takes takes (by simp)
    · simp [length, target, pad]
    · simp [target, life, present, idle, trng]
  case field =>
    intro r p takes length target pad life present idle
    apply serve_next_of_takes takes (by simp)
    · simp [length, target, pad]
    · simp [target, life, present, idle]
  case retire =>
    intro r p takes length target pad life present idle
    apply serve_next_of_takes takes (by simp)
    · simp [length, target, pad]
    · refine (if_neg (by simp [target])).trans ((if_neg (by simp [target]; omega)).trans ?_)
      simp [target, present, idle]
  case kernelKey =>
    intro r p salt takes key form length field life
    have known : keyLength p = some 64 := by simp [keyLength, key, form]
    have installs := State.installs_of_life life
    apply serve_next_of_takes takes (by simp)
    · simp [length, key, known, field]
    · refine (if_neg (by simp [key])).trans ((State.inLife_of_mem installs.1 _ _).trans ?_)
      simp +contextual [key, installs.2]
  case password =>
    intro r p salt takes key form length field life trng
    have known : keyLength p = some 16 := by simp [keyLength, key, form]
    have installs := State.installs_of_life life
    apply serve_next_of_takes takes (by simp)
    · simp [length, key, known, field]
    · refine (if_neg (by simp [key])).trans ((State.inLife_of_mem installs.1 _ _).trans ?_)
      simp +contextual [key, installs.2, trng]
  case exportClear =>
    intro r p salt takes key form length field life
    have known : keyLength p = some 32 := by simp [keyLength, key, form]
    apply serve_next_of_takes takes (by simp)
    · simp [length, key, known, field]
    · refine (if_pos (by simp [key])).trans ((State.inLife_of_mem (by simpa [form] using life) _ _).trans ?_)
      simp [key, State.installAes_clear form]
  case exportWrapped =>
    intro r p salt k v takes key form length field present unwraps life
    have known : keyLength p = some 40 := by simp [keyLength, key, form]
    apply serve_next_of_takes takes (by simp)
    · simp [length, key, known, field]
    · refine (if_pos (by simp [key])).trans ((State.inLife_of_mem (by simp [form]; omega) _ _).trans ?_)
      simp [key, present, State.installAes_wrapped form unwraps]
  case transportClear =>
    intro r p salt takes key form length field life
    have known : keyLength p = some 32 := by simp [keyLength, key, form]
    apply serve_next_of_takes takes (by simp)
    · simp [length, key, known, field]
    · refine (if_pos (by simp [key])).trans ((State.inLife_of_mem (by simpa [form] using life) _ _).trans ?_)
      simp [key, State.installAes_clear form]
  case transportWrapped =>
    intro r p salt k v takes key form length field present unwraps life
    have known : keyLength p = some 40 := by simp [keyLength, key, form]
    apply serve_next_of_takes takes (by simp)
    · simp [length, key, known, field]
    · refine (if_pos (by simp [key])).trans ((State.inLife_of_mem (by simp [form]; omega) _ _).trans ?_)
      simp [key, present, State.installAes_wrapped form unwraps]
  case osnma =>
    intro r p salt takes key form kind length field life
    have known : keyLength p = some (if byteAt p 5 = 0 then 67 else 101) := by
      simp [keyLength, key, form, apply_ite some]
    apply serve_next_of_takes takes (by simp)
    · simp [length, key, known, field, kind]
    · refine (if_neg (by simp [key])).trans ((State.inLife_of_mem (by simpa using life) _ _).trans ?_)
      simp [key]
  case certRead =>
    intro r p c takes length which pad held
    apply serve_next_of_takes takes (by simp)
    · simp [length, which, pad]
    · simp [takes.life, held]
  case certLast =>
    rintro r p b n takes low high life offset rfl der rfl key
    apply serve_next_of_takes takes (by simp)
    · simp [low, high]
    · refine (State.inLife_of_mem (by simpa using life) _ _).trans ?_
      simp [offset, der, key]
  case certChunk =>
    rintro r p b n takes low high life offset rfl der short
    apply serve_next_of_takes takes (by simp)
    · simp [low, high]
    · refine (State.inLife_of_mem (by simpa using life) _ _).trans ?_
      refine (if_neg (by simp [offset])).trans ?_
      simp only [der]
      exact if_pos short
  case secMin =>
    intro r p takes length life higher
    apply serve_next_of_takes takes (by simp) (by simp [length])
    exact (State.inLife_of_mem (by simpa using life) _ _).trans (if_neg (Nat.not_le.mpr higher))
  case challenge =>
    intro r p nonce takes length field vendor unlocked trng
    apply serve_next_of_takes takes (by simp) (by simp [length])
    rw [State.authChallenge_of_field nonce field vendor unlocked trng]
  case response =>
    intro r p n takes length field unlocked present nonce
    apply serve_next_of_takes takes (by simp) (by simp [length])
    simp only [State.authMessage, State.authBegin_response _ p field unlocked present nonce]
  case passwordSent =>
    intro r p takes length field unlocked present password
    apply serve_next_of_takes takes (by simp) (by simp [length])
    simp only [State.authMessage, State.authBegin_password _ p field unlocked present password]
  case sealSet =>
    intro r p takes length op en action pad life
    apply serve_next_of_takes takes (by simp)
    · simp [length, op, en, action, pad]
    · exact (if_pos (by simp [op])).trans (State.inLife_of_mem (by simpa using life) _ _)
  case sealClear =>
    intro r p takes length op pad life present
    apply serve_next_of_takes takes (by simp)
    · simp [length, op, pad]
    · exact (if_neg (by simp [op])).trans ((State.inLife_of_mem (by simpa using life) _ _).trans (if_pos present))
  case market =>
    intro r p takes length life fuse stored
    apply serve_next_of_takes takes (by simp) (by simp [length])
    simp [takes.life, life, fuse, stored]
  case vendor =>
    intro r p takes length life present
    apply serve_next_of_takes takes (by simp) (by simp [length])
    exact (State.inLife_of_mem (by simpa using life) _ _).trans (if_neg (by simp [present]))
  case debugOpen =>
    intro r p takes length op pad field service present shut
    apply serve_next_of_takes takes (by simp)
    · simp [length, op, pad]
    · simp only [op, BEq.rfl, if_true, State.authOpen_of_present field service present shut]
  case debugClose =>
    intro r p takes length op pad
    apply serve_next_of_takes takes (by simp)
    · simp [length, op, pad]
    · simp only [op]
      rfl

/-! ### The monitor -/

/-- The monitor runs while the always-on domain is powered (R507). -/
theorem whileAon_of_on {f : State → Result} {r : Result} (on : s.pwr.aon = true) (e : f s = r) : whileAon s f = r :=
  (if_pos on).trans e

/-- A check of the seal that is due (R520): the seal is whole where both samples follow the level driven. -/
theorem execSealCheck_of_due {rtc : BitVec 48} (level first second : Bool) {t : State} (on : s.pwr.aon = true)
    (checks : s.is SEC_SEAL_CFG.en = true) (kept : s.sec.aonLost = false) (due : rtc.toNat % 3277 = 0)
    (ht : t = (s.rtcTo (rtc.toNat + 2)).modSec fun c => { c with sealOut := !level }) :
    execSealCheck rtc level first second s = if first = level ∧ second = !level then .next t
      else if t.is SEC_SEAL_STATUS.broken then .next t else .next ((t.sealBreak 1 rtc.toNat).wake 5 0) := by
  subst ht
  apply whileAon_of_on on
  refine (if_neg (by simp [checks, kept, due])).trans ?_
  simp only [Bool.and_eq_true, beq_iff_eq]

/-- Settles O40: each event of the monitor under the guards of its meaning. -/
theorem monitorEventsComplete : Obligations.MonitorEventsComplete := by
  intro s on
  refine ⟨?press, ?release, ?expiry, ?sealCheck, ?lockoutEnd, ?nonceExpiry, ?serviceTimeout, ?trngFail, ?verified, ?freeze, ?thaw⟩
  case press => apply whileAon_of_on on rfl
  case release =>
    intro pressed
    apply whileAon_of_on on
    exact if_neg (by simp [pressed])
  case expiry => apply whileAon_of_on on rfl
  case sealCheck =>
    intro rtc level first second t checks kept due ht
    have checked := execSealCheck_of_due level first second on checks kept due ht
    refine ⟨fun whole => checked.trans (if_pos whole), fun broken unlatched => ?_⟩
    exact checked.trans ((if_neg (not_and_or.mpr broken)).trans (if_neg (ne_true_of_eq_false unlatched)))
  case lockoutEnd =>
    rintro rtc t rfl runs reached powered released
    apply whileAon_of_on on
    refine (if_neg (by simp [runs, reached])).trans ?_
    exact congrArg _ (if_pos (by simp [powered, released]))
  case nonceExpiry => apply whileAon_of_on on rfl
  case serviceTimeout =>
    intro service
    exact congrArg _ (if_pos (by simp [service]))
  case trngFail => exact fun live => by apply whileLive_of_live live rfl
  case verified =>
    rintro a rest t powered released waiting rfl
    refine ⟨fun wrong => ?_, fun right field => ?_⟩
    · apply whilePowered_of_powered powered released
      simp only [waiting]
      exact if_pos (by simp [wrong])
    · apply whilePowered_of_powered powered released
      simp only [waiting]
      exact (if_neg (by simp [right])).trans (if_neg (by simp [field]))
  case freeze =>
    intro ticks live low high allowed
    apply whileLive_of_live live
    refine if_neg ?_
    rcases allowed with ⟨field, service⟩ | fuse
    · simp [low, high, field, service]
    · simp [low, high, fuse]
  case thaw =>
    rintro n rtc t u v w powered released frozen locked - rfl rfl rfl unlost rfl
    apply whilePowered_of_powered powered released
    refine (if_neg (by simp [frozen, locked])).trans ?_
    simp only [unlost]

/-! ### The debug port -/

/-- The debug port answers while the main domain is powered (R534). -/
theorem whileTap_of_powered {f : State → Result} {r : Result} (powered : s.pwr.powered = true) (e : f s = r) : whileTap s f = r :=
  (if_pos powered).trans e

/-- An operation of AUTH while the instruction is selected (R522). -/
theorem whileAuth_of_selected {f : State → State} {t : State} (powered : s.pwr.powered = true) (selected : s.sec.tap.ir = 0x10)
    (e : f s = t) : whileAuth s f = .next t :=
  whileTap_of_powered powered (congrArg _ ((if_pos (by simp [selected])).trans e))

/-- An instruction that the state allows is selected (R522). -/
theorem State.tapSelect_of_allowed {code : Nat} (allowed : tapAllows code s.lifecycle s.debugOpen s.frozen = true) :
    s.tapSelect code = s.modTap fun t => { t with ir := code } := if_pos allowed

/-- DBG_REG is allowed where debug is open and nothing is frozen; FRZ_READ where debug is open and the device is frozen. -/
theorem State.tapSelect_dbgReg (debug : s.debugOpen = true) (thawed : s.frozen = false) :
    s.tapSelect 0x11 = s.modTap fun t => { t with ir := 0x11 } :=
  State.tapSelect_of_allowed (by simp [tapAllows, debug, thawed])
theorem State.tapSelect_frzRead (debug : s.debugOpen = true) (frozen : s.frozen = true) :
    s.tapSelect 0x12 = s.modTap fun t => { t with ir := 0x12 } :=
  State.tapSelect_of_allowed (by simp [tapAllows, debug, frozen])

/-- Settles O41: each instruction while the main domain is powered, and the operations of AUTH while it is selected. -/
theorem debugPortCommandsComplete : Obligations.DebugPortCommandsComplete := by
  intro s powered
  refine ⟨?reset, ?idcode, ?sample, ?extest, ?clamp, ?highz, ?auth, ?bypass, ?authOpen, ?authClose, ?challenge, ?password, ?response,
    ?dbgReg, ?status, ?selectRange, ?nextWord⟩
  case reset => apply whileTap_of_powered powered rfl
  case idcode => apply whileTap_of_powered powered rfl
  case sample => exact fun _ _ => by apply whileTap_of_powered powered rfl
  case extest =>
    intro allowed
    apply whileTap_of_powered powered
    rw [State.tapSelect_of_allowed allowed]
  case clamp =>
    intro allowed
    apply whileTap_of_powered powered
    rw [State.tapSelect_of_allowed allowed]
  case highz =>
    intro allowed
    apply whileTap_of_powered powered
    rw [State.tapSelect_of_allowed allowed]
  case auth => apply whileTap_of_powered powered rfl
  case bypass => apply whileTap_of_powered powered rfl
  case authOpen =>
    intro selected field service present shut
    apply whileAuth_of_selected powered selected
    rw [State.authOpen_of_present field service present shut]
  case authClose => exact fun selected => by apply whileAuth_of_selected powered selected rfl
  case challenge =>
    intro nonce selected field vendor unlocked trng
    apply whileAuth_of_selected powered selected
    rw [State.authChallenge_of_field nonce field vendor unlocked trng]
  case password =>
    intro password selected field unlocked present held
    apply whileAuth_of_selected powered selected
    simp only [State.tapBegin, State.authBegin_password none _ field unlocked present held]
  case response =>
    intro scope r v n selected field unlocked present nonce
    apply whileAuth_of_selected powered selected
    simp only [State.tapBegin, State.authBegin_response none _ field unlocked present nonce]
  case dbgReg =>
    rintro block offset v t debug thawed rfl known unmasked
    constructor <;>
    · apply whileTap_of_powered powered
      rw [State.tapSelect_dbgReg debug thawed]
      exact (if_neg (by simp [State.modTap])).trans (if_neg (by simp [known, unmasked]))
  case status => exact fun _ => by apply whileTap_of_powered powered rfl
  case selectRange =>
    rintro command t debug frozen rfl region
    apply whileTap_of_powered powered
    rw [State.tapSelect_frzRead debug frozen]
    exact (if_neg (by simp [State.modTap])).trans (if_pos (by simp [region]))
  case nextWord =>
    rintro command t g debug frozen rfl more range left region
    apply whileTap_of_powered powered
    rw [State.tapSelect_frzRead debug frozen]
    refine (if_neg (by simp [State.modTap])).trans ((if_neg (by simp [more])).trans ?_)
    simp only [range]
    refine (if_neg (by simp [left])).trans ?_
    rw [beq_eq_false_iff_ne.mpr region, State.when_false]

end Sys2Proof.Machine
end

section
/-! PROOFS of the statements on supplies and modes: losses, returns, shutdown, reset and wake-up of the main domain, its start and
its changes of mode; and the requests of the system group. -/

namespace Sys2Proof.Machine

variable {s : State}

/-- Settles O37: each event is guarded by the supplies and the pins alone, and the conditions of its clause decide the guard. -/
theorem supplyAndWakeEventsComplete : Obligations.SupplyAndWakeEventsComplete := by
  intro s
  refine ⟨?toVbak, ?toVsys, ?aonLoss, ?aonUp, ?shutdown, ?mainStart, ?resets, ?earlyPfail, ?frozenPfail, ?hostWake, ?uartWake,
    ?maskRelease⟩
  case toVbak =>
    intro aon onVsys powered
    exact (if_neg (by simp [aon, onVsys])).trans (if_pos powered)
  case toVsys =>
    intro aon onVbak
    have both : (s.pwr.aon && s.is PWR_STATUS.on_vbak) = true := by simp [aon, onVbak]
    exact ⟨congrArg _ (if_pos both), congrArg _ (if_pos both)⟩
  case aonLoss =>
    intro aon
    exact if_neg (by simp [aon])
  case aonUp =>
    intro onVbak off
    exact if_neg (by simp [off])
  case shutdown =>
    rintro pfail rtc t live rfl
    apply whileLive_of_live live
    rfl
  case mainStart =>
    intro aon off awake
    exact if_neg (by simp [aon, off, awake])
  case resets =>
    intro powered
    have on : ¬(!s.pwr.powered) = true := by simp [powered]
    exact ⟨if_neg on, if_neg on⟩
  case earlyPfail =>
    intro pfail powered held
    exact if_neg (by simp [powered, held])
  case frozenPfail =>
    intro frozen
    exact if_neg (by simp [frozen])
  case hostWake =>
    intro wakes
    exact congrArg _ (if_pos wakes)
  case uartWake =>
    intro uart asleep off enabled unmasked
    exact if_neg (by simp [State.watching, asleep, off, enabled, unmasked])
  case maskRelease =>
    intro uart masked
    exact congrArg (fun t : State => (.next (t.put (UART_STATUS.wake_masked uart) 0) : Result)) (if_pos masked)

/-- The main domain leaves its reset after no capture wake: every state on the way is named, as the statement names it. -/
theorem execMainResetRelease_of_held {strap hostSel : Bool} {rtc : BitVec 48} {t u v w x : State} (aon : s.pwr.aon = true)
    (powered : s.pwr.powered = true) (held : s.pwr.inReset = true)
    (ht : t = (s.mainClear.setRtc rtc.toNat).flag PWR_STATUS.rails_ok)
    (hu : u = (t.modPwr fun p => { p with inReset := false, sysRst := false }).strapAt strap)
    (hv : v = (u.put HL_ID.spi (b2n hostSel)).modHost fun h => { h with spi := hostSel })
    (hw : w = (v.put HL_STATUS.lifecycle v.lifecycle).put NET_ASYM.correction v.net.asymNv)
    (hx : x = { w with fw := { w.fw with slot := w.fw.next } }.showStore.showGnt)
    (off : (x.reloadTime x.pwr.orderly).pwr.capWake = false) : execMainResetRelease strap hostSel rtc s =
      .next ((x.reloadTime x.pwr.orderly).modPwr fun p => { p with
        boot := some (bootCause (x.reloadTime x.pwr.orderly).pwr.downIn), capWake := false }) := by
  unfold execMainResetRelease
  rw [if_neg (by simp [aon, powered, held])]
  extract_lets t' u' v' w' fw x' y
  have sameT : t' = t := ht.symm
  have sameU : u' = u := by rw [hu, ← sameT]
  have sameV : v' = v := by rw [hv, ← sameU]
  have sameW : w' = w := by rw [hw, ← sameV]
  have sameX : x' = x := by rw [hx, ← sameW]
  have same : y = x.reloadTime x.pwr.orderly := by rw [← sameX]
  clear_value y
  rw [same, off]
  rfl

/-- Settles O38: the release by its own lemma, the boot with its cause, and a move of the mode at a hop and at its goal. -/
theorem startAndModeChangesComplete : Obligations.StartAndModeChangesComplete := by
  intro s
  refine ⟨?release, ?boot, ?hop, ?dormant⟩
  case release =>
    intro strap hostSel rtc t u v aon powered held ht hu hv w x hw hx off
    exact execMainResetRelease_of_held aon powered held ht hu hv hw hx off
  case boot =>
    intro previous cause t u due released powered thawed other ht hu
    change execBootDone s = _
    unfold execBootDone
    rw [due]
    dsimp -zeta only
    rw [if_neg (by simp [released, powered, thawed])]
    extract_lets t' w u'
    have same : w = t := (if_neg (by simp [other])).trans ht.symm
    clear_value w
    subst same hu
    rfl
  case hop =>
    rintro v m t live move up rfl rfl
    apply whileLive_of_live live
    simp only [move]
    refine (if_neg (Nat.not_lt.mpr up)).trans ?_
    simp only [bne_iff_ne, ne_eq, ite_not, apply_ite (Host.Outcome.next (σ := State) (φ := Fault) (ρ := Refusal))]
  case dormant =>
    rintro v t live move down rfl
    apply whileLive_of_live live
    simp only [move]
    exact if_pos down

/-- Settles O39: each request is taken and its checks pass; PING, of class H, is committed with its effect. The two ends follow what
was accepted before. -/
theorem systemRequestsComplete : Obligations.SystemRequestsComplete := by
  intro s
  refine ⟨?ping, ?info, ?setMode, ?powerCfg, ?alarm, ?chunk, ?commit, ?commitDone, ?provisionDone⟩
  case ping =>
    intro r p takes length
    apply serve_next_of_takes_classH takes rfl
    · simp [length]
    · rfl
  case info =>
    intro r p takes length
    apply serve_next_of_takes takes (by simp)
    · simp [length]
    · rfl
  case setMode =>
    intro r p takes length low high pad powerOk slot deferred
    apply serve_next_of_takes takes (by simp)
    · simp [length, low, high, pad]
    · exact (if_neg (by simp [powerOk])).trans (if_pos (by simp [takes.still, slot, deferred]))
  case powerCfg =>
    intro r p takes length promote low high wake pad
    apply serve_next_of_takes takes (by simp)
    · simp [length, promote, low, high, wake, pad]
    · rfl
  case alarm =>
    intro r p takes length flag pad
    apply serve_next_of_takes takes (by simp)
    · simp [length, flag, pad]
    · rfl
  case chunk =>
    intro r p takes least most offset fits
    apply serve_next_of_takes takes (by simp)
    · simp [least, most]
    · exact (if_neg (by simp [takes.life])).trans ((if_neg (by simp [offset])).trans (if_neg (Nat.not_lt.mpr fits)))
  case commit =>
    intro r p takes length idle whole
    apply serve_next_of_takes takes (by simp)
    · simp [length]
    · exact (if_neg (by simp [takes.life])).trans ((if_neg (by simp [idle])).trans (if_neg (by simp [whole])))
  case commitDone =>
    intro image q live commit verifies recent
    apply whileLive_of_live live
    simp only [commit]
    exact (if_neg (by simp [verifies])).trans (if_neg (Nat.not_lt.mpr recent))
  case provisionDone =>
    intro q live due
    apply whileLive_of_live live
    simp only [due]
    rfl

end Sys2Proof.Machine
end

section
/-! PROOFS of the statements on event records and on the power-mode envelope of requests: the two states in which an event on
vector 0 leaves its number, and the branches of State.enter, each as a lemma. -/

namespace Sys2Proof.Machine

variable {s : State}

/-! ### Bytes of a record -/

@[simp] theorem le_length (n v : Nat) : (le n v).length = n := by
  induction n generalizing v with
  | zero => rfl
  | succ n ih => simp [le, ih]

theorem leVal_le (n v : Nat) : leVal (le n v) = v % 256 ^ n := by
  induction n generalizing v with
  | zero => simp [le, leVal, Nat.mod_one]
  | succ n ih =>
    simp only [le, leVal, ih, BitVec.toNat_ofNat, Nat.pow_succ']
    exact Nat.mod_mul.symm

/-- A number written behind some bytes is the field at their length. -/
theorem fieldAt_append_le {off n : Nat} (a b : List Byte) (v : Nat) (h : a.length = off) :
    fieldAt (a ++ (le n v ++ b)) off n = v % 256 ^ n := by
  simp [fieldAt, ← h, List.take_left', leVal_le]

/-- A record has 32 bytes and begins with its code, two bytes of zero and its number (R541). -/
theorem recordBytes_layout (code number : Nat) (t : Time) (data : List Byte) (hc : code < 2 ^ 16) (hn : number < 2 ^ 32) :
    (recordBytes code number t data).length = 32 ∧ fieldAt (recordBytes code number t data) 0 2 = code ∧
    fieldAt (recordBytes code number t data) 2 2 = 0 ∧ fieldAt (recordBytes code number t data) 4 4 = number := by
  have layout : recordBytes code number t data = le 2 code ++ (le 2 0 ++ (le 4 number ++
      (le 8 (tSec t) ++ (le 4 (tNs t) ++ (le 4 (tFrac t) ++ le 8 (leVal data)))))) := by
    simp only [recordBytes, List.append_assoc]
  rw [layout]
  refine ⟨by simp, ?_, ?_, ?_⟩
  · exact (fieldAt_append_le [] _ code rfl).trans (Nat.mod_eq_of_lt hc)
  · exact fieldAt_append_le (le 2 code) _ 0 rfl
  · rw [← List.append_assoc]
    exact (fieldAt_append_le (le 2 code ++ le 2 0) _ number rfl).trans (Nat.mod_eq_of_lt hn)

/-- A dword of the event page is one of the record there (R541). -/
theorem State.bar0Read_record (k j : Nat) (hj : j < 8) : s.bar0Read (0x800 + 32 * (k % 64) + 4 * j) true [] =
    (fieldAt (vget [] s.host.records (k % 64)) (4 * j) 4, s) := by
  have row : (0x800 + 32 * (k % 64) + 4 * j - 0x800) / 32 = k % 64 := by omega
  have column : (0x800 + 32 * (k % 64) + 4 * j) % 32 = 4 * j := by omega
  unfold State.bar0Read State.controlRead
  rw [if_neg (by omega), if_pos rfl, if_neg (by simp; omega), if_neg (by simp; omega), if_pos (by simp; omega), row, column]

/-! ### Causes -/

/-- A cause that is set changes no register but HL_IRQ_CAUSE. -/
theorem State.cause_regs (b v : Nat) : (s.cause b v).regs = (s.flag ⟨HL_IRQ_CAUSE, b, 1⟩).regs := by
  unfold State.cause State.sendVector
  dsimp only
  split
  · split <;> rfl
  · rfl

/-- A cause that is set changes of the link's state its vectors at most. -/
theorem State.cause_host (b v : Nat) : ∃ vecs, (s.cause b v).host = { s.host with vecs := vecs } := by
  unfold State.cause State.sendVector
  dsimp only
  split
  · split
    · exact ⟨_, rfl⟩
    · exact ⟨_, rfl⟩
  · exact ⟨_, rfl⟩

theorem State.cause_records (b v : Nat) : (s.cause b v).host.records = s.host.records := by
  obtain ⟨_, host⟩ := State.cause_host (s := s) b v
  rw [host]

theorem State.cause_evNumber (b v : Nat) : (s.cause b v).host.evNumber = s.host.evNumber := by
  obtain ⟨_, host⟩ := State.cause_host (s := s) b v
  rw [host]

/-- A field outside HL_IRQ_CAUSE reads as before a cause is set. -/
theorem State.get_cause_other (wf : Memory.wf s = true) (b v : Nat) (hb : b < 32) {f : Field} (out : f.addr ≠ HL_IRQ_CAUSE) :
    (s.cause b v).get f = s.get f := by
  have same : (s.cause b v).get f = (s.flag ⟨HL_IRQ_CAUSE, b, 1⟩).get f := by
    unfold State.get State.word; rw [State.cause_regs]
  exact same.trans (State.get_put_other wf _ _ 1 (by simp; omega) (.inl out))

theorem State.get_cause_same (wf : Memory.wf s = true) (b v : Nat) (hb : b < 32) :
    (s.cause b v).get ⟨HL_IRQ_CAUSE, b, 1⟩ = 1 := by
  have same : (s.cause b v).get ⟨HL_IRQ_CAUSE, b, 1⟩ = (s.flag ⟨HL_IRQ_CAUSE, b, 1⟩).get ⟨HL_IRQ_CAUSE, b, 1⟩ := by
    unfold State.get State.word; rw [State.cause_regs]
  exact same.trans (State.get_put_same wf _ 1 (by simp; omega))

/-! ### Events on vector 0 -/

/-- An event on vector 0 enters the log and spends its number. -/
def State.numbered (s : State) (e : Event) (t : Time) : State :=
  (s.logEvent e (some s.host.evNumber) t).modHost fun h => { h with evNumber := (s.host.evNumber + 1) % 2 ^ 32 }

@[simp] theorem State.numbered_regs (e : Event) (t : Time) : (s.numbered e t).regs = s.regs := by
  simp only [State.numbered, State.logEvent, State.modHost_regs]

@[simp] theorem State.numbered_get (e : Event) (t : Time) (f : Field) : (s.numbered e t).get f = s.get f := by
  simp only [State.get, State.word, State.numbered_regs]

@[simp] theorem State.numbered_records (e : Event) (t : Time) : (s.numbered e t).host.records = s.host.records := by
  simp only [State.numbered, State.logEvent, State.modHost_host]

theorem State.numbered_wf (wf : Memory.wf s = true) (e : Event) (t : Time) : Memory.wf (s.numbered e t) = true :=
  ((modHost_reportsOnly s _).trans (modHost_reportsOnly _ _)).wf wf

/-- The state of an event whose record is written, before it is counted. -/
def State.onPage (s : State) (e : Event) (t : Time) : State :=
  (s.numbered e t).modHost fun h => { h with
    records := vmod (fun _ => recordBytes e.code s.host.evNumber t e.data) h.records (s.get HL_EVT_PROD.prod % 64) }

@[simp] theorem State.onPage_get (e : Event) (t : Time) (f : Field) : (s.onPage e t).get f = s.get f := by
  simp only [State.onPage, State.get, State.word, State.modHost_regs, State.numbered_regs]

theorem State.onPage_wf (wf : Memory.wf s = true) (e : Event) (t : Time) : Memory.wf (s.onPage e t) = true :=
  (modHost_reportsOnly _ _).wf (State.numbered_wf wf e t)

/-- The state of an event whose record is written and counted, before its message leaves. -/
def State.recorded (s : State) (e : Event) (t : Time) : State :=
  (s.onPage e t).put HL_EVT_PROD.prod (s.get HL_EVT_PROD.prod + 1)

theorem State.recorded_records (e : Event) (t : Time) : (s.recorded e t).host.records =
    vmod (fun _ => recordBytes e.code s.host.evNumber t e.data) s.host.records (s.get HL_EVT_PROD.prod % 64) := by
  simp only [State.recorded, State.put, State.setWord, State.onPage, State.modHost_host, State.numbered_records]

theorem State.recorded_vecs (e : Event) (t : Time) : (s.recorded e t).host.vecs = s.host.vecs := by
  simp only [State.recorded, State.put, State.setWord, State.onPage, State.numbered, State.logEvent, State.modHost_host]

/-- The state of an event that is lost, before its message leaves. -/
def State.overflowed (s : State) (e : Event) (t : Time) : State := ((s.numbered e t).bump HL_EVT_LOST.lost).tally 15 1

theorem State.overflowed_records (e : Event) (t : Time) : (s.overflowed e t).host.records = s.host.records := by
  simp only [State.overflowed, State.tally, State.bump, State.bumpBy, State.put, State.setWord, State.modHost_host,
    State.numbered_records]

theorem State.overflowed_get (e : Event) (t : Time) (f : Field) :
    (s.overflowed e t).get f = ((s.numbered e t).bump HL_EVT_LOST.lost).get f := by
  simp only [State.overflowed, State.tally, State.get, State.word, State.modHost_regs]

theorem State.overflowed_wf (wf : Memory.wf s = true) (e : Event) (t : Time) : Memory.wf (s.overflowed e t) = true :=
  (modHost_reportsOnly _ _).wf (State.bump_wf HL_EVT_LOST.lost (State.numbered_wf wf e t))

/-- An event on vector 0 is recorded unless 64 records are unread (R541). -/
theorem State.emitVector_eq (e : Event) (t : Time) : s.emitVector e t =
    if (s.get HL_EVT_PROD.prod + 65536 - s.get HL_EVT_CONS.cons) % 65536 == 64 then (s.overflowed e t).cause 7 4
    else (s.recorded e t).cause 1 0 := by
  unfold State.emitVector
  extract_lets n u k v
  have hu : u = s.numbered e t := rfl
  have hk : k = s.get HL_EVT_PROD.prod := (congrArg (State.get · HL_EVT_PROD.prod) hu).trans (State.numbered_get e t _)
  have hv : v = s.onPage e t := by simp only [v, State.onPage, hu, hk, n]
  rw [hu, hk, hv, State.numbered_get, State.numbered_get]
  rfl

theorem State.emitVector_of_room {e : Event} {t : Time}
    (room : (s.get HL_EVT_PROD.prod + 65536 - s.get HL_EVT_CONS.cons) % 65536 ≠ 64) :
    s.emitVector e t = (s.recorded e t).cause 1 0 := by
  rw [State.emitVector_eq, if_neg (by simpa using room)]

theorem State.emitVector_of_full {e : Event} {t : Time}
    (full : (s.get HL_EVT_PROD.prod + 65536 - s.get HL_EVT_CONS.cons) % 65536 = 64) :
    s.emitVector e t = (s.overflowed e t).cause 7 4 := by
  rw [State.emitVector_eq, if_pos (by simpa using full)]

/-- An event that is recorded (R541). -/
theorem State.recorded_spec (wf : Memory.wf s = true) (e : Event) (t : Time) :
    vget [] ((s.recorded e t).cause 1 0).host.records (s.get HL_EVT_PROD.prod % 64) =
      recordBytes e.code s.host.evNumber t e.data ∧
    (∀ j < 64, j ≠ s.get HL_EVT_PROD.prod % 64 → vget [] ((s.recorded e t).cause 1 0).host.records j = vget [] s.host.records j) ∧
    ((s.recorded e t).cause 1 0).get HL_EVT_PROD.prod = (s.get HL_EVT_PROD.prod + 1) % 65536 ∧
    ((s.recorded e t).cause 1 0).get HL_EVT_LOST.lost = s.get HL_EVT_LOST.lost := by
  have page := State.onPage_wf wf e t
  have width : 2 ^ HL_EVT_PROD.prod.width = 65536 := by decide
  have canonical : Memory.wf (s.recorded e t) = true := State.put_wf _ _ page
  rw [State.cause_records, State.recorded_records, State.get_cause_other canonical 1 0 (by omega) (by decide),
    State.get_cause_other canonical 1 0 (by omega) (by decide)]
  refine ⟨?record, ?others, ?count, ?lost⟩
  case record => exact vget_vmod_same _ _ _ (Nat.mod_lt _ (by omega))
  case others => exact fun j _ ne => vget_vmod_other _ _ _ ne.symm
  case count => exact (State.get_put_same page _ _ (by decide)).trans (congrArg _ width)
  case lost => exact (State.get_put_other page _ _ _ (by decide) (by decide)).trans (State.onPage_get e t _)

/-- An event that is lost (R541). -/
theorem State.overflowed_spec (wf : Memory.wf s = true) (e : Event) (t : Time) :
    ((s.overflowed e t).cause 7 4).host.records = s.host.records ∧
    ((s.overflowed e t).cause 7 4).get HL_EVT_PROD.prod = s.get HL_EVT_PROD.prod ∧
    ((s.overflowed e t).cause 7 4).get HL_EVT_LOST.lost =
      (if s.get HL_EVT_LOST.lost + 1 < 2 ^ HL_EVT_LOST.lost.width then s.get HL_EVT_LOST.lost + 1
        else 2 ^ HL_EVT_LOST.lost.width - 1) ∧
    ((s.overflowed e t).cause 7 4).get HL_IRQ_CAUSE.evt_ovf = 1 := by
  have sent := State.numbered_wf wf e t
  have canonical := State.overflowed_wf wf e t
  rw [State.cause_records, State.overflowed_records, State.get_cause_other canonical 7 4 (by omega) (by decide),
    State.get_cause_other canonical 7 4 (by omega) (by decide), State.overflowed_get, State.overflowed_get]
  refine ⟨rfl, ?count, ?lost, State.get_cause_same canonical 7 4 (by omega)⟩
  case count => exact (State.get_put_other sent _ _ _ (by decide) (by decide)).trans (State.numbered_get e t _)
  case lost =>
    refine (State.get_bump_same sent HL_EVT_LOST.lost (by decide)).trans ?_
    rw [State.numbered_get]
    split <;> omega

/-- An event on vector 0 spends its number. -/
theorem State.emitVector_evNumber (e : Event) (t : Time) :
    (s.emitVector e t).host.evNumber = (s.host.evNumber + 1) % 2 ^ 32 := by
  rw [State.emitVector_eq]
  split <;> rw [State.cause_evNumber] <;> rfl

/-- Settles O49: an event is recorded or lost by the number of unread records; the message then changes neither. -/
theorem eventRecordsGoToTheEventPage : Obligations.EventRecordsGoToTheEventPage := by
  intro s wf
  refine ⟨fun e t carrier => ⟨?emit, State.emitVector_evNumber e t, ?room, ?full⟩, ?codes, recordBytes_layout,
    fun k j hj => State.bar0Read_record k j hj⟩
  case emit =>
    intro thawed
    simp [State.emitAt, thawed, carrier]
  case room =>
    intro room
    rw [State.emitVector_of_room room]
    obtain ⟨record, others, count, lost⟩ := State.recorded_spec wf e t
    exact ⟨record, others, count, lost, s.recorded e t, rfl, (State.cause_records 1 0).symm, State.recorded_vecs e t⟩
  case full =>
    intro full
    rw [State.emitVector_of_full full]
    exact State.overflowed_spec wf e t
  case codes => decide

/-! ### The envelope of a request -/

/-- A refusal of R499 shows its target and its condition, and that it happened. -/
theorem State.modeRefused_shows (wf : Memory.wf s = true) (target blocking : Nat) :
    (s.modeRefused target blocking).get PWR_REFUSE.target = target % 16 ∧
    (s.modeRefused target blocking).get PWR_REFUSE.blocking = blocking % 16 ∧
    (s.modeRefused target blocking).get PWR_EVENT.refused = 1 ∧
    (s.modeRefused target blocking).get PWR_EVENT.promoted = s.get PWR_EVENT.promoted := by
  have w1 := State.put_wf PWR_REFUSE.target target wf
  have w2 := State.put_wf PWR_REFUSE.blocking blocking w1
  have w3 := State.bump_wf PWR_REFUSE.count w2
  unfold State.modeRefused State.flag
  refine ⟨?target, ?blocking, ?refused, ?promoted⟩
  case target =>
    rw [State.get_put_other w3 _ _ _ (by decide) (by decide), State.bump, State.bumpBy,
      State.get_put_other w2 _ _ _ (by decide) (by decide), State.get_put_other w1 _ _ _ (by decide) (by decide)]
    exact State.get_put_same wf _ _ (by decide)
  case blocking =>
    rw [State.get_put_other w3 _ _ _ (by decide) (by decide), State.bump, State.bumpBy,
      State.get_put_other w2 _ _ _ (by decide) (by decide)]
    exact State.get_put_same w1 _ _ (by decide)
  case refused => exact State.get_put_same w3 _ _ (by decide)
  case promoted =>
    rw [State.get_put_other w3 _ _ _ (by decide) (by decide), State.bump, State.bumpBy,
      State.get_put_other w2 _ _ _ (by decide) (by decide), State.get_put_other w1 _ _ _ (by decide) (by decide),
      State.get_put_other wf _ _ _ (by decide) (by decide)]

/-- The request waits among the deferred ones. -/
def State.defer (s : State) (k : Kind) (r : Req) (p : List Byte) (epoch : Nat) : State :=
  s.modHost fun h => { h with deferred := h.deferred ++ [⟨k.op, r.seq, r.tag, p, epoch⟩] }

/-- A request begins a move of the mode to its own, and waits (R498). -/
def State.promote (s : State) (mode : Nat) : State := (s.flag PWR_EVENT.promoted).beginMove ⟨mode, 1, none⟩

theorem State.defer_get (k : Kind) (r : Req) (p : List Byte) (epoch : Nat) (f : Field) : (s.defer k r p epoch).get f = s.get f := by
  simp only [State.defer, State.get, State.word, State.modHost_regs]

theorem State.promote_get (mode : Nat) (f : Field) :
    (s.promote mode).get f = ((s.flag PWR_EVENT.promoted).flag PWR_STATUS.settling).get f := by
  simp only [State.promote, State.beginMove, State.get, State.word, State.modPwr_regs]

/-- A promotion shows in PWR_EVENT and PWR_STATUS. -/
theorem State.promote_shows (wf : Memory.wf s = true) (mode : Nat) :
    (s.promote mode).get PWR_EVENT.promoted = 1 ∧ (s.promote mode).get PWR_STATUS.settling = 1 := by
  have noted := State.flag_wf PWR_EVENT.promoted wf
  rw [State.promote_get, State.promote_get]
  constructor
  · exact (State.get_put_other noted PWR_STATUS.settling PWR_EVENT.promoted 1 (by decide) (by decide)).trans
      (State.get_put_same wf _ _ (by decide))
  · exact State.get_put_same noted PWR_STATUS.settling 1 (by decide)

/-- No move is under way that a request of this mode waits for. -/
theorem waits_eq_false {k : Kind} (still : s.pwr.move = none ∨ k.mode ≤ 4) :
    (decide (4 < k.mode) && s.pwr.move.isSome) = false := by
  rcases still with none | low
  · simp [none]
  · simp [Nat.not_lt.mpr low]

/-! What State.enter does with a request, in a device that is not RETIRED. -/

section
variable {k : Kind} {r : Req} {p : List Byte} {run : OpenReq → State → State} (life : s.lifecycle ≠ 4)
include life

theorem State.enter_of_moving (moving : s.pwr.move.isSome = true) (above : 4 < k.mode) :
    s.enter k r p run = s.defer k r p (s.open k r).epoch := by
  simp [State.enter, State.defer, life, moving, above]

theorem State.enter_of_mode (still : s.pwr.move = none ∨ k.mode ≤ 4) (mode : k.mode ≤ s.mode) :
    s.enter k r p run = run (s.open k r) s := by
  simp [State.enter, life, waits_eq_false still, mode]

/-- Below its mode a request is refused, or moves the mode and waits (R498, R499). -/
theorem State.enter_of_below (still : s.pwr.move = none ∨ k.mode ≤ 4) (below : s.mode < k.mode) :
    s.enter k r p run =
      if s.is PWR_CFG.auto_promote = false then s.answer (s.open k r) (s.ansState blkMode)
      else if s.powerFailing = true then (s.modeRefused k.mode blkPfail).answer (s.open k r) (s.ansState blkPfail)
      else (s.promote k.mode).defer k r p (s.open k r).epoch := by
  simp [State.enter, State.defer, State.promote, life, waits_eq_false still, Nat.not_le.mpr below]

end

/-- Settles O52: the branches of State.enter, and what its refusal and its promotion show. -/
theorem modeEnvelopeOfRequests : Obligations.ModeEnvelopeOfRequests := by
  intro s k r p run wf life
  refine ⟨?moving, ?taken, ?refused, ?failing, ?promoted⟩
  case moving => exact fun moving above => ⟨_, State.enter_of_moving life moving above, rfl, rfl, rfl⟩
  case taken => exact fun mode still => State.enter_of_mode life still mode
  case refused =>
    intro below still never
    have answered : s.enter k r p run = s.answer (s.open k r) (s.ansState blkMode) :=
      (State.enter_of_below life still below).trans (if_pos (by simp [State.is, never]))
    exact ⟨answered, answered ▸ answer_reportsOnly s _ _⟩
  case failing =>
    intro below still auto pfail
    have refused : s.enter k r p run = (s.modeRefused k.mode blkPfail).answer (s.open k r) (s.ansState blkPfail) :=
      (State.enter_of_below life still below).trans
        ((if_neg (by simp [State.is, auto])).trans (if_pos (by simp [State.powerFailing, State.is, pfail])))
    obtain ⟨target, blocking, noted, kept⟩ := State.modeRefused_shows wf k.mode blkPfail
    exact ⟨_, refused, rfl, target, blocking, noted, kept⟩
  case promoted =>
    intro below still auto healthy
    have promoted : s.enter k r p run = (s.promote k.mode).defer k r p (s.open k r).epoch :=
      (State.enter_of_below life still below).trans
        ((if_neg (by simp [State.is, auto])).trans (if_neg (by simp [State.powerFailing, State.is, healthy])))
    obtain ⟨shown, settling⟩ := State.promote_shows wf k.mode
    exact ⟨_, promoted, rfl, rfl, (State.defer_get ..).trans shown, (State.defer_get ..).trans settling⟩

end Sys2Proof.Machine
end
